-- ==== Sys2Proof/Word.lean ====
section
/-!
DEFINITION. The word types of the module's interfaces: bytes, and the 16-, 32- and 64-bit words
that registers, records and bus words are written in (00_scope R4).
-/

namespace Sys2Proof

abbrev Byte := BitVec 8
abbrev Word16 := BitVec 16
abbrev Word32 := BitVec 32
abbrev Word64 := BitVec 64

end Sys2Proof
end

