-- ==== Sys2Proof/Syntax.lean ====
section
/-!
DEFINITION. The commands of the block: one constructor of `Instr` per row of the table of
operations and events, with the operands of that row. The first operand of every command, `t`, is
the moment of the command in nanoseconds of the module's time (00_scope R13). An operand that a
row reads from outside the module (a count latched by a converter, a byte received, the outcome of
a measurement) is carried by the command.
-/

namespace Sys2Proof

/-- The originators of dictionary writes (02 R44). -/
inductive Orig where
  | sdo | pdo | mbx | twi
  deriving DecidableEq, Repr

/-- AL states of the EtherCAT slave controller (02 R52). -/
inductive AlState where
  | init | preop | safeop | op | bootstrap
  deriving DecidableEq, Repr

/-- Requests of the SDO Information service (02 R52). -/
inductive SdoInfo where
  | objectList
  | objectDesc (idx : Nat)
  | entryDesc (idx sub : Nat)
  deriving DecidableEq, Repr

/-- The mailbox services that are not supported (02 R52). -/
inductive MbxService where
  | eoe | soe | aoe | voe
  deriving DecidableEq, Repr

/-- What a controller does on the two-wire bus with a read, or with the bus (02 R70, R74): it reads one byte, of a new
read or of the read under way; it resets in mid-byte with so many bits of the byte still to come, or in an acknowledge
slot in which the target holds SDA low; it pulses SCL; or nothing changes on the bus. -/
inductive TwBus where
  | read
  | cut (bits : Fin 8)
  | ackCut
  | clocks (n : Nat)
  | still
  deriving DecidableEq, Repr

/-- The events at which process data is applied or latched (02 R53). -/
inductive SyncEvent where
  | sm2 | sync0 | sync1 | frameRead
  deriving DecidableEq, Repr

/-- A firmware image as the boot ROM sees it (16 R467). -/
structure FwImage where
  signed   : Bool
  family   : Nat
  m        : Nat
  p        : Nat
  selfCheck : Bool
  deriving DecidableEq, Repr

/-- What one column converter latches for one row (04 R107): reset count, signal count, and
whether its comparator flipped by the end of the reset ramp (04 R108). -/
structure ColSample where
  cr      : Nat
  cs      : Nat
  flipped : Bool
  deriving DecidableEq, Repr

/-- The row that a row slot converts: a window row of an exposure, a black row, or a row for the
velocimeter (03 R95, 05 R150, 05 R166). -/
inductive RowKind where
  | active (m : Nat) (b : Bool) (stripe : Fin 6) (row : Nat)
  | black  (j : Fin 8)
  | velo   (m : Nat) (row47 : Bool)
  deriving DecidableEq, Repr

/-- The pins of an auxiliary port at one edge of PCLK, and whether the port's input FIFO is full then (07 R221,
R225). -/
structure AuxSample where
  falling : Bool
  hs      : Bool
  vs      : Bool
  data    : Word16
  full    : Bool
  deriving DecidableEq, Repr

/-- What an encoder's lines bring (05 R138): a transition of A, or of B, to a level that has stood for so many ns; a
count already decoded, forward or backward; a change of A and B within one filter time; or a count beyond 25 MHz. -/
inductive EdgeKind where
  | change (lineA level : Bool) (stood : Nat)
  | forward | backward | quadError | overrun
  deriving DecidableEq, Repr

/-- What a host read addresses: BAR0, BAR2 and BAR4, configuration space, and the CDAT by way of DOE (13 R383, R388,
R393). -/
inductive Space where
  | bar0 | bar2 | bar4 | config | cdat
  deriving DecidableEq, Repr

/-- A request at a DRAM port: a read, or a write of the bytes whose mask bit is set (11 R348). -/
inductive DramOp where
  | read
  | write (mask : BitVec 64) (data : List Byte)
  deriving DecidableEq, Repr

/-- What the read burst of a DRAM command found on the link and in the array (11 R352). -/
inductive DramOutcome where
  | clean | corrected | uncorrectable | spareUncorrectable
  deriving DecidableEq, Repr

/-- What a read of an SRAM word finds (12 R364). -/
inductive WordOutcome where
  | clean | corrected | uncorrectable
  deriving DecidableEq, Repr

/-- The part of the attachment reset by a row of 13 R387. -/
inductive AttachReset where
  | perstN | hotReset | dlDown
  deriving DecidableEq, Repr

/-- Why the host link goes down (13 R386). -/
inductive LinkDownCause where
  | recovery | dlDown | d3hot | busMasterOff
  deriving DecidableEq, Repr

/-- The causes of a retrain (15 R446, code 012Bh). -/
inductive RetrainCause where
  | sparing | backChannel | blockLock
  deriving DecidableEq, Repr

/-- The causes of a module reset (16 R494, 3310h.06). -/
inductive ResetCause where
  | powerOn | resetN | heartbeat | command | afterCompline | unarmedTrip
  deriving DecidableEq, Repr

/-- What one converter of a slice measures in a calibration step (04 R123): its means of the ZERO,
LOW and HIGH levels in 1/64 code at 12-bit scale, the largest rms in 1/64 code, and whether a Gray bit is
stuck. -/
structure ConvResult where
  zero  : Int
  low   : Int
  high  : Int
  rms   : Nat
  stuck : Bool
  deriving DecidableEq, Repr

/-- What the same converter gives in the verify phase (04 R123): its mean of the MID level before any
correction and its rms, in 1/64 code, and whether a Gray bit is stuck. -/
structure MidResult where
  mid   : Int
  rms   : Nat
  stuck : Bool
  deriving DecidableEq, Repr

/-- A defective pixel found in CALIBRATE (03 R90): stripe, stripe row and column. -/
structure Defect where
  stripe : Fin 6
  row    : Fin 48
  col    : Fin 32768
  deriving DecidableEq, Repr

/-- One lane of a segment link as bring-up scans it at 8, 16 and 32 Gb/s: its horizontal opening in 1/64 UI and its
vertical opening in mV; none where its receiver does not lock (14 R428). -/
structure LaneResult where
  eye8  : Option (Nat × Nat)
  eye16 : Option (Nat × Nat)
  eye32 : Option (Nat × Nat)
  deriving DecidableEq, Repr

/-- A neighbour message (08 R272): the sender's slice and line, and its blob's label. -/
structure NbrMsg where
  fromSlice : Nat
  toSlice   : Nat
  line      : Nat
  label     : Nat
  deriving DecidableEq, Repr

/-- What a held entry is found to be as it is read (15 R449, R453): whole; with one line of its body, counted from the
first after the header, poisoned; or lost, its copies both poisoned, and so many of the entries after it lost too. -/
inductive HoldRead where
  | whole
  | bodyLine (k : Nat)
  | lost (more : Nat)
  deriving DecidableEq, Repr

/-- The commands of the block, one constructor per row of spec/opcode_table.json. -/
inductive Instr where
  | sdoDownload (t : Nat) (idx sub : Nat) (complete : Bool) (final : Bool) (toggle : Bool) (data : List Byte)
  | sdoDownloadSegment (t : Nat) (idx sub : Nat) (toggle : Bool) (data : List Byte)
  | sdoUpload (t : Nat) (idx sub : Nat) (complete : Bool)
  | sdoInformation (t : Nat) (req : SdoInfo)
  | sdoProtocolTimeout (t : Nat)
  | mailboxServiceUnsupported (t : Nat) (svc : MbxService)
  | alStateRequest (t : Nat) (want : AlState) (sync1 : Bool)
  | foeDownload (t : Nat) (nameOk : Bool) (image : FwImage)
  | foeVerifyComplete (t : Nat)
  | rxpdoApply (t : Nat) (ev : SyncEvent) (data : List Byte)
  | txpdoLatch (t : Nat) (ev : SyncEvent)
  | jobStart (t : Nat) (orig : Orig)
  | jobEnd (t : Nat) (orig : Orig)
  | faultAck (t : Nat) (orig : Orig)
  | safeControl (t : Nat) (orig : Orig) (v : Bool)
  | startAtSync1 (t : Nat) (orig : Orig)
  | sync1Event (t : Nat)
  | sync1WaitTimeout (t : Nat)
  | sm2WatchdogExpiry (t : Nat) (opLeft : Bool)
  | dcSyncLost (t : Nat) (stopped sync1 : Bool) (diff : Int)
  | dcSyncRegained (t : Nat) (sync1 : Bool) (diff : Int)
  | objectWrite (t : Nat) (orig : Orig) (idx sub : Nat) (data : List Byte)
  | modeRequest (t : Nat) (orig : Orig) (v : Byte)
  | modeTransitionComplete (t : Nat)
  | ownershipTransfer (t : Nat) (orig : Orig) (dom : Nat) (v : Byte)
  | takeover (t : Nat) (orig : Orig) (sig : Word32)
  | pendingViewSelect (t : Nat) (orig : Orig) (v : Word32)
  | storeAll (t : Nat) (orig : Orig) (sig : Word32) (flashOk : Bool)
  | restoreDefaults (t : Nat) (orig : Orig) (sig : Word32)
  | errorHistoryClear (t : Nat) (orig : Orig) (v : Byte)
  | eventAcknowledge (t : Nat) (orig : Orig) (v : Byte)
  | mbxGo (t : Nat)
  | mbxAbort (t : Nat) (late : Bool)
  | mbxStatClear (t : Nat) (v : Word32)
  | mbxRead (t : Nat)
  | mbxWrite (t : Nat)
  | mbxReadPending (t : Nat)
  | mbxReadAll (t : Nat)
  | mbxWriteAll (t : Nat)
  | mbxDescribe (t : Nat)
  | mbxOpcodeInvalid (t : Nat)
  | twSafeSet (t : Nat)
  | twSafeClear (t : Nat)
  | twLiveTest (t : Nat)
  | liveResume (t : Nat)
  | twByteRefused (t : Nat) (first : Bool) (v : Byte)
  | twBusRelease (t : Nat) (ev : TwBus)
  | safeLatchWrite (t : Nat) (orig : Orig) (v : Byte)
  | refBufferEnable (t : Nat) (orig : Orig)
  | refBufferDisable (t : Nat) (orig : Orig)
  | refBufferSettled (t : Nat) (q : Fin 16)
  | refBufferWindow (t : Nat) (q : Fin 16)
  | refBufferWindowReturn (t : Nat) (q : Fin 16)
  | exposureCommitPoint (t : Nat)
  | exposureReset (t : Nat) (m : Nat) (b : Bool) (stripe : Fin 6)
  | exposureTransfer (t : Nat) (m : Nat) (b : Bool) (stripe : Fin 6)
  | rowConversion (t : Nat) (seg : Fin 8) (south : Bool) (kind : RowKind) (start : Nat) (cols : List ColSample)
  | freeRowSlot (t : Nat) (south : Bool) (fits : Bool)
  | convStepTakeover (t : Nat) (q : Fin 16)
  | convSettleEnd (t : Nat) (q : Fin 16)
  | convMeasureEnd (t : Nat) (q : Fin 16) (res : List ConvResult)
  | convVerifyEnd (t : Nat) (q : Fin 16) (mids : List MidResult)
  | convStepHandback (t : Nat) (q : Fin 16)
  | fgCalStart (t : Nat) (orig : Orig)
  | fgCalComplete (t : Nat) (res : List (Nat × Nat × List (ConvResult × MidResult))) (defects : List Defect)
  | fgCalSave (t : Nat) (orig : Orig)
  | fgCalSaveComplete (t : Nat) (ok : Bool)
  | fgCalAbort (t : Nat) (orig : Orig) (late : Bool)
  | fgCalRestoreFactory (t : Nat) (orig : Orig)
  | encoderEdge (t : Nat) (enc : Fin 2) (kind : EdgeKind)
  | encoderZ (t : Nat) (enc : Fin 2)
  | encoderLost (t : Nat)
  | stopDeclared (t : Nat)
  | coastingLimit (t : Nat)
  | velocimetrySample (t : Nat) (south : Bool) (m : Nat)
  | velocimetryValidityLapse (t : Nat)
  | alarmDeadline (t : Nat) (ch : Fin 64)
  | sheetTrigger (t : Nat) (input : Fin 4) (rising : Bool)
  | sheetLimitReached (t : Nat)
  | trigEdge (t : Nat) (input : Fin 4) (rising : Bool)
  | motionCommit (t : Nat) (orig : Orig) (v : Byte)
  | epochStart (t : Nat)
  | rowPacketArrival (t : Nat) (seg : Fin 8) (crcOk : Bool) (lockOk : Bool)
  | rowPacketTimeout (t : Nat) (seg : Fin 8)
  | lineComplete (t : Nat)
  | lineResolved (t : Nat)
  | jobEndTimeout (t : Nat)
  | jobEnded (t : Nat)
  | contextCommit (t : Nat) (orig : Orig) (c : Fin 4)
  | contextDiscard (t : Nat) (orig : Orig) (c : Fin 4)
  | auxEnable (t : Nat) (orig : Orig) (p : Fin 2) (v : Byte)
  | auxStartOfFrame (t : Nat) (p : Fin 2) (vs : Bool)
  | auxLine (t : Nat) (p : Fin 2) (samples : List AuxSample)
  | auxEndOfFrame (t : Nat) (p : Fin 2) (vs : Bool)
  | sidePathFrameStart (t : Nat)
  | sidePathFrameEnd (t : Nat)
  | statsBlockWrite (t : Nat) (c : Fin 4)
  | displayTileRow (t : Nat)
  | archivePicture (t : Nat)
  | archiveSuspend (t : Nat)
  | archiveResume (t : Nat)
  | mvFrameStart (t : Nat) (c : Fin 2)
  | engineEarlyStage (t : Nat) (slice : Nat) (line : Nat)
  | verdictStage (t : Nat) (slice : Nat)
  | neighbourMessage (t : Nat) (msg : NbrMsg)
  | recordCollectorWrite (t : Nat)
  | pglDescriptorRead (t : Nat) (ok : Bool) (desc : List Byte) (regions : List Byte)
  | refLineRequest (t : Nat)
  | refLineArrival (t : Nat) (ok : Bool) (data : List Byte)
  | refLinePlace (t : Nat)
  | pageDone (t : Nat)
  | engineStepStart (t : Nat) (seg : Fin 8)
  | engineTakeover (t : Nat) (seg : Fin 8)
  | engineSelfTestEnd (t : Nat) (seg : Fin 8) (pass : Bool)
  | engineHandback (t : Nat) (seg : Fin 8)
  | engineStall (t : Nat) (seg : Fin 8) (engine : Fin 65) (last firstOpen : Nat)
  | kernelPackageWrite (t : Nat) (orig : Orig) (signed : Bool) (data : List Byte)
  | tinkerStep (t : Nat) (n : Fin 16) (ext : Word32)
  | tinkerStallRetry (t : Nat) (n : Fin 16)
  | tkStart (t : Nat) (viaBar : Bool) (orig : Orig) (mask : Word16)
  | tkStop (t : Nat) (viaBar : Bool) (orig : Orig) (mask : Word16)
  | tkAutostart (t : Nat)
  | tkDoStep (t : Nat) (n : Fin 16) (ext : Word32)
  | tkInject (t : Nat) (n : Fin 16) (ext : Word32)
  | tkClearErr (t : Nat) (n : Fin 16)
  | tkRxWrite (t : Nat) (viaBar : Bool) (orig : Orig) (n : Fin 16) (w : Word32)
  | tkTxRead (t : Nat) (viaBar : Bool) (orig : Orig) (n : Fin 16)
  | tkIrqClear (t : Nat) (mask : Word32)
  | alarmDelivery (t : Nat)
  | routeChange (t : Nat)
  | barWrite (t : Nat) (space : Space) (off : Nat) (size : Nat) (v : Word64)
  | pllApply (t : Nat) (orig : Orig) (v : Byte)
  | pllSearchWindow (t : Nat) (pllT : Bool) (ppm : Int) (phaseOk : Bool)
  | outputRestart (t : Nat) (pllT : Bool)
  | pllUnlock (t : Nat) (pllT : Bool)
  | refinLost (t : Nat)
  | refinReturn (t : Nat) (ppm : Int) (errPs : Int)
  | slewComplete (t : Nat) (pllT : Bool)
  | holdoverExpired (t : Nat)
  | pllTRestart (t : Nat)
  | fineDelayStep (t : Nat) (seg : Fin 8)
  | dramRequest (t : Nat) (port : Fin 6) (dpa : Nat) (op : DramOp)
  | dramCommand (t : Nat) (chan : Fin 5) (res : DramOutcome)
  | perBankRefresh (t : Nat) (rank : Fin 10) (scrubErrors : Nat)
  | rowIdleClose (t : Nat) (rank : Fin 10) (bank : Fin 16)
  | wckDqMeasure (t : Nat) (drift : List Int)
  | mr4Read (t : Nat) (need : List Nat)
  | errorWindowRestart (t : Nat)
  | retireLogicalRank (t : Nat) (orig : Orig) (v : Byte)
  | migrationAbort (t : Nat) (orig : Orig)
  | migrationDone (t : Nat)
  | mergeIdleRetire (t : Nat) (addr : Nat) (port : Nat) (found : WordOutcome)
  | sweepRead (t : Nat) (region : Fin 5) (bank : Nat) (found : WordOutcome)
  | lamplighterRead (t : Nat) (found : WordOutcome)
  | shadowRewrite (t : Nat) (addr : Nat)
  | injectionArm (t : Nat) (orig : Orig)
  | injectionDisarm (t : Nat) (orig : Orig)
  | perstNAssert (t : Nat) (kind : AttachReset)
  | flr (t : Nat)
  | hostLinkDown (t : Nat) (cause : LinkDownCause)
  | hostLinkUp (t : Nat)
  | linkTrained (t : Nat) (width rate10 : Nat) (cxl : Bool)
  | doorbell (t : Nat) (ring : Fin 10) (v : Word32)
  | ringEnable (t : Nat) (ring : Fin 10)
  | ringDisable (t : Nat) (ring : Fin 10)
  | ringEntryIssue (t : Nat) (ring : Fin 6)
  | holdDrain (t : Nat) (ring : Fin 6) (found : HoldRead)
  | holdEmptied (t : Nat)
  | holdOverflow (t : Nat) (ring : Fin 6)
  | irqTimeThreshold (t : Nat) (ring : Fin 7)
  | evtSummaryClear (t : Nat) (v : Word32)
  | biasFlipDevice (t : Nat) (orig : Orig)
  | biasFlipHost (t : Nat) (orig : Orig)
  | biasDone (t : Nat)
  | cxlMemRequest (t : Nat) (off : Nat) (op : DramOp)
  | snoop (t : Nat) (addr : Nat) (invalidate : Bool)
  | linkBringUp (t : Nat) (seg : Fin 8) (lanes : List LaneResult)
  | eyeScan (t : Nat) (seg : Fin 8) (lane : Fin 9) (horiz vert bip8 : Nat)
  | laneSpare (t : Nat) (orig : Option Orig) (lockLost : Bool) (seg : Fin 8) (lane : Fin 9)
  | linkRetrain (t : Nat) (seg : Fin 8) (cause : RetrainCause)
  | retrainTimeout (t : Nat) (seg : Fin 8)
  | bcCommandLost (t : Nat) (seg : Fin 8) (rows : List (Bool × RowKind))
  | statusBlock (t : Nat) (seg : Fin 8) (west east : Int)
  | linkTestStart (t : Nat) (orig : Orig)
  | linkTestStop (t : Nat) (orig : Orig)
  | bitSlip (t : Nat) (orig : Orig) (lane : Byte)
  | sleepCommand (t : Nat) (orig : Orig) (v : Byte)
  | eventIssue (t : Nat) (code : Nat) (seg : Nat) (data : List Byte)
  | heartbeatFailure (t : Nat)
  | heartbeatReset (t : Nat)
  | throttleLevelStep (t : Nat)
  | thermalShutdown (t : Nat)
  | reset (t : Nat) (cause : ResetCause) (straps : BitVec 5)
  | boot (t : Nat) (refPpm : Int) (trained : List Bool)
  | trialPromotion (t : Nat)
  | resetCommand (t : Nat) (orig : Orig) (sig : Word32)
  | duskEntry (t : Nat)
  | dawn (t : Nat) (pllOk : Bool) (drift : List Int) (trained : List Bool) (linksOk : Bool) (temps : List Int)
  | holdupMeasure (t : Nat) (cap_uF esr_mohm vhold_mV : Nat)
  | powerFail (t : Nat) (byPin : Bool) (vin_mV : Nat)
  | complineSeal (t : Nat)
  | complineRestart (t : Nat) (supplyGood : Bool)
  | complineAcknowledge (t : Nat) (orig : Orig) (v : Byte)
  | scrivenerJournal (t : Nat) (flashOk : Bool)
  | compactionAuto (t : Nat)
  | compactionCommand (t : Nat) (orig : Orig) (v : Byte)
  | compactionComplete (t : Nat)
  | thermalSample (t : Nat) (sensor : Fin 24) (centi : Int)
  | bandDecided (t : Nat)
  | throughputReplicaMeasure (t : Nat) (block : Fin 14) (margin : Nat)
  | retrainComplete (t : Nat) (seg : Fin 8)
  | linkRecovery (t : Nat)
  | perstNRelease (t : Nat)
  | hdmDecoderCommit (t : Nat) (size : Nat) (ways : Nat)
  | barRead (t : Nat) (space : Space) (off : Nat) (size : Nat)
  deriving DecidableEq, Repr

end Sys2Proof
end

