-- ==== Sys2Proof/Decode.lean ====
section
/-!
DEFINITION. The command that a word of the table of operations and events spells. The table gives
no row any bits (every row's list of fields is empty), so no word spells a command.
-/

namespace Sys2Proof

/-- The command that the `nbits`-bit word `w` spells by the table's bits: none, since the table
gives no row any. -/
def decodeTableWord (nbits w : Nat) : Option Instr :=
  let _ := nbits
  let _ := w
  none

end Sys2Proof
end

