-- ==== Sys2Proof/Config.lean ====
section
/-!
DEFINITION. What one module or one implementation fixes and the manual leaves open: free values
without a body, so that no proof can lean on a number for them.
-/

namespace Sys2Proof.Config

/-- The value of a per-module or per-package scalar object (serial number, seam errors, colour
matrix, white codes, kernel versions; 02 R36, 03 R105, 06 R213, 08 R284), by its key. -/
opaque factoryValue : Nat → Nat

/-- Byte `off` of the factory content of the domain object `idx` (06 R213: per-module tables). -/
opaque factoryByte (idx off : Nat) : Byte

/-- The running release of family 2 as its ASCII string (00 R2 fixes the form only). -/
opaque releaseString : List Byte

/-- The n-th fresh free value: a value the manual calls undefined or does not state. -/
opaque free : Nat → Nat

/-- The phase-detector error of PLL `p` while it is locked, by REFIN period: below 1.0 ns, else not stated (10 R318, R322;
log entry 168). -/
opaque pfdError (p period : Nat) : Nat

/-- What a U32 counter reads after it has counted past its width, where the manual states neither
wrapping nor saturation. -/
opaque counterAfterFull : Nat → Nat

/-- Byte offset in the staging ring of the n-th 64-byte line fetched (08 R266: a ring, no layout). -/
opaque stagingSlot (n : Nat) : Nat

/-- Where the exact rounded L*, a* or b* code is c, the code formed is c - 1, c or c + 1
(06 R207); the choice, by channel and inputs. -/
opaque labError (ch : Nat) (x y z : Nat) : Fin 3

/-- Where the exact rounded byte of a display pixel's channel, 0 R, 1 G, 2 B, is v, the byte sent is v - 1, v or v + 1
(07 R237); the choice, by channel, mean L*, a*, b* and white point. -/
opaque displayError (ch : Nat) (l a b : Rat) (w : Rat × Rat × Rat) : Fin 3

/-- The codestream that the encoder makes of a picture's samples, by component, line and column (07 R238: one of
ISO/IEC 21122-1, which the manual cites): components, bit depth, horizontal and vertical levels, slice height, rate
in 1/16 bit per pixel, and the samples. -/
opaque codestream (comps depth hlev vlev slice rate : Nat) (samples : List (List (List Nat))) : List Byte

/-- Of the four outbound streams in their order of priority (display, array machine vision, auxiliary machine vision,
archive), how many the host link carries at a moment when it cannot carry them all (07 R243); the argument counts the
moments. -/
opaque linkRoom (n : Nat) : Nat

/-- The name that SDO Information gives an object (sub 256) or an entry: text of the release's ESI file (02 R33). -/
opaque describedName (idx sub : Nat) : List Byte

/-- A read delay or window of DRAM byte lane found by training (11 R341). -/
opaque laneTraining (lane seed : Nat) : Nat

/-- Bytes of a journal region's header and seal word, and of one value of its snapshot by the value's length
(16 R483 gives neither). -/
opaque regionFrame : Nat
opaque snapshotItem (len : Nat) : Nat

/-- The payload of block `ty` (1 to 3) of a COMPLINE record from the values it holds, and the item count in
a block's header (16 R479 gives neither offsets nor what an item of these blocks is). -/
opaque recordBlock (ty : Nat) (vals : List Nat) : List Byte
opaque recordItems (ty : Nat) : Nat

/-- Whether a kernel package's bytes carry a valid signature (08 R282 names the check only). -/
opaque packageSigned (data : List Byte) : Bool

/-- The release of the recovery image, [31:16] m, [15:0] p (02 R36, 16 R467). -/
opaque recoveryRelease : Nat

/-- Byte offset of an object in the array that holds it: the dictionary's copy, or the tables (12 R374). -/
opaque objectOff (key : Nat) : Nat

/-- Byte offsets of the three privileged arrays: the tables in region 2, and the dictionary's copy
and the alarm-route tables in region 3 (12 R374 gives their sizes only). -/
opaque tableBase : Nat
opaque dictBase : Nat
opaque routeBase : Nat

/-- Byte offset of a channel's routes in the alarm-route tables (12 R374 gives the array's size only). -/
opaque routeOff (ch : Nat) : Nat

/-- Whether the word at an SRAM address outside the privileged arrays is one that use `(i, j)` of a kind
reads (12 R378; regions 1 and 2 have no layout). Kinds: 1 the line
buffer's four columns j % 8192 of stripe j / 8192 of line i, 2 zone j of block i, 3 pixel j of auxiliary
frame i, 4 line j of context i's machine-vision frames, 5 tile j of context i. -/
opaque sramUse (a kind i j : Nat) : Bool

/-- Whether the buffers of regions 0 to 2 write the word at an SRAM address whole as web line `n`
passes. -/
opaque sramRefill (a n : Nat) : Bool

/-- The 4 KiB pages of regions 0 to 2 that the block itself first writes as web line `n` passes (12
R371). -/
opaque pagesUsed (n : Nat) : List Nat

/-- The SRAM banks of regions 0 and 1 beyond the first, and the bank that holds the word at an SRAM address (12 R373
gives neither). -/
opaque sramBanks (region : Nat) : Nat
opaque sramBank (a : Nat) : Nat

/-- The 64-byte line of DRAM that holds the shadow of a 64-byte line of the privileged arrays (12 R376 gives the area
only). -/
opaque shadowLine (line : Nat) : Nat

/-- The SRAM address (form of 12 R363) behind an offset of the BAR2 diagnostic windows
(09 R307 names the windows only). -/
opaque diagAddr : Nat → Nat

end Sys2Proof.Config
end

