-- ==== Sys2Proof/Machine/Bits.lean ====
section
/-!
DEFINITION. Bytes, fields and CRCs (00_scope R4, R513), numbers in binary32, binary16 and fixed
point (00_scope R11), and the canonical sparse lists that memory and the object values are kept in.
-/

namespace Sys2Proof.Machine

/-- The low `n` bytes of `v`, little-endian (00 R4). -/
def leBytes : Nat → Nat → List Byte
  | 0, _ => []
  | n + 1, v => BitVec.ofNat 8 v :: leBytes n (v / 256)

/-- The number that a little-endian byte string spells (00 R4). -/
def leNat : List Byte → Nat
  | [] => 0
  | b :: bs => b.toNat + 256 * leNat bs

/-- `n` zero bytes. -/
def zeros (n : Nat) : List Byte := List.replicate n 0

/-- Bits [hi:lo] of `v` (00 R4). -/
def field (v hi lo : Nat) : Nat := (v >>> lo) % 2 ^ (hi - lo + 1)

/-- `v` with bit `i` set to `b`. -/
def withBit (v i : Nat) (b : Bool) : Nat :=
  if b then v ||| 2 ^ i else if v.testBit i then v - 2 ^ i else v

def b2n (b : Bool) : Nat := if b then 1 else 0

/-- The two's complement reading of the low `w` bits of `v`. -/
def toSigned (w v : Nat) : Int :=
  let u := v % 2 ^ w
  if u < 2 ^ (w - 1) then (u : Int) else (u : Int) - 2 ^ w

/-- The low `w` bits of an integer. -/
def ofSigned (w : Nat) (i : Int) : Nat := (i % 2 ^ w).toNat

def clampInt (lo hi x : Int) : Int := max lo (min hi x)

/-- The byte string at position `off`, `n` bytes, with zeros beyond its end. -/
def slice (l : List Byte) (off n : Nat) : List Byte :=
  let s := (l.drop off).take n
  s ++ zeros (n - s.length)

/-- The `n`-byte number at position `off` of a byte string. -/
def leAt (l : List Byte) (off n : Nat) : Nat := leNat (slice l off n)

/-- One bit of CRC-32, reflected form of polynomial 04C1 1DB7h (00 R513). -/
def crc32Bit (c : Nat) : Nat := if c % 2 = 1 then (c / 2) ^^^ 0xEDB88320 else c / 2

def crc32Byte (c : Nat) (b : Byte) : Nat :=
  crc32Bit (crc32Bit (crc32Bit (crc32Bit (crc32Bit (crc32Bit (crc32Bit (crc32Bit (c ^^^ b.toNat))))))))

/-- CRC-32 of IEEE 802.3 (00 R513). -/
def crc32 (l : List Byte) : Nat := (l.foldl crc32Byte 0xFFFFFFFF) ^^^ 0xFFFFFFFF

def crc16Bit (c : Nat) : Nat :=
  if c.testBit 15 then ((c * 2) % 65536) ^^^ 0x1021 else c * 2

def crc16Byte (c : Nat) (b : Byte) : Nat :=
  crc16Bit (crc16Bit (crc16Bit (crc16Bit (crc16Bit (crc16Bit (crc16Bit (crc16Bit
    (c ^^^ (b.toNat * 256)))))))))

/-- CRC-16: polynomial 1021h, initial FFFFh, most significant bit first (00 R513, 08 R269). -/
def crc16 (l : List Byte) : Nat := l.foldl crc16Byte 0xFFFF

/-- An entry closed by the CRC-16 of the bytes before it (13 R410). -/
def withCrc16 (l : List Byte) : List Byte := l ++ leBytes 2 (crc16 l)

/-- Division rounded to nearest, halves to even. -/
def divEven (n d : Nat) : Nat :=
  let q := n / d
  let r := n % d
  if 2 * r < d then q else if 2 * r > d then q + 1 else q + q % 2

/-- Division rounded to nearest, halves away from zero. -/
def divHalfUp (n d : Nat) : Nat := (2 * n + d) / (2 * d)

/-- A rational rounded to the nearest integer, halves to even. -/
def ratEven (q : Rat) : Int :=
  let r := (divEven q.num.natAbs q.den : Int)
  if q.num < 0 then -r else r

/-- A rational rounded to the nearest integer, halves away from zero. -/
def ratAway (q : Rat) : Int :=
  let r := (divHalfUp q.num.natAbs q.den : Int)
  if q.num < 0 then -r else r

/-- The exponent e with 2^e ≤ n/d < 2^(e+1), for n > 0. -/
def expOf (n d : Nat) : Int :=
  let e : Int := (n.log2 : Int) - (d.log2 : Int)
  if e ≥ 0 then (if n < d * 2 ^ e.toNat then e - 1 else e)
  else (if n * 2 ^ (-e).toNat < d then e - 1 else e)

/-- A magnitude n/d in an IEEE 754 binary format of `mb` fraction bits, bias `bias` and largest
finite code `top`, rounded to nearest even; magnitudes past the code `top` take it. -/
def toFloat (mb bias top n d : Nat) : Nat :=
  if n = 0 then 0 else
  let e := max (expOf n d) (1 - (bias : Int))
  let s : Int := (mb : Int) - e
  let m := if s ≥ 0 then divEven (n * 2 ^ s.toNat) d else divEven n (d * 2 ^ (-s).toNat)
  let code := if m < 2 ^ mb then m else ((e + bias).toNat - 1) * 2 ^ mb + m
  min code top

/-- The value of a binary format's finite code. -/
def ofFloat (mb bias : Nat) (code : Nat) : Rat :=
  let e := code / 2 ^ mb
  let m := code % 2 ^ mb
  let mant : Rat := if e = 0 then (m : Rat) else ((2 ^ mb + m : Nat) : Rat)
  let p : Int := (max e 1 : Nat) - (bias : Int) - (mb : Int)
  if p ≥ 0 then mant * ((2 ^ p.toNat : Nat) : Rat) else mant / ((2 ^ (-p).toNat : Nat) : Rat)

/-- Binary32 code of an object's value (00 R11: never a NaN or an infinity). -/
def toF32 (q : Rat) : Nat :=
  toFloat 23 127 0x7F7FFFFF q.num.natAbs q.den + (if q.num < 0 then 2 ^ 31 else 0)

/-- A number rounded to binary32 as IEEE 754 rounds it; 2^128 stands for an infinity (06 R177). -/
def roundF32 (q : Rat) : Rat :=
  let v := ofFloat 23 127 (toFloat 23 127 0x7F800000 q.num.natAbs q.den)
  if q.num < 0 then -v else v

def f32Finite (code : Nat) : Bool := field code 30 23 != 255

def ofF32 (code : Nat) : Rat :=
  let v := ofFloat 23 127 (code % 2 ^ 31)
  if code.testBit 31 then -v else v

/-- Binary16 code of a rational, an infinity past the largest finite value (06 R177). -/
def toF16 (q : Rat) : Nat :=
  toFloat 10 15 0x7C00 q.num.natAbs q.den + (if q.num < 0 then 2 ^ 15 else 0)

def ofF16 (code : Nat) : Rat :=
  let v := ofFloat 10 15 (code % 2 ^ 15)
  if code.testBit 15 then -v else v

/-- Sparse lists: pairs with strictly rising keys and no pair whose value is the key's default. A key that
is not listed has its default. -/
def sget {α : Type} (d : Nat → α) : List (Nat × α) → Nat → α
  | [], k => d k
  | (a, v) :: l, k => if k = a then v else sget d l k

/-- A pair put in its place in the rising order. -/
def sinsert {α : Type} (k : Nat) (v : α) : List (Nat × α) → List (Nat × α)
  | [] => [(k, v)]
  | (a, w) :: l => if k < a then (k, v) :: (a, w) :: l else (a, w) :: sinsert k v l

/-- The list without a key. -/
def sdrop {α : Type} (k : Nat) (l : List (Nat × α)) : List (Nat × α) := l.filter (fun p => p.1 != k)

def sput {α : Type} [DecidableEq α] (d : Nat → α) (l : List (Nat × α)) (k : Nat) (v : α) : List (Nat × α) :=
  if v = d k then sdrop k l else sinsert k v (sdrop k l)

/-- All keys of a sparse list lie above `lo` (when given), rise strictly and differ from default. -/
def swf {α : Type} [DecidableEq α] (d : Nat → α) : Option Nat → List (Nat × α) → Bool
  | _, [] => true
  | lo, (a, v) :: l => (match lo with | none => true | some b => decide (b < a)) &&
      decide (v ≠ d a) && swf d (some a) l

/-- A run of values written from key `k` on. -/
def sputs {α : Type} [DecidableEq α] (d : Nat → α) (l : List (Nat × α)) (k : Nat) :
    List α → List (Nat × α)
  | [] => l
  | v :: vs => sputs d (sput d l k v) (k + 1) vs

def sgets {α : Type} (d : Nat → α) (l : List (Nat × α)) (k n : Nat) : List α :=
  (List.range n).map (fun i => sget d l (k + i))

/-- Association lists without order. -/
def alook (l : List (Nat × Nat)) (k : Nat) : Option Nat := (l.find? (fun p => p.1 == k)).map (·.2)

def aput (l : List (Nat × Nat)) (k v : Nat) : List (Nat × Nat) :=
  if l.any (fun p => p.1 == k) then l.map (fun p => if p.1 == k then (k, v) else p) else l ++ [(k, v)]

def adel (l : List (Nat × Nat)) (k : Nat) : List (Nat × Nat) := l.filter (fun p => p.1 != k)

/-- The list with its element `i` changed (unchanged beyond its end). -/
def modAt {α : Type} (l : List α) (i : Nat) (f : α → α) : List α := l.modify i f

def sumNat (l : List Nat) : Nat := l.foldl (· + ·) 0
def sumInt (l : List Int) : Int := l.foldl (· + ·) 0
def sumRat (l : List Rat) : Rat := l.foldl (· + ·) 0
def maxNat (l : List Nat) : Nat := l.foldl max 0

/-- Decimal digits of a number in ASCII. -/
def decDigits : Nat → Nat → List Byte
  | 0, _ => []
  | f + 1, n => (if n < 10 then [] else decDigits f (n / 10)) ++ [BitVec.ofNat 8 (48 + n % 10)]

end Sys2Proof.Machine
end

