-- ==== Sys2Proof/Machine/ObjTable.lean ====
section
/-!
DEFINITION. The object dictionary as data: for every object of the chapters' object tables its
index and sub range, type, access class, default, persistence mark, permitted values and length
(02 R33, R34, R39; 00 R10 to R12). Permitted values that depend on the state are checked where the
object's effect stands.
-/

namespace Sys2Proof.Machine

/-- Object types (00 R11). -/
inductive Ty where
  | bool | u8 | u16 | u32 | u64 | i16 | i32 | f32 | str | oct | dom
  deriving DecidableEq, Repr

/-- Access classes (00 R12). -/
inductive Acc where
  | ro | rw | rws | rwc | wo
  deriving DecidableEq, Repr

/-- Permitted values of one object (02 R514): every value, a range, a set of codes, multiples, a
range of binary32 values, or a value whose reserved bits are ignored (00 R5). -/
inductive Perm where
  | any
  | rng (lo hi : Nat)
  | oneOf (l : List Nat)
  | mask (m : Nat)
  | mul (k : Nat)
  | frng (lo hi : Rat)
  deriving DecidableEq, Repr

/-- Where an object's default comes from (02 R34): one value, a value per sub, the factory, or the
default process-data maps (02 R57). -/
inductive Dflt where
  | val (n : Nat)
  | list (l : List Nat)
  | factory
  | mapCount
  | mapEntry
  deriving DecidableEq, Repr

structure ObjRow where
  lo   : Nat
  hi   : Nat
  s0   : Nat
  s1   : Nat
  ty   : Ty
  acc  : Acc
  dflt : Dflt
  keep : Bool
  perm : Perm
  len  : Nat
  vari : Bool
  deriving DecidableEq, Repr

def row (lo hi s0 s1 : Nat) (ty : Ty) (acc : Acc) (d : Dflt) (keep : Bool) (p : Perm) (len : Nat)
    (vari : Bool) : ObjRow := ⟨lo, hi, s0, s1, ty, acc, d, keep, p, len, vari⟩

/-- Bytes of a value of a type (00 R11). -/
def Ty.bytes : Ty → Nat
  | .bool | .u8 => 1
  | .u16 | .i16 => 2
  | .u32 | .i32 | .f32 => 4
  | .u64 => 8
  | .str | .oct | .dom => 0

/-- Bits of a value of a type in process data (00 R11); 0 where it cannot be mapped. -/
def Ty.pdoBits : Ty → Nat
  | .bool => 1
  | t => 8 * t.bytes

/-- The default process-data maps (02 R57). -/
def mapDefault : Nat → List Nat
  | 0x1600 => [0x60000110, 0x60000220, 0x60000320]
  | 0x1A00 => [0x61000110, 0x61000240, 0x61000320, 0x61000420, 0x61000540]
  | 0x1A01 => [0x61100140, 0x61100210, 0x61100310, 0x61100410, 0x61100510, 0x61100610, 0x61100710]
  | 0x1A02 => [0x61200140, 0x61200210, 0x61200320, 0x61200420, 0x61200510]
  | _ => []

def key (idx sub : Nat) : Nat := idx * 256 + sub

/-- The communication area. 02 R53 states no types for the subs of 1C32h and 1C33h: U16 for .01, .0B and .0C and U32
for .02 and .05 are the model's (PRESUMED, log entry 122). -/
def tabComm : List ObjRow := [
  row 0x1000 0x1000 0 0 .u32 .ro (.val 0) false (.any) 0 false,
  row 0x1001 0x1001 0 0 .u8 .ro (.val 0) false (.any) 0 false,
  row 0x1003 0x1003 0 0 .u8 .rw (.val 0) false (.oneOf [0]) 0 false,
  row 0x1003 0x1003 1 16 .u32 .ro (.val 0) false (.any) 0 false,
  row 0x1008 0x1008 0 0 .str .ro (.val 0) false (.any) 15 false,
  row 0x1009 0x1009 0 0 .str .ro (.val 0) false (.any) 2 false,
  row 0x100A 0x100A 0 0 .str .ro (.val 0) false (.any) 13 false,
  row 0x1010 0x1010 1 1 .u32 .rw (.val 3) false (.any) 0 false,
  row 0x1011 0x1011 1 1 .u32 .rw (.val 1) false (.any) 0 false,
  row 0x1018 0x1018 1 1 .u32 .ro (.val 2621) false (.any) 0 false,
  row 0x1018 0x1018 2 2 .u32 .ro (.val 12806) false (.any) 0 false,
  row 0x1018 0x1018 3 3 .u32 .ro (.val 131073) false (.any) 0 false,
  row 0x1018 0x1018 4 4 .u32 .ro (.factory) false (.any) 0 false,
  row 0x1600 0x1603 0 0 .u8 .rws (.mapCount) false (.any) 0 false,
  row 0x1600 0x1603 1 32 .u32 .rws (.mapEntry) false (.any) 0 false,
  row 0x1A00 0x1A07 0 0 .u8 .rws (.mapCount) false (.any) 0 false,
  row 0x1A00 0x1A07 1 32 .u32 .rws (.mapEntry) false (.any) 0 false,
  row 0x1C12 0x1C12 0 0 .u8 .rws (.val 1) false (.any) 0 false,
  row 0x1C12 0x1C12 1 4 .u16 .rws (.list [0x1600,0,0,0]) false (.any) 0 false,
  row 0x1C13 0x1C13 0 0 .u8 .rws (.val 3) false (.any) 0 false,
  row 0x1C13 0x1C13 1 8 .u16 .rws (.list [0x1A00,0x1A01,0x1A02,0,0,0,0,0]) false (.any) 0 false,
  row 0x1C32 0x1C32 1 1 .u16 .rws (.val 1) false (.rng 1 3) 0 false,
  row 0x1C32 0x1C32 2 2 .u32 .rws (.val 1000000) false (.rng 31250 100000000) 0 false,
  row 0x1C32 0x1C32 5 5 .u32 .ro (.val 31250) false (.any) 0 false,
  row 0x1C32 0x1C32 11 11 .u16 .ro (.val 0) false (.any) 0 false,
  row 0x1C32 0x1C32 12 12 .u16 .ro (.val 0) false (.any) 0 false,
  row 0x1C33 0x1C33 1 1 .u16 .rws (.val 1) false (.rng 1 3) 0 false,
  row 0x1C33 0x1C33 2 2 .u32 .rws (.val 1000000) false (.rng 31250 100000000) 0 false,
  row 0x1C33 0x1C33 5 5 .u32 .ro (.val 31250) false (.any) 0 false,
  row 0x1C33 0x1C33 11 11 .u16 .ro (.val 0) false (.any) 0 false,
  row 0x1C33 0x1C33 12 12 .u16 .ro (.val 0) false (.any) 0 false ]

def tabSystem : List ObjRow := [
  row 0x2000 0x2000 0 0 .u8 .rw (.val 1) false (.mask 0x0F) 0 false,
  row 0x2001 0x2001 0 0 .u8 .ro (.val 0) false (.any) 0 false,
  row 0x2002 0x2002 0 0 .u32 .ro (.val 0) false (.any) 0 false,
  row 0x2100 0x2100 1 10 .u8 .rw (.list [1,1,1,1,2,2,2,2,2,2]) false (.rng 1 2) 0 false,
  row 0x2101 0x2101 0 0 .u32 .wo (.val 0) false (.oneOf [0x54414B45]) 0 false,
  row 0x2102 0x2102 1 1 .u32 .rw (.val 0) false (.mask 0x00FFFFFF) 0 false,
  row 0x2102 0x2102 2 2 .oct .ro (.val 0) false (.any) 8 false,
  row 0x2102 0x2102 3 3 .bool .ro (.val 0) false (.any) 0 false,
  row 0x2102 0x2102 4 4 .u8 .ro (.val 0) false (.any) 0 false ]

def tabArray1 : List ObjRow := [
  row 0x2200 0x2200 0 0 .u8 .ro (.val 5) false (.any) 0 false,
  row 0x2200 0x2200 1 1 .u16 .ro (.val 32768) false (.any) 0 false,
  row 0x2200 0x2200 2 2 .u16 .ro (.val 288) false (.any) 0 false,
  row 0x2200 0x2200 3 3 .u16 .ro (.val 324) false (.any) 0 false,
  row 0x2200 0x2200 4 4 .u16 .ro (.val 5000) false (.any) 0 false,
  row 0x2200 0x2200 5 5 .u8 .ro (.val 8) false (.any) 0 false,
  row 0x2201 0x2201 0 0 .u8 .rws (.val 255) true (.any) 0 false,
  row 0x2210 0x2210 0 0 .u8 .rws (.val 1) true (.rng 1 16) 0 false,
  row 0x2211 0x2211 0 0 .u8 .ro (.val 6) false (.any) 0 false,
  row 0x2211 0x2211 1 6 .u8 .rwc (.val 16) true (.any) 0 false,
  row 0x2212 0x2212 0 0 .u8 .rws (.val 0) true (.rng 0 1) 0 false,
  row 0x2220 0x2220 0 0 .u8 .ro (.val 2) false (.any) 0 false,
  row 0x2220 0x2220 1 1 .u8 .rws (.val 1) true (.oneOf [1, 2, 4]) 0 false,
  row 0x2220 0x2220 2 2 .u8 .rws (.val 1) true (.oneOf [1, 2, 4]) 0 false,
  row 0x2230 0x2230 0 0 .u8 .ro (.val 14) false (.any) 0 false,
  row 0x2230 0x2230 1 7 .i16 .ro (.factory) false (.any) 0 false,
  row 0x2230 0x2230 8 14 .i16 .ro (.factory) false (.any) 0 false,
  row 0x2240 0x2240 0 0 .u8 .ro (.val 4) false (.any) 0 false,
  row 0x2240 0x2240 1 1 .u32 .ro (.val 0) false (.any) 0 false,
  row 0x2240 0x2240 2 2 .u32 .ro (.val 0) false (.any) 0 false,
  row 0x2240 0x2240 3 3 .u32 .ro (.val 0) false (.any) 0 false,
  row 0x2240 0x2240 4 4 .u32 .ro (.val 0) false (.any) 0 false,
  row 0x2300 0x2300 0 0 .u8 .rws (.val 12) true (.oneOf [8, 10, 12]) 0 false,
  row 0x2301 0x2301 0 0 .bool .rw (.val 0) false (.any) 0 false,
  row 0x2302 0x2302 0 0 .u8 .ro (.val 2) false (.any) 0 false,
  row 0x2302 0x2302 1 1 .u16 .ro (.val 0) false (.any) 0 false,
  row 0x2302 0x2302 2 2 .u32 .ro (.val 0) false (.any) 0 false,
  row 0x2303 0x2303 0 0 .u8 .ro (.val 6) false (.any) 0 false,
  row 0x2303 0x2303 1 6 .u8 .rwc (.val 1) true (.oneOf [1, 2, 4, 8]) 0 false,
  row 0x2304 0x2304 0 0 .u8 .ro (.val 6) false (.any) 0 false,
  row 0x2304 0x2304 1 6 .u8 .rwc (.val 0) true (.rng 0 1) 0 false,
  row 0x2310 0x2310 0 0 .u8 .ro (.val 2) false (.any) 0 false,
  row 0x2310 0x2310 1 1 .bool .rw (.val 1) true (.any) 0 false,
  row 0x2310 0x2310 2 2 .u32 .ro (.val 36864) false (.any) 0 false,
  row 0x2320 0x2320 0 0 .u8 .ro (.val 16) false (.any) 0 false,
  row 0x2320 0x2320 1 16 .u16 .ro (.val 0) false (.any) 0 false,
  row 0x2321 0x2321 0 0 .u8 .ro (.val 16) false (.any) 0 false,
  row 0x2321 0x2321 1 16 .u32 .ro (.val 0) false (.any) 0 false,
  row 0x2322 0x2322 0 0 .u8 .ro (.val 16) false (.any) 0 false,
  row 0x2322 0x2322 1 16 .u32 .ro (.val 0) false (.any) 0 false,
  row 0x2330 0x2330 0 0 .u8 .ro (.val 16) false (.any) 0 false,
  row 0x2330 0x2330 1 16 .u8 .ro (.val 255) true (.any) 0 false,
  row 0x2340 0x2340 0 0 .u8 .ro (.val 2) false (.any) 0 false,
  row 0x2340 0x2340 1 1 .u8 .wo (.val 0) false (.rng 1 4) 0 false,
  row 0x2340 0x2340 2 2 .u16 .ro (.val 0) false (.any) 0 false,
  row 0x2350 0x2350 0 0 .u8 .ro (.val 3) false (.any) 0 false,
  row 0x2350 0x2350 1 1 .u32 .ro (.val 0) false (.any) 0 false,
  row 0x2350 0x2350 2 2 .u32 .ro (.val 0) false (.any) 0 false ]

def tabArray2 : List ObjRow := [
  row 0x2350 0x2350 3 3 .u32 .ro (.val 0) false (.any) 0 false ]

def tabMotion1 : List ObjRow := [
  row 0x2400 0x2400 0 0 .u8 .ro (.val 5) false (.any) 0 false,
  row 0x2400 0x2400 1 1 .u8 .rws (.val 4) true (.oneOf [0, 1, 2, 4]) 0 false,
  row 0x2400 0x2400 2 2 .u32 .rws (.val 10300000) true (.rng 1000 400000000) 0 false,
  row 0x2400 0x2400 3 3 .bool .rws (.val 0) true (.any) 0 false,
  row 0x2400 0x2400 4 4 .u8 .rws (.val 2) true (.rng 0 4) 0 false,
  row 0x2400 0x2400 5 5 .u32 .rws (.val 0) true (.any) 0 false,
  row 0x2401 0x2401 0 0 .u8 .ro (.val 5) false (.any) 0 false,
  row 0x2401 0x2401 1 1 .u8 .rws (.val 4) true (.oneOf [0, 1, 2, 4]) 0 false,
  row 0x2401 0x2401 2 2 .u32 .rws (.val 10300000) true (.rng 1000 400000000) 0 false,
  row 0x2401 0x2401 3 3 .bool .rws (.val 0) true (.any) 0 false,
  row 0x2401 0x2401 4 4 .u8 .rws (.val 2) true (.rng 0 4) 0 false,
  row 0x2401 0x2401 5 5 .u32 .rws (.val 0) true (.any) 0 false,
  row 0x2402 0x2402 0 0 .u8 .rws (.val 0) true (.rng 0 2) 0 false,
  row 0x2403 0x2403 0 0 .u8 .rws (.val 0) true (.rng 0 1) 0 false,
  row 0x2404 0x2404 0 0 .u8 .ro (.val 4) false (.any) 0 false,
  row 0x2404 0x2404 1 1 .u32 .rws (.val 41200000) true (.any) 0 false,
  row 0x2404 0x2404 2 2 .u32 .rws (.val 41200000) true (.any) 0 false,
  row 0x2404 0x2404 3 3 .u32 .ro (.val 41200000) false (.any) 0 false,
  row 0x2404 0x2404 4 4 .f32 .rws (.val 1099515822) true (.frng (1/100) 40) 0 false,
  row 0x2410 0x2410 0 0 .u8 .ro (.val 0) false (.any) 0 false,
  row 0x2411 0x2411 0 0 .f32 .ro (.val 0) false (.any) 0 false,
  row 0x2412 0x2412 1 1 .u16 .rws (.val 8192) true (.rng 0x100 0x8000) 0 false,
  row 0x2412 0x2412 2 2 .u16 .rws (.val 512) true (.rng 1 65535) 0 false,
  row 0x2413 0x2413 1 1 .u8 .rws (.val 8) true (.rng 4 32) 0 false,
  row 0x2413 0x2413 2 2 .u32 .rws (.val 20000) true (.rng 1000 1000000) 0 false,
  row 0x2413 0x2413 3 3 .f32 .rws (.val 1017370378) true (.frng (1/1000) 1) 0 false,
  row 0x2414 0x2414 1 1 .u64 .ro (.val 0) false (.any) 0 false,
  row 0x2414 0x2414 2 2 .u64 .ro (.val 0) false (.any) 0 false,
  row 0x2414 0x2414 3 3 .u64 .ro (.val 0) false (.any) 0 false,
  row 0x2415 0x2415 1 8 .u32 .ro (.val 0) false (.any) 0 false,
  row 0x2416 0x2416 1 1 .u32 .ro (.val 0) false (.any) 0 false,
  row 0x2416 0x2416 2 2 .i32 .ro (.val 0) false (.any) 0 false,
  row 0x2416 0x2416 3 3 .u64 .ro (.val 0) false (.any) 0 false,
  row 0x2416 0x2416 4 4 .u64 .ro (.val 0) false (.any) 0 false,
  row 0x2420 0x2420 0 0 .u16 .rwc (.val 32) true (.rng 8 128) 0 false,
  row 0x2421 0x2421 1 6 .u32 .ro (.val 0) false (.any) 0 false,
  row 0x2421 0x2421 7 7 .i16 .ro (.val 0) false (.any) 0 false,
  row 0x2430 0x2430 1 6 .u32 .rwc (.val 500) true (.rng 25 262144) 0 false,
  row 0x2431 0x2431 1 6 .u32 .rwc (.val 125) true (.rng 25 262144) 0 false,
  row 0x2432 0x2432 1 1 .u8 .rws (.val 128) true (.any) 0 false,
  row 0x2432 0x2432 2 2 .u8 .rws (.val 96) true (.any) 0 false,
  row 0x2432 0x2432 3 3 .u8 .rws (.val 160) true (.any) 0 false,
  row 0x2440 0x2440 1 1 .bool .rw (.val 1) true (.any) 0 false,
  row 0x2440 0x2440 2 2 .bool .ro (.val 0) false (.any) 0 false,
  row 0x2440 0x2440 3 3 .f32 .ro (.val 0) false (.any) 0 false,
  row 0x2440 0x2440 4 4 .u8 .rw (.val 50) true (.rng 10 95) 0 false,
  row 0x2440 0x2440 5 5 .u16 .rw (.val 100) true (.rng 10 2000) 0 false,
  row 0x2440 0x2440 6 6 .bool .ro (.val 0) false (.any) 0 false ]

def tabMotion2 : List ObjRow := [
  row 0x2440 0x2440 7 7 .u32 .ro (.val 0) false (.any) 0 false,
  row 0x2440 0x2440 8 8 .u32 .ro (.val 0) false (.any) 0 false,
  row 0x2450 0x2450 0 0 .u16 .rws (.val 0) true (.rng 0 1023) 0 false,
  row 0x2460 0x2460 1 1 .u8 .rws (.val 0) true (.rng 0 1) 0 false,
  row 0x2460 0x2460 2 2 .u8 .rws (.val 0) true (.rng 0 3) 0 false,
  row 0x2460 0x2460 3 3 .u8 .rws (.val 0) true (.rng 0 1) 0 false,
  row 0x2460 0x2460 4 4 .u32 .rws (.val 4096) true (.rng 1 1048576) 0 false,
  row 0x2460 0x2460 5 5 .u32 .rws (.val 0) true (.any) 0 false,
  row 0x2460 0x2460 6 6 .u32 .rws (.val 600) true (.rng 600 262144) 0 false,
  row 0x2460 0x2460 7 7 .u32 .rws (.val 1024) true (.any) 0 false,
  row 0x2460 0x2460 8 8 .u32 .ro (.val 0) false (.any) 0 false,
  row 0x2460 0x2460 9 9 .u32 .ro (.val 0) false (.any) 0 false,
  row 0x2460 0x2460 10 10 .u8 .rw (.val 0) true (.mask 0x0F) 0 false,
  row 0x2490 0x2490 0 0 .u8 .wo (.val 0) false (.oneOf [1]) 0 false,
  row 0x2491 0x2491 0 0 .u32 .ro (.val 0) false (.any) 0 false ]

def tabPipeline : List ObjRow := [
  row 0x2610 0x2610 0 0 .u8 .ro (.val 16) false (.any) 0 false,
  row 0x2610 0x2610 1 16 .i32 .ro (.val 0) false (.any) 0 false,
  row 0x2611 0x2611 0 0 .bool .rwc (.val 1) true (.any) 0 false,
  row 0x2615 0x2615 0 0 .bool .rwc (.val 1) true (.any) 0 false,
  row 0x2618 0x2618 0 0 .u8 .ro (.val 12) false (.any) 0 false,
  row 0x2618 0x2618 1 6 .f32 .rwc (.val 1065353216) true (.frng (1/8) 8) 0 false,
  row 0x2618 0x2618 7 12 .f32 .rwc (.val 1065353216) true (.frng (1/8) 8) 0 false,
  row 0x2619 0x2619 0 0 .u8 .ro (.val 18) false (.any) 0 false,
  row 0x2619 0x2619 1 6 .f32 .rws (.factory) true (.frng 256 4095) 0 false,
  row 0x2619 0x2619 7 12 .u32 .rws (.val 500) true (.any) 0 false,
  row 0x2619 0x2619 13 18 .u8 .rws (.val 1) true (.oneOf [1, 2, 4, 8]) 0 false,
  row 0x2620 0x2620 0 0 .u8 .ro (.val 7) false (.any) 0 false,
  row 0x2620 0x2620 1 1 .i16 .ro (.val 0) false (.any) 0 false,
  row 0x2620 0x2620 2 2 .u16 .ro (.val 0) false (.any) 0 false,
  row 0x2620 0x2620 3 3 .u32 .ro (.val 0) false (.any) 0 false,
  row 0x2620 0x2620 4 4 .u32 .ro (.val 0) false (.any) 0 false,
  row 0x2620 0x2620 5 5 .u32 .ro (.val 0) false (.any) 0 false,
  row 0x2620 0x2620 6 6 .u32 .ro (.val 0) false (.any) 0 false,
  row 0x2620 0x2620 7 7 .u32 .ro (.val 0) false (.any) 0 false,
  row 0x2630 0x2630 0 0 .u8 .ro (.val 3) false (.any) 0 false,
  row 0x2630 0x2630 1 1 .u8 .rws (.val 0) true (.rng 0 1) 0 false,
  row 0x2630 0x2630 2 2 .u16 .rwc (.val 3072) true (.rng 1024 4094) 0 false,
  row 0x2630 0x2630 3 3 .u16 .rwc (.val 3840) true (.rng 1025 4095) 0 false,
  row 0x2640 0x2640 0 0 .u8 .ro (.val 2) false (.any) 0 false,
  row 0x2640 0x2640 1 1 .u32 .ro (.val 0) false (.any) 0 false,
  row 0x2640 0x2640 2 2 .f32 .ro (.val 1065353216) false (.any) 0 false,
  row 0x2650 0x2650 0 0 .u32 .rws (.val 65536) true (.rng 1024 1048576) 0 false,
  row 0x2651 0x2651 0 0 .u64 .ro (.val 0) false (.any) 0 false,
  row 0x2660 0x2660 0 0 .u8 .ro (.val 15) false (.any) 0 false,
  row 0x2660 0x2660 1 12 .f32 .rwc (.factory) true (.frng (-8) 8) 0 false,
  row 0x2660 0x2660 13 15 .f32 .rwc (.list [1064752592,1065353216,1062418881]) true (.frng (1/10) 2) 0 false,
  row 0x2661 0x2661 0 0 .u8 .rwc (.val 1) true (.rng 0 1) 0 false,
  row 0x2670 0x2670 0 0 .u8 .rws (.val 1) true (.oneOf [1, 2, 4]) 0 false,
  row 0x2680 0x2680 0 0 .u8 .ro (.val 3) false (.any) 0 false,
  row 0x2680 0x2680 1 1 .u32 .ro (.val 0) false (.any) 0 false,
  row 0x2680 0x2680 2 2 .u32 .ro (.val 0) false (.any) 0 false,
  row 0x2680 0x2680 3 3 .u64 .ro (.val 0) false (.any) 0 false,
  row 0x2718 0x2718 0 0 .u8 .ro (.val 12) false (.any) 0 false,
  row 0x2718 0x2718 1 6 .f32 .rwc (.val 1065353216) true (.frng (1/8) 8) 0 false,
  row 0x2718 0x2718 7 12 .f32 .rwc (.val 1065353216) true (.frng (1/8) 8) 0 false,
  row 0x2760 0x2760 0 0 .u8 .ro (.val 15) false (.any) 0 false,
  row 0x2760 0x2760 1 12 .f32 .rwc (.factory) true (.frng (-8) 8) 0 false,
  row 0x2760 0x2760 13 15 .f32 .rwc (.list [1064752592,1065353216,1062418881]) true (.frng (1/10) 2) 0 false,
  row 0x2761 0x2761 0 0 .u8 .rwc (.val 1) true (.rng 0 1) 0 false,
  row 0x2770 0x2770 0 0 .u8 .rws (.val 1) true (.oneOf [1, 2, 4]) 0 false ]

def tabOutputs1 : List ObjRow := [
  row 0x2800 0x2800 1 4 .u8 .ro (.val 0) false (.any) 0 false,
  row 0x2801 0x2801 1 4 .u8 .wo (.val 0) false (.rng 1 2) 0 false,
  row 0x2802 0x2802 1 4 .u32 .ro (.val 0) false (.any) 0 false,
  row 0x2803 0x2803 1 4 .bool .ro (.val 0) false (.any) 0 false,
  row 0x2810 0x2810 1 1 .bool .rw (.val 0) true (.any) 0 false,
  row 0x2810 0x2810 2 2 .u8 .rws (.val 8) true (.oneOf [8, 10, 12, 14, 16]) 0 false,
  row 0x2810 0x2810 3 3 .u16 .rws (.val 1280) true (.rng 16 8192) 0 false,
  row 0x2810 0x2810 4 4 .u16 .rws (.val 1024) true (.rng 1 8192) 0 false,
  row 0x2810 0x2810 5 5 .u8 .rws (.val 0) true (.mask 7) 0 false,
  row 0x2810 0x2810 6 6 .u16 .rwc (.val 0) true (.any) 0 false,
  row 0x2810 0x2810 7 7 .u16 .rwc (.val 4096) true (.rng 0x400 0xFFFF) 0 false,
  row 0x2810 0x2810 8 8 .u32 .ro (.val 0) false (.any) 0 false,
  row 0x2810 0x2810 9 9 .u32 .ro (.val 0) false (.any) 0 false,
  row 0x2810 0x2810 10 10 .u32 .ro (.val 0) false (.any) 0 false,
  row 0x2810 0x2810 11 11 .u32 .ro (.val 0) false (.any) 0 false,
  row 0x2810 0x2810 12 12 .bool .rws (.val 0) true (.any) 0 false,
  row 0x2811 0x2811 1 1 .bool .rw (.val 0) true (.any) 0 false,
  row 0x2811 0x2811 2 2 .u8 .rws (.val 8) true (.oneOf [8, 10, 12, 14, 16]) 0 false,
  row 0x2811 0x2811 3 3 .u16 .rws (.val 1280) true (.rng 16 8192) 0 false,
  row 0x2811 0x2811 4 4 .u16 .rws (.val 1024) true (.rng 1 8192) 0 false,
  row 0x2811 0x2811 5 5 .u8 .rws (.val 0) true (.mask 7) 0 false,
  row 0x2811 0x2811 6 6 .u16 .rwc (.val 0) true (.any) 0 false,
  row 0x2811 0x2811 7 7 .u16 .rwc (.val 4096) true (.rng 0x400 0xFFFF) 0 false,
  row 0x2811 0x2811 8 8 .u32 .ro (.val 0) false (.any) 0 false,
  row 0x2811 0x2811 9 9 .u32 .ro (.val 0) false (.any) 0 false,
  row 0x2811 0x2811 10 10 .u32 .ro (.val 0) false (.any) 0 false,
  row 0x2811 0x2811 11 11 .u32 .ro (.val 0) false (.any) 0 false,
  row 0x2811 0x2811 12 12 .bool .rws (.val 0) true (.any) 0 false,
  row 0x2820 0x2820 1 1 .u8 .rws (.val 15) true (.mask 0x0F) 0 false,
  row 0x2830 0x2830 1 1 .bool .rws (.val 0) true (.any) 0 false,
  row 0x2830 0x2830 2 2 .u8 .rws (.val 0) true (.rng 0 1) 0 false,
  row 0x2830 0x2830 3 3 .u8 .rws (.val 16) true (.oneOf [4, 8, 16, 32]) 0 false,
  row 0x2830 0x2830 4 4 .u32 .ro (.val 0) false (.any) 0 false,
  row 0x2830 0x2830 5 5 .u32 .ro (.val 0) false (.any) 0 false,
  row 0x2840 0x2840 1 1 .bool .rws (.val 0) true (.any) 0 false,
  row 0x2840 0x2840 2 2 .u8 .rws (.val 0) true (.rng 0 1) 0 false,
  row 0x2840 0x2840 3 3 .u8 .rws (.val 3) true (.oneOf [3, 4]) 0 false,
  row 0x2840 0x2840 4 4 .u8 .rws (.val 8) true (.oneOf [8, 12]) 0 false,
  row 0x2840 0x2840 5 5 .u16 .rws (.val 1024) true (.rng 16 4096) 0 false,
  row 0x2840 0x2840 6 6 .u16 .rws (.val 32) true (.rng 16 128) 0 false,
  row 0x2840 0x2840 7 7 .u32 .ro (.val 0) false (.any) 0 false,
  row 0x2840 0x2840 8 8 .u32 .ro (.val 0) false (.any) 0 false,
  row 0x2840 0x2840 9 9 .u32 .ro (.val 0) false (.any) 0 false,
  row 0x2850 0x2850 1 1 .bool .rws (.val 0) true (.any) 0 false,
  row 0x2850 0x2850 2 2 .u8 .rws (.val 1) true (.mask 0x3F) 0 false,
  row 0x2850 0x2850 3 3 .u8 .rws (.val 8) true (.oneOf [8, 12, 16]) 0 false,
  row 0x2850 0x2850 4 4 .u16 .rws (.val 0) true (.mul 64) 0 false,
  row 0x2850 0x2850 5 5 .u16 .rws (.val 0) true (.mul 64) 0 false ]

def tabOutputs2 : List ObjRow := [
  row 0x2850 0x2850 6 6 .u32 .rws (.val 1024) true (.rng 1 65536) 0 false,
  row 0x2850 0x2850 7 7 .u32 .ro (.val 0) false (.any) 0 false,
  row 0x2850 0x2850 8 8 .u32 .ro (.val 0) false (.any) 0 false,
  row 0x2850 0x2850 9 9 .u32 .ro (.val 0) false (.any) 0 false,
  row 0x2851 0x2851 1 1 .bool .rws (.val 0) true (.any) 0 false,
  row 0x2851 0x2851 2 2 .u8 .rws (.val 1) true (.mask 0x3F) 0 false,
  row 0x2851 0x2851 3 3 .u8 .rws (.val 8) true (.oneOf [8, 12, 16]) 0 false,
  row 0x2851 0x2851 4 4 .u16 .rws (.val 0) true (.mul 64) 0 false,
  row 0x2851 0x2851 5 5 .u16 .rws (.val 0) true (.mul 64) 0 false,
  row 0x2851 0x2851 6 6 .u32 .rws (.val 1024) true (.rng 1 65536) 0 false,
  row 0x2851 0x2851 7 7 .u32 .ro (.val 0) false (.any) 0 false,
  row 0x2851 0x2851 8 8 .u32 .ro (.val 0) false (.any) 0 false,
  row 0x2851 0x2851 9 9 .u32 .ro (.val 0) false (.any) 0 false,
  row 0x2860 0x2860 1 3 .f32 .ro (.val 0) false (.any) 0 false ]

def tabKernels1 : List ObjRow := [
  row 0x2A00 0x2A00 0 0 .u8 .ro (.val 4) false (.any) 0 false,
  row 0x2A00 0x2A00 1 4 .u32 .ro (.factory) false (.any) 0 false,
  row 0x2A01 0x2A01 0 0 .dom .rws (.val 0) false (.any) 4194304 true,
  row 0x2A10 0x2A10 0 0 .u8 .ro (.val 5) false (.any) 0 false,
  row 0x2A10 0x2A10 1 1 .u8 .rws (.val 15) true (.mask 0x0F) 0 false,
  row 0x2A10 0x2A10 2 2 .u8 .rws (.val 0) true (.rng 0 1) 0 false,
  row 0x2A10 0x2A10 3 3 .bool .rws (.val 1) true (.any) 0 false,
  row 0x2A10 0x2A10 4 4 .u8 .rws (.val 0) true (.rng 0 3) 0 false,
  row 0x2A10 0x2A10 5 5 .u16 .rws (.val 32) true (.rng 8 1024) 0 false,
  row 0x2A20 0x2A20 0 0 .u8 .ro (.val 8) false (.any) 0 false,
  row 0x2A20 0x2A20 1 1 .u32 .rws (.val 2048) true (.rng 256 16384) 0 false,
  row 0x2A20 0x2A20 2 2 .u64 .rws (.val 0) true (.mul 1048576) 0 false,
  row 0x2A20 0x2A20 3 3 .u32 .rws (.val 240) true (.any) 0 false,
  row 0x2A20 0x2A20 4 4 .u32 .ro (.val 4294967295) false (.any) 0 false,
  row 0x2A20 0x2A20 5 5 .u32 .ro (.val 0) false (.any) 0 false,
  row 0x2A20 0x2A20 6 6 .u32 .ro (.val 0) false (.any) 0 false,
  row 0x2A20 0x2A20 7 7 .u32 .ro (.val 0) false (.any) 0 false,
  row 0x2A20 0x2A20 8 8 .u32 .ro (.val 4294967295) false (.any) 0 false,
  row 0x2A40 0x2A40 0 0 .u8 .ro (.val 15) false (.any) 0 false,
  row 0x2A40 0x2A40 1 1 .u16 .rw (.val 500) true (.rng 50 10000) 0 false,
  row 0x2A40 0x2A40 2 2 .u16 .rw (.val 800) true (.rng 50 10000) 0 false,
  row 0x2A40 0x2A40 3 3 .u16 .rw (.val 250) true (.rng 50 10000) 0 false,
  row 0x2A40 0x2A40 4 4 .u16 .rw (.val 4) true (.rng 1 4096) 0 false,
  row 0x2A40 0x2A40 5 5 .u16 .rw (.val 16) true (.rng 1 4096) 0 false,
  row 0x2A40 0x2A40 6 6 .u16 .rw (.val 1000) true (.any) 0 false,
  row 0x2A40 0x2A40 7 7 .u8 .rw (.val 4) true (.rng 1 7) 0 false,
  row 0x2A40 0x2A40 8 8 .u16 .rw (.val 16) true (.any) 0 false,
  row 0x2A40 0x2A40 9 9 .u16 .rw (.val 1000) true (.any) 0 false,
  row 0x2A40 0x2A40 10 10 .u16 .rw (.val 150) true (.any) 0 false,
  row 0x2A40 0x2A40 11 11 .u16 .rw (.val 256) true (.rng 16 65535) 0 false,
  row 0x2A40 0x2A40 12 12 .u16 .rw (.val 1638) true (.any) 0 false,
  row 0x2A40 0x2A40 13 13 .u16 .rw (.val 1638) true (.any) 0 false,
  row 0x2A40 0x2A40 14 14 .u16 .rw (.val 1024) true (.oneOf [64, 128, 256, 512, 1024, 2048, 4096, 8192, 16384]) 0 false,
  row 0x2A40 0x2A40 15 15 .u16 .ro (.val 0) false (.any) 0 false,
  row 0x2A41 0x2A47 0 0 .u8 .ro (.val 15) false (.any) 0 false,
  row 0x2A41 0x2A47 1 1 .u16 .rw (.val 500) true (.rng 50 10000) 0 false,
  row 0x2A41 0x2A47 2 2 .u16 .rw (.val 800) true (.rng 50 10000) 0 false,
  row 0x2A41 0x2A47 3 3 .u16 .rw (.val 250) true (.rng 50 10000) 0 false,
  row 0x2A41 0x2A47 4 4 .u16 .rw (.val 4) true (.rng 1 4096) 0 false,
  row 0x2A41 0x2A47 5 5 .u16 .rw (.val 16) true (.rng 1 4096) 0 false,
  row 0x2A41 0x2A47 6 6 .u16 .rw (.val 1000) true (.any) 0 false,
  row 0x2A41 0x2A47 7 7 .u8 .rw (.val 4) true (.rng 1 7) 0 false,
  row 0x2A41 0x2A47 8 8 .u16 .rw (.val 16) true (.any) 0 false,
  row 0x2A41 0x2A47 9 9 .u16 .rw (.val 1000) true (.any) 0 false,
  row 0x2A41 0x2A47 10 10 .u16 .rw (.val 150) true (.any) 0 false,
  row 0x2A41 0x2A47 11 11 .u16 .rw (.val 256) true (.rng 16 65535) 0 false,
  row 0x2A41 0x2A47 12 12 .u16 .rw (.val 1638) true (.any) 0 false,
  row 0x2A41 0x2A47 13 13 .u16 .rw (.val 1638) true (.any) 0 false ]

def tabKernels2 : List ObjRow := [
  row 0x2A41 0x2A47 14 14 .u16 .rw (.val 1024) true (.oneOf [64, 128, 256, 512, 1024, 2048, 4096, 8192, 16384]) 0 false,
  row 0x2A41 0x2A47 15 15 .u16 .ro (.val 0) false (.any) 0 false,
  row 0x2A52 0x2A52 0 0 .dom .rw (.val 0) false (.any) 8192 false,
  row 0x2A70 0x2A70 0 0 .u8 .ro (.val 15) false (.any) 0 false,
  row 0x2A70 0x2A70 1 12 .u32 .rws (.val 255) true (.mask 0x00FFFFFF) 0 false,
  row 0x2A70 0x2A70 13 15 .u32 .rws (.val 255) true (.mask 0x00FFFFFF) 0 false,
  row 0x2A80 0x2A80 0 0 .u8 .ro (.val 3) false (.any) 0 false,
  row 0x2A80 0x2A80 1 1 .bool .rw (.val 1) true (.any) 0 false,
  row 0x2A80 0x2A80 2 2 .u32 .rw (.val 50000) true (.rng 10000 1000000) 0 false,
  row 0x2A80 0x2A80 3 3 .u16 .rws (.val 20) true (.rng 5 1000) 0 false,
  row 0x2A81 0x2A81 1 8 .u16 .ro (.val 0) false (.any) 0 false,
  row 0x2A82 0x2A82 1 8 .u8 .ro (.val 255) true (.any) 0 false,
  row 0x2A83 0x2A83 1 8 .u32 .ro (.val 0) false (.any) 0 false,
  row 0x2A84 0x2A84 1 8 .u32 .ro (.val 0) false (.any) 0 false,
  row 0x2A85 0x2A85 1 6 .u32 .ro (.val 0) false (.any) 0 false,
  row 0x2A86 0x2A86 1 8 .u16 .ro (.val 0) false (.any) 0 false ]

def tabTinker : List ObjRow := [
  row 0x2C00 0x2C00 0 0 .u8 .ro (.val 7) false (.any) 0 false,
  row 0x2C00 0x2C00 1 1 .u16 .ro (.val 0) false (.any) 0 false,
  row 0x2C00 0x2C00 2 2 .u16 .wo (.val 0) false (.any) 0 false,
  row 0x2C00 0x2C00 3 3 .u16 .wo (.val 0) false (.any) 0 false,
  row 0x2C00 0x2C00 4 4 .u16 .rw (.val 0) true (.any) 0 false,
  row 0x2C00 0x2C00 5 5 .u64 .rw (.val 0) false (.any) 0 false,
  row 0x2C00 0x2C00 6 6 .u16 .ro (.val 0) false (.any) 0 false,
  row 0x2C00 0x2C00 7 7 .u16 .rw (.val 0) true (.any) 0 false,
  row 0x2C10 0x2C1F 0 0 .u8 .ro (.val 11) false (.any) 0 false,
  row 0x2C10 0x2C1F 1 1 .u32 .rw (.val 0) true (.mask 0x3F3F3F3F) 0 false,
  row 0x2C10 0x2C1F 2 2 .u64 .rw (.val 0) true (.mask 0x9F9F9F9F9F9F9F9F) 0 false,
  row 0x2C10 0x2C1F 3 3 .u16 .rw (.val 0) true (.any) 0 false,
  row 0x2C10 0x2C1F 4 4 .u8 .rw (.val 32) true (.mask 0x7F) 0 false,
  row 0x2C10 0x2C1F 5 5 .u8 .rw (.val 0) true (.rng 0 1) 0 false,
  row 0x2C10 0x2C1F 6 6 .u32 .ro (.val 0) false (.any) 0 false,
  row 0x2C10 0x2C1F 7 7 .u32 .rw (.val 0) false (.any) 0 false,
  row 0x2C10 0x2C1F 8 8 .u8 .ro (.val 0) false (.any) 0 false,
  row 0x2C10 0x2C1F 9 9 .u32 .ro (.val 0) false (.any) 0 false,
  row 0x2C10 0x2C1F 10 10 .u32 .wo (.val 0) false (.any) 0 false,
  row 0x2C10 0x2C1F 11 11 .u32 .ro (.val 0) false (.any) 0 false,
  row 0x2C30 0x2C30 1 32 .u16 .rws (.val 0) true (.mask 0x1FF) 0 false,
  row 0x2C31 0x2C31 0 0 .u32 .ro (.val 0) false (.any) 0 false,
  row 0x2C40 0x2C40 1 32 .u32 .rw (.val 0) true (.mask 0x9F3F) 0 false,
  row 0x2C42 0x2C42 0 0 .u32 .ro (.val 0) false (.any) 0 false,
  row 0x2C80 0x2C8F 0 0 .dom .rw (.val 0) true (.any) 8192 false ]

def tabClocks : List ObjRow := [
  row 0x2D00 0x2D00 0 0 .u8 .ro (.val 3) false (.any) 0 false,
  row 0x2D00 0x2D00 1 1 .u8 .ro (.val 0) false (.any) 0 false,
  row 0x2D00 0x2D00 2 2 .u8 .ro (.val 0) false (.any) 0 false,
  row 0x2D00 0x2D00 3 3 .bool .ro (.val 0) false (.any) 0 false,
  row 0x2D01 0x2D01 0 0 .u8 .ro (.val 5) false (.any) 0 false,
  row 0x2D01 0x2D01 1 1 .u8 .rws (.val 0) true (.rng 0 2) 0 false,
  row 0x2D01 0x2D01 2 2 .u8 .rws (.val 0) true (.rng 0 1) 0 false,
  row 0x2D01 0x2D01 3 3 .u8 .rws (.val 0) true (.rng 0 1) 0 false,
  row 0x2D01 0x2D01 4 4 .u8 .wo (.val 0) false (.oneOf [1]) 0 false,
  row 0x2D01 0x2D01 5 5 .bool .ro (.val 0) false (.any) 0 false,
  row 0x2D02 0x2D02 1 3 .u8 .ro (.val 0) false (.any) 0 false,
  row 0x2D02 0x2D02 4 4 .u8 .ro (.val 0) false (.any) 0 false,
  row 0x2D03 0x2D03 0 0 .u8 .ro (.val 6) false (.any) 0 false,
  row 0x2D03 0x2D03 1 1 .u32 .ro (.val 0) false (.any) 0 false,
  row 0x2D03 0x2D03 2 2 .u32 .ro (.val 0) false (.any) 0 false,
  row 0x2D03 0x2D03 3 3 .u32 .ro (.val 0) false (.any) 0 false,
  row 0x2D03 0x2D03 4 4 .u32 .ro (.val 0) false (.any) 0 false,
  row 0x2D03 0x2D03 5 5 .i32 .ro (.val 0) false (.any) 0 false,
  row 0x2D03 0x2D03 6 6 .u32 .ro (.val 0) false (.any) 0 false,
  row 0x2D04 0x2D04 1 1 .u32 .rw (.val 10000) true (.rng 1000 20000) 0 false,
  row 0x2D10 0x2D10 1 8 .u8 .rw (.val 0) true (.rng 0 127) 0 false,
  row 0x2D11 0x2D11 1 8 .u8 .ro (.val 0) false (.any) 0 false,
  row 0x2D12 0x2D12 1 8 .u8 .rws (.val 0) true (.rng 0 1) 0 false,
  row 0x2D13 0x2D13 0 0 .u8 .ro (.val 0) false (.any) 0 false,
  row 0x2D20 0x2D20 0 0 .u8 .ro (.val 3) false (.any) 0 false,
  row 0x2D20 0x2D20 1 1 .i32 .ro (.val 0) false (.any) 0 false,
  row 0x2D20 0x2D20 2 2 .i32 .ro (.val 0) false (.any) 0 false,
  row 0x2D20 0x2D20 3 3 .u16 .ro (.val 0) false (.any) 0 false ]

def tabMemory1 : List ObjRow := [
  row 0x2E00 0x2E00 0 0 .u8 .ro (.val 4) false (.any) 0 false,
  row 0x2E00 0x2E00 1 1 .u8 .ro (.val 5) false (.any) 0 false,
  row 0x2E00 0x2E00 2 2 .u32 .ro (.val 4096) false (.any) 0 false,
  row 0x2E00 0x2E00 3 3 .u16 .ro (.val 8533) false (.any) 0 false,
  row 0x2E00 0x2E00 4 4 .u8 .ro (.val 0) false (.any) 0 false,
  row 0x2E01 0x2E01 1 1 .u8 .rws (.val 2) true (.rng 0 2) 0 false,
  row 0x2E01 0x2E01 2 2 .u8 .ro (.val 2) false (.any) 0 false,
  row 0x2E10 0x2E10 1 20 .u32 .ro (.val 0) false (.any) 0 false,
  row 0x2E11 0x2E11 0 0 .u32 .ro (.val 0) false (.any) 0 false,
  row 0x2E20 0x2E20 1 5 .u8 .rws (.val 1) true (.rng 0 1) 0 false,
  row 0x2E21 0x2E21 1 6 .u32 .rw (.list [2000,4000,3000,10000,20000,200000]) true (.rng 500 1000000) 0 false,
  row 0x2E22 0x2E22 1 4 .u32 .rw (.list [1000,4000,16000,400000]) true (.rng 200 4000000) 0 false,
  row 0x2E23 0x2E23 1 6 .u32 .ro (.val 0) false (.any) 0 false,
  row 0x2E25 0x2E25 0 0 .u16 .rw (.val 200) true (.rng 20 5000) 0 false,
  row 0x2E30 0x2E30 1 1 .u8 .ro (.val 4) false (.any) 0 false,
  row 0x2E30 0x2E30 2 2 .u32 .ro (.val 0) false (.any) 0 false,
  row 0x2E40 0x2E40 1 1 .u32 .rw (.val 1024) true (.rng 16 1000000) 0 false,
  row 0x2E40 0x2E40 2 2 .u32 .rw (.val 3600) true (.rng 60 86400) 0 false,
  row 0x2E40 0x2E40 3 3 .u16 .rw (.val 4000) true (.rng 250 4000) 0 false,
  row 0x2E40 0x2E40 4 4 .bool .rw (.val 1) true (.any) 0 false,
  row 0x2E41 0x2E41 1 8 .u8 .ro (.list [0,1,2,3,4,5,6,7]) true (.any) 0 false,
  row 0x2E42 0x2E42 1 10 .u32 .ro (.val 0) false (.any) 0 false,
  row 0x2E43 0x2E43 1 10 .u32 .ro (.val 0) false (.any) 0 false,
  row 0x2E44 0x2E44 1 10 .u16 .ro (.list [0,0,0,0,0,0,0,0,1,1]) true (.any) 0 false,
  row 0x2E45 0x2E45 1 1 .u8 .wo (.val 0) false (.oneOf [1, 2, 3, 4, 5, 6, 7, 8, 16]) 0 false,
  row 0x2E45 0x2E45 2 2 .u16 .ro (.val 0) false (.any) 0 false,
  row 0x2E45 0x2E45 3 3 .u32 .ro (.val 0) false (.any) 0 false,
  row 0x2E45 0x2E45 4 4 .u32 .ro (.val 0) false (.any) 0 false,
  row 0x2E46 0x2E46 1 1 .u16 .ro (.val 0) false (.any) 0 false,
  row 0x2E46 0x2E46 2 2 .u64 .ro (.val 0) false (.any) 0 false,
  row 0x2F00 0x2F00 0 0 .u8 .ro (.val 6) false (.any) 0 false,
  row 0x2F00 0x2F00 1 1 .u32 .ro (.val 0) false (.any) 0 false,
  row 0x2F00 0x2F00 2 2 .u32 .ro (.val 0) false (.any) 0 false,
  row 0x2F00 0x2F00 3 3 .u32 .ro (.val 0) false (.any) 0 false,
  row 0x2F00 0x2F00 4 4 .u16 .ro (.val 0) false (.any) 0 false,
  row 0x2F00 0x2F00 5 5 .u32 .ro (.val 0) false (.any) 0 false,
  row 0x2F00 0x2F00 6 6 .u32 .ro (.val 0) false (.any) 0 false,
  row 0x2F01 0x2F01 1 5 .u32 .ro (.val 0) false (.any) 0 false,
  row 0x2F02 0x2F02 1 5 .u32 .ro (.val 0) false (.any) 0 false,
  row 0x2F10 0x2F10 1 5 .u32 .ro (.val 0) false (.any) 0 false,
  row 0x2F11 0x2F11 1 5 .u32 .ro (.val 0) false (.any) 0 false,
  row 0x2F12 0x2F12 0 0 .bool .rw (.val 1) false (.any) 0 false,
  row 0x2F20 0x2F20 1 1 .bool .rw (.val 1) false (.any) 0 false,
  row 0x2F20 0x2F20 2 2 .u16 .rw (.val 4096) true (.rng 64 65535) 0 false,
  row 0x2F20 0x2F20 3 3 .u32 .ro (.val 0) false (.any) 0 false,
  row 0x2F20 0x2F20 4 4 .u32 .ro (.val 0) false (.any) 0 false,
  row 0x2F20 0x2F20 5 5 .u32 .ro (.val 0) false (.any) 0 false,
  row 0x2F20 0x2F20 6 6 .u32 .ro (.val 221184) false (.any) 0 false ]

def tabMemory2 : List ObjRow := [
  row 0x2F30 0x2F30 1 1 .u32 .rw (.val 0) false (.mul 8) 0 false,
  row 0x2F30 0x2F30 2 2 .u8 .rw (.val 255) false (.oneOf ((List.range 72) ++ [255])) 0 false,
  row 0x2F30 0x2F30 3 3 .u8 .rw (.val 255) false (.oneOf ((List.range 72) ++ [255])) 0 false,
  row 0x2F30 0x2F30 4 4 .bool .ro (.val 0) false (.any) 0 false,
  row 0x2F30 0x2F30 5 5 .u8 .wo (.val 0) false (.rng 0 1) 0 false ]

def tabRings : List ObjRow := [
  row 0x3000 0x3000 0 0 .u8 .ro (.val 10) false (.any) 0 false,
  row 0x3000 0x3000 1 1 .u8 .ro (.val 0) false (.any) 0 false,
  row 0x3000 0x3000 2 2 .u8 .ro (.val 0) false (.any) 0 false,
  row 0x3000 0x3000 3 3 .u16 .ro (.val 0) false (.any) 0 false,
  row 0x3000 0x3000 4 4 .f32 .ro (.val 0) false (.any) 0 false,
  row 0x3000 0x3000 5 5 .bool .ro (.val 0) false (.any) 0 false,
  row 0x3000 0x3000 6 6 .u8 .ro (.val 0) false (.any) 0 false,
  row 0x3000 0x3000 7 7 .u32 .ro (.val 0) false (.any) 0 false,
  row 0x3000 0x3000 8 8 .u32 .ro (.val 0) false (.any) 0 false,
  row 0x3000 0x3000 9 9 .u32 .ro (.val 0) false (.any) 0 false,
  row 0x3000 0x3000 10 10 .u32 .ro (.val 0) false (.any) 0 false,
  row 0x3001 0x3001 1 1 .bool .rws (.val 1) true (.any) 0 false,
  row 0x3010 0x3010 1 1 .u64 .rw (.val 0) false (.mul 2097152) 0 false,
  row 0x3010 0x3010 2 2 .u32 .rw (.val 0) false (.rng 1 15872) 0 false,
  row 0x3010 0x3010 3 3 .u8 .wo (.val 0) false (.rng 1 2) 0 false,
  row 0x3010 0x3010 4 4 .u8 .ro (.val 0) false (.any) 0 false,
  row 0x3010 0x3010 5 5 .u32 .ro (.val 0) false (.any) 0 false,
  row 0x3010 0x3010 6 6 .u32 .ro (.val 0) false (.any) 0 false,
  row 0x3020 0x3020 0 0 .u8 .rws (.val 0) true (.rng 0 2) 0 false,
  row 0x3021 0x3021 1 1 .u32 .ro (.val 0) false (.any) 0 false,
  row 0x3021 0x3021 2 2 .u32 .ro (.val 0) false (.any) 0 false,
  row 0x3030 0x3030 1 1 .u64 .ro (.val 0) false (.any) 0 false,
  row 0x3030 0x3030 2 2 .u64 .ro (.val 0) false (.any) 0 false,
  row 0x3030 0x3030 3 3 .u32 .ro (.val 0) false (.any) 0 false,
  row 0x3030 0x3030 4 4 .u16 .ro (.val 0) false (.any) 0 false,
  row 0x3030 0x3030 5 5 .u32 .ro (.val 0) false (.any) 0 false ]

def tabLinks : List ObjRow := [
  row 0x3100 0x3100 1 8 .u16 .ro (.val 0) false (.any) 0 false,
  row 0x3101 0x3101 1 8 .u32 .ro (.val 1985229328) false (.any) 0 false,
  row 0x3102 0x3102 1 72 .u32 .ro (.val 0) false (.any) 0 false,
  row 0x3103 0x3103 1 72 .u32 .ro (.val 0) false (.any) 0 false,
  row 0x3104 0x3104 1 8 .u16 .rws (.val 0) true (.mask 0x1FF) 0 false,
  row 0x3105 0x3105 1 8 .u32 .ro (.val 0) false (.any) 0 false,
  row 0x3106 0x3106 1 8 .u32 .ro (.val 0) false (.any) 0 false,
  row 0x3107 0x3107 1 8 .u32 .ro (.val 0) false (.any) 0 false,
  row 0x3108 0x3108 1 8 .u32 .ro (.val 0) false (.any) 0 false,
  row 0x3110 0x3110 1 1 .u8 .rw (.val 14) true (.rng 8 32) 0 false,
  row 0x3110 0x3110 2 2 .u8 .rw (.val 20) true (.rng 10 60) 0 false,
  row 0x3110 0x3110 3 3 .u16 .rw (.val 16) true (.rng 1 65535) 0 false,
  row 0x3110 0x3110 4 4 .bool .rw (.val 1) true (.any) 0 false,
  row 0x3110 0x3110 5 5 .bool .rw (.val 1) true (.any) 0 false,
  row 0x3111 0x3111 0 0 .u8 .wo (.val 0) false (.mask 0x7F) 0 false,
  row 0x3120 0x3120 1 1 .u8 .rw (.val 0) false (.rng 0 7) 0 false,
  row 0x3120 0x3120 2 2 .u8 .rw (.val 0) false (.rng 0 3) 0 false,
  row 0x3120 0x3120 3 3 .u8 .rw (.val 2) false (.rng 1 2) 0 false,
  row 0x3120 0x3120 4 4 .u16 .rw (.val 511) false (.mask 0x1FF) 0 false,
  row 0x3120 0x3120 5 5 .u8 .wo (.val 0) false (.rng 1 2) 0 false,
  row 0x3120 0x3120 6 6 .u64 .ro (.val 0) false (.any) 0 false,
  row 0x3120 0x3120 7 7 .u64 .ro (.val 0) false (.any) 0 false,
  row 0x3121 0x3121 1 1 .bool .rw (.val 0) false (.any) 0 false,
  row 0x3121 0x3121 2 2 .u8 .wo (.val 0) false (.rng 0 8) 0 false,
  row 0x3121 0x3121 3 3 .u16 .ro (.val 0) false (.any) 0 false,
  row 0x3122 0x3122 1 1 .u8 .wo (.val 0) false (.mask 3) 0 false ]

def tabEvents : List ObjRow := [
  row 0x3200 0x3200 0 0 .u8 .ro (.val 8) false (.any) 0 false,
  row 0x3200 0x3200 1 1 .u32 .ro (.val 0) false (.any) 0 false,
  row 0x3200 0x3200 2 2 .u32 .ro (.val 0) false (.any) 0 false,
  row 0x3200 0x3200 3 3 .u32 .ro (.val 0) false (.any) 0 false,
  row 0x3200 0x3200 4 4 .u32 .ro (.val 0) false (.any) 0 false,
  row 0x3200 0x3200 5 5 .bool .rw (.val 1) true (.any) 0 false,
  row 0x3200 0x3200 6 6 .u8 .wo (.val 0) false (.oneOf [1]) 0 false,
  row 0x3200 0x3200 7 7 .u32 .ro (.val 0) false (.any) 0 false,
  row 0x3200 0x3200 8 8 .u16 .ro (.val 0) false (.any) 0 false,
  row 0x3210 0x3210 0 0 .u8 .ro (.val 10) false (.any) 0 false,
  row 0x3210 0x3210 1 6 .u32 .ro (.val 0) false (.any) 0 false,
  row 0x3210 0x3210 7 7 .u32 .ro (.val 0) false (.any) 0 false,
  row 0x3210 0x3210 8 8 .u32 .ro (.val 0) false (.any) 0 false,
  row 0x3210 0x3210 9 9 .u32 .ro (.val 0) false (.any) 0 false,
  row 0x3210 0x3210 10 10 .u32 .ro (.val 0) false (.any) 0 false ]

def tabPower : List ObjRow := [
  row 0x3300 0x3300 0 0 .u8 .ro (.val 9) false (.any) 0 false,
  row 0x3300 0x3300 1 1 .u16 .ro (.val 0) false (.any) 0 false,
  row 0x3300 0x3300 2 2 .u16 .ro (.val 0) false (.any) 0 false,
  row 0x3300 0x3300 3 3 .u16 .ro (.val 0) false (.any) 0 false,
  row 0x3300 0x3300 4 4 .u16 .ro (.val 0) false (.any) 0 false,
  row 0x3300 0x3300 5 5 .u32 .ro (.val 0) false (.any) 0 false,
  row 0x3300 0x3300 6 6 .u16 .ro (.val 0) false (.any) 0 false,
  row 0x3300 0x3300 7 7 .u16 .ro (.val 0) false (.any) 0 false,
  row 0x3300 0x3300 8 8 .bool .ro (.val 0) false (.any) 0 false,
  row 0x3300 0x3300 9 9 .u32 .ro (.val 0) true (.any) 0 false,
  row 0x3310 0x3310 0 0 .u8 .ro (.val 8) false (.any) 0 false,
  row 0x3310 0x3310 1 1 .u8 .ro (.val 0) false (.any) 0 false,
  row 0x3310 0x3310 2 2 .u8 .ro (.val 0) false (.any) 0 false,
  row 0x3310 0x3310 3 3 .u8 .ro (.val 0) false (.any) 0 false,
  row 0x3310 0x3310 4 4 .u32 .ro (.val 0) false (.any) 0 false,
  row 0x3310 0x3310 5 5 .u32 .ro (.val 0) false (.any) 0 false,
  row 0x3310 0x3310 6 6 .u8 .ro (.val 0) false (.any) 0 false,
  row 0x3310 0x3310 7 7 .u32 .ro (.val 0) true (.any) 0 false,
  row 0x3310 0x3310 8 8 .u32 .wo (.val 0) false (.oneOf [0x626F6F74]) 0 false,
  row 0x3320 0x3320 0 0 .u8 .ro (.val 9) false (.any) 0 false,
  row 0x3320 0x3320 1 1 .u8 .ro (.val 0) false (.any) 0 false,
  row 0x3320 0x3320 2 2 .u32 .ro (.val 0) false (.any) 0 false,
  row 0x3320 0x3320 3 3 .u8 .ro (.val 0) false (.any) 0 false,
  row 0x3320 0x3320 4 4 .u16 .ro (.val 0) false (.any) 0 false,
  row 0x3320 0x3320 5 5 .u32 .ro (.val 0) false (.any) 0 false,
  row 0x3320 0x3320 6 6 .u8 .wo (.val 0) false (.oneOf [1]) 0 false,
  row 0x3320 0x3320 7 7 .u32 .ro (.val 0) true (.any) 0 false,
  row 0x3320 0x3320 8 8 .u8 .ro (.val 0) false (.any) 0 false,
  row 0x3320 0x3320 9 9 .u32 .ro (.val 0) true (.any) 0 false,
  row 0x3330 0x3330 1 16 .i16 .ro (.val 0) false (.any) 0 false,
  row 0x3330 0x3330 17 24 .i16 .ro (.val 0) false (.any) 0 false,
  row 0x3330 0x3330 25 25 .i16 .ro (.val 0) false (.any) 0 false,
  row 0x3330 0x3330 26 26 .i16 .ro (.val 0) false (.any) 0 false,
  row 0x3330 0x3330 27 27 .u8 .ro (.val 0) false (.any) 0 false,
  row 0x3330 0x3330 28 28 .u8 .ro (.val 0) false (.any) 0 false,
  row 0x3330 0x3330 29 29 .u8 .ro (.val 0) false (.any) 0 false,
  row 0x3330 0x3330 30 30 .u32 .ro (.val 0) false (.any) 0 false,
  row 0x3340 0x3340 1 1 .bool .ro (.val 0) true (.any) 0 false,
  row 0x3340 0x3340 2 2 .bool .ro (.val 0) true (.any) 0 false,
  row 0x3340 0x3340 3 3 .dom .ro (.val 0) true (.any) 25328 true,
  row 0x3340 0x3340 4 4 .u64 .ro (.val 0) true (.any) 0 false,
  row 0x3340 0x3340 5 5 .u8 .ro (.val 0) true (.any) 0 false,
  row 0x3340 0x3340 6 6 .u64 .ro (.val 0) true (.any) 0 false,
  row 0x3340 0x3340 7 7 .u16 .ro (.val 0) true (.any) 0 false,
  row 0x3340 0x3340 8 8 .u8 .wo (.val 0) false (.oneOf [1]) 0 false,
  row 0x3340 0x3340 9 9 .u32 .ro (.val 0) true (.any) 0 false,
  row 0x3350 0x3350 1 6 .u16 .ro (.val 0) false (.any) 0 false ]

def tabTwoWire : List ObjRow := [
  row 0x3400 0x3400 1 1 .u8 .ro (.val 88) false (.any) 0 false,
  row 0x3400 0x3400 2 2 .bool .rw (.val 0) false (.any) 0 false,
  row 0x3400 0x3400 3 3 .bool .rws (.val 1) true (.any) 0 false,
  row 0x3400 0x3400 4 4 .u32 .ro (.val 0) false (.any) 0 false,
  row 0x3400 0x3400 5 5 .u32 .ro (.val 0) false (.any) 0 false,
  row 0x3400 0x3400 6 6 .u32 .ro (.val 0) false (.any) 0 false ]

def tabDomains : List ObjRow := [
  row 0x5100 0x5100 0 0 .dom .ro (.factory) false (.any) 1024 false,
  row 0x5101 0x5101 0 0 .dom .rws (.val 0) false (.any) 1024 false,
  row 0x5110 0x5114 0 0 .dom .rws (.factory) false (.any) 196608 false,
  row 0x5200 0x5200 0 0 .dom .rws (.factory) false (.any) 393216 false,
  row 0x5210 0x5215 0 0 .dom .rws (.factory) false (.any) 8192 false,
  row 0x5300 0x530F 0 0 .dom .rws (.factory) false (.any) 33280 false ]

def tabProcess : List ObjRow := [
  row 0x6000 0x6000 1 1 .u16 .rw (.val 0) false (.mask 0x1F) 0 false,
  row 0x6000 0x6000 2 2 .f32 .rw (.val 0) false (.any) 0 false,
  row 0x6000 0x6000 3 3 .u32 .rw (.val 0) false (.any) 0 false,
  row 0x6100 0x6100 1 1 .u16 .ro (.val 0) false (.any) 0 false,
  row 0x6100 0x6100 2 2 .u64 .ro (.val 0) false (.any) 0 false,
  row 0x6100 0x6100 3 3 .f32 .ro (.val 0) false (.any) 0 false,
  row 0x6100 0x6100 4 4 .u32 .ro (.val 0) false (.any) 0 false,
  row 0x6100 0x6100 5 5 .u64 .ro (.val 0) false (.any) 0 false,
  row 0x6110 0x6110 1 1 .u64 .ro (.val 0) false (.any) 0 false,
  row 0x6110 0x6110 2 2 .u16 .ro (.val 0) false (.any) 0 false,
  row 0x6110 0x6110 3 3 .i16 .ro (.val 0) false (.any) 0 false,
  row 0x6110 0x6110 4 4 .i16 .ro (.val 0) false (.any) 0 false,
  row 0x6110 0x6110 5 5 .i16 .ro (.val 0) false (.any) 0 false,
  row 0x6110 0x6110 6 6 .u16 .ro (.val 0) false (.any) 0 false,
  row 0x6110 0x6110 7 7 .u16 .ro (.val 0) false (.any) 0 false,
  row 0x6111 0x6111 0 0 .u8 .ro (.val 64) false (.any) 0 false,
  row 0x6111 0x6111 1 64 .u16 .ro (.val 65535) false (.any) 0 false,
  row 0x6120 0x6120 1 1 .u64 .ro (.val 0) false (.any) 0 false,
  row 0x6120 0x6120 2 2 .u16 .ro (.val 0) false (.any) 0 false,
  row 0x6120 0x6120 3 3 .i32 .ro (.val 0) false (.any) 0 false,
  row 0x6120 0x6120 4 4 .i32 .ro (.val 0) false (.any) 0 false,
  row 0x6120 0x6120 5 5 .u16 .ro (.val 0) false (.any) 0 false ]

/-- The rows whose index range may hold `idx` (02 R33). -/
def tabFor (idx : Nat) : List ObjRow :=
  if idx ≤ 0x1FFF then tabComm
  else if idx ≤ 0x21FF then tabSystem
  else if idx ≤ 0x23FF then tabArray1 ++ tabArray2
  else if idx ≤ 0x25FF then tabMotion1 ++ tabMotion2
  else if idx ≤ 0x27FF then tabPipeline
  else if idx ≤ 0x29FF then tabOutputs1 ++ tabOutputs2
  else if idx ≤ 0x2BFF then tabKernels1 ++ tabKernels2
  else if idx ≤ 0x2CFF then tabTinker
  else if idx ≤ 0x2DFF then tabClocks
  else if idx ≤ 0x2FFF then tabMemory1 ++ tabMemory2
  else if idx ≤ 0x30FF then tabRings
  else if idx ≤ 0x31FF then tabLinks
  else if idx ≤ 0x32FF then tabEvents
  else if idx ≤ 0x33FF then tabPower
  else if idx ≤ 0x34FF then tabTwoWire
  else if idx ≤ 0x5FFF then tabDomains
  else if idx ≤ 0x6FFF then tabProcess
  else []

/-- The row of an implemented object and sub. -/
def findRow (idx sub : Nat) : Option ObjRow :=
  (tabFor idx).find? (fun r => r.lo ≤ idx && idx ≤ r.hi && r.s0 ≤ sub && sub ≤ r.s1)

/-- The highest sub of an object; none for an index that is not implemented. -/
def topSub (idx : Nat) : Option Nat :=
  match (tabFor idx).filter (fun r => r.lo ≤ idx && idx ≤ r.hi) with
  | [] => none
  | l => some (maxNat (l.map (·.s1)))

/-- Sub 00 of a record or array that its table does not list: the highest sub (00 R10). -/
def subZeroRow (idx top : Nat) : ObjRow := row idx idx 0 0 .u8 .ro (.val top) false .any 0 false

/-- The row of an object's sub, sub 00 of records included; none where the sub does not exist. -/
def rowOf (idx sub : Nat) : Option ObjRow :=
  match findRow idx sub, topSub idx with
  | some r, _ => some r
  | none, some top => if sub = 0 ∧ 0 < top then some (subZeroRow idx top) else none
  | none, none => none

/-- Whether an object has sub 00 only (00 R10). -/
def isSimple (idx : Nat) : Bool := topSub idx == some 0

def ObjRow.bytes (r : ObjRow) : Nat := if r.ty.bytes = 0 then r.len else r.ty.bytes

/-- A factory value as its type can hold it: a binary32 value is finite (00 R11). -/
def factoryOf (ty : Ty) (k : Nat) : Nat :=
  let v := Config.factoryValue k % 2 ^ (8 * ty.bytes)
  if ty == .f32 && !f32Finite v then v - 2 ^ 23 else v

def Dflt.value (d : Dflt) (ty : Ty) (idx sub s0 : Nat) : Nat :=
  match d with
  | .val n => n
  | .list l => l.getD (sub - s0) 0
  | .factory => factoryOf ty (key idx sub)
  | .mapCount => (mapDefault idx).length
  | .mapEntry => (mapDefault idx).getD (sub - 1) 0

/-- The default of an object's sub (02 R34), sub 00 of a record its highest sub; 0 for keys that name no
object. -/
def dfltOf (k : Nat) : Nat :=
  match findRow (k / 256) (k % 256) with
  | some r => r.dflt.value r.ty (k / 256) (k % 256) r.s0
  | none => if k % 256 = 0 then (topSub (k / 256)).getD 0 else 0

end Sys2Proof.Machine
end

