-- ==== Sys2Proof/Machine/State.lean ====
section
/-!
DEFINITION. The state of the module: every register, queue, buffer, counter, mode and pin the manual
names, as plain data. Objects of the dictionary that hold a value (settings, counters, statuses)
live in `Core.dict` under index × 256 + sub; what is no object has a field of its own. Field
defaults are the values right after reset; where the manual states none, the value is a DESIGN
CHOICE of log entry 3.
-/

namespace Sys2Proof.Machine

/-- Why the machine stops with a fault. -/
inductive Fault where
  /-- Raised by DRAM_REQUEST and CXL_MEM_REQUEST on an address outside the 32 GiB device address
  space, or outside the 31 GiB of HDM (11 R337, 13 R392). Safe: no such address exists. -/
  | noSuchAddress (a : Nat)
  deriving DecidableEq, Repr

/-- Why a command has no meaning. -/
inductive Refusal where
  /-- Raised only by an arm of `exec` whose command has not been modelled. Safe. -/
  | notModelled (mnemonic : String)
  deriving DecidableEq, Repr

/-- The eight modes (02 R37, 16 R461). -/
inductive Mode where
  | boot | standby | dusk | calibrate | web | sheet | service | compline
  deriving DecidableEq, Repr

/-- The two parties that own domains (02 R39). -/
inductive Party where
  | press | host
  deriving DecidableEq, Repr

/-- A mode transition in progress (02 R38), and whether a request started it (16 R464). -/
structure Transition where
  source : Mode
  target : Mode
  start  : Nat
  req    : Bool := true
  deriving DecidableEq, Repr

/-- A parameter bank (07 R216, 05 R174): values buffered since the last commit, and the values a
commit has latched that await application. -/
structure Bank where
  pend     : List (Nat × Nat) := []
  latch    : Option (List (Nat × Nat)) := none
  latchAt  : Nat := 0
  deriving DecidableEq, Repr

/-- A segmented SDO download in progress (02 R49, R514). -/
structure SegXfer where
  idx    : Nat
  sub    : Nat
  toggle : Bool
  data   : List Byte
  last   : Nat
  deriving DecidableEq, Repr

/-- The EtherCAT side (02 R52 to R61). -/
structure Ecat where
  al         : AlState := .init
  alLowSince : Nat := 0
  dcRunning  : Bool := false
  dcDiff     : Int := 0
  dcInSync   : Bool := false
  sync1On    : Bool := false
  waitSync1  : Option Nat := none
  xfer       : Option SegXfer := none
  alarmBits  : BitVec 64 := 0
  emLast     : List (Option Nat) := [none, none, none, none]
  txData     : List Byte := []
  cycleAt    : Option Nat := none
  deriving DecidableEq, Repr

/-- A mailbox domain transfer in parts (02 R65). -/
structure MbxXfer where
  idx  : Nat
  sub  : Nat
  data : List Byte
  deriving DecidableEq, Repr

/-- The host mailbox (02 R62 to R68): `req` is MBX_REQ, `taken` the request read at GO. -/
structure Mbx where
  busy      : Bool := false
  complete  : Bool := false
  aborted   : Bool := false
  abortLate : Bool := false
  overrun   : Bool := false
  tag       : Nat := 0
  irqEn     : Bool := false
  req       : List (Nat × Nat) := []
  taken     : List (Nat × Nat) := []
  rsp       : List Byte := []
  xfer      : Option MbxXfer := none
  deriving DecidableEq, Repr

/-- A transfer that its controller left in mid-byte or in an acknowledge slot (02 R74): when a line last changed, the bits
still to come, and the byte; an acknowledge is one bit 0. -/
structure TwRead where
  since : Nat
  bits  : Nat
  byte  : Byte
  deriving DecidableEq, Repr

/-- The two-wire target's hidden state (02 R71 to R75). -/
structure TwoWire where
  latch     : Bool := false
  testUntil : Option Nat := none
  cut       : Option TwRead := none
  deriving DecidableEq, Repr

/-- The reference buffer of one segment bank (04 R118 to R121). -/
structure RefBuf where
  enabledAt : Option Nat := none
  inWindow  : Bool := true
  settled   : Bool := false
  deriving DecidableEq, Repr

/-- Phases of a calibration step (04 R123). -/
inductive WalkPhase where
  | idle | settle | measure | verify | handback
  deriving DecidableEq, Repr

/-- The journeyman walk of one segment bank (04 R122 to R128), with its ping-pong turn (04 R106). `slotAt`,
`lapNs` and `lapN` measure the mean ramp-cycle period of a lap (04 R124); `waits` is a takeover or handback
that a SETTLE row defers (04 R117). The bank's place in its schedule: the row of the last slot (03 R85), the
black row that comes next and whether the job's first eight are in (03 R96, R97), whether the free slot
granted is used, and the row-timing set each stripe is converted with (04 R115). -/
structure ConvWalk where
  cur       : Nat := 0
  serving   : Bool := false
  phase     : WalkPhase := .idle
  cycles    : Nat := 0
  slotAt    : Option Nat := none
  lapNs     : Nat := 0
  lapN      : Nat := 0
  waits     : Bool := false
  failed    : Bool := false
  passed    : Bool := false
  stopped   : Bool := false
  permanent : Bool := false
  noSpare   : Bool := false
  jRetired  : Bool := false
  lastRow   : Nat := 0
  blackNext : Nat := 0
  darkFirst : Bool := false
  slotUsed  : Bool := true
  timing    : List Nat := [0, 0, 0, 0, 0, 0]
  pong      : Bool := false
  lastSet   : List Nat := [0, 0, 0, 0, 0, 0]
  found     : List ConvResult := []
  fresh     : List (Int × Nat) := []
  blind     : List Nat := []
  settleRows : List Nat := [0, 0, 0, 0, 0, 0]
  deriving DecidableEq, Repr

/-- Web-loop states (05 R144). -/
inductive LoopState where
  | idle | seeding | tracking | slewing | coasting | lost | stopped | overspeed | reversed
  deriving DecidableEq, Repr

/-- One encoder's decoder (05 R138 to R141), with the accepted levels of its lines A and B and the moment of its last
decoded count. -/
structure Enc where
  a      : Bool := false
  b      : Bool := false
  count  : Int := 0
  decodedAt : Option Nat := none
  lastAt : Option Nat := none
  off    : Rat := 0
  zCount : Option Int := none
  deriving DecidableEq, Repr

/-- The resolution of a row or exposure (05 R152). -/
inductive RowState where
  | pending | passed | released | failed
  deriving DecidableEq, Repr

/-- One committed exposure (05 R146 to R155): its number (low 32 bits), exposure b, target and
scheduled centre, the coordinate under the entry row, its storage node, and the window of its SEQ_EXPA level.
`resetAt` and `xferAt` are the edges of each stripe as the sequencer schedules them, `resets` and `xfers`
those that have come; `conv` names the rows converted, as (segment × 6 + stripe) × 64 + row; `dropped` counts
rows of the array that the tag check discarded before the exposure was resolved. -/
structure Expo where
  m        : Nat
  b        : Bool
  target   : Rat
  centre   : Nat
  entry    : Int
  sn2      : Bool := false
  tol      : Nat := 32
  lvl0     : Nat := 0
  lvl1     : Nat := 0
  coasted  : Bool := false
  state    : RowState := .pending
  overdue  : Bool := false
  tested   : Bool := false
  resetAt  : List Nat := [0, 0, 0, 0, 0, 0]
  xferAt   : List Nat := [0, 0, 0, 0, 0, 0]
  resets   : List (Option Nat) := [none, none, none, none, none, none]
  xfers    : List (Option Nat) := [none, none, none, none, none, none]
  conv     : List Nat := []
  dropped  : Nat := 0
  deriving DecidableEq, Repr

/-- A sheet (05 R169 to R171): its first coordinate and web line, its lines, the fraction of its
start, its trigger, its speed ratio, and whether its start instant has passed. -/
structure SheetRun where
  coord   : Int
  first   : Nat
  len     : Nat
  frac    : Nat := 0
  trigAt  : Nat
  ratio   : Option Rat := none
  open_   : Bool := true
  begun   : Bool := false
  deriving DecidableEq, Repr

/-- A velocimetry sample under way (05 R166): its bank, its exposure m, j0, and how many of its four rows have had
their slot. -/
structure VeloSamp where
  south : Bool
  m     : Nat
  j0    : Nat
  got   : Nat
  deriving DecidableEq, Repr

/-- The exposure and motion sequencer (05). `veloSamps` are the samples under way, and `slotRow` the row, as exposure
and row 47, that each bank's last free slot given to the velocimeter is for. Positions are in units of the web-line pitch, speeds in
pitches per nanosecond. Edges are kept as positions without their encoder's mapping offset. -/
structure Motion where
  loop      : LoopState := .idle
  xHat      : Rat := 0
  vHat      : Rat := 0
  tPrev     : Nat := 0
  slewStep  : Rat := 0
  slewLeft  : Nat := 0
  encInUse  : Nat := 0
  encs      : List Enc := [{}, {}]
  lastEdge  : Option (Rat × Nat) := none
  startRef  : Rat × Nat := (0, 0)
  seedEdge  : Option (Rat × Nat) := none
  noExpose  : Bool := false
  afterHold : Bool := false
  coastFrom : Nat := 0
  coastLine : Nat := 0
  overFirst : Nat := 0
  overspace : Bool := false
  slewRange : Bool := false
  highWater : Rat := 0
  nextM     : Int := 0
  nextB     : Bool := false
  sn2Next   : Bool := false
  lastCentre : Option Nat := none
  expos     : List Expo := []
  skipped   : List (Nat × Bool) := []
  uncertain : List (Nat × Nat) := []
  samples   : List (Nat × Rat) := []
  slipRun   : Nat := 0
  clearRun  : Nat := 0
  veloLog   : List (Nat × Bool) := []
  veloTurn  : List Bool := [true, true]
  veloSamps : List VeloSamp := []
  slotRow   : List (Nat × Bool) := [(0, false), (0, false)]
  slotFor   : List Nat := [0, 0]
  slotFrom  : List Nat := [0, 0]
  lastTrig  : Option Rat := none
  sheets    : List SheetRun := []
  burstLeft : Nat := 0
  burstAt   : Nat := 0
  burstNext : Nat := 0
  burstEnd  : Nat := 0
  cuts      : List (Nat × Rat) := []
  deriving DecidableEq, Repr

/-- The job (00_scope R16, 06 R183): `sheet` and `timed` are the way it counts its lines, taken at its
start; `again` is a start that waits for its end, with START_AT_SYNC1 or without. -/
structure Job where
  running  : Bool := false
  ending   : Option (Nat × Nat) := none
  startAt  : Nat := 0
  epochLen : Nat := 65536
  sheet    : Bool := false
  timed    : Bool := false
  lineLast : Option Nat := none
  again    : Option Bool := none
  deriving DecidableEq, Repr

/-- The parameters in force from one web line on (06 R178 to R180), with the timestamp of the start instant. -/
structure Gen where
  first  : Nat
  start  : Nat := 0
  dcFree : Bool := false
  g0     : Nat
  g1     : Nat
  gm     : Nat
  band   : Nat
  params : List (Nat × Nat)
  deriving DecidableEq, Repr

/-- The flags of a row's tag (05 R150). -/
structure RowFlags where
  provisional : Bool := false
  coasted  : Bool := false
  preJob   : Bool := false
  outside  : Bool := false
  settle   : Bool := false
  clockBad : Bool := false
  dcFree   : Bool := false
  deriving DecidableEq, Repr

/-- A row on its way over a segment link (14 R425): its tag and raw codes. -/
structure RowPkt where
  seg    : Nat
  south  : Bool
  kind   : RowKind
  coord  : Int
  frac   : Nat
  centre : Nat
  hold   : Nat
  flags  : RowFlags
  phys   : Option Nat
  pong   : Bool
  due    : Nat
  blind  : Bool := false
  raw    : List Nat := []
  deriving DecidableEq, Repr

/-- A row of a group after stages 1 to 3 (06 R184 to R192): the corrected codes y of its segment's
columns in 1/64 code, each with its saturation mark. -/
structure RowRec where
  line   : Nat
  frac   : Nat
  m      : Nat
  b      : Bool
  stripe : Nat
  row    : Nat
  seg    : Nat
  state  : RowState
  flags  : RowFlags
  blind  : Bool
  split  : Bool := false
  overdue : Bool := false
  centre : Nat := 0
  ys     : List (Int × Bool) := []
  bad    : List Nat := []
  deriving DecidableEq, Repr

/-- The six channel codes of one output column (06 R208). -/
structure Pix where
  l     : Nat
  a     : Nat
  b     : Nat
  nir   : Nat
  clr   : Nat
  gls   : Nat
  blind : Bool := false
  deriving DecidableEq, Repr

/-- What the pipeline tells the engines about a line (06 R203). -/
inductive Resolution where
  | pass | untested | replace
  deriving DecidableEq, Repr

/-- A web line after stage 10 (06 R202, R203). -/
structure LineRec where
  n       : Nat
  ctx     : Nat
  status  : Nat
  res     : Option Resolution
  once    : Bool
  conf    : Bool
  dc      : Nat
  cols    : List Pix
  deriving DecidableEq, Repr

/-- A velocimetry row as the velocimeter holds it: segment, bank, exposure, row 47 or row 0, raw codes
(05 R166). -/
structure VeloRow where
  seg   : Nat
  south : Bool
  m     : Nat
  row47 : Bool
  raw   : List Nat
  deriving DecidableEq, Repr

/-- Row-to-web-line pipeline (06): `lastRow` is the row that each segment bank's lane delivered last,
`skipping` the lanes that look for their expected row (06 R184), `darkHad` the banks whose first dark level of
the job is in force. -/
structure Pipe where
  inFlight  : List RowPkt := []
  rows      : List RowRec := []
  lines     : List LineRec := []
  nextLine  : Nat := 0
  nextRes   : Nat := 0
  gens      : List Gen := []
  curUnit   : Nat := 0
  lastRow   : List (Nat × Nat) := []
  skipping  : List Nat := []
  blackSum  : List (Nat × Nat × Int) := []
  darkPend  : List (Nat × Int) := []
  darkSets  : List Bool := [false, false]
  darkHad   : List Nat := []
  velo      : List VeloRow := []
  deriving DecidableEq, Repr

/-- A received auxiliary frame (07 R223 to R228): `run` is the numbering it belongs to, `start` the moment of its start,
`stamp` the start-of-frame timestamp. -/
structure AuxFrame where
  port    : Nat
  seqNo   : Nat
  run     : Nat := 0
  start   : Nat
  stamp   : Nat := 0
  dcFree  : Bool := false
  endT    : Nat := 0
  pos     : Option Rat
  gen     : Nat
  k       : Nat
  g       : Nat
  depth   : Nat := 8
  width   : Nat := 1280
  height  : Nat := 1024
  slot    : Bool
  trunc   : Bool := false
  lost    : Bool := false
  lenErr  : Nat := 0
  lines   : List (List Nat) := []
  count   : Nat := 0
  ended   : Bool := false
  side    : Bool := false
  statsDue : Bool
  mvDue   : Bool
  deriving DecidableEq, Repr

/-- One auxiliary port (07 R225, R228). -/
structure AuxPort where
  on      : Bool := false
  want    : Option Bool := none
  inFrame : Bool := false
  seqNo   : Nat := 0
  deriving DecidableEq, Repr

/-- The accumulator of an array statistics block (07 R229 to R233). -/
structure StatAcc where
  first   : Nat := 0
  lines   : Nat := 0
  motion  : Nat := 0
  posit   : Nat := 0
  blind   : Nat := 0
  settle  : Nat := 0
  dcFree  : Bool := false
  last    : Nat := 0
  hist    : List (Nat × Nat) := []
  zones   : List (Nat × List Nat) := []
  whole   : Bool := false
  deriving DecidableEq, Repr

/-- An array machine-vision frame being filled (07 R240), or one whose lines are discarded. -/
structure MvFrame where
  first  : Nat
  unit   : Nat := 0
  lines  : Nat := 0
  status : Nat := 0
  off    : Option Nat := none
  dc     : Nat := 0
  lost   : Bool := false
  dcFree : Bool := false
  deriving DecidableEq, Repr

/-- A picture in archive staging, or the GAP that stands for missing ones, with what its entry states of it
(07 R220, R238, R239). -/
structure Picture where
  gap    : Bool := false
  ctx    : Nat := 0
  run    : Nat := 0
  gen    : Nat := 0
  gm     : Nat := 0
  width  : Nat := 0
  comps  : Nat := 0
  depth  : Nat := 0
  rate   : Nat := 0
  first  : Nat
  last   : Nat
  lines  : Nat := 0
  status : Nat := 0
  dc     : Nat := 0
  short  : Bool := false
  bytes  : List Byte := []
  deriving DecidableEq, Repr

/-- Contexts, statistics and output streams (07). `run` counts the numberings begun, `oldSeqs` holds what is left of
earlier ones; `mvSkip` is the first line of a frame that was not started. -/
structure Ctx where
  run      : Nat := 0
  oldSeqs  : List (Nat × Nat) := []
  mvSkip   : List (Option Nat) := [none, none]
  ports    : List AuxPort := [{}, {}]
  frames   : List AuxFrame := []
  sideBusy : Option (Nat × Nat × Nat) := none
  acc      : List StatAcc := [{}, {}]
  due      : List (Nat × StatAcc) := []
  blkSeq   : List Nat := [0, 0, 0, 0]
  lastBand : List (Option Nat) := [none, none]
  disp     : List LineRec := []
  tileSeq  : List Nat := [0, 0]
  mv       : List (Option MvFrame) := [none, none]
  mvQ      : List (List LineRec) := [[], []]
  mvSeq    : List Nat := [0, 0, 0, 0]
  arch     : List LineRec := []
  archSkip : Bool := false
  staged   : List Picture := []
  picSeq   : List Nat := [0, 0]
  gapFrom  : Option Nat := none
  gapTo    : Nat := 0
  gapDc    : Nat := 0
  gapStatus : Nat := 0
  suspended : Bool := false
  deriving DecidableEq, Repr

/-- A region of a page (08 R268): its kind, whether it is also compared, its place in the page, its
patch count or ink classes, and its targets and tolerances. -/
structure Region where
  kind  : Nat
  comp  : Bool
  index : Nat
  line  : Nat
  lines : Nat
  col   : Nat
  width : Nat
  p1    : Nat
  p2    : Nat
  base  : Nat
  tol   : Nat
  dx    : Int
  dy    : Int
  deriving DecidableEq, Repr

/-- A page descriptor read and valid (08 R262, R263), with its profile and targets as read (08 R265).
`readAt` is the web line under the entry row at the read; `gapStart` and `start` are set by the
placement that 08 R263 gives. -/
structure Page where
  id      : Nat
  cookie  : Nat
  gap     : Nat
  len     : Nat
  absolute : Option Nat
  aligned : Bool
  raster  : Nat
  stride  : Nat
  format  : Nat
  hostSrc : Bool
  noComp  : Bool
  col     : Nat
  width   : Nat
  prof    : List Nat
  targets : List (Nat × Int × Int × Int)
  regions : List Region
  regDone : List Nat := []
  readAt  : Int
  nextReq : Nat := 0
  nextPlace : Nat := 0
  done    : Bool := false
  gapStart : Nat := 0
  start   : Nat := 0
  deriving DecidableEq, Repr

/-- A reference line on its way into the engines' windows (08 R266, R267): page number in the job, page
line, its state 1 requested of the host, 2 in place to be read, 3 in the windows, 4 missing, 5 late and still awaited
from the host, 6 awaited from the DRAM, 7 that and late; the web line under the entry row when it came, its place in the
staging ring, how many of its bytes are asked for and have come, whether a read of it failed, and its bytes. -/
structure RefLine where
  page   : Nat
  line   : Nat
  state  : Nat
  at_    : Int := 0
  slot   : Nat := 0
  asked  : Nat := 0
  got    : Nat := 0
  bad    : Bool := false
  data   : List Byte := []
  deriving DecidableEq, Repr

/-- What the engine of a slice holds of a web line (08 R248 to R256): whether a reference was late (1 no
descriptor, 2 no reference line), whether it came provisional, its status (1 UNKNOWN, 2 BLIND, 4
REF_LATE), its deviant pixels as column, class and score, the ΔE of its compared pixels, the
backgrounds after it, and each column's streak: length, declared, score. -/
structure SliceLine where
  slice  : Nat
  line   : Nat
  late   : Nat
  prov   : Bool
  status : Nat := 0
  devs   : List (Nat × Nat × Nat) := []
  des    : List (Nat × Rat) := []
  bgs    : List (Option (Rat × Rat × Rat)) := []
  streak : List (Nat × Bool × Nat) := []
  deriving DecidableEq, Repr

/-- The offset of a tile (08 R253), in 1/8 pixel: page, slice, tile number, offset, and the tile's last
web line. -/
structure TileOff where
  page  : Nat
  slice : Nat
  tile  : Nat
  dx    : Int
  dy    : Int
  last  : Nat
  deriving DecidableEq, Repr

/-- A blob, or a slice's part of one (08 R270, R272): `tail` are its columns in the line before the
newest, `head` those in the newest, `parts` its first column in each slice it meets. -/
structure Blob where
  cls    : Nat
  first  : Nat
  last   : Nat
  c0     : Nat
  c1     : Nat
  tail   : List Nat := []
  head   : List Nat := []
  area   : Nat
  score  : Nat
  flags  : Nat
  parts  : List (Nat × Nat)
  met    : Bool := false
  flow   : Bool := false
  deriving DecidableEq, Repr

/-- A record that waits for its place in the order of 08 R273. -/
structure Rec where
  first : Nat
  ext   : Nat
  c0    : Nat
  c1    : Nat
  cls   : Nat
  kern  : Nat
  score : Nat
  page  : Nat
  dc    : Nat
  ctx   : Nat
  flags : Nat
  deriving DecidableEq, Repr

/-- A run of slice-lines with one status (08 R271). -/
structure StatRun where
  s0    : Nat
  s1    : Nat
  first : Nat
  last  : Nat
  flag  : Nat
  split : Bool
  lines : Nat
  deriving DecidableEq, Repr

/-- A neighbour message under way (08 R272, R281): its label is the class of the blob; and whether the slice map named the journeyman when
it was sent. -/
structure Msg where
  fromS : Nat
  toS   : Nat
  line  : Nat
  label : Nat
  cls   : Nat
  first : Nat
  last  : Nat
  c0    : Nat
  c1    : Nat
  area  : Nat
  score : Nat
  toJ   : Bool
  deriving DecidableEq, Repr

/-- Retract reasons and confirmation (05 R158). -/
inductive Outcome where
  | confirm | motion | untested | timeout
  deriving DecidableEq, Repr

/-- An open provisional alarm (08 R274 to R276, 09 R304). -/
structure OpenAlarm where
  ch       : Nat
  num      : Nat
  first    : Nat
  line     : Nat
  deadline : Nat
  known    : Option Outcome
  early    : BitVec 16
  late     : BitVec 16
  deriving DecidableEq, Repr

/-- An alarm event on its way to the tinker engines. -/
structure BusWord where
  word    : Word32
  ch      : Nat
  targets : BitVec 16
  deriving DecidableEq, Repr

/-- The engine walk of one segment (08 R277 to R281): phase 0 between steps, 1 warm-up, 2 self-test, 3
warm-up back; the web line a warm-up began at; the slice that J serves; the engine it serves or served last; and the
last handover as slice and boundary line. -/
structure EngWalk where
  cur       : Nat := 0
  shown     : Nat := 0
  phase     : Nat := 0
  warmLine  : Nat := 0
  stepStart : Option Nat := none
  lapStart  : Nat := 0
  /-- A lap is complete, and its 65th step's period runs (08 R277). -/
  lapOver   : Bool := false
  stopped   : Bool := false
  permanent : Bool := false
  noSpare   : Bool := false
  jServes   : Option Nat := none
  handover  : Option (Nat × Nat) := none
  deriving DecidableEq, Repr

/-- Slice engines, pages, records and the alarm bus (08): `early` and `verdict` give each slice's next
line in its two stages, `seen` the first line not through the verdict stage in every slice, `front`
the first whose deviant pixels are not yet formed into blobs. -/
structure Eng where
  pages     : List Page := []
  pglAnchor : Bool := false
  /-- A descriptor whose region list is being read from the DRAM (08 R262, R266). -/
  pglWait   : Option (List Byte) := none
  refs      : List RefLine := []
  fetched   : Nat := 0
  early     : List (Nat × Nat) := []
  verdict   : List (Nat × Nat) := []
  lines     : List SliceLine := []
  tiles     : List TileOff := []
  parts     : List Blob := []
  vparts    : List Blob := []
  blobs     : List Blob := []
  seen      : Nat := 0
  front     : Nat := 0
  msgs      : List Msg := []
  edgeCuts  : List (Nat × Nat) := []
  runs      : List StatRun := []
  unknown   : List (Nat × Nat × Nat) := []
  recs      : List Rec := []
  recSeq    : Nat := 0
  alarmNum  : List (Nat × Nat) := []
  opens     : List OpenAlarm := []
  heldAl    : List (Nat × Nat) := []
  bus       : List BusWord := []
  walks     : List EngWalk := [{}, {}, {}, {}, {}, {}, {}, {}]
  deriving DecidableEq, Repr

/-- One tinker engine (09 R285 to R302). Input selection, output map, shift configuration and receive
source are objects of the dictionary; the LUT lies in region 4 of the protected memory. -/
structure Tk where
  st        : BitVec 6 := 0
  sr        : Word32 := 0
  cnt       : Nat := 0
  rx        : List Word32 := []
  tx        : List Word32 := []
  div       : Nat := 0
  divPend   : Option Nat := none
  running   : Bool := false
  t0        : Nat := 0
  next      : Nat := 0
  held      : Option Word64 := none
  recorded  : BitVec 6 := 0
  outs      : BitVec 8 := 0
  flag      : Bool := false
  flagAt    : Nat := 0
  rxOver    : Bool := false
  txUnder   : Bool := false
  alarmLost : Bool := false
  lostCh    : Nat := 0
  lutError  : Bool := false
  wrRefused : Bool := false
  stepStall : Bool := false
  inj       : Word64 := 0
  inDelay   : Bool := false
  starts    : List Nat := []
  stopAt    : Option Nat := none
  snap      : Option (Nat × BitVec 6) := none
  /-- The debugging commands that wait for their tick: its moment, and whether the command is INJECT (09 R300). -/
  dbg       : List (Nat × Bool) := []
  deriving DecidableEq, Repr

/-- The input side of a pin: the level that stands on it, since when, the level accepted before it, and whether the
module itself put the level there (09 R292). -/
structure PinIn where
  raw   : Bool := true
  acc   : Bool := true
  since : Nat := 0
  own   : Bool := false
  deriving DecidableEq, Repr

/-- A written route, or the enables (key 32), that waits for a quiet point since `at_` (09 R305). -/
structure RouteChange where
  at_   : Nat
  key   : Nat
  value : Word32
  deriving DecidableEq, Repr

/-- The tinker block, its pins and the alarm routes (09). -/
structure Tinker where
  engs    : List Tk := [{}, {}, {}, {}, {}, {}, {}, {}, {}, {}, {}, {}, {}, {}, {}, {}]
  ext     : BitVec 32 := 0xFFFFFFFF
  busTick : Option Nat := none
  withheld : Option Nat := none
  trig    : BitVec 4 := 0
  seqSheet : Option Nat := none
  seqReg  : Option Nat := none
  irq     : BitVec 16 := 0
  irqEn   : BitVec 16 := 0
  routes  : List Word32 := []
  routeEn : Word32 := 0
  changes  : List RouteChange := []
  autoDone : Bool := false
  deriving DecidableEq, Repr

/-- One PLL (10 R317 to R326). `st` is the state code of 10 R334; `band` is the one of 64 VCO bands on trial, or found. -/
structure Pll where
  st       : Nat := 0
  band     : Nat := 0
  step     : Nat := 0
  fails    : Nat := 0
  good     : Nat := 0
  locked   : Bool := false
  /-- A band of this search whose frequency a window found within ±500 ppm (10 R317, R318). -/
  okBand   : Option Nat := none
  /-- The band found is one that no window has measured yet (10 R317). -/
  guess    : Bool := false
  deriving DecidableEq, Repr

/-- Whether a segment's counting clock is held low, and when the last hold ended (04 R114). -/
structure ClkHold where
  held    : Bool := true
  lastEnd : Option Nat := none
  deriving DecidableEq, Repr

/-- Clock synthesis (10). -/
structure Clk where
  pllC     : Pll := {}
  pllT     : Pll := {}
  /-- REFIN is present: edges have come since boot time zero, and it is not lost (10 R323). -/
  refOn    : Bool := false
  /-- No edge arrives at the pin (10 R323). -/
  refLost  : Bool := false
  /-- A REFIN rising edge, as the tick edge beside it; the edges come every 40 ns (10 R321). -/
  refEdge  : Nat := 0
  /-- A REFIN rising edge at which the divider by 2 rises, every second edge from it (10 R313). -/
  divRise  : Nat := 0
  /-- The tick edge at which the outputs of PLL-T last started: index 0 of the ticks (10 R321). -/
  tickEdge : Nat := 0
  coastAt  : Option Nat := none
  phaseErr : Int := 0
  relock   : List Bool := [false, false]
  segs     : List ClkHold := [{}, {}, {}, {}, {}, {}, {}, {}]
  slewAt   : Nat := 0
  tHeld    : Bool := true
  heldAt   : Nat := 0
  /-- The accumulator of Distributed Clocks time at `dcAt`, in 1/65536 ns (10 R327). -/
  dcAcc    : Int := 0
  dcAt     : Nat := 0
  deriving DecidableEq, Repr

/-- A request waiting in a channel's queue (11 R344 to R347). -/
structure DramReq where
  id   : Nat
  port : Nat
  dpa  : Nat
  op   : DramOp
  arr  : Nat
  dl   : Nat
  deriving DecidableEq, Repr

/-- A rank migration in progress (11 R356): the copy pointer, and the bytes of its line where they are read and not yet
written, with the moment of the read. -/
structure Migration where
  src     : Nat
  dst     : Nat
  logical : Nat
  ptr     : Nat
  start   : Nat
  pend    : Option (Nat × List Byte) := none
  deriving DecidableEq, Repr

/-- Reads of the reference port that belong together (11 R344): a raster line, or without one a region list; the number
of the first request, how many there are, how many have come, their bytes, and how many came poisoned. -/
structure DramJob where
  line  : Option (Nat × Nat)
  addr  : Nat
  first : Nat
  count : Nat
  came  : Nat := 0
  bad   : Nat := 0
  data  : List Byte := []
  deriving DecidableEq, Repr

/-- The DRAM controller (11). -/
structure Dram where
  queue    : List DramReq := []
  nextId   : Nat := 0
  draining : List Bool := [false, false, false, false, false]
  openRow  : List (Nat × Nat × Nat) := []
  pred     : List (Nat × Nat) := []
  poison   : List Nat := []
  retiring : List (Nat × Nat) := []
  mig      : Option Migration := none
  winErr   : List Nat := [0, 0, 0, 0, 0, 0, 0, 0, 0, 0]
  mr4      : List Nat := [4, 4, 4, 4, 4, 4, 4, 4, 4, 4]
  mr4Over  : List Bool := [false, false, false, false, false, false, false, false, false, false]
  refBank  : List Nat := [0, 0, 0, 0, 0, 0, 0, 0, 0, 0]
  done     : List (Nat × Nat × Option (List Byte)) := []
  owed     : List (Nat × Nat) := []
  jobs     : List DramJob := []
  drift    : List Int := []
  winAt    : Nat := 0
  doneAt   : Option Nat := none
  deriving DecidableEq, Repr

/-- An entry of a merge buffer (12 R367). -/
structure Merge where
  port : Nat
  addr : Nat
  mask : BitVec 8
  data : Word64
  last : Nat
  deriving DecidableEq, Repr

/-- On-die memory and its protection (12). `words` lists the words that are not zero; an
uncorrectable word in `flips` has its stored bits inverted; `dark` names the bands whose dark tables the two
on-die slots hold (06 R212). Each sweep's position and the moment its lap began, by region × 2^32 + bank, with the
lap times not yet reported; `sweepFrom` is where first laps begin (12 R373). -/
structure Sram where
  words    : List (Nat × Nat) := []
  flips    : List (Nat × List Nat) := []
  init     : List (Nat × Nat) := []
  poison   : List Nat := []
  merge    : List Merge := []
  sweepPos : List (Nat × Nat) := []
  sweepAt  : List (Nat × Nat) := []
  sweepLaps : List (Nat × Nat) := []
  sweepFrom : Nat := 0
  lampPos  : Nat := 0
  lampAt   : Nat := 0
  rewrite  : List Nat := []
  own      : List Nat := []
  fills    : List Nat := []
  dark     : List Nat := []
  deriving DecidableEq, Repr

/-- One ring or payload area (13 R402 to R405); `old` counts the held entries of jobs before the last to start. -/
structure Ring where
  base   : Nat := 0
  wb     : Nat := 0
  size   : Nat := 0
  enable : Bool := false
  irqEn  : Bool := false
  irqCnt : Nat := 0
  irqUs  : Nat := 0
  prod   : Nat := 0
  cons   : Nat := 0
  dbErr  : Bool := false
  cfgErr : Bool := false
  held   : List (List Byte) := []
  old    : Nat := 0
  lastOut : List Byte := []
  unrep  : Nat := 0
  since  : Option Nat := none
  deriving DecidableEq, Repr

/-- A bias flip that runs (13 R395). -/
structure Flip where
  first  : Nat
  pages  : Nat
  toDev  : Bool
  deriving DecidableEq, Repr

/-- The CXL attachment (13). -/
structure Cxl where
  rings    : List Ring := [{}, {}, {}, {}, {}, {}, {}, {}, {}, {}]
  summary  : Word32 := 0
  evtMask  : Word32 := 0
  refused  : Nat := 0
  msix     : List (Nat × Nat) := []
  pba      : List Nat := []
  shadow   : List (Nat × Nat) := []
  half     : List (Nat × Nat) := []
  dlUp     : Bool := false
  perst    : Bool := true
  d0       : Bool := true
  master   : Bool := true
  recSince : Option Nat := none
  hostUp   : Bool := false
  downAt   : Nat := 0
  cxlMode  : Bool := true
  /-- The host has asked for D3hot, and reads are outstanding (13 R417). -/
  d3Want   : Bool := false
  /-- Doublewords that host software has written in configuration space and in BAR4 (13 R382, R388). -/
  cfg      : List (Nat × Nat) := []
  comp     : List (Nat × Nat) := []
  hdmOk    : Bool := false
  hdmErr   : Bool := false
  memActive : Bool := false
  devBias  : List Nat := []
  flip     : Option Flip := none
  cache    : List Nat := []
  ras      : List Nat := []
  drained  : Bool := true
  training : Bool := false
  deriving DecidableEq, Repr

/-- A test of a segment link: the moment to which its counts have been brought, its loop, pattern and lanes (14 R436). -/
structure LinkTest where
  at_     : Nat
  loop    : Nat
  pattern : Nat
  lanes   : Nat
  deriving DecidableEq, Repr

/-- One segment link (14). -/
structure Link where
  st       : Nat := 0
  rate     : Nat := 0
  spare    : Option Nat := some 8
  map      : List (Option Nat) := [some 0, some 1, some 2, some 3, some 4, some 5, some 6, some 7]
  dataSleep : Bool := true
  bcSleep  : Bool := true
  fails    : List Nat := [0, 0, 0, 0, 0, 0, 0, 0, 0]
  bip      : List (Nat × Nat) := List.replicate 9 (0, 0)
  failed   : List Bool := List.replicate 9 false
  lock     : BitVec 9 := 0
  slips    : List Nat := [0, 0, 0, 0, 0, 0, 0, 0, 0]
  attempts : Nat := 0
  since    : Nat := 0
  blindJob : Bool := false
  /-- The last status block acknowledged the last back-channel command (14 R425). -/
  ackOk    : Bool := true
  /-- The sensor end has missed a command, which its next status block reports (14 R427). -/
  missed   : Bool := false
  /-- The lane map and rate were in force before the present restart of PLL-T (14 R428). -/
  keep     : Bool := false
  /-- What a running test left, to which its end returns (14 R436). -/
  before   : Nat := 0
  /-- The test that runs on the segment (14 R436). -/
  test     : Option LinkTest := none
  deriving DecidableEq, Repr

/-- A loss run of the DFR partition (15 R451). -/
structure LossRun where
  first : Nat
  last  : Nat
  count : Nat
  dc    : Nat
  page  : Nat
  deriving DecidableEq, Repr

/-- The event log and the holding store's bookkeeping (15). -/
structure Ev where
  active   : List (Nat × Nat) := []
  hist     : List Nat := []
  loss     : Option LossRun := none
  /-- First web line of the last record that was not kept (15 R451). -/
  lostLast : Option Nat := none
  sumLost  : Option (Nat × Nat) := none
  notKept  : Nat := 0
  notStarted : List (Nat × Nat) := []
  hbFailed : Option Nat := none
  hotAt    : Nat := 0
  coolFrom : Option Nat := none
  maskOverflow : List Bool := [false, false, false, false, false, false]
  deriving DecidableEq, Repr

/-- A firmware slot (16 R467): state code of 3310h.02 and its image. -/
structure FwSlot where
  st    : Nat := 0
  image : FwImage := ⟨false, 0, 0, 0, false⟩
  deriving DecidableEq, Repr

/-- A journal entry (16 R482): sequence, key of the object, value or bytes. -/
structure JEntry where
  seqNo : Nat
  key   : Nat
  value : Nat
  bytes : List Byte
  deriving DecidableEq, Repr

/-- A journal region (16 R483). -/
structure JRegion where
  gen     : Nat := 0
  snapSeq : Nat := 0
  snap    : List JEntry := []
  entries : List JEntry := []
  sealed  : Bool := false
  erases  : Nat := 0
  deriving DecidableEq, Repr

/-- The COMPLINE area in flash (16 R479 to R481): the trip's time and cause, the last confirmed web line,
the web line that its event names, the record's bytes, the journal entries saved, and how many were not. -/
structure ComplineRec where
  at_     : Nat
  byPin   : Bool
  line    : Nat
  web     : Nat
  bytes   : List Byte
  journal : List JEntry
  left    : Nat
  sealed  : Bool
  deriving DecidableEq, Repr

/-- What outlives a reset: the configuration flash (16 R470). -/
structure Nv where
  slots    : List FwSlot := [{ st := 4, image := ⟨true, 2, 0, 0, true⟩ }, {}]
  regions  : List JRegion := [{ sealed := true }, {}]
  nextJ    : Nat := 1
  area     : Option ComplineRec := none
  erased   : Bool := true
  cal      : List (Nat × Nat) := []
  factory  : Bool := false
  kernel   : List Nat := []
  hbRecord : Option Nat := none
  migSwap  : Option (Nat × Nat) := none
  deriving DecidableEq, Repr

/-- Power, boot, COMPLINE, journal and thermal state (16); `duskWrites` are the writes of RW objects in DUSK that wait
for Dawn to reach their blocks, by key, the last of each (R472). -/
structure Power where
  bootZero : Nat := 0
  straps   : BitVec 5 := 0
  running  : Nat := 0
  stdbyAt  : Option Nat := none
  fwRuns   : Bool := false
  heldReset : Bool := false
  resetDue : Bool := false
  pendJ    : List JEntry := []
  compact  : Nat := 0
  compactS : Nat := 0
  decided  : Nat := 0
  band     : Option Nat := some 0
  candAt   : Option Nat := none
  lastDec  : Nat := 0
  bandPend : Option (Nat × Nat) := none
  replica  : List Nat := []
  foeBusy  : Option Nat := none
  duskWrites : List (Nat × Nat) := []
  /-- The shutdown at Tj 105 °C has been taken, and Tj has not fallen below since (15 R457). -/
  hot      : Bool := false
  deriving DecidableEq, Repr

/-- The levels last put on the watched pads (16 R492, R500). -/
structure Pads where
  live  : Bool := false
  valid : Bool := false
  faultN : Bool := false
  lockA : Bool := false
  tkOuts : Option (List (BitVec 8)) := none
  /-- The input side of the press-side pins, and the moment it was last brought up to (09 R292). -/
  pins   : List PinIn := []
  pinsAt : Nat := 0
  /-- The low pulse of LOCK_A in this REFIN period, ps; none while it is held low (10 R322). -/
  lockPulse : Option Nat := none
  deriving DecidableEq, Repr

/-- What the module puts out, in order: the model's own log of its interfaces (log entry 4). -/
inductive Out where
  | sdo (idx sub abort : Nat) (data : List Byte)
  | info (data : List Byte)
  | mailboxError (svc : MbxService)
  | al (st : AlState) (status : Nat)
  | foe (err abort : Nat)
  | emergency (data : List Byte)
  | txpdo (data : List Byte)
  | answer (orig : Orig) (idx sub abort : Nat)
  | hostWrite (addr : Nat) (data : List Byte)
  | msix (v : Nat)
  | twoWire (ack : Bool)
  | twRead (data : List Byte)
  | sdaReleased
  | alarm (w : Word32)
  | bar (v : Option Nat)
  | cfgRetry
  | dramData (port id : Nat) (data : Option (List Byte))
  | busError (port : Nat)
  | internalError
  | hostRead (addr len : Nat)
  | snoopAnswer (addr : Nat)
  | backChannel (seg : Nat) (cmd : Nat)
  | seqPulse (code : Nat)
  deriving DecidableEq, Repr

/-- Everything but the queue of commands, the clock and the DRAM's contents. -/
structure Core where
  dict   : List (Nat × Nat) := []
  doms   : List (Nat × Nat) := []
  banks  : List Bank := [{}, {}, {}, {}, {}]
  owners : List Party := [.press, .press, .press, .press, .host, .host, .host, .host, .host, .host]
  mode   : Mode := .boot
  trans  : Option Transition := none
  ec     : Ecat := {}
  mbx    : Mbx := {}
  tw     : TwoWire := {}
  refs   : List RefBuf := [{}, {}, {}, {}, {}, {}, {}, {}, {}, {}, {}, {}, {}, {}, {}, {}]
  walks  : List ConvWalk := [{}, {}, {}, {}, {}, {}, {}, {}, {}, {}, {}, {}, {}, {}, {}, {}]
  calRun : Bool := false
  calAt  : Nat := 0
  calFailed : Option (List (Nat × Nat)) := none
  calEnd : Option Nat := none
  calPend : List (Nat × Nat) := []
  calSaving : Bool := false
  calKeep : Bool := false
  mot    : Motion := {}
  job    : Job := {}
  pipe   : Pipe := {}
  ctx    : Ctx := {}
  eng    : Eng := {}
  tk     : Tinker := {}
  clk    : Clk := {}
  dram   : Dram := {}
  sram   : Sram := {}
  cxl    : Cxl := {}
  links  : List Link := [{}, {}, {}, {}, {}, {}, {}, {}]
  ev     : Ev := {}
  nv     : Nv := {}
  pw     : Power := {}
  pads   : Pads := {}
  free   : Nat := 0
  out    : List Out := []
  deriving DecidableEq, Repr

/-- The machine: the commands that wait (first in, first out), the time in nanoseconds, the contents
of the module DRAM as (address, byte) pairs in canonical form, and everything else. -/
structure State where
  pending : List Instr := []
  now     : Nat := 0
  mem     : List Host.Cell := []
  core    : Core := {}
  deriving DecidableEq, Repr

/-- The machine right after reset, before BOOT has run (16 R465, R492). -/
def State.reset : State := {}

end Sys2Proof.Machine
end

