-- ==== Sys2Proof/Machine/Ops.lean ====
section
/-!
DEFINITION. The operations that every family shares: object values and counters, the module's own
outputs, fresh free values, host rings with the holding store behind them (13 R402 to R416,
15 R449 to R452), interrupts, and events with their emergency messages (15 R445 to R448, 02 R61).
-/

namespace Sys2Proof.Machine

/-! ### Objects and counters -/

/-- The stored value of an object: the value in force, as the bits of its type. -/
def Core.obj (c : Core) (idx sub : Nat) : Nat := sget dfltOf c.dict (key idx sub)

def Core.flag (c : Core) (idx sub : Nat) : Bool := c.obj idx sub % 2 == 1

def Core.objI (c : Core) (w idx sub : Nat) : Int := toSigned w (c.obj idx sub)

def Core.objF (c : Core) (idx sub : Nat) : Rat := ofF32 (c.obj idx sub)

def Core.put (idx sub v : Nat) (c : Core) : Core :=
  { c with dict := sput dfltOf c.dict (key idx sub) v }

/-- An object returned to its default. -/
def Core.unput (idx sub : Nat) (c : Core) : Core := c.put idx sub (dfltOf (key idx sub))

def Core.unputs (idx : Nat) (subs : List Nat) (c : Core) : Core :=
  subs.foldl (fun c s => c.unput idx s) c

/-- Bits of an object's type; 32 where the object is not listed. -/
def objBits (idx sub : Nat) : Nat :=
  match findRow idx sub with
  | some r => 8 * r.ty.bytes
  | none => 32

/-- A counter raised by `n`; past its width the manual states no value. -/
def Core.bumpBy (idx sub n : Nat) (c : Core) : Core :=
  let v := c.obj idx sub + n
  let w := objBits idx sub
  if v < 2 ^ w then c.put idx sub v
  else c.put idx sub (Config.counterAfterFull (key idx sub * 2 ^ 65 + v) % 2 ^ w)

def Core.bump (idx sub : Nat) (c : Core) : Core := c.bumpBy idx sub 1

/-- A maximum kept in an object. -/
def Core.raiseTo (idx sub v : Nat) (c : Core) : Core :=
  if c.obj idx sub < v then c.put idx sub v else c

/-- A fresh free value. -/
def Core.fresh (c : Core) : Nat × Core := (Config.free c.free, { c with free := c.free + 1 })

def Core.emit (o : Out) (c : Core) : Core := { c with out := c.out ++ [o] }

/-- A step that acts only under its condition. -/
def Core.when (b : Bool) (f : Core → Core) (c : Core) : Core := if b then f c else c

/-- The bytes of a domain object. -/
def domDflt (_ : Nat) : Nat := 256

/-- Key of byte `off` of the domain object `idx`. -/
def domKey (idx off : Nat) : Nat := idx * 2 ^ 32 + off

/-- The identity entry of slice `n` of a remap table (06 R204). -/
def remapIdentity (n : Nat) : List Byte := leBytes 4 (n * 0x400000) ++ leBytes 4 0x40000000 ++ zeros 8

/-- Bits of a defect map's entry that are not reserved (06 R189). -/
def defectMask : List Byte := [0xFF, 0x7F, 0xFF, 0x81]

/-- Byte `off` of a domain object: written, or the factory's where it has factory content, or the
default the object's table states (04 R132, 06 R204, R213); reserved bits read 0 (00 R5). -/
def Core.domByte (c : Core) (idx off : Nat) : Byte :=
  let v := sget domDflt c.doms (domKey idx off)
  if v < 256 then BitVec.ofNat 8 v
  else if idx = 0x5101 || idx = 0x2A52 || idx = 0x2A01 || idx = 0x3340 then 0
  else if 0x2C80 ≤ idx && idx ≤ 0x2C8F then 0
  else if 0x5210 ≤ idx && idx ≤ 0x5215 then (remapIdentity (off / 16)).getD (off % 16) 0
  else if idx = 0x5100 then Config.factoryByte idx off &&& defectMask.getD (off % 4) 0
  else Config.factoryByte idx off

def Core.domWord (c : Core) (idx off n : Nat) : Nat :=
  leNat ((List.range n).map (fun i => c.domByte idx (off + i)))

def Core.putDom (idx off : Nat) (data : List Byte) (c : Core) : Core :=
  { c with doms := sputs domDflt c.doms (domKey idx off) (data.map BitVec.toNat) }

/-- A domain object back at its factory or default content. -/
def Core.clearDom (idx : Nat) (c : Core) : Core :=
  { c with doms := c.doms.filter (fun p => p.1 / 2 ^ 32 != idx) }

/-! ### Sub-records -/

def Core.mapMot (f : Motion → Motion) (c : Core) : Core := { c with mot := f c.mot }
def Core.mapJob (f : Job → Job) (c : Core) : Core := { c with job := f c.job }
def Core.mapPipe (f : Pipe → Pipe) (c : Core) : Core := { c with pipe := f c.pipe }
def Core.mapCtx (f : Ctx → Ctx) (c : Core) : Core := { c with ctx := f c.ctx }
def Core.mapEng (f : Eng → Eng) (c : Core) : Core := { c with eng := f c.eng }
def Core.mapTk (f : Tinker → Tinker) (c : Core) : Core := { c with tk := f c.tk }
def Core.mapClk (f : Clk → Clk) (c : Core) : Core := { c with clk := f c.clk }
def Core.mapDram (f : Dram → Dram) (c : Core) : Core := { c with dram := f c.dram }
def Core.mapSram (f : Sram → Sram) (c : Core) : Core := { c with sram := f c.sram }
def Core.mapCxl (f : Cxl → Cxl) (c : Core) : Core := { c with cxl := f c.cxl }
def Core.mapEv (f : Ev → Ev) (c : Core) : Core := { c with ev := f c.ev }
def Core.mapNv (f : Nv → Nv) (c : Core) : Core := { c with nv := f c.nv }
def Core.mapPw (f : Power → Power) (c : Core) : Core := { c with pw := f c.pw }
def Core.mapEc (f : Ecat → Ecat) (c : Core) : Core := { c with ec := f c.ec }
def Core.mapMbx (f : Mbx → Mbx) (c : Core) : Core := { c with mbx := f c.mbx }
def Core.mapTw (f : TwoWire → TwoWire) (c : Core) : Core := { c with tw := f c.tw }

def Core.ring (c : Core) (i : Nat) : Ring := c.cxl.rings.getD i {}
def Core.mapRing (i : Nat) (f : Ring → Ring) (c : Core) : Core :=
  c.mapCxl (fun x => { x with rings := modAt x.rings i f })
def Core.link (c : Core) (s : Nat) : Link := c.links.getD s {}
def Core.mapLink (s : Nat) (f : Link → Link) (c : Core) : Core :=
  { c with links := modAt c.links s f }
def Core.walk (c : Core) (q : Nat) : ConvWalk := c.walks.getD q {}
def Core.mapWalk (q : Nat) (f : ConvWalk → ConvWalk) (c : Core) : Core :=
  { c with walks := modAt c.walks q f }
def Core.eng1 (c : Core) (n : Nat) : Tk := c.tk.engs.getD n {}
def Core.mapEng1 (n : Nat) (f : Tk → Tk) (c : Core) : Core :=
  c.mapTk (fun t => { t with engs := modAt t.engs n f })

/-! ### Segments, modes and time -/

/-- The minimum row period of a depth, ns (01 R20). -/
def rowPeriod (depth : Nat) : Nat := if depth = 12 then 800 else if depth = 10 then 400 else 300

/-- Whether segment `s` is enabled (03 R99). -/
def Core.segOn (c : Core) (s : Nat) : Bool := (c.obj 0x2201 0).testBit s

def Core.segsOn (c : Core) : List Nat := (List.range 8).filter c.segOn

def Mode.code : Mode → Nat
  | .boot => 0 | .standby => 1 | .dusk => 2 | .calibrate => 3
  | .web => 4 | .sheet => 5 | .service => 6 | .compline => 7

def Mode.ofCode : Nat → Option Mode
  | 0 => some .boot | 1 => some .standby | 2 => some .dusk | 3 => some .calibrate
  | 4 => some .web | 5 => some .sheet | 6 => some .service | 7 => some .compline
  | _ => none

/-- WEB or SHEET. -/
def Core.inspecting (c : Core) : Bool := c.mode == .web || c.mode == .sheet

/-- The logic's blocks are powered and run: not in COMPLINE, DUSK or before BOOT has started. -/
def Core.blocksOn (c : Core) : Bool := c.mode != .compline && c.mode != .dusk && c.pw.fwRuns

/-- DC_FREE of blocks and records: the module does not report DC in sync (00 R13, 02 R54). -/
def Core.dcFree (c : Core) : Bool := !c.ec.dcInSync

/-- The moment up to which ticks have advanced the accumulator: none occurs while PLL-T is held (10 R327). -/
def Core.dcMoment (c : Core) (a : Nat) : Nat := if c.clk.tHeld then min a (max c.clk.heldAt c.clk.dcAt) else a

/-- The rate correction ε in force, in 0.001 ppm (10 R327). -/
def Core.dcEps (c : Core) : Int := c.objI 32 0x2D20 1

/-- The accumulator at the moment `a`, in 1/65536 ns: it advances by 1 + ε, and between ticks it is interpolated
(10 R327). -/
def Core.dcTime (c : Core) (a : Nat) : Int :=
  c.clk.dcAcc + ((c.dcMoment a : Int) - c.clk.dcAt) * 65536 * (1000000000 + c.dcEps) / 1000000000

/-- The timestamp of the moment `a` (00 R13): the copy of Distributed Clocks time while Distributed Clocks run; else the
module's own time, counted from the reset (log entry 123). -/
def Core.stamp (c : Core) (a : Nat) : Nat :=
  if c.ec.dcRunning then (c.dcTime a / 65536).toNat else a - c.pw.bootZero

/-- The moment at which the timestamp `v` is due. -/
def Core.moment (c : Core) (v : Nat) : Nat :=
  if c.ec.dcRunning then
    (c.clk.dcAt + -(-(((v : Int) * 65536 - c.clk.dcAcc) * 1000000000) / (65536 * (1000000000 + c.dcEps)))).toNat
  else v + c.pw.bootZero

/-- The accumulator loaded with the slave controller's system time at the moment `a`, which is the clock of the commands
(10 R327; DESIGN CHOICE, log entry 1). -/
def Core.dcLoad (a : Nat) (c : Core) : Core := { c with clk := { c.clk with dcAcc := (a : Int) * 65536, dcAt := a } }

/-- The accumulator brought to `now`, before its rate changes (10 R327). -/
def Core.dcBase (now : Nat) (c : Core) : Core := { c with clk := { c.clk with dcAcc := c.dcTime now, dcAt := now } }

/-- The web-line number an event carries: the last web line issued, 0 outside a job (02 R61). -/
def Core.lineNow (c : Core) : Nat := if c.job.running then c.obj 0x2414 3 else 0

/-! ### Interrupts and the event summary -/

/-- A vector's mask bit in its MSI-X table entry; the table's reset value is the mask set. -/
def Core.msixMasked (c : Core) (v : Nat) : Bool := ((alook c.cxl.msix (4 * v + 3)).getD 1) % 2 == 1

/-- The device issues requests on the link: not while the host link is down, and not in DUSK (13 R418). -/
def Core.sends (c : Core) : Bool := c.cxl.hostUp && c.mode != .dusk

/-- MSI-X vector `v` raised (13 R415): a message where the function may send and the vector is not masked;
else it is pending in the PBA. -/
def Core.msix (v : Nat) (c : Core) : Core :=
  if c.msixMasked v || !c.sends then
    c.mapCxl (fun x => { x with pba := if x.pba.contains v then x.pba else x.pba ++ [v] })
  else c.emit (.msix v)

/-- The pending messages of vectors that are not masked are sent. -/
def Core.msixPending (c : Core) : Core :=
  if !c.sends then c
  else
    let sent := c.cxl.pba.filter (fun v => !c.msixMasked v)
    let c := c.mapCxl (fun x => { x with pba := x.pba.filter (fun v => !sent.contains v) })
    sent.foldl (fun c v => c.emit (.msix v)) c

/-- An EVT_SUMMARY bit set; vector 11 when it was clear and its mask bit is set (13 R388, R415). -/
def Core.summary (b : Nat) (c : Core) : Core :=
  if c.cxl.summary.getLsbD b then c
  else
    let c := c.mapCxl (fun x => { x with summary := x.summary ||| BitVec.ofNat 32 (2 ^ b) })
    if c.cxl.evtMask.getLsbD b then c.msix 11 else c

/-- A payload wait or drop (13 R409, R415). -/
def Core.payloadWait (c : Core) : Core := (c.summary 6).msix 15

/-- A BAR write that is not taken (13 R388). -/
def Core.barRefused (c : Core) : Core :=
  c.mapCxl (fun x => { x with refused := (x.refused + 1) % 2 ^ 32 })

/-- A write of RINGS' registers that is not taken (13 R391, R405). -/
def Core.ringRefused (c : Core) : Core := c.barRefused.summary 3

/-! ### Rings and the holding store -/

/-- Bytes of one unit of ring or payload area `i` (13 R402). -/
def unitSize (i : Nat) : Nat := [32, 16, 16384, 64, 32, 64, 64, 64, 64, 64].getD i 64

/-- The vector of ring `i` (13 R415). -/
def ringVector (i : Nat) : Nat := i + 1

/-- Producer minus consumer modulo 2^32 (13 R404). -/
def Ring.used (r : Ring) : Nat := (r.prod + 2 ^ 32 - r.cons) % 2 ^ 32

def Ring.full (r : Ring) : Bool := r.used == 2 ^ r.size

/-- An entry can be written to ring `i` now (13 R407, R418). -/
def Core.ringOpen (c : Core) (i : Nat) : Bool :=
  c.cxl.hostUp && (c.ring i).enable && !(c.ring i).full && c.mode != .dusk && c.mode != .compline

/-- The index up to which every unit of ring or area `i` has been issued: PMV's frames in progress have taken their space
and are still being written (13 R406, R409). -/
def Core.issuedIdx (c : Core) (i : Nat) : Nat :=
  let r := c.ring i
  if i = 6 then r.cons
  else if i = 7 then
    (r.prod + 2 ^ 32 - maxNat ((c.ctx.mv.filterMap id).map (fun f =>
      if f.off.isSome then (r.prod + 2 ^ 32 - f.unit) % 2 ^ 32 else 0))) % 2 ^ 32
  else r.prod

/-- The 8 bytes of a writeback (13 R404). -/
def Core.writebackBytes (c : Core) (i : Nat) : List Byte :=
  leBytes 4 (c.issuedIdx i) ++
    leBytes 4 (c.ring i).held.length

/-- The writeback of ring `i` and its vector under R416, after one new unit. -/
def Core.writeback (now i : Nat) (c : Core) : Core :=
  let c := c.emit (.hostWrite (c.ring i).wb (c.writebackBytes i))
  let r := c.ring i
  if !r.irqEn || 7 ≤ i then c
  else if (r.irqCnt = 0 ∧ r.irqUs = 0) ∨ (r.irqCnt ≠ 0 ∧ r.irqCnt ≤ r.unrep + 1) then
    (c.mapRing i (fun r => { r with unrep := 0, since := none })).msix (ringVector i)
  else c.mapRing i (fun r => { r with
    unrep := r.unrep + 1, since := some (r.since.getD now) })

/-- The entry written to its slot, then the writeback (13 R404, R406). -/
def Core.produce (now i : Nat) (e : List Byte) (c : Core) : Core :=
  let r := c.ring i
  let c := c.emit (.hostWrite (r.base + (r.prod % 2 ^ r.size) * unitSize i) e)
  let c := c.mapRing i (fun r => { r with prod := (r.prod + 1) % 2 ^ 32, lastOut := e })
  let c := if i = 0 then c.put 0x6100 4 (leAt e 20 4) else c
  c.writeback now i

/-- The entry placed in the holding store (13 R407). -/
def Core.hold (i : Nat) (e : List Byte) (c : Core) : Core :=
  ((c.mapRing i (fun r => { r with held := r.held ++ [e] })).mapCxl (fun x => { x with
    drained := false })).summary 1

/-- Entries of the holding store's partition for ring `i` (15 R449). -/
def partCap (i : Nat) : Nat := [4194304, 4194304, 16384, 131072, 131072, 49152].getD i 0

/-- The reserve within the partition (15 R449). -/
def partReserve (i : Nat) : Nat := [2048, 0, 0, 0, 8192, 0].getD i 0

/-- An entry of ring `i` issued: written to its ring, or held behind what is held (13 R407). -/
def Core.issue (now i : Nat) (e : List Byte) (c : Core) : Core :=
  if c.ringOpen i && (c.ring i).held.isEmpty then c.produce now i e else c.hold i e

/-- Slots of ring `i` that are reserved: a machine-vision frame in progress has its descriptor's (15 R449). -/
def Core.slotsTaken (c : Core) (i : Nat) : Nat := if i = 3 then (c.ctx.mv.filter Option.isSome).length else 0

/-- Whether the next entry of ring `i` finds a slot outside the reserve, or in it (15 R449). -/
def Core.slotFree (c : Core) (i : Nat) (inReserve : Bool) : Bool :=
  (c.ringOpen i && (c.ring i).held.isEmpty) ||
    (c.ring i).held.length + c.slotsTaken i < partCap i - (if inReserve then 0 else partReserve i)

/-! ### Events -/

/-- Class of an event code (15 R446). -/
def evClass (code : Nat) : Nat :=
  if [0x0101, 0x0102, 0x0103, 0x0111, 0x0116, 0x0120, 0x0122, 0x0125, 0x0127, 0x012A].contains code
  then 0
  else if code < 0x1000 || code = 0x5051 then 1
  else if [0x3110, 0x4230, 0x5031, 0x5043, 0x5044, 0x5052, 0x5062, 0x5063, 0x5070, 0x5071,
      0x6010].contains code then 3
  else 2

/-- The further bit of 1001h that an event sets (15 R446). -/
def evBit (code : Nat) : Option Nat :=
  if code = 0x3110 || code = 0x3120 then some 2
  else if 0x4000 ≤ code && code < 0x5000 then some 3
  else if (0x5000 ≤ code && code < 0x6000) || (0x7000 ≤ code && code < 0x8000) then some 7
  else if 0x8000 ≤ code then some 4
  else none

/-- Codes of class 0 and 1 that use EVR's reserve (15 R452). -/
def evKept (code : Nat) : Bool := [0x0110, 0x0111, 0x0112, 0x0113, 0x0114].contains code

/-- Events that stand for a condition (15 R447). -/
def evCondition (code : Nat) : Bool :=
  [0x5060, 0x5061, 0x4210, 0x4220, 0x7310, 0x7311, 0x7312, 0x8110, 0x8120, 0x3120].contains code

/-- The error register 1001h (02 R36, 15 R446). -/
def Core.errorRegister (c : Core) : Nat :=
  c.ev.active.foldl (fun r p => match evBit p.1 with
    | some b => r ||| 1 ||| 2 ^ b
    | none => r ||| 1) 0

/-- FAULT_N by the active events alone (15 R447). -/
def Core.faultActive (c : Core) : Bool := c.ev.active.any (fun p => evClass p.1 == 3)

/-- The event entry of 13 R413 without its CRC. -/
def Core.eventBytes (c : Core) (code dc : Nat) (data : List Byte) : List Byte :=
  leBytes 2 code ++ leBytes 1 (evClass code) ++ leBytes 1 (b2n c.dcFree) ++
    leBytes 4 (c.obj 0x3200 2) ++ leBytes 8 dc ++ slice data 0 14

/-- An event's way to EVR (15 R445, R448, R452). -/
def Core.toEvr (now code dc : Nat) (data : List Byte) (c : Core) : Core :=
  if evClass code = 0 ∧ c.flag 0x3200 5 = false then c
  else if c.slotFree 4 (evClass code ≥ 2 || evKept code) then
    let e := withCrc16 (c.eventBytes code dc data)
    (c.put 0x3200 2 ((c.obj 0x3200 2 + 1) % 2 ^ 32)).issue now 4 e
  else (c.bump 0x3200 7).mapEv (fun v => { v with notKept := v.notKept + 1 })

/-- AL states in which emergency messages are sent (02 R61). -/
def Core.emergencyOn (c : Core) : Bool :=
  c.ec.al == .preop || c.ec.al == .safeop || c.ec.al == .op

/-- The 8 bytes of an emergency message (02 R61). -/
def Core.emergencyBytes (c : Core) (code cls seg line : Nat) : List Byte :=
  leBytes 2 code ++ leBytes 1 c.errorRegister ++ leBytes 1 cls ++ leBytes 1 seg ++ leBytes 3 line

/-- An emergency message for an error event, at most one per 1 ms and class (02 R61). -/
def Core.emergency (now code cls seg line : Nat) (c : Core) : Core :=
  let recent := match c.ec.emLast.getD cls none with
    | some l => now < l + 1000000
    | none => false
  if recent || !c.emergencyOn then c.bump 0x3200 4
  else ((c.emit (.emergency (c.emergencyBytes code cls seg line))).bump 0x3200 3).mapEc
    (fun e => { e with emLast := modAt e.emLast cls (fun _ => some now) })

/-- The message of code 0000h when the last active error ceases (02 R61, 15 R447). -/
def Core.emergencyClear (had : Bool) (c : Core) : Core :=
  if had && c.ev.active.isEmpty then
    if c.emergencyOn then
      (c.emit (.emergency (c.emergencyBytes 0 0 0xFF (c.lineNow % 2 ^ 24)))).bump 0x3200 3
    else c.bump 0x3200 4
  else c

/-- An event with its 14 data bytes, its timestamp, segment and the unit it names (15 R445 to R448). -/
def Core.eventRaw (now code dc seg unit : Nat) (data : List Byte) (c : Core) : Core :=
  if c.mode = .compline then c else
  let cls := evClass code
  let c := c.bump 0x3200 1
  let c := if cls ≥ 2 then c.mapEv (fun v => { v with active := v.active ++ [(code, unit)] }) else c
  let c := c.toEvr now code dc data
  if cls ≥ 2 then
    (c.mapEv (fun v => { v with
      hist := ((code + seg * 2 ^ 16 + cls * 2 ^ 24) :: v.hist).take 16 })).emergency
      now code cls seg (c.lineNow % 2 ^ 24)
  else c

/-- An event whose data bytes are the web line, the segment and bytes 23 to 29 (13 R413). -/
def Core.event (now code seg : Nat) (tail : List Byte) (c : Core) : Core :=
  c.eventRaw now code (c.stamp now) seg (leAt tail 0 1)
    (leBytes 6 c.lineNow ++ leBytes 1 seg ++ slice tail 0 7)

def Core.active (c : Core) (code unit : Nat) : Bool := c.ev.active.contains (code, unit)

/-- A condition begins: issued once while it is active (15 R447). `unit` is 0 for a condition kept
for the module. -/
def Core.condOn (now code seg unit : Nat) (tail : List Byte) (c : Core) : Core :=
  if c.active code unit then c
  else c.eventRaw now code (c.stamp now) seg unit (leBytes 6 c.lineNow ++ leBytes 1 seg ++ slice tail 0 7)

/-- A condition ceases (15 R447). -/
def Core.condOff (code unit : Nat) (c : Core) : Core :=
  let had := !c.ev.active.isEmpty
  (c.mapEv (fun v => { v with active := v.active.filter (fun p => p != (code, unit)) })).emergencyClear
    had

/-- Acknowledgement by FAULT_ACK or 3200h.06: every event that is no condition ceases, except
ALARM_LOST of an engine that still shows it (15 R447, 09 R306). -/
def Core.acknowledge (c : Core) : Core :=
  let had := !c.ev.active.isEmpty
  (c.mapEv (fun v => { v with active := v.active.filter (fun p =>
    evCondition p.1 || (p.1 == 0x5071 && (c.eng1 p.2).alarmLost)) })).emergencyClear had

/-- CONTROL_IGNORED (02 R59). -/
def Core.controlIgnored (now bit abort : Nat) (c : Core) : Core :=
  c.event now 0x0104 0xFF (leBytes 1 bit ++ leBytes 4 abort)

/-! ### Tinker pins that other families drive -/

/-- REGISTER_EVENT: the event, status-word bit [5], and the register input of the tinker block
(05 R162, 02 R60). -/
def Core.registerEvent (now first : Nat) (j : Int) (count : Nat) (c : Core) : Core :=
  let c := c.eventRaw now 0x0110 (c.stamp now) 0xFF 0
    (leBytes 6 first ++ leBytes 4 (ofSigned 32 j) ++ leBytes 4 count)
  c.put 0x6100 1 (c.obj 0x6100 1 ^^^ 0x20)

end Sys2Proof.Machine
end

