-- ==== Sys2Proof/Machine/Pins.lean ====
section
/-!
DEFINITION. The tinker engines at a moment (09 R295 to R298) and the press-side pins (09 R292 to R294). Times are
nanoseconds; a tick is 4 ns.
-/

namespace Sys2Proof.Machine

/-- SAFE is in force (02 R72). -/
def Core.safe (c : Core) : Bool := c.tw.latch || (c.obj 0x6000 1).testBit 3

/-! ### The engines at a moment (09 R295 to R298) -/

/-- The tick of a moment. -/
def tickOf (t : Nat) : Nat := t / 4

/-- The first tick boundary after `t`. -/
def nextTick (t : Nat) : Nat := (t / 4 + 1) * 4

/-- One engine stopped: a delay or a stall is abandoned (09 R298). -/
def stopOne (e : Tk) : Tk :=
  if e.running then { e with running := false, recorded := e.st, held := none, inDelay := false } else e

/-- One engine of a synchronous start at its T0 (09 R295, R296, R301). -/
def startOne (resume : Bool) (t0 : Nat) (e : Tk) : Tk :=
  let e := { e with div := e.divPend.getD e.div, divPend := none, t0 := t0, next := t0, inDelay := false }
  if e.running then e
  else
    let keep := resume && e.recorded != 0
    { e with
      running := true, held := none, st := if resume then e.recorded else 0,
      flag := e.flag && keep, flagAt := if e.flag && !keep then tickOf t0 else e.flagAt }

/-- A stop that is due by `lim` (09 R298). -/
def Tk.stopDue (lim : Nat) (e : Tk) : Tk := match e.stopAt with
  | some a => if a ≤ lim then { stopOne e with stopAt := none } else e
  | none => e

/-- The starts that are due by `now`, the earliest first; a stop due by then comes before (09 R296). -/
def Tk.startsDue (now : Nat) (resume : Bool) : List Nat → Tk → Tk
  | [], e => { e with starts := [] }
  | t0 :: l, e =>
    if t0 ≤ now then Tk.startsDue now resume l (startOne resume t0 (e.stopDue t0))
    else { e with starts := t0 :: l }

/-- The engine as it stands at `now`. -/
def Tk.seen (now : Nat) (resume : Bool) (e : Tk) : Tk := (e.startsDue now resume e.starts).stopDue now

/-- The engine as a step at `now` finds it: a stop at this tick's boundary comes after the step (09 R298). -/
def Tk.seenStep (now : Nat) (resume : Bool) (e : Tk) : Tk :=
  let e := e.startsDue now resume e.starts
  if tickOf now = 0 then e else e.stopDue (4 * tickOf now - 1)

/-- The latest moment at which a tick has occurred: none while PLL-T is held (09 R297). -/
def Core.tickNow (c : Core) (now : Nat) : Nat := if c.clk.tHeld then min now c.clk.heldAt else now

/-- Bit `n` of the resume mask (09 R296). -/
def Core.resumes (c : Core) (n : Nat) : Bool := (c.obj 0x2C00 4).testBit n

/-- Engine `n` as it stands at `now`: starts and stops act at their ticks (09 R296, R298). -/
def Core.tkAt (c : Core) (now n : Nat) : Tk := (c.eng1 n).seen (c.tickNow now) (c.resumes n)

/-! ### Pins (09 R292 to R294) -/

inductive Drive where
  | low | high | released
  deriving DecidableEq, Repr

def Core.pinCfg (c : Core) (p : Nat) : Nat := c.obj 0x2C30 (p + 1)

/-- The map byte of output bit `j` of engine `n` (09 R293). -/
def Core.mapByte (c : Core) (n j : Nat) : Nat := field (c.obj (0x2C10 + n) 2) (8 * j + 7) (8 * j)

/-- The engine and output bit that drive pin `p`. -/
def Core.pinDriver (c : Core) (p : Nat) : Option (Nat × Nat) :=
  ((List.range 16).flatMap (fun n => (List.range 8).map (fun j => (n, j)))).find? (fun d =>
    let b := c.mapByte d.1 d.2
    b.testBit 7 && b % 32 == p)

def safeDrive (cfg : Nat) : Drive := match field cfg 4 3 with
  | 1 => .low
  | 2 => .high
  | _ => .released

/-- The output bits of engine `n` as pins without the ALARM role show them: while SAFE is in force, as they
stood when it came into force (09 R294). -/
def Core.plainOuts (c : Core) (n : Nat) : BitVec 8 := match c.pads.tkOuts with
  | some l => l.getD n 0
  | none => (c.eng1 n).outs

/-- What the module drives on pin `p` (09 R292 to R294). An unmapped output without the ALARM role whose
safe-state field says high is released (DESIGN CHOICE, log 146). -/
def Core.pinDrive (c : Core) (now p : Nat) : Drive :=
  let cfg := c.pinCfg p
  let drive := fun (b : Bool) => if !b then Drive.low else if cfg % 4 == 1 then .high else .released
  if c.mode == .boot || !c.pw.fwRuns || cfg % 4 == 0 then .released
  else match c.pinDriver p with
    | none =>
      if !cfg.testBit 2 && safeDrive cfg == .high then .released else safeDrive cfg
    | some (n, j) =>
      if !cfg.testBit 2 then drive ((c.plainOuts n).getLsbD j)
      else if c.safe || c.mode == .compline || c.mode == .dusk || !(c.tkAt now n).running || c.clk.tHeld ||
          c.ev.hbFailed.isSome then safeDrive cfg
      else drive ((c.eng1 n).outs.getLsbD j)

/-- The level of pin `p`; a released pin has the level that stands on it from outside. -/
def Core.pinLevel (c : Core) (now p : Nat) : Bool := match c.pinDrive now p with
  | .low => false
  | .high => true
  | .released => c.tk.ext.getLsbD p

/-- The levels of all pins (TK_PINS, 2C31h.00). -/
def Core.pinLevels (c : Core) (now : Nat) : Nat :=
  sumNat ((List.range 32).map (fun p => if c.pinLevel now p then 2 ^ p else 0))

/-- The input filter's level: accepted after standing for the ticks of [7:5] (09 R292). A level that the module itself
has put on its pin is sampled in the next tick at the earliest, as a flag is (09 R291; DEDUCED, log entry 166). -/
def PinIn.level (now ticks : Nat) (i : PinIn) : Bool :=
  if tickOf i.since + (if i.own then max 1 ticks else ticks) ≤ tickOf now then i.raw else i.acc

/-- A pin that shows `l` from `now` on, put there by the module itself or not. -/
def PinIn.note (own : Bool) (now ticks : Nat) (l : Bool) (i : PinIn) : PinIn :=
  if l == i.raw then i else { raw := l, acc := i.level now ticks, since := now, own }

def Core.pinIn (c : Core) (p : Nat) : PinIn := c.pads.pins.getD p {}

def Core.pinFilter (c : Core) (p : Nat) : Nat := field (c.pinCfg p) 7 5

/-- What the filters make of every pin: its level now stands since `since` (09 R292). -/
def Core.pinsNote (own : Bool) (since : Nat) (c : Core) : Core :=
  let seen := max since c.pads.pinsAt
  { c with pads := { c.pads with
      pins := (List.range 32).map (fun p => (c.pinIn p).note own since (c.pinFilter p) (c.pinLevel seen p))
      pinsAt := seen } }

/-- A moment among the moments before, in ascending order and once. -/
def timeInsert (t : Nat) : List Nat → List Nat
  | [] => [t]
  | a :: l => if t < a then t :: a :: l else if t = a then a :: l else a :: timeInsert t l

/-- The moments up to `lim` at which engines start, stop or are debugged (09 R296, R298, R300). -/
def Core.tkTimes (c : Core) (lim : Nat) : List Nat :=
  ((c.tk.engs.flatMap (fun e => e.starts ++ e.stopAt.toList ++ e.dbg.map (·.1))).filter (· ≤ lim)).foldr timeInsert []

/-- The module's own changes of its pins up to `now`: at the starts and stops since they were last noted, and by the
effect of a command at `now`. -/
def Core.pinsFollow (now : Nat) (c : Core) : Core :=
  let ts := (c.tkTimes (c.tickNow now)).filter (c.pads.pinsAt < ·)
  (ts.foldl (fun c t => c.pinsNote true t) c).pinsNote true now

end Sys2Proof.Machine
end

