-- ==== Sys2Proof/Machine/Flags.lean ====
section
/-!
DEFINITION. The statuses that the module computes from its state: INSPECT_VALID (01 R30), the
watched pads (16 R491, R492, 10 R322), the status word (02 R60), the mode state (02 R37) and the
two-wire register (02 R70); and the frame of every command, which moves the clock, applies the
command's effect and lets the pads follow.
-/

namespace Sys2Proof.Machine

/-- The code of a web-loop state in 2410h.00 (05 R144). -/
def LoopState.code : LoopState → Nat
  | .idle => 0 | .seeding => 1 | .tracking => 2 | .slewing => 3 | .coasting => 4
  | .lost => 5 | .stopped => 6 | .overspeed => 7 | .reversed => 8

/-- The states that R30 takes as tracking (05 R144); COASTING ends at its limit by LOST. -/
def LoopState.tracks : LoopState → Bool
  | .seeding | .tracking | .slewing | .coasting | .stopped | .reversed => true
  | .idle | .lost | .overspeed => false

/-- Whether a PLL counts as locked (10 R324). -/
def Pll.lockedFor30 (p : Pll) : Bool := p.st == 3 || p.st == 4 || p.st == 5

/-- Readings of the sixteen sensor-die sensors, 0.01 °C (16 R494). -/
def Core.sensorTemps (c : Core) : List Int :=
  (List.range 16).map (fun i => c.objI 16 0x3330 (i + 1))

def Core.logicTemps (c : Core) : List Int :=
  (List.range 8).map (fun i => c.objI 16 0x3330 (i + 0x11))

def maxInt (l : List Int) : Int := match l with
  | [] => 0
  | a :: l => l.foldl max a

/-- The segment banks of enabled segments: q = 2 s + b, b = 1 for the south bank (04). -/
def Core.banksOn (c : Core) : List Nat := (List.range 16).filter (fun q => c.segOn (q / 2))

/-- The reference buffers are settled and in their window (04 R119, R121). -/
def Core.refsSettled (c : Core) : Bool :=
  c.banksOn.all (fun q => (c.refs.getD q {}).settled && (c.refs.getD q {}).inWindow)

/-- The control processor's firmware is healthy (16 R491). -/
def Core.healthy (c : Core) : Bool :=
  c.pw.fwRuns && c.ev.hbFailed.isNone && c.mode != .compline && !c.pw.heldReset

/-- INSPECT_VALID (01 R30). -/
def Core.inspectValid (c : Core) : Bool :=
  c.inspecting && c.job.running &&
  c.clk.pllC.lockedFor30 && c.clk.pllT.lockedFor30 &&
  (c.mode != .web || c.mot.loop.tracks) &&
  c.sensorTemps.all (fun x => decide (x ≤ 6000)) &&
  c.refsSettled && c.healthy

/-- LIVE toggles (16 R491, 02 R71). -/
def Core.liveOn (c : Core) : Bool := c.healthy && c.tw.testUntil.isNone

/-- FAULT_N is asserted: by an active class 3 event, in reset and BOOT before the firmware's
self-check, in COMPLINE, and on a heartbeat failure (15 R447, R456, 16 R492). -/
def Core.faultN (c : Core) : Bool := !c.healthy || c.faultActive

/-- LOCK_A is not held low (10 R322, 16 R492). -/
def Core.lockA (c : Core) : Bool :=
  let ok := fun (p : Pll) => p.st == 3 || p.st == 5
  ok c.clk.pllC && ok c.clk.pllT && c.blocksOn

/-- The phase-detector error of a PLL in the REFIN period of `now`, ps: what is left of the slew's, or one below 1.0 ns
while locked, of which no more is stated (10 R318, R322, R325). -/
def Core.pfdError (c : Core) (now p : Nat) (x : Pll) : Nat :=
  if x.st = 5 then c.clk.phaseErr.natAbs - (now - c.clk.slewAt) / 10
  else Config.pfdError p (now / 40) % 1000

/-- The low pulse of LOCK_A in the REFIN period of `now`: the larger error of the two PLLs; none while it is held low
throughout (10 R322). -/
def Core.lockPulse (c : Core) (now : Nat) : Option Nat :=
  if c.lockA then some (max (c.pfdError now 0 c.clk.pllC) (c.pfdError now 1 c.clk.pllT)) else none

/-- Temperature high: a sensor-die temperature in band B4's range, or Tj at or above 100 °C
(02 R60). -/
def Core.tempHigh (c : Core) : Bool :=
  c.sensorTemps.any (fun x => decide (5500 ≤ x)) || decide (10000 ≤ maxInt c.logicTemps)

/-- The status word 6100h.01 (02 R60); bit [5] is the stored toggle. Whether bit [4], web loop coasting, stays set
once coasting has become LOST is not stated: it stays set here (DESIGN CHOICE, log entry 124). -/
def Core.statusWord (c : Core) : Nat :=
  b2n c.inspectValid + 2 * b2n c.job.running + 4 * b2n c.faultN + 8 * b2n c.safe +
  16 * b2n (c.mot.loop == .coasting || c.mot.loop == .lost) + (c.obj 0x6100 1 &&& 0x20) +
  64 * b2n c.cxl.hostUp + 128 * b2n c.tempHigh + 256 * c.mode.code +
  4096 * b2n c.ec.dcInSync + 8192 * b2n c.trans.isSome

/-- The mode state 2001h.00 (02 R37). -/
def Core.modeState (c : Core) : Nat :=
  c.mode.code + 64 * b2n c.trans.isSome + 128 * b2n c.inspectValid

/-- The mode class of the two-wire register (02 R70). -/
def Mode.twClass : Mode → Nat
  | .boot | .compline => 0
  | .standby | .dusk => 1
  | .calibrate | .service => 2
  | .web | .sheet => 3

/-- The two-wire register (02 R70). -/
def Core.twRegister (c : Core) : Nat :=
  b2n c.cxl.hostUp + 2 * b2n c.inspectValid + 4 * b2n c.tempHigh +
  8 * b2n (c.flag 0x3340 1) + 16 * c.mode.twClass + 64 * b2n c.faultN + 128 * b2n c.liveOn

/-- The watched pads follow the state; MSI-X 13 at an assertion of FAULT_N and 14 at a change of
INSPECT_VALID (13 R415). `Pads.faultN` is the level of the pad, low while asserted. While SAFE is in force
`Pads.tkOuts` keeps the engines' outputs of its onset, which the pins without the ALARM role go on showing (09 R294);
the input side of the press-side pins takes the levels that the module now drives (09 R292). -/
def Core.settle (now : Nat) (c : Core) : Core :=
  let old := c.pads
  let p : Pads := { old with
    live := c.liveOn, valid := c.inspectValid, faultN := !c.faultN, lockA := c.lockA, lockPulse := c.lockPulse now,
    tkOuts := if c.safe then some (old.tkOuts.getD (c.tk.engs.map (·.outs))) else none }
  let c := ({ c with pads := p } : Core).pinsFollow now
  let c := c.when (old.faultN && !p.faultN) (Core.msix 13)
  c.when (old.valid != p.valid) (Core.msix 14)

/-- The frame of a command at time `t`: time moves on (it never moves back), the effect is applied,
the pads follow. -/
def State.run (t : Nat) (f : Nat → Core → Core) (s : State) : Host.Outcome State Fault Refusal :=
  .next { s with now := max s.now t, core := (f (max s.now t) s.core).settle (max s.now t) }

/-- The frame of a command that also acts on the DRAM's contents. -/
def State.runMem (t : Nat) (f : Nat → List Host.Cell → Core → List Host.Cell × Core) (s : State) :
    Host.Outcome State Fault Refusal :=
  let r := f (max s.now t) s.mem s.core
  .next { s with now := max s.now t, mem := r.1, core := r.2.settle (max s.now t) }

end Sys2Proof.Machine
end

