-- ==== Sys2Proof/Machine/Words.lean ====
section
/-!
DEFINITION. Words of the on-die memory (12 R363 to R366, R374, R378): addresses, the errors that stand in a word, the
poison table, where tables, buffers and the storage of objects lie, and what a requester's read or whole write of
words does.
-/

namespace Sys2Proof.Machine

/-! ### Addresses (12 R363, R374) -/

/-- The region code and the byte offset of an SRAM address. -/
def sramRegion (a : Nat) : Nat := a / 2 ^ 28
def sramOff (a : Nat) : Nat := a % 2 ^ 28
def sramAddr (region off : Nat) : Nat := region * 2 ^ 28 + off

/-- Bytes of a region (12 R363). -/
def regionBytes (r : Nat) : Nat := [68157440, 58720256, 6291456, 1048576, 131072].getD r 0

/-- An address names a word of its region. -/
def inRegion (a : Nat) : Bool := sramOff a < regionBytes (sramRegion a)

/-- Where the parts of an engine's local store begin, in the order of the table of 08 R247 (log entry 145): kernel code
and constants from 0 on, the image line window (48 lines of 960 bytes), the reference window (96 lines of 240 bytes),
the kernel state, the queues and the scratch; and the bytes of its spill area. -/
def imageWindow : Nat := 32768
def refWindow : Nat := 78848
def kernelState : Nat := 101888
def queueStore : Nat := 118272
def scratchStore : Nat := 126464
def spillBytes : Nat := 122880

/-- Bytes of the privileged arrays (12 R374). -/
def tableBytes : Nat := 1370112
def dictBytes : Nat := 393216
def routeBytes : Nat := 4096

/-- The word belongs to a privileged array (12 R374). -/
def privileged (a : Nat) : Bool :=
  let o := sramOff a
  (sramRegion a == 2 && Config.tableBase ≤ o && o < Config.tableBase + tableBytes) ||
  (sramRegion a == 3 && ((Config.dictBase ≤ o && o < Config.dictBase + dictBytes) ||
    (Config.routeBase ≤ o && o < Config.routeBase + routeBytes)))

/-- The word of the i-th read in the lamplighter's lap: the arrays table by table, ascending. A lap has 221 184 reads,
and the three arrays of 12 R374 hold 220 928 words: the other 256 read none (12 R375; log entry 158). -/
def privWord (i : Nat) : Option Nat :=
  if 8 * i < tableBytes then some (sramAddr 2 (Config.tableBase + 8 * i))
  else if 8 * i < tableBytes + dictBytes then some (sramAddr 3 (Config.dictBase + (8 * i - tableBytes)))
  else if 8 * i < tableBytes + dictBytes + routeBytes then
    some (sramAddr 3 (Config.routeBase + (8 * i - tableBytes - dictBytes)))
  else none

def privWords : Nat := 221184

/-- The 4 KiB page of an address. -/
def pageOf (a : Nat) : Nat := a / 4096

/-- The page's initialised bit (12 R370). -/
def Sram.isInit (m : Sram) (page : Nat) : Bool := m.init.any (fun r => r.1 ≤ page && page ≤ r.2)

/-! ### Words -/

def wordDflt (_ : Nat) : Nat := 0

/-- The data of a word; the tinker LUTs of region 4 are the objects 2C80h to 2C8Fh (09 R285). -/
def Core.sramData (c : Core) (a : Nat) : Nat :=
  if sramRegion a = 4 then c.domWord (0x2C80 + sramOff a / 0x2000) (sramOff a % 0x2000) 8
  else sget wordDflt c.sram.words (a / 8)

def Core.sramPut (a v : Nat) (c : Core) : Core :=
  if sramRegion a = 4 then c.putDom (0x2C80 + sramOff a / 0x2000) (sramOff a % 0x2000) (leBytes 8 v)
  else c.mapSram (fun m => { m with words := sput wordDflt m.words (a / 8) v })

/-- How many bits of a word stand inverted. -/
def Core.flipsAt (c : Core) (a : Nat) : Nat :=
  ((c.sram.flips.find? (fun p => p.1 == a)).map (fun p => p.2.length)).getD 0

/-- A read of the word by a requester is a bus error: it is listed, or its error cannot be corrected (12 R366). -/
def Core.wordBad (c : Core) (a : Nat) : Bool := c.sram.poison.contains a || decide (2 ≤ c.flipsAt a)

/-- What a read of the word finds: the injected bits and what befell it (12 R364). -/
def Core.wordFound (c : Core) (a : Nat) (found : WordOutcome) : WordOutcome :=
  let k := c.flipsAt a
  match found with
  | .clean => if k = 0 then .clean else if k = 1 then .corrected else .uncorrectable
  | .corrected => if k = 0 then .corrected else .uncorrectable
  | .uncorrectable => .uncorrectable

def Core.dropFlips (a : Nat) (c : Core) : Core :=
  c.mapSram (fun m => { m with flips := m.flips.filter (fun p => p.1 != a) })

/-- The poison table's count object follows the table (12 R381). -/
def Core.poisonCount (c : Core) : Core := c.put 0x2F00 4 c.sram.poison.length

/-- A correctable error: corrected, written back, counted (12 R365). -/
def Core.sramCorrect (a : Nat) (c : Core) : Core :=
  (((c.dropFlips a).bump 0x2F00 1).bump 0x2F01 (sramRegion a + 1)).put 0x2F00 5 a

/-- The page of a privileged word waits for its rewrite from the shadow (12 R376). -/
def Core.wantRewrite (a : Nat) (c : Core) : Core :=
  if privileged a && !c.sram.rewrite.contains (pageOf a) then
    c.mapSram (fun m => { m with rewrite := m.rewrite ++ [pageOf a] })
  else c

/-- An uncorrectable word: poisoned while the table has room, counted and logged; its stored bits stay as they are,
so a word that finds no room is found again (12 R366). -/
def Core.sramPoison (now a : Nat) (c : Core) : Core :=
  let c := c.mapSram (fun m => { m with
    flips := if m.flips.any (fun p => p.1 == a && decide (2 ≤ p.2.length)) then m.flips
      else m.flips.filter (fun p => p.1 != a) ++ [(a, [0, 1])] })
  let c := ((c.bump 0x2F00 2).bump 0x2F02 (sramRegion a + 1)).put 0x2F00 5 a
  let c := c.event now 0x5050 0xFF (leBytes 4 a)
  let c :=
    if c.sram.poison.length < 1024 then
      let c := (c.mapSram (fun m => { m with poison := m.poison ++ [a] })).poisonCount
      c.when (c.sram.poison.length == 1024) (Core.event now 0x5043 0xFF (leBytes 1 1))
    else c
  c.wantRewrite a

/-! ### Where a bus error goes (12 R378) -/

/-- Address of one of the two on-die dark tables (06 R212). -/
def darkAddr (k : Nat) : Nat :=
  sramAddr 2 (Config.tableBase + Config.objectOff (key (0x5110 + k) 0) / 8 * 8)

/-- Where a table of region 2 lies. A dark table is on-die in its slot only; the other bands' lie in
device-reserved DRAM (06 R212). -/
def Core.tableAt (c : Core) (idx : Nat) : Option Nat :=
  if 0x5110 ≤ idx && idx ≤ 0x5114 then (c.sram.dark.idxOf? (idx - 0x5110)).map darkAddr
  else some (sramAddr 2 (Config.tableBase + Config.objectOff (key idx 0) / 8 * 8))

/-- A read of the word that holds byte `off` of a table in force is a bus error (12 R374, R378). -/
def Core.tableBad (c : Core) (idx off : Nat) : Bool := match c.tableAt idx with
  | some a => c.wordBad (a + off / 8 * 8)
  | none => false

/-- The bits an armed injection inverts (12 R379). -/
def Core.injectBits (c : Core) : List Nat :=
  [c.obj 0x2F30 2, c.obj 0x2F30 3].filter (fun b => b < 72)

/-- The words with an error, and those listed. -/
def Core.faulty (c : Core) : List Nat := (c.sram.poison ++ c.sram.flips.map (·.1)).dedup

/-- The words that `mine` picks are written whole: new check bits, listed no longer, and the armed injection where its
address is among them (12 R366, R379). -/
def Core.wordsWritten (mine : Nat → Bool) (c : Core) : Core :=
  let c := c.when (c.faulty.any mine) (fun c => (c.mapSram (fun m => { m with
    poison := m.poison.filter (fun a => !mine a), flips := m.flips.filter (fun p => !mine p.1) })).poisonCount)
  if c.flag 0x2F30 4 && mine (c.obj 0x2F30 1) then
    (c.mapSram (fun m => { m with flips := m.flips ++ [(c.obj 0x2F30 1, c.injectBits.dedup)] })).put 0x2F30 4 0
  else c

/-- The words of `n` bytes from address `a` on. -/
def inSpan (a n : Nat) (p : Nat) : Bool := decide (a ≤ p) && decide (p < a + n)

/-- A band's dark table copied on-die, into the slot that does not hold the band in force (06 R212, 16 R488). -/
def Core.darkCopy (band : Nat) (c : Core) : Core :=
  let d := c.sram.dark
  if d.contains band then c
  else
    let k := if d.length < 2 then d.length else if d.headD 0 = c.obj 0x3330 0x1B then 1 else 0
    (c.mapSram (fun m => { m with
      dark := if k = d.length then d ++ [band] else modAt d k (fun _ => band) })).wordsWritten (inSpan (darkAddr k) 196608)

/-- The word that holds a channel's routes is poisoned: its events are held (12 R378). -/
def routeWord (ch : Nat) : Nat := sramAddr 3 (Config.routeBase + Config.routeOff ch / 8 * 8)

def Core.routeBad (c : Core) (ch : Nat) : Bool := c.wordBad (routeWord ch)

/-- A word is one that a use of a buffer reads (12 R363). -/
def bufferWord (kind i j a : Nat) : Bool :=
  sramRegion a == min kind 2 && !privileged a && Config.sramUse a kind i j

/-- A use of a buffer meets a bus error (12 R363, R378). -/
def Core.bufferBad (c : Core) (kind i j : Nat) : Bool :=
  c.faulty.any (fun a => bufferWord kind i j a && c.wordBad a)

/-- As a web line passes, the words that the buffers write whole are poisoned no longer, and the pages
that they first write are initialised (12 R366, R371). -/
def Core.refill (n : Nat) (c : Core) : Core :=
  (c.mapSram (fun m => { m with
    init := m.init ++ ((Config.pagesUsed n).filter (fun p =>
      decide (p < 3 * 2 ^ 16) && !m.isInit p)).map (fun p => (p, p)) })).wordsWritten (fun a =>
    !privileged a && decide (sramRegion a < 3) && Config.sramRefill a n)

/-- A read of a word by anyone: the errors it finds are handled; answers whether the data are good
(12 R365, R366, R370). -/
def Core.sramLook (now a : Nat) (found : WordOutcome) (c : Core) : Bool × Core :=
  if !c.sram.isInit (pageOf a) then (false, c.bump 0x2F00 3)
  else if c.sram.poison.contains a then (false, c)
  else match c.wordFound a found with
    | .clean => (true, c)
    | .corrected => (true, c.sramCorrect a)
    | .uncorrectable => (false, c.sramPoison now a)

/-- A requester's bus error is logged (12 R378). -/
def Core.busLogged (now a : Nat) (c : Core) : Core := c.event now 0x5050 0xFF (leBytes 4 a)

/-- A requester reads the words that `mine` picks: errors among them are corrected, or their words poisoned, for the
first time they are met (12 R365, R366). -/
def Core.sramFind (now : Nat) (mine : Nat → Bool) (c : Core) : Core :=
  (c.faulty.filter (fun a => mine a && !c.sram.poison.contains a)).foldl (fun c a => (c.sramLook now a .clean).2) c

/-- As `Core.sramFind`, each bus error at a word that is listed already logged too (12 R378). -/
def Core.sramUse (now : Nat) (mine : Nat → Bool) (c : Core) : Core :=
  ((c.sram.poison.filter mine).foldl (fun c a => c.busLogged now a) c).sramFind now mine

/-- A requester's read of one word: as `Core.sramLook`, with the bus errors logged that it does not log: a listed word,
and UNINIT, for which the manual names no other event (12 R378; log entry 159). -/
def Core.sramAsk (now a : Nat) (c : Core) : Bool × Core :=
  let c := c.when (!c.sram.isInit (pageOf a) || c.sram.poison.contains a) (Core.busLogged now a)
  c.sramLook now a .clean

/-! ### The storage behind an object (12 R368, R374, R378) -/

/-- The address and length of the words behind an object, where the manual gives it storage that can be
poisoned: tables in region 2, LUTs in region 4, everything else in the dictionary's copy (12 R374). -/
def Core.storageOf (c : Core) (idx sub : Nat) : Option (Nat × Nat) :=
  if 0x2C80 ≤ idx && idx ≤ 0x2C8F then some (sramAddr 4 ((idx - 0x2C80) * 0x2000), 8192)
  else match rowOf idx sub with
    | some r => if r.ty != .dom then some (sramAddr 3 (Config.dictBase + Config.objectOff (key idx sub) / 8 * 8), 8)
        else if 0x5000 ≤ idx then (c.tableAt idx).map (fun a => (a, r.len))
        else none
    | none => none

def Core.storagePoisoned (c : Core) (idx sub : Nat) : Bool := match c.storageOf idx sub with
  | some (a, n) => c.faulty.any (fun p => inSpan a n p && c.wordBad p)
  | none => false

/-- The words behind an object have never been written: a LUT's pages, or the arrays of regions 2 and 3, which BOOT
initialises together (12 R370, R378). -/
def Core.storageUninit (c : Core) (idx sub : Nat) : Bool := match c.storageOf idx sub with
  | some (a, _) =>
    if 0x2C80 ≤ idx && idx ≤ 0x2C8F then !c.sram.isInit (pageOf a) || !c.sram.isInit (pageOf a + 1)
    else c.sram.init.isEmpty
  | none => false

/-- A read of an object reads its words (12 R365, R366, R378). -/
def Core.storageRead (now idx sub : Nat) (c : Core) : Core := match c.storageOf idx sub with
  | some (a, n) => c.sramUse now (inSpan a n)
  | none => c

/-- A write of an object's value into its word of the dictionary's copy: all 8 bytes whole, else merged after a read of
the word, which refuses it at an uncorrectable word; either is one of 2F00h.06 (12 R368). Answers whether the write is
taken. -/
def Core.storageWrite (now idx sub n : Nat) (c : Core) : Bool × Core :=
  match c.storageOf idx sub, rowOf idx sub with
  | some (a, _), some r =>
    if r.ty == .dom then (true, c)
    else if n = 8 then (true, c.wordsWritten (· == a))
    else if c.sram.poison.contains a then (false, (c.busLogged now a).bump 0x2F00 6)
    else match c.wordFound a .clean with
      | .clean => (true, c)
      | .corrected => (true, (c.sramCorrect a).bump 0x2F00 6)
      | .uncorrectable => (false, (c.sramPoison now a).bump 0x2F00 6)
  | _, _ => (true, c)

end Sys2Proof.Machine
end

