-- ==== Sys2Proof/Machine/Operands.lean ====
section
/-!
DEFINITION. How an access to an object is judged (02 R33, R39 to R51, R514): existence, access
class, ownership, state, length and value, the one code that 02 R51 puts first, and what a write
that is accepted does to an object without an effect of its own: stored, buffered in a parameter
bank, journaled.
-/

namespace Sys2Proof.Machine

/-- The domain of an object, 0 to 9 for MODE to PLATFORM; none for EITHER (02 R39). -/
def domainOf (idx sub : Nat) : Option Nat :=
  if idx = 0x2000 then some 0
  else if 0x2400 ≤ idx && idx ≤ 0x25FF then some 1
  else if (0x2C00 ≤ idx && idx ≤ 0x2CFF) || (idx = 0x6000 && sub = 3) then some 2
  else if (0x1600 ≤ idx && idx ≤ 0x17FF) || (0x1A00 ≤ idx && idx ≤ 0x1BFF) ||
      [0x1C12, 0x1C13, 0x1C32, 0x1C33].contains idx || (0x6000 ≤ idx && idx ≤ 0x6FFF) then some 3
  else if (0x2200 ≤ idx && idx ≤ 0x27FF) || (0x5000 ≤ idx && idx ≤ 0x5FFF) then some 4
  else if 0x2800 ≤ idx && idx ≤ 0x29FF then some 5
  else if 0x2A00 ≤ idx && idx ≤ 0x2BFF then some 6
  else if 0x3000 ≤ idx && idx ≤ 0x30FF then some 7
  else if 0x2E00 ≤ idx && idx ≤ 0x2FFF then some 8
  else if (0x2D00 ≤ idx && idx ≤ 0x2DFF) || (0x3100 ≤ idx && idx ≤ 0x31FF) then some 9
  else none

/-- The party behind an originator (02 R39, R44). -/
def Orig.party : Orig → Option Party
  | .sdo | .pdo => some .press
  | .mbx => some .host
  | .twi => none

def Core.owner (c : Core) (d : Nat) : Party := c.owners.getD d .press

def Core.owns (c : Core) (o : Orig) (d : Nat) : Bool := Orig.party o == some (c.owner d)

/-- The order of abort codes of 02 R51; codes not listed follow in ascending order. -/
def codeOrder : List Nat :=
  [0x06020000, 0x06090011, 0x06010000, 0x06010001, 0x06010002, 0x08000020, 0x0800002D,
   0x0800002F, 0x0800002B, 0x08000021, 0x0800002C, 0x08000022, 0x08000023, 0x06070010,
   0x06090030, 0x06090031, 0x06090032, 0x08000026, 0x08000027, 0x08000028, 0x08000031]

/-- The code that 02 R51 puts first among the reasons that apply. -/
def firstCode (l : List Nat) : Option Nat :=
  match codeOrder.find? (fun k => l.contains k) with
  | some k => some k
  | none => l.min?

/-- A reason that applies when its condition holds. -/
def reason (b : Bool) (code : Nat) : List Nat := if b then [code] else []

/-- Whether a value lies within an object's own permitted values (02 R514, 00 R11); a limit of a binary32 range is
the binary32 number nearest to it (00 R7). -/
def permits (ty : Ty) (p : Perm) (v : Nat) : Bool :=
  (ty != .bool || v ≤ 1) && (ty != .f32 || f32Finite v) &&
  match p with
  | .any => true
  | .mask _ => true
  | .rng lo hi => lo ≤ v && v ≤ hi
  | .oneOf l => l.contains v
  | .mul k => v % k == 0
  | .frng lo hi => roundF32 lo ≤ ofF32 v && ofF32 v ≤ roundF32 hi

/-- The value with its reserved bits ignored (00 R5). -/
def Perm.strip (p : Perm) (v : Nat) : Nat := match p with
  | .mask m => v &&& m
  | _ => v

/-- The RxPDO maps assigned in 1C12h, and the objects they map (02 R46, R515). -/
def Core.mappedKeys (c : Core) (assign : Nat) : List (Nat × Nat) :=
  ((List.range (c.obj assign 0)).map (fun i => c.obj assign (i + 1))).flatMap (fun m =>
    (List.range (c.obj m 0)).map (fun j => (c.obj m (j + 1) >>> 8, c.obj m (j + 1) % 256)))

/-- An object is written by process data alone (02 R46). -/
def Core.isMapped (c : Core) (idx sub : Nat) : Bool :=
  (c.ec.al == .safeop || c.ec.al == .op) &&
    (c.mappedKeys 0x1C12).any (fun p => p.1 == key idx sub)

/-- The length of a write is right for the object (02 R514). -/
def lengthOk (r : ObjRow) (n : Nat) : Bool :=
  if r.vari then 1 ≤ n && n ≤ r.len else n == r.bytes

/-- The reasons of the access itself to refuse a write of an existing object (02 R51). -/
def Core.rowCodes (c : Core) (o : Orig) (idx sub : Nat) (r : ObjRow) (data : List Byte) :
    List Nat :=
  reason (r.acc == .ro) 0x06010002 ++
  reason (idx == 0x2102 && o == .mbx) 0x06010000 ++
  reason (match domainOf idx sub with | some d => !c.owns o d | none => false) 0x08000020 ++
  reason (o != .pdo && c.isMapped idx sub) 0x0800002D ++
  reason (c.mode == .compline) 0x0800002F ++
  reason (r.acc == .rws && c.mode != .standby && c.mode != .calibrate) 0x08000021 ++
  reason (!lengthOk r data.length) 0x06070010 ++
  reason (r.ty != .dom && r.ty != .oct && r.ty != .str && !permits r.ty r.perm (leNat data)) 0x06090030

/-- Objects that the recovery image does not have (16 R467). -/
def Core.absent (c : Core) (idx : Nat) : Bool :=
  c.pw.running == 2 && !((0x1000 ≤ idx && idx ≤ 0x21FF) || (0x3200 ≤ idx && idx ≤ 0x3340))

/-- Every reason to refuse a write; `extra` holds the object's own reasons. -/
def Core.writeCodes (c : Core) (o : Orig) (idx sub : Nat) (data : List Byte)
    (extra : List Nat) : List Nat :=
  if c.absent idx then [0x06020000]
  else match topSub idx, rowOf idx sub with
    | none, _ => [0x06020000]
    | some _, none => [0x06090011]
    | some _, some r => c.rowCodes o idx sub r data ++ extra

/-- The value that a write carries, its reserved bits ignored. -/
def writeValue (idx sub : Nat) (data : List Byte) : Nat :=
  match rowOf idx sub with
  | some r => r.perm.strip (leNat data)
  | none => leNat data

/-- A write judged whole: refused with the first code and nothing changed, or its effect applied (02 R51). A write that
nothing else is against is refused where its word of the dictionary's copy cannot be merged (12 R368, R378). -/
def Core.judged (now : Nat) (o : Orig) (idx sub : Nat) (data : List Byte) (extra : List Nat)
    (eff : Core → Core) (c : Core) : Nat × Core :=
  match firstCode (c.writeCodes o idx sub data extra) with
  | some code => (code, c)
  | none =>
    let r := c.storageWrite now idx sub data.length
    if r.1 then (0, eff r.2) else (0x08000024, r.2)

/-- A write answered to its originator (02 R45, R49); process data gets no answer (02 R46). -/
def Core.answered (o : Orig) (idx sub : Nat) (r : Nat × Core) : Core :=
  if o = .pdo then r.2 else r.2.emit (.answer o idx sub r.1)

/-- A command of one object, `n` bytes of value `v`: judged, carried out, answered. -/
def Core.command (now : Nat) (o : Orig) (idx sub n v : Nat) (extra : List Nat)
    (eff : Core → Core) (c : Core) : Core :=
  Core.answered o idx sub (c.judged now o idx sub (leBytes n v) extra eff)

/-! ### Accepted values -/

/-- A value noted for the scrivener (02 R35, 16 R482). -/
def Core.journal (idx sub v : Nat) (bytes : List Byte) (c : Core) : Core :=
  (c.mapPw (fun p => { p with
    pendJ := p.pendJ ++ [{ seqNo := c.nv.nextJ, key := key idx sub, value := v, bytes := bytes }] })).mapNv
    (fun n => { n with nextJ := n.nextJ + 1 })

/-- A value put in force, and journaled where its object is marked P (02 R34, R35). -/
def Core.store (idx sub v : Nat) (c : Core) : Core :=
  let c := c.put idx sub v
  match findRow idx sub with
  | some r => if r.keep then c.journal idx sub v [] else c
  | none => c

/-- A domain's bytes put in force; a domain of varying length keeps its length as its value. -/
def Core.putBytes (idx sub : Nat) (data : List Byte) (c : Core) : Core :=
  let c := (c.clearDom idx).putDom idx 0 data
  match findRow idx sub with
  | some r => if r.vari then c.put idx sub data.length else c
  | none => c

/-- A domain's bytes put in force, and journaled where its object is marked P. -/
def Core.storeDom (idx sub : Nat) (data : List Byte) (c : Core) : Core :=
  let c := c.putBytes idx sub data
  match findRow idx sub with
  | some r => if r.keep then c.journal idx sub 0 data else c
  | none => c

/-- A count kept across resets goes up by one. -/
def Core.bumpKept (idx sub : Nat) (c : Core) : Core :=
  let c := c.bump idx sub
  c.journal idx sub (c.obj idx sub) []

/-- The parameter bank of an RWC object: 0 to 3 for C0 to C3, 4 for motion (07 R216, 05 R174). -/
def bankOf (idx sub : Nat) : Option Nat :=
  if [0x2211, 0x2303, 0x2304, 0x2611, 0x2615, 0x2618, 0x2660, 0x2661].contains idx then some 0
  else if idx = 0x2630 && (sub = 2 || sub = 3) then some 0
  else if [0x2718, 0x2760, 0x2761].contains idx then some 1
  else if idx = 0x2810 && (sub = 6 || sub = 7) then some 2
  else if idx = 0x2811 && (sub = 6 || sub = 7) then some 3
  else if [0x2420, 0x2430, 0x2431].contains idx then some 4
  else none

def Core.bank (c : Core) (b : Nat) : Bank := c.banks.getD b {}

def Core.mapBank (b : Nat) (f : Bank → Bank) (c : Core) : Core :=
  { c with banks := modAt c.banks b f }

/-- An RWC value buffered until its bank's commit (02 R45). -/
def Core.buffer (b idx sub v : Nat) (c : Core) : Core :=
  c.mapBank b (fun k => { k with pend := aput k.pend (key idx sub) v })

/-- The committed value of an object: a commit that awaits application counts (02 R45). -/
def Core.committed (c : Core) (idx sub : Nat) : Nat :=
  match (bankOf idx sub).bind (fun b => (c.bank b).latch.bind (fun l => alook l (key idx sub))) with
  | some v => v
  | none => c.obj idx sub

/-- The buffered value where one is pending, else the committed one (02 R45, R64). -/
def Core.pendingView (c : Core) (idx sub : Nat) : Nat × Bool :=
  match (bankOf idx sub).bind (fun b => alook (c.bank b).pend (key idx sub)) with
  | some v => (v, true)
  | none => (c.committed idx sub, false)

/-- An accepted value of an object without an effect of its own. -/
def Core.accept (idx sub v : Nat) (c : Core) : Core :=
  match bankOf idx sub with
  | some b => c.buffer b idx sub v
  | none => c.store idx sub v

/-- The latched values of a bank put in force (07 R218, 05 R174). -/
def Core.applyLatch (b : Nat) (c : Core) : Core :=
  match (c.bank b).latch with
  | none => c
  | some l => (l.foldl (fun c p => c.store (p.1 / 256) (p.1 % 256) p.2) c).mapBank b
      (fun k => { k with latch := none })

/-! ### Writes in DUSK (16 R472) -/

/-- An RW object whose block has no power in DUSK and does more than read the object's value (16 R472). -/
def duskBlock (idx sub : Nat) : Bool :=
  idx = 0x2301 || ((idx = 0x2810 || idx = 0x2811) && sub = 1) ||
  (0x2C10 ≤ idx && idx ≤ 0x2C1F && (sub = 3 || sub = 7)) || idx = 0x2C40 || (idx = 0x6000 && sub = 3)

def Core.waitsDawn (c : Core) (idx sub : Nat) : Bool := c.mode == .dusk && duskBlock idx sub

/-- A write in DUSK: the dictionary has the value, and the block waits for Dawn (16 R472). -/
def Core.duskWrite (idx sub v : Nat) (c : Core) : Core :=
  (c.store idx sub v).mapPw (fun p => { p with
    duskWrites := p.duskWrites.filter (fun w => w.1 != key idx sub) ++ [(key idx sub, v)] })

end Sys2Proof.Machine
end

