-- ==== Sys2Proof/Machine/Sram.lean ====
section
/-!
DEFINITION. On-die memory and its protection (12): writes of words at the ports, the
merge buffers, initialised pages, sweeps, the lamplighter, shadow rewrites and error injection.
-/

namespace Sys2Proof.Machine

/-! ### Pages and words -/

/-- The first write to a page fills it with zero words (12 R371). -/
def Core.sramFill (a : Nat) (c : Core) : Core :=
  if c.sram.isInit (pageOf a) then c
  else c.mapSram (fun m => { m with
    init := m.init ++ [(pageOf a, pageOf a)], fills := m.fills ++ [pageOf a],
    words := m.words.filter (fun p => pageOf (p.1 * 8) != pageOf a),
    flips := m.flips.filter (fun p => pageOf p.1 != pageOf a) })

/-- A whole-word write: new check bits, poison cleared, an armed injection at its address
(12 R366, R379). -/
def Core.sramWord (a v : Nat) (c : Core) : Core := ((c.sramFill a).sramPut a v).wordsWritten (· == a)

/-- A word written whole through a port; of the other words outside region 4 only those of a page that a
port filled have a stated value. -/
def Core.portWord (a v : Nat) (c : Core) : Core :=
  (c.sramWord a v).mapSram (fun m => if m.own.contains a then m else { m with own := m.own ++ [a] })

def Core.wordKnown (c : Core) (a : Nat) : Bool :=
  decide (4 ≤ sramRegion a) || c.sram.own.contains a || c.sram.fills.contains (pageOf a)

/-- What a word holds: what the block itself keeps in a word is not stated, a free value (12 R363). -/
def Core.wordHeld (c : Core) (a : Nat) : Nat × Core :=
  if c.wordKnown a then (c.sramData a, c)
  else
    let r := c.fresh
    (r.1 % 2 ^ 64, r.2)

/-! ### Merge buffers (12 R367 to R369) -/

/-- Bytes of `v` where the mask has a bit, else of `w`. -/
def mergeWord (mask : BitVec 8) (v w : Nat) : Nat :=
  sumNat ((List.range 8).map (fun i => (if mask.getLsbD i then v / 256 ^ i % 256
    else w / 256 ^ i % 256) * 256 ^ i))

def Core.mergeAt (c : Core) (port a : Nat) : Option Merge :=
  c.sram.merge.find? (fun e => e.port == port && e.addr == a)

def Core.dropMerge (port a : Nat) (c : Core) : Core :=
  c.mapSram (fun m => { m with merge := m.merge.filter (fun e => !(e.port == port && e.addr == a)) })

/-- An entry retired: written whole, or merged after a read of its word, or refused (12 R368). -/
def Core.retire (now : Nat) (e : Merge) (found : WordOutcome) (c : Core) : Core :=
  let c := c.dropMerge e.port e.addr
  if e.mask = 0xFF#8 then c.portWord e.addr e.data.toNat
  else
    let c := c.sramFill e.addr
    let write := fun (c : Core) =>
      let r := c.wordHeld e.addr
      r.2.portWord e.addr (mergeWord e.mask e.data.toNat r.1)
    let refuse := fun (c : Core) => 
      ((c.bump 0x2F00 6).emit (.busError e.port)).when (e.port == 0) (fun c => c.emit .internalError)
    if c.sram.poison.contains e.addr then refuse c
    else match c.wordFound e.addr found with
      | .clean => write c
      | .corrected => write ((c.sramCorrect e.addr).bump 0x2F00 6)
      | .uncorrectable => refuse (c.sramPoison now e.addr)

/-- A write at a port: a whole word retires its word's entry and is written; a narrow one enters
the merge buffer of 16 entries (12 R367, R369). -/
def Core.sramWrite (now port a : Nat) (mask : BitVec 8) (v : Nat) (c : Core) : Core :=
  let old := c.mergeAt port a
  if mask = 0xFF#8 then
    (match old with
      | some e => c.retire now e .clean
      | none => c).portWord a v
  else match old with
    | some e =>
      let e' : Merge := { e with
        mask := e.mask ||| mask, data := BitVec.ofNat 64 (mergeWord mask v e.data.toNat), last := now }
      if e'.mask = 0xFF#8 then (c.dropMerge port a).portWord a e'.data.toNat
      else c.mapSram (fun m => { m with
        merge := m.merge.map (fun x => if x.port == port && x.addr == a then e' else x) })
    | none =>
      let mine := c.sram.merge.filter (fun e => e.port == port && sramRegion e.addr == sramRegion a)
      let c := match (if 16 ≤ mine.length then mine.head? else none) with
        | some e => c.retire now e .clean
        | none => c
      c.mapSram (fun m => { m with merge := m.merge ++
        [{ port := port, addr := a, mask := mask, data := BitVec.ofNat 64 v, last := now }] })

/-- A read at a port: its word's entry is retired first; none is a bus error (12 R369, R378). -/
def Core.sramRead (now port a : Nat) (c : Core) : Option Nat × Core :=
  let c := match c.mergeAt port a with
    | some e => c.retire now e .clean
    | none => c
  let r := c.sramAsk now a
  (if r.1 then some (r.2.sramData a) else none, r.2)

/-- An entry that took no write for 64 ns is retired (12 R367). -/
def Core.mergeIdle (now a port : Nat) (found : WordOutcome) (c : Core) : Core :=
  match c.mergeAt port a with
  | some e => if e.last + 64 ≤ now then c.retire now e found else c
  | none => c

def execMergeIdleRetire (t : Nat) (addr : Nat) (port : Nat) (found : WordOutcome) (s : State) :
    Host.Outcome State Fault Refusal :=
  State.run t (fun now c => c.mergeIdle now addr port found) s

/-! ### Sweeps (12 R373) -/

/-- The sweeps of a region, one for each SRAM bank in regions 0 and 1; the manual gives neither the number of the banks
nor which words they hold (log entry 157). -/
def sweepsOf (r : Nat) : Nat := if r < 2 then 1 + Config.sramBanks r else 1

/-- Where the sweep of a bank is held. -/
def sweepKey (r bank : Nat) : Nat := r * 2 ^ 32 + bank

/-- The sweep of a bank walks the word. -/
def sweptIn (bank a : Nat) : Bool := decide (2 ≤ sramRegion a) || Config.sramBank a % sweepsOf (sramRegion a) == bank

/-- The next word the sweep of a bank of region `r` reads from byte offset `off` on: in an initialised page and
not privileged; none at the region's end. -/
def Core.nextSwept (c : Core) (r bank : Nat) : Nat → Nat → Option Nat
  | 0, _ => none
  | f + 1, off =>
    let a := sramAddr r off
    if regionBytes r ≤ off then none
    else if !c.sram.isInit (pageOf a) then
      match ((c.sram.init.map (·.1)).filter (fun p => pageOf a < p && p / 2 ^ 16 == r)).min? with
      | some p => c.nextSwept r bank f (sramOff (p * 4096))
      | none => none
    else if privileged a then
      if r = 2 then c.nextSwept r bank f (Config.tableBase + tableBytes)
      else if Config.dictBase ≤ off && off < Config.dictBase + dictBytes then
        c.nextSwept r bank f (Config.dictBase + dictBytes)
      else c.nextSwept r bank f (Config.routeBase + routeBytes)
    else if !sweptIn bank a then c.nextSwept r bank f (off + 8)
    else some off

/-- The lap time of a region, µs, reported once every bank's sweep has come to its end: that of the slowest (12 R373). -/
def Core.sweepReport (now r : Nat) (c : Core) : Core :=
  let mine := c.sram.sweepLaps.filter (fun p => p.1 / 2 ^ 32 == r)
  if mine.length < sweepsOf r then c
  else
    let us := maxNat (mine.map (·.2))
    let c := (c.put 0x2F10 (r + 1) (us % 2 ^ 32)).bump 0x2F11 (r + 1)
    let c := c.when (60000000 < us) (Core.event now 0x5051 0xFF (leBytes 1 r ++ leBytes 4 (us / 1000)))
    c.mapSram (fun m => { m with sweepLaps := m.sweepLaps.filter (fun p => p.1 / 2 ^ 32 != r) })

/-- A lap of a sweep ends: the next begins (12 R373). -/
def Core.sweepLap (now r bank : Nat) (c : Core) : Core :=
  let k := sweepKey r bank
  let us := (now - (alook c.sram.sweepAt k).getD c.sram.sweepFrom) / 1000
  (c.mapSram (fun m => { m with
    sweepPos := aput m.sweepPos k 0, sweepAt := aput m.sweepAt k now,
    sweepLaps := aput m.sweepLaps k us })).sweepReport now r

/-- Sweeps run in every mode but BOOT, DUSK and COMPLINE, while enabled (12 R373). -/
def Core.sweepsRun (c : Core) : Bool :=
  c.flag 0x2F12 0 && c.mode != .boot && c.mode != .dusk && c.mode != .compline

/-- One word read by the sweep of a bank; past the last word the lap ends. -/
def Core.sweep (now r bank : Nat) (found : WordOutcome) (c : Core) : Core :=
  if !c.sweepsRun || sweepsOf r ≤ bank then c
  else match c.nextSwept r bank (regionBytes r / 8) ((alook c.sram.sweepPos (sweepKey r bank)).getD 0) with
    | none => c.sweepLap now r bank
    | some off =>
      let c := (c.sramLook now (sramAddr r off) found).2
      let c := c.mapSram (fun m => { m with sweepPos := aput m.sweepPos (sweepKey r bank) (off + 8) })
      c.when (regionBytes r ≤ off + 8) (Core.sweepLap now r bank)

def execSweepRead (t : Nat) (region : Fin 5) (bank : Nat) (found : WordOutcome) (s : State) :
    Host.Outcome State Fault Refusal :=
  State.run t (fun now c => c.sweep now region.val bank found) s

/-! ### Lamplighter and shadows (12 R375, R376) -/

/-- One privileged word read; after the last, the lap's time and count. -/
def Core.lamp (now : Nat) (found : WordOutcome) (c : Core) : Core :=
  if !c.flag 0x2F20 1 || !c.blocksOn || c.mode == .boot then c
  else
    let c := match privWord c.sram.lampPos with
      | some a => (c.sramLook now a found).2
      | none => c
    if c.sram.lampPos + 1 < privWords then
      c.mapSram (fun m => { m with lampPos := m.lampPos + 1 })
    else
      ((c.put 0x2F20 3 ((now - c.sram.lampAt) / 1000 % 2 ^ 32)).bump 0x2F20 4).mapSram
        (fun m => { m with lampPos := 0, lampAt := now })

def execLamplighterRead (t : Nat) (found : WordOutcome) (s : State) :
    Host.Outcome State Fault Refusal :=
  State.run t (fun now c => c.lamp now found) s

/-- The lap that Dawn makes at the highest rate, 65 535 words in 1 ms, before STANDBY is reported: every error of a
privileged word is found (12 R375, R377). -/
def Core.dawnLap (now : Nat) (c : Core) : Core :=
  let bad := (c.sram.flips.map (·.1)).filter privileged
  let c := bad.foldl (fun c a => (c.sramLook now a .clean).2) c
  ((c.put 0x2F20 3 (privWords * 1000 / 65535)).bump 0x2F20 4).mapSram (fun m => { m with lampPos := 0, lampAt := now })

/-- The shadow of a privileged word stands in a poisoned line of DRAM (11 R352, 12 R376). -/
def Core.shadowBad (c : Core) (a : Nat) : Bool := c.dram.poison.contains (Config.shadowLine (a / 64))

/-- The page of a privileged word rewritten from its shadow; words whose shadow line is poisoned stay as they are, which
is logged (12 R376). -/
def Core.shadowRewrite (now a : Nat) (c : Core) : Core :=
  if !c.sram.rewrite.contains (pageOf a) then c
  else
    let mine := fun (p : Nat) => pageOf p == pageOf a
    let lost := c.faulty.filter (fun p => mine p && c.shadowBad p)
    let c := c.mapSram (fun m => { m with rewrite := m.rewrite.filter (fun p => p != pageOf a) })
    let c := (c.wordsWritten (fun p => mine p && !c.shadowBad p)).bump 0x2F20 5
    match lost with
    | [] => c
    | p :: _ => c.event now 0x5052 0xFF (leBytes 4 p)

def execShadowRewrite (t : Nat) (addr : Nat) (s : State) : Host.Outcome State Fault Refusal :=
  State.run t (fun now c => c.shadowRewrite now addr) s

/-! ### Error injection (12 R379) -/

def Core.injectCodes (c : Core) (v : Nat) : List Nat :=
  reason (c.mode != .service) 0x08000021 ++
  reason (v == 1 && (!inRegion (c.obj 0x2F30 1) ||
    (c.flag 0x2F20 1 && privileged (c.obj 0x2F30 1)))) 0x06090030

def Core.injectWrite (v : Nat) (c : Core) : Core := c.put 0x2F30 4 (v % 2)

def execInjectionArm (t : Nat) (orig : Orig) (s : State) : Host.Outcome State Fault Refusal :=
  State.run t (fun now c => c.command now orig 0x2F30 5 1 1 (c.injectCodes 1) (Core.injectWrite 1)) s

def execInjectionDisarm (t : Nat) (orig : Orig) (s : State) : Host.Outcome State Fault Refusal :=
  State.run t (fun now c => c.command now orig 0x2F30 5 1 0 (c.injectCodes 0) (Core.injectWrite 0)) s

end Sys2Proof.Machine
end

