-- ==== Sys2Proof/Machine/Tinker.lean ====
section
/-!
DEFINITION. The tinker block (09): sixteen engines on look-up tables, the alarm routes and the delivery of alarm words. Times are nanoseconds; a tick is 4 ns.
-/

namespace Sys2Proof.Machine

/-! ### Pins and ticks (09 R292, R297) -/

/-- The levels that stand on the pins from outside at `now`. -/
def Core.pinsTake (now : Nat) (ext : Word32) (c : Core) : Core :=
  (c.mapTk (fun t => { t with ext })).pinsNote false now

/-- Ticks occur (09 R297, R298). -/
def Core.ticks (c : Core) : Bool := !c.clk.tHeld && c.blocksOn

/-! ### Sources (09 R290, R291) -/

def pulseAt (p : Option Nat) (now : Nat) : Bool := match p with
  | some x => tickOf x == tickOf now
  | none => false

/-- Shift length l and direction (09 R288). -/
def Core.shLen (c : Core) (n : Nat) : Nat := c.obj (0x2C10 + n) 4 % 64
def Core.shMsb (c : Core) (n : Nat) : Bool := (c.obj (0x2C10 + n) 4).testBit 6

/-- A flag as sources see it: a change shows from the next tick on (09 R291). -/
def flagSeen (e : Tk) (now : Nat) : Bool :=
  if e.flagAt = tickOf now && e.flagAt ≠ 0 then !e.flag else e.flag

/-- Sources 58 to 63 of engine `n` as its FIFOs and registers now stand (09 R290). -/
def Core.ownBits (c : Core) (n : Nat) : BitVec 6 :=
  let e := c.eng1 n
  let headBit := fun (i : Nat) => match e.rx.head? with
    | some w => w.getLsbD i
    | none => false
  BitVec.ofNat 6 (b2n (!e.rx.isEmpty) + 2 * b2n (headBit 6) + 4 * b2n (headBit 7) +
    8 * b2n (decide (8 ≤ e.tx.length)) + 16 * b2n (decide (c.shLen n ≤ e.cnt)) + 32 * b2n (e.sr.getLsbD 0))

/-- Before the first change of a tick to its FIFOs or registers, engine `n` keeps sources 58 to 63 as they
stood at the start of the tick (09 R291). -/
def Core.tickMark (now n : Nat) (c : Core) : Core :=
  match (c.eng1 n).snap with
  | some (t, _) => if t = tickOf now then c
      else c.mapEng1 n (fun e => { e with snap := some (tickOf now, c.ownBits n) })
  | none => c.mapEng1 n (fun e => { e with snap := some (tickOf now, c.ownBits n) })

/-- Source `k` for engine `n` at `now` (09 R290). -/
def Core.source (c : Core) (now n k : Nat) : Bool :=
  let e := c.eng1 n
  let own := fun (i : Nat) => match e.snap with
    | some (t, b) => if t = tickOf now then b.getLsbD i else (c.ownBits n).getLsbD i
    | none => (c.ownBits n).getLsbD i
  if k < 32 then (c.pinIn k).level now (c.pinFilter k) != (c.pinCfg k).testBit 8
  else if k < 36 then c.tk.trig.getLsbD (k - 32)
  else if k < 52 then flagSeen (c.tkAt now (k - 36)) now
  else match k with
    | 52 => c.mot.expos.any (fun x => !x.b && tickOf (x.centre - 4 * c.obj 0x2450 0) == tickOf now)
    | 53 => c.mot.expos.any (fun x => !x.b && x.lvl0 ≤ now && now < x.lvl1)
    | 54 => c.mot.expos.any (fun x => x.b && x.lvl0 ≤ now && now < x.lvl1)
    | 55 => pulseAt c.tk.seqSheet now
    | 56 => c.mot.loop == .coasting || c.mot.loop == .lost
    | 57 => pulseAt c.tk.seqReg now
    | _ => own (k - 58)

/-- The four selected input bits, b0 in bit 0 (09 R285, R290). -/
def Core.inputs (c : Core) (now n : Nat) : Nat :=
  let sel := c.obj (0x2C10 + n) 1
  b2n (c.source now n (field sel 5 0)) + 2 * b2n (c.source now n (field sel 13 8)) +
    4 * b2n (c.source now n (field sel 21 16)) + 8 * b2n (c.source now n (field sel 29 24))

/-! ### Steps (09 R285 to R289) -/

/-- The SRAM address of LUT entry `i` of engine `n` (09 R307, 12 R363). -/
def lutAddr (n i : Nat) : Nat := sramAddr 4 (n * 0x2000 + 8 * i)

/-- Whether an entry's action can complete (09 R289). -/
def canComplete (e : Tk) (entry : Nat) : Bool := match field entry 18 16 with
  | 3 => e.tx.length < 8
  | 4 => !e.rx.isEmpty
  | _ => true

/-- The action of an entry on the engine, and the bit that shift-out puts on O0 (09 R288). -/
def doAction (msb : Bool) (entry b0 now : Nat) (e : Tk) : Tk × Option Bool :=
  let count := min 32 (e.cnt + 1)
  match field entry 18 16 with
  | 1 => ({ e with
      sr := if msb then (e.sr <<< 1) ||| BitVec.ofNat 32 b0
        else (e.sr >>> 1) ||| BitVec.ofNat 32 (b0 * 2 ^ 31),
      cnt := count }, none)
  | 2 => ({ e with sr := if msb then e.sr <<< 1 else e.sr >>> 1, cnt := count },
      some (if msb then e.sr.getLsbD 31 else e.sr.getLsbD 0))
  | 3 => ({ e with tx := e.tx ++ [e.sr], cnt := 0 }, none)
  | 4 => ({ e with sr := e.rx.headD 0, rx := e.rx.tail, cnt := 0 }, none)
  | 5 => if e.flag == entry.testBit 19 then (e, none)
      else ({ e with flag := entry.testBit 19, flagAt := tickOf now }, none)
  | _ => (e, none)

/-- Interrupt bit `n`; the vector when the bit newly sets and is enabled (09 R301). -/
def Core.tkInterrupt (n : Nat) (c : Core) : Core :=
  if c.tk.irq.getLsbD n then c
  else
    let c := c.mapTk (fun t => { t with irq := t.irq ||| BitVec.ofNat 16 (2 ^ n) })
    c.when (c.tk.irqEn.getLsbD n) (Core.msix 8)

/-- A completing entry: its action, outputs and next state (09 R287). -/
def Core.tkComplete (now n entry b0 : Nat) (c : Core) : Core :=
  let c := c.tickMark now n
  let r := doAction (c.shMsb n) entry b0 now (c.eng1 n)
  let o := field entry 15 8
  let o := match r.2 with
    | some b => withBit o 0 b
    | none => o
  let c := c.mapEng1 n (fun _ => { r.1 with
    outs := BitVec.ofNat 8 o, st := BitVec.ofNat 6 entry, held := none })
  c.when (field entry 18 16 == 6) (Core.tkInterrupt n)

/-- The cycle of engine `n` in ns: D ticks (09 R295). -/
def cycleNs (e : Tk) : Nat := (e.div + 1) * 4

/-- The next step falls 1 + d cycles later (09 R287). -/
def Core.tkDelay (now n d : Nat) (c : Core) : Core :=
  c.mapEng1 n (fun e => { e with
    next := now / 4 * 4 + (1 + d) * cycleNs e, inDelay := 0 < d })

/-- An uncorrectable LUT entry stops the engine (09 R285). -/
def Core.lutError (now n : Nat) (c : Core) : Core :=
  (c.mapEng1 n (fun e => { e with
    running := false, lutError := true, recorded := e.st, held := none, inDelay := false })).event
    now 0x5070 0xFF (leBytes 1 n)

/-- Engine `n` may step in the tick of `now`: running, its next step due, the tick on its grid (09 R287, R295,
R297). A tick of its grid for which no step is commanded passes without one (DESIGN CHOICE, log 147). -/
def Core.tkReady (c : Core) (now n : Nat) : Bool :=
  let e := c.eng1 n
  e.running && c.ticks && decide (e.next ≤ now) && decide ((now / 4 * 4 - e.next) % cycleNs e = 0)

/-! ### Debugging commands, and the engines brought to a moment (09 R300) -/

/-- One entry executed in a stopped engine, its delay ignored (09 R300). -/
def Core.tkDebug (now n entry b0 : Nat) (c : Core) : Core :=
  if canComplete (c.eng1 n) entry then
    (c.tkComplete now n entry b0).mapEng1 n (fun e => { e with recorded := e.st, stepStall := false })
  else c.mapEng1 n (fun e => { e with stepStall := true })

/-- STEP at the tick `now`. -/
def Core.tkDoStep (now n : Nat) (c : Core) : Core :=
  let b := c.inputs now n
  let a := lutAddr n ((c.eng1 n).st.toNat * 16 + b)
  let r := c.sramLook now a .clean
  if !r.1 then r.2.lutError now n else r.2.tkDebug now n (r.2.sramData a) (b % 2)

/-- INJECT at the tick `now`. -/
def Core.tkInject (now n : Nat) (c : Core) : Core :=
  c.tkDebug now n (c.eng1 n).inj.toNat (c.inputs now n % 2)

/-- The debugging commands of engine `n` whose tick is `t`, in their order. -/
def Core.tkDebugs (t n : Nat) (c : Core) : Core :=
  let ds := (c.eng1 n).dbg
  (ds.filter (·.1 == t)).foldl (fun c d => if d.2 then c.tkInject t n else c.tkDoStep t n)
    (c.mapEng1 n (fun e => { e with dbg := ds.filter (·.1 != t) }))

/-- What falls on the tick `t`: debugging commands, whose outputs show on the pins, and starts and stops, which change
what the pins show. -/
def Core.tkMoment (c : Core) (t : Nat) : Core :=
  let c := if c.pads.pinsAt < t then c.pinsNote true t else c
  if c.tk.engs.any (fun e => e.dbg.any (·.1 == t)) then
    ((List.range 16).foldl (fun c n => c.tkDebugs t n) c).pinsNote true t
  else c

/-- The debugging commands whose tick has come by `now` (09 R297, R300). -/
def Core.tkDue (now : Nat) (c : Core) : Core := (c.tkTimes (c.tickNow now)).foldl Core.tkMoment c

/-- Every engine brought to `now`. -/
def Core.tkSync (now : Nat) (c : Core) : Core :=
  (List.range 16).foldl (fun d n => d.mapEng1 n (Tk.seen (c.tickNow now) (c.resumes n))) (c.tkDue now)

/-- The engines as a step at `now` finds them, and then the levels outside. -/
def Core.tkEnter (now : Nat) (ext : Word32) (c : Core) : Core :=
  ((List.range 16).foldl (fun d n => d.mapEng1 n (Tk.seenStep (c.tickNow now) (c.resumes n)))
    (c.tkDue now)).pinsTake now ext

/-- One step of a running engine that is not stalled (09 R287). -/
def Core.tkStep (now n : Nat) (c : Core) : Core :=
  if !c.tkReady now n || (c.eng1 n).held.isSome then c
  else
    let b := c.inputs now n
    let a := lutAddr n ((c.eng1 n).st.toNat * 16 + b)
    let r := c.sramLook now a .clean
    if !r.1 then r.2.lutError now n
    else
      let entry := r.2.sramData a
      if canComplete (r.2.eng1 n) entry then
        (r.2.tkComplete now n entry (b % 2)).tkDelay now n (field entry 39 24)
      else r.2.mapEng1 n (fun e => { e with
        held := some (BitVec.ofNat 64 entry), inDelay := false,
        next := now / 4 * 4 + cycleNs e })

def execTinkerStep (t : Nat) (n : Fin 16) (ext : Word32) (s : State) : Host.Outcome State Fault Refusal :=
  State.run t (fun now c => (c.tkEnter now ext).tkStep now n.val) s

/-- A stalled engine retries its action at each cycle (09 R289). -/
def Core.tkRetry (now n : Nat) (c : Core) : Core :=
  match (c.eng1 n).held with
  | none => c
  | some w =>
    if !c.tkReady now n then c
    else if canComplete (c.eng1 n) w.toNat then
      (c.tkComplete now n w.toNat 0).tkDelay now n (field w.toNat 39 24)
    else c.mapEng1 n (fun e => { e with next := now / 4 * 4 + cycleNs e })

def execTinkerStallRetry (t : Nat) (n : Fin 16) (s : State) : Host.Outcome State Fault Refusal :=
  State.run t (fun now c => (c.tkEnter now c.tk.ext).tkRetry now n.val) s

/-! ### Start and stop (09 R295 to R298) -/

/-- The first tick at or after `x`. -/
def tickUp (x : Nat) : Nat := (x + 3) / 4 * 4

/-- The first tick that is a multiple of 16 ticks of DC time, at least 8 ticks after `now` (09 R296). -/
def Core.startGrid (c : Core) (now : Nat) : Nat :=
  max (tickUp (now + 32)) (tickUp (c.moment ((c.stamp (now + 32) + 63) / 64 * 64)))

/-- The start instant T0 of a command, or none where a start time given is too close (09 R296). -/
def Core.startAt (c : Core) (now : Nat) : Option Nat :=
  let at_ := c.obj 0x2C00 5
  let t0 := tickUp (c.moment at_)
  if at_ = 0 then some (c.startGrid now)
  else if now + 32 ≤ t0 then some t0 else none

/-- A start at `t0` among the starts still to come, the earliest first. -/
def startInsert (t0 : Nat) : List Nat → List Nat
  | [] => [t0]
  | a :: l => if a ≤ t0 then a :: startInsert t0 l else t0 :: a :: l

/-- A synchronous start of the engines of `mask` at `t0`: until then they go on as they were (09 R296). -/
def Core.tkStartMask (t0 : Nat) (mask : Nat) (c : Core) : Core :=
  (List.range 16).foldl (fun c n =>
    if mask.testBit n then c.mapEng1 n (fun e => { e with starts := startInsert t0 e.starts }) else c) c

/-- A commanded start: the start time is used up (09 R296). -/
def Core.tkStart (now mask : Nat) (c : Core) : Core :=
  match c.startAt now with
  | some t0 => c.when c.blocksOn (fun c => ((c.tkSync now).tkStartMask t0 mask).put 0x2C00 5 0)
  | none => c

def Core.tkStartCodes (c : Core) (now : Nat) : List Nat :=
  reason (c.startAt now).isNone 0x06090032

/-- A BAR2 write of the tinker block that is not taken (09 R308). -/
def Core.tkRefused (n : Nat) (c : Core) : Core :=
  (c.mapEng1 n (fun e => { e with wrRefused := true })).barRefused

/-- HOST owns ALARM (09 R308). -/
def Core.barOwns (c : Core) : Bool := c.owner 2 == .host

def execTkStart (t : Nat) (viaBar : Bool) (orig : Orig) (mask : Word16) (s : State) :
    Host.Outcome State Fault Refusal :=
  State.run t (fun now c =>
    if viaBar then
      if c.barOwns && (c.startAt now).isSome then c.tkStart now mask.toNat else c.tkRefused 0
    else c.command now orig 0x2C00 2 2 mask.toNat (c.tkStartCodes now) (Core.tkStart now mask.toNat)) s

/-- A stop reaches the engines of `mask` and acts at the next tick boundary (09 R298). -/
def Core.tkStop (now mask : Nat) (c : Core) : Core :=
  (List.range 16).foldl (fun c n => if mask.testBit n then
    c.mapEng1 n (fun e => { e with stopAt := some (e.stopAt.getD (nextTick now)) }) else c) (c.tkSync now)

/-- Every engine stopped at once, with no start to come: DUSK and COMPLINE (09 R298, 16 R477). -/
def Core.tkHalt (now : Nat) (c : Core) : Core :=
  (c.tkSync now).mapTk (fun t => { t with
    engs := t.engs.map (fun e => { stopOne e with starts := [], stopAt := none, dbg := [] }) })

def execTkStop (t : Nat) (viaBar : Bool) (orig : Orig) (mask : Word16) (s : State) :
    Host.Outcome State Fault Refusal :=
  State.run t (fun now c =>
    if viaBar then (if c.barOwns then c.tkStop now mask.toNat else c.tkRefused 0)
    else c.command now orig 0x2C00 3 2 mask.toNat [] (Core.tkStop now mask.toNat)) s

/-- The autostart, once on the first STANDBY after BOOT and once at the end of Dawn (09 R298). -/
def Core.tkAutostart (now : Nat) (c : Core) : Core :=
  if c.tk.autoDone || c.mode != .standby then c
  else ((c.tkSync now).tkStartMask (c.startGrid now) (c.obj 0x2C00 7)).mapTk (fun t => { t with autoDone := true })

def execTkAutostart (t : Nat) (s : State) : Host.Outcome State Fault Refusal :=
  State.run t (fun now c => c.tkAutostart now) s

/-! ### STEP, INJECT, CLEAR_ERR (09 R300, R302) -/

/-- A TK_CTRL command of engine `n`: taken only from HOST as owner of ALARM, and, where it needs a
stopped engine, only while the engine is stopped (09 R300, R308). -/
def Core.tkCtrl (now n : Nat) (stopped : Bool) (f : Core → Core) (c : Core) : Core :=
  if c.barOwns && (!stopped || !(c.tkAt now n).running) then f c else c.tkRefused n

/-- A debugging command acts at the next tick, with the inputs of that tick (09 R297, R300). -/
def Core.tkDebugAt (now n : Nat) (inject : Bool) (c : Core) : Core :=
  c.mapEng1 n (fun e => { e with dbg := e.dbg ++ [(nextTick now, inject)] })

def execTkDoStep (t : Nat) (n : Fin 16) (ext : Word32) (s : State) : Host.Outcome State Fault Refusal :=
  State.run t (fun now c => ((c.tkSync now).pinsTake now ext).tkCtrl now n.val true (Core.tkDebugAt now n.val false)) s

def execTkInject (t : Nat) (n : Fin 16) (ext : Word32) (s : State) : Host.Outcome State Fault Refusal :=
  State.run t (fun now c => ((c.tkSync now).pinsTake now ext).tkCtrl now n.val true (Core.tkDebugAt now n.val true)) s

def Core.tkClearErr (n : Nat) (c : Core) : Core :=
  c.mapEng1 n (fun e => { e with
    rxOver := false, txUnder := false, alarmLost := false, wrRefused := false, stepStall := false })

def execTkClearErr (t : Nat) (n : Fin 16) (s : State) : Host.Outcome State Fault Refusal :=
  State.run t (fun now c => (c.tkSync now).tkCtrl now n.val false (Core.tkClearErr n.val)) s

/-! ### Receive, transmit, interrupts (09 R301, R302) -/

/-- A word from host or firmware for RX (09 R302). -/
def Core.tkRxPush (now n : Nat) (w : Word32) (c : Core) : Core :=
  if c.obj (0x2C10 + n) 5 = 0 ∧ (c.eng1 n).rx.length < 8 then
    (c.tickMark now n).mapEng1 n (fun e => { e with rx := e.rx ++ [w] })
  else c.mapEng1 n (fun e => { e with rxOver := true })

def execTkRxWrite (t : Nat) (viaBar : Bool) (orig : Orig) (n : Fin 16) (w : Word32) (s : State) :
    Host.Outcome State Fault Refusal :=
  State.run t (fun now c =>
    if viaBar then (c.tkSync now).tkRxPush now n.val w
    else c.command now orig (0x2C10 + n.val) 0x0A 4 w.toNat [] (fun c => (c.tkSync now).tkRxPush now n.val w)) s

/-- The head of TX removed and answered; 0 with TX_UNDERRUN when TX is empty (09 R302). -/
def Core.tkTxPop (now n : Nat) (c : Core) : Nat × Core :=
  match (c.eng1 n).tx with
  | [] => (0, c.mapEng1 n (fun e => { e with txUnder := true }))
  | w :: l => (w.toNat, (c.tickMark now n).mapEng1 n (fun e => { e with tx := l }))

def execTkTxRead (t : Nat) (viaBar : Bool) (orig : Orig) (n : Fin 16) (s : State) :
    Host.Outcome State Fault Refusal :=
  State.run t (fun now c =>
    let r := (c.tkSync now).tkTxPop now n.val
    if viaBar then r.2.emit (.bar (some r.1))
    else if orig = .sdo ∧ c.emergencyOn = false then c
    else r.2.emit (.sdo (0x2C10 + n.val) 0x0B 0 (leBytes 4 r.1))) s

def execTkIrqClear (t : Nat) (mask : Word32) (s : State) : Host.Outcome State Fault Refusal :=
  State.run t (fun now c => (c.tkSync now).mapTk (fun k => { k with irq := k.irq &&& ~~~(mask.setWidth 16) })) s

/-! ### Alarm routes and delivery (09 R303 to R306) -/

/-- Route `r` in force. -/
def Core.route (c : Core) (r : Nat) : Nat := (c.tk.routes.getD r 0).toNat

/-- The routes of channel `ch` that are enabled: VALID and enabled by 6000h.03 (09 R303). -/
def Core.routesOf (c : Core) (ch : Nat) : List Nat :=
  (List.range 32).filter (fun r => (c.route r).testBit 15 && c.tk.routeEn.getLsbD r &&
    c.route r % 64 == ch)

/-- The engines reached by enabled routes with early release (09 R304). -/
def Core.earlySet (c : Core) (ch : Nat) : BitVec 16 :=
  ((c.routesOf ch).filter (fun r => (c.route r).testBit 12)).foldl
    (fun m r => m ||| BitVec.ofNat 16 (2 ^ field (c.route r) 11 8)) 0

/-- The engines reached by enabled routes without it and not early (09 R304). -/
def Core.lateSet (c : Core) (ch : Nat) : BitVec 16 :=
  (((c.routesOf ch).filter (fun r => !(c.route r).testBit 12)).foldl
    (fun m r => m ||| BitVec.ofNat 16 (2 ^ field (c.route r) 11 8)) 0) &&& ~~~(c.earlySet ch)

/-- One alarm word into one engine's RX, or lost (09 R304, R306). -/
def Core.deliverTo (now : Nat) (w : BusWord) (c : Core) (n : Nat) : Core :=
  if !w.targets.getLsbD n then c
  else if (c.eng1 n).rx.length < 8 then
    (c.tickMark now n).mapEng1 n (fun e => { e with rx := e.rx ++ [w.word] })
  else
    ((c.mapEng1 n (fun e => { e with alarmLost := true, lostCh := w.ch })).bump (0x2C10 + n) 9).event
      now 0x5071 0xFF (leBytes 1 n ++ leBytes 1 w.ch)

/-- The oldest word on the bus delivered to its whole delivery set; the words of a channel whose routes
are poisoned are held (12 R378), and every word in a tick that the bus withholds (R305). -/
def Core.deliver (now : Nat) (c : Core) : Core :=
  if c.tk.withheld = some (tickOf now) then c else
  let c := c.sramFind now (fun a => c.eng.bus.any (fun w => routeWord w.ch == a))
  match c.eng.bus.find? (fun w => !c.routeBad w.ch) with
  | none => c
  | some w => (List.range 16).foldl (Core.deliverTo now w)
      ((c.mapEng (fun e => { e with bus := e.bus.erase w })).mapTk (fun t => { t with
        busTick := (if w.targets = 0 then t.busTick else some (tickOf now)) }))

def execAlarmDelivery (t : Nat) (s : State) : Host.Outcome State Fault Refusal :=
  State.run t (fun now c => if c.ticks then (c.tkSync now).deliver now else c) s

/-- The value in force of route `r`, or of the enables (32). -/
def Core.routeValue (c : Core) (r : Nat) : Nat := if r = 32 then c.tk.routeEn.toNat else c.route r

/-- After a write of route `r`, or of the enables (32): a value that differs from the one in force waits for a quiet point,
in place of an earlier one that waits still (09 R305; DEDUCED, log entry 167). -/
def Core.routeChanged (now r v : Nat) (c : Core) : Core :=
  let others := c.tk.changes.filter (fun x => x.key != r)
  let l := if v = c.routeValue r then others
    else others ++ [{ at_ := now, key := r, value := BitVec.ofNat 32 v }]
  c.mapTk (fun t => { t with changes := l })

/-- One change is in force. -/
def Core.routeInForce (c : Core) (x : RouteChange) : Core :=
  (c.mapTk (fun t => if x.key = 32 then { t with routeEn := x.value }
    else { t with routes := (List.range 32).map (fun r => if r = x.key then x.value else t.routes.getD r 0) })).bump 0x2C42 0

/-- The changes written in a tick before that of `now` are in force (09 R305). -/
def Core.routesInForce (now : Nat) (c : Core) : Core :=
  let due := fun (x : RouteChange) => decide (tickOf x.at_ < tickOf now)
  ((c.tk.changes.filter due).foldl Core.routeInForce c).mapTk (fun t => { t with
    changes := c.tk.changes.filter (fun x => !due x) })

/-- The bus delivers an event to some engine in the tick of `now`, or has done so (09 R304, R305). -/
def Core.busDelivers (now : Nat) (c : Core) : Bool :=
  c.tk.busTick == some (tickOf now) || match c.eng.bus.find? (fun w => !c.routeBad w.ch) with
    | some w => w.targets != 0
    | none => false

/-- A quiet point: a tick after that of the write in which the bus delivers no event to any engine. After 256 ticks
without one the bus withholds its events for this tick (09 R305). -/
def Core.routesApply (now : Nat) (c : Core) : Core :=
  if !c.ticks then c
  else if !c.busDelivers now then c.routesInForce now
  else if c.tk.busTick != some (tickOf now) && c.tk.changes.any (fun x => tickOf x.at_ + 256 ≤ tickOf now) then
    (c.routesInForce now).mapTk (fun t => { t with withheld := some (tickOf now) })
  else c

def execRouteChange (t : Nat) (s : State) : Host.Outcome State Fault Refusal :=
  State.run t (fun now c => c.routesApply now) s

/-! ### Object values and checks (09 R292, R293, R299, R303, R310) -/

/-- The status word 2C1nh.06 and TK_STATUS. -/
def Core.tkStatus (c : Core) (now n : Nat) : Nat :=
  let e := c.tkAt now n
  e.st.toNat + 64 * b2n e.running + 128 * b2n e.held.isSome + 256 * b2n (e.inDelay && now < e.next) +
  512 * b2n e.rxOver + 1024 * b2n e.txUnder + 2048 * b2n e.alarmLost + 4096 * b2n e.lutError +
  8192 * b2n e.flag + 16384 * b2n (c.shLen n ≤ e.cnt) + 32768 * b2n e.divPend.isSome +
  65536 * e.rx.length + 2 ^ 20 * e.tx.length + 2 ^ 24 * b2n e.wrRefused + 2 ^ 25 * b2n e.stepStall

def Core.tkMask (c : Core) (now : Nat) (f : Tk → Bool) : Nat :=
  sumNat ((List.range 16).map (fun n => if f (c.tkAt now n) then 2 ^ n else 0))

/-- The pins that a map names. -/
def mapPins (m : Nat) : List Nat :=
  ((List.range 8).map (fun j => field m (8 * j + 7) (8 * j))).filterMap (fun b =>
    if b.testBit 7 then some (b % 32) else none)

/-- A map is consistent: no pin twice, none of another engine's, every pin an output (09 R293). -/
def Core.mapOk (c : Core) (n m : Nat) : Bool :=
  let ps := mapPins m
  decide ps.Nodup && ps.all (fun p => c.pinCfg p % 4 != 0 &&
    (List.range 16).all (fun k => k == n || !(mapPins (c.obj (0x2C10 + k) 2)).contains p))

/-- A LUT entry without a reserved action (09 R286). -/
def lutOk : List Byte → Bool
  | _ :: _ :: a :: _ :: _ :: _ :: _ :: _ :: l => a.toNat % 8 != 7 && lutOk l
  | _ => true

/-- The reserved bits of one half of an entry ignored (09 R286, 00 R5). -/
def halfStrip (high : Bool) (v : Nat) : Nat := if high then v % 256 else v &&& 0xFF0FFF3F

/-- LUT bytes with their reserved bits ignored (09 R286, 00 R5). -/
def lutStrip : List Byte → List Byte
  | b0 :: b1 :: b2 :: b3 :: b4 :: _ :: _ :: _ :: l =>
    (b0 &&& 0x3F) :: b1 :: (b2 &&& 0x0F) :: b3 :: b4 :: 0 :: 0 :: 0 :: lutStrip l
  | l => l

/-- Reasons of the tinker objects to refuse a value (09 R292, R293, R299, R303). -/
def Core.tkCodes (c : Core) (now idx sub v : Nat) : List Nat :=
  if 0x2C10 ≤ idx && idx ≤ 0x2C1F then
    let n := idx - 0x2C10
    reason ((c.tkAt now n).running && [1, 2, 4, 5, 7].contains sub) 0x08000023 ++
    reason (sub == 2 && !c.mapOk n v) 0x08000031 ++
    reason (sub == 4 && (v % 64 == 0 || 32 < v % 64)) 0x06090030 ++
    reason (sub == 5 && v == 0 && (List.range 32).any (fun r =>
      (c.obj 0x2C40 (r + 1)).testBit 15 && field (c.obj 0x2C40 (r + 1)) 11 8 == n)) 0x08000031
  else if idx = 0x2C30 then
    reason (v % 4 == 3 || field v 4 3 == 3) 0x06090030 ++
    reason ((v.testBit 2 && v % 4 == 0) || (field v 4 3 == 2 && v % 4 == 2) ||
      (v % 4 == 0 && (c.pinDriver (sub - 1)).isSome)) 0x08000031
  else if idx = 0x2C40 then
    reason (v.testBit 15 && c.obj (0x2C10 + field v 11 8) 5 == 0) 0x08000031
  else []

/-- The effect of an accepted tinker value. -/
def Core.tkAccept (now idx sub v : Nat) (c : Core) : Core :=
  let c := c.tkSync now
  if 0x2C10 ≤ idx && idx ≤ 0x2C1F then
    let n := idx - 0x2C10
    if sub = 3 then
      (c.store idx sub v).mapEng1 n (fun e =>
        if e.running then { e with divPend := some v } else { e with div := v, divPend := none })
    else if sub = 7 then (c.tickMark now n).mapEng1 n (fun e => { e with sr := BitVec.ofNat 32 v })
    else if sub = 0x0A then c.tkRxPush now n (BitVec.ofNat 32 v)
    else c.store idx sub v
  else if idx = 0x2C40 then (c.store idx sub v).routeChanged now (sub - 1) v
  else if idx = 0x2C00 && sub = 2 then c.tkStart now v
  else if idx = 0x2C00 && sub = 3 then c.tkStop now v
  else c.store idx sub v

end Sys2Proof.Machine
end

