-- ==== Sys2Proof/Machine/Geometry.lean ====
section
/-!
DEFINITION. The geometry of rows and web lines: stripes and rows (03 R76, R93), pitches and the web
coordinate (05 R135 to R137), rates (01 R20 to R22), parameter generations (06 R180) and the line
numbers of WEB and SHEET (05 R136, R169).
-/

namespace Sys2Proof.Machine

/-- TDI rows k (03 R93). -/
def Core.tdi (c : Core) : Nat := c.obj 0x2210 0

/-- Converter depth N (04 R109). -/
def Core.depth (c : Core) : Nat := c.obj 0x2300 0

/-- Dual operation (03 R85), and SPLIT in it (06 R200). -/
def Core.dual (c : Core) : Bool := c.obj 0x2212 0 == 1
def Core.splitOn (c : Core) : Bool := c.dual && c.obj 0x2630 1 == 1

/-- The first physical row of a stripe (03 R76). -/
def stripeRow (s : Nat) : Nat := 8 + 52 * s

/-- The bank that converts a stripe: 0 north, 1 south (03 R76). -/
def stripeBank (s : Nat) : Nat := if s < 3 then 0 else 1

def Core.reversed (c : Core) : Bool := c.obj 0x2403 0 == 1

/-- The web-line pitch in force, pm (05 R135). -/
def Core.pitch (c : Core) : Rat := ((max 1 (c.obj 0x2404 3) : Nat) : Rat)

/-- p_R / p_L. -/
def Core.rowRatio (c : Core) : Rat := (c.obj 0x2404 1 : Rat) / c.pitch

/-- The web-line pitch that 05 R135 gives for the settings. -/
def Core.pitchFor (c : Core) : Nat := if 2 ≤ c.tdi then c.obj 0x2404 1 else c.obj 0x2404 2

/-- The coordinate of physical row `r` less the web position (05 R136). -/
def Core.rowOffset (c : Core) (r : Nat) : Rat :=
  (if c.reversed then 315 - (r : Rat) else (r : Rat) - 8) * c.rowRatio

/-- The parameter value in force for the lines of a generation (06 R180). -/
def Gen.obj (g : Gen) (idx sub : Nat) : Nat := sget dfltOf g.params (key idx sub)

def Core.gens (c : Core) : List Gen := c.pipe.gens

/-- The parameters in force now, as a generation from line `first` on. -/
def Core.genNow (c : Core) (first : Nat) (start : Nat := 0) : Gen :=
  { first := first, start := c.stamp start, dcFree := c.dcFree, g0 := c.obj 0x2802 1, g1 := c.obj 0x2802 2, gm := c.obj 0x2491 0,
    band := c.obj 0x3330 0x1B, params := c.dict }

/-- The generation of a web line (06 R180). -/
def Core.genAt (c : Core) (line : Int) : Gen :=
  match (c.gens.reverse).find? (fun g => (g.first : Int) ≤ line) with
  | some g => g
  | none => match c.gens with
    | g :: _ => g
    | [] => c.genNow 0

/-- The coordinate from which a generation's settings hold. -/
def Core.genCoord (c : Core) (g : Gen) : Int :=
  if c.job.sheet then match (c.mot.sheets.reverse).find? (fun s => s.first ≤ g.first && g.first < s.first + s.len) with
    | some s => s.coord + (g.first - s.first : Nat)
    | none => g.first
  else g.first

/-- The window start of stripe `s` under a generation. -/
def Gen.window (g : Gen) (s : Nat) : Nat := g.obj 0x2211 (s + 1)

/-- The entry and exit rows (05 R137). -/
def Core.entryRow (c : Core) (g : Gen) : Nat :=
  if c.reversed then 8 + g.window 0 else 268 + g.window 5 + c.tdi - 1
def Core.exitRow (c : Core) (g : Gen) : Nat :=
  if c.reversed then 268 + g.window 5 + c.tdi - 1 else 8 + g.window 0

/-- The entry-side window row of a stripe (06 R181). -/
def Core.entrySide (c : Core) (g : Gen) (s : Nat) : Nat :=
  stripeRow s + g.window s + (if c.reversed then 0 else c.tdi - 1)

/-- The generation that sets the sensor side of a stripe in the exposure of a target: the newest whose first
web line the stripe's entry-side window row has reached, that row being the one of its own window (05 R149,
06 R181; log entry 126). -/
def Core.sensorGen (c : Core) (target : Rat) (s : Nat) : Gen :=
  match (c.gens.reverse).find? (fun g =>
    decide (c.genCoord g ≤ (target + c.rowOffset (c.entrySide g s)).floor)) with
  | some g => g
  | none => match c.gens with
    | g :: _ => g
    | [] => c.genNow 0

/-- The stripe that sees new web first (05 R137). -/
def Core.entryStripe (c : Core) : Nat := if c.reversed then 0 else 5

/-- The generation of the entry row in the exposure of a target, and the coordinate under that row. -/
def Core.entryGen (c : Core) (target : Rat) : Gen := c.sensorGen target c.entryStripe
def Core.entryCoord (c : Core) (target : Rat) : Int :=
  (target + c.rowOffset (c.entryRow (c.entryGen target))).floor

/-- The phase of an exposure (05 R146). -/
def Core.phase (c : Core) (b : Bool) : Rat :=
  (c.obj 0x2432 (if !c.dual then 1 else if b then 3 else 2) : Rat) / 256

/-- The newest generation. -/
def Core.genLast (c : Core) : Gen := c.gens.getLastD (c.genNow 0)

/-- The coordinate under the entry row at web position `x`. -/
def Core.entryAt (c : Core) (x : Rat) : Rat := x + c.rowOffset (c.entryRow c.genLast)
def Core.exitAt (c : Core) (x : Rat) : Rat := x + c.rowOffset (c.exitRow c.genLast)

/-- The shortest web-line period of 01 R20, R22, ns; 2k rows in dual operation (03 R86). -/
def Core.linePeriodMin (c : Core) : Nat :=
  max 2400 (3 * c.tdi * (if c.dual then 2 else 1) * rowPeriod c.depth)

/-- Web speed in m/s of a velocity in pitches per ns (05 R143). -/
def Core.speed (c : Core) (v : Rat) : Rat := v * c.pitch / 1000

/-- Velocity in pitches per ns of a speed in m/s. -/
def Core.ofSpeed (c : Core) (u : Rat) : Rat := u * 1000 / c.pitch

def Core.maxSpeed (c : Core) : Rat := c.objF 0x2404 4

/-- P_min = p_L / maximum web speed, ns (05 R148). -/
def Core.pMin (c : Core) : Rat := c.pitch / (1000 * c.maxSpeed)

/-- The line rate R_L, lines per ns (07 R242). -/
def Core.lineRate (c : Core) (sheetTimed : Bool) : Rat :=
  if sheetTimed then 1 / ((4 * c.obj 0x2460 6 : Nat) : Rat)
  else min (1000 * c.maxSpeed / c.pitch) (1 / (c.linePeriodMin : Rat))

def Core.timedSheet (c : Core) : Bool := c.obj 0x2460 1 == 1

/-- Lines are counted by sheets: the job's way while it runs, else the mode's (05 R169). -/
def Core.inSheet (c : Core) : Bool := if c.job.running then c.job.sheet else c.mode == .sheet

/-- A timed sheet job runs: the web loop is idle (05 R171). -/
def Core.timedJob (c : Core) : Bool :=
  c.inSheet && (if c.job.running then c.job.timed else c.timedSheet)

/-- The sheet that holds a coordinate (05 R169, R170). -/
def Core.sheetAt (c : Core) (u : Int) : Option SheetRun :=
  (c.mot.sheets.reverse).find? (fun s => s.coord ≤ u && u < s.coord + (s.len : Int))

/-- The web line of a coordinate: itself in WEB mode, by its sheet in SHEET mode; none before the
job or outside every sheet. -/
def Core.lineOf (c : Core) (u : Int) : Option Nat :=
  if c.inSheet then (c.sheetAt u).map (fun s => s.first + (u - s.coord).toNat)
  else if u < 0 then none else some u.toNat

/-- The sheet of a web line. -/
def Core.sheetOf (c : Core) (n : Nat) : Option SheetRun :=
  (c.mot.sheets.reverse).find? (fun s => s.first ≤ n && n < s.first + s.len)

/-- The coordinate of a web line. -/
def Core.coordOf (c : Core) (n : Nat) : Int :=
  if c.inSheet then match c.sheetOf n with
    | some s => s.coord + (n - s.first : Nat)
    | none => n
  else n

/-- The epoch length of the running job (06 R178). -/
def Core.epochLen (c : Core) : Nat := max 1 c.job.epochLen

/-- First and last web line of the epoch or sheet of a web line (06 R178). -/
def Core.unitOf (c : Core) (n : Nat) : Nat × Nat :=
  if c.inSheet then match c.sheetOf n with
    | some s => (s.first, s.first + s.len - 1)
    | none => (n, n)
  else
    let e := n / c.epochLen
    (e * c.epochLen, e * c.epochLen + c.epochLen - 1)

/-- Enabled columns: the first and the number (03 R99). -/
def Core.firstCol (c : Core) : Nat := 4096 * (c.segsOn.headD 0)
def Core.numCols (c : Core) : Nat := 4096 * c.segsOn.length

/-- Gain multiplier of a stripe under a generation (04 R111), and its exposure in ticks (05 R148). -/
def Gen.gain (g : Gen) (s : Nat) : Nat := g.obj 0x2303 (s + 1)
def Gen.expo (g : Gen) (b : Bool) (s : Nat) : Nat := g.obj (if b then 0x2431 else 0x2430) (s + 1)

/-- The sensor-side settings of a stripe for an exposure (06 R181): exposure time, gain, bandwidth and window
start. -/
def Gen.sensor (g : Gen) (b : Bool) (s : Nat) : List Nat :=
  [g.expo b s, g.gain s, g.obj 0x2304 (s + 1), g.window s]

/-- The pending depth D of the line buffers (06 R195). -/
def Core.pendingDepth (c : Core) : Int :=
  let n := max 1 c.segsOn.length
  let e : Rat := if c.dual then 2 else 1
  let s : Rat := if c.splitOn then 2 else 1
  let k : Rat := (c.tdi : Rat)
  (((7168 : Rat) / (n : Rat) - 792 * s - 12 * k * e) / (6 * s + 6 * k * e)).floor

/-- The depth a job needs: ceil(c / p_L) with the encoder in use, in a job the one that the loop follows
(05 R140, 06 R196). -/
def Core.neededDepth (c : Core) : Nat :=
  let src := if c.job.running then c.mot.encInUse else if c.obj 0x2402 0 = 1 then 1 else 0
  (((c.obj (0x2400 + src) 2 : Rat) / c.pitch).ceil).toNat

end Sys2Proof.Machine
end

