-- ==== Sys2Proof/Machine/Alarms.lean ====
section
/-!
DEFINITION. The alarm bus (08 R274 to R276, 05 R158, 09 R304): raising alarms, their outcomes in
order per channel, and their deadlines.
-/

namespace Sys2Proof.Machine

/-- An alarm-bus word (08 R274). -/
def alarmWord (ch kind reason num : Nat) : Word32 :=
  BitVec.ofNat 32 (ch + kind * 64 + reason * 256 + num * 65536)

/-- An event on the bus; CONFIRM and CONFIRMED show in 6100h.05 (08 R274, 02 R57). -/
def Core.busSend (ch kind reason num : Nat) (targets : BitVec 16) (c : Core) : Core :=
  let w := alarmWord ch kind reason num
  let c := c.emit (.alarm w)
  let c := c.when (kind == 1 || kind == 3) (Core.mapEc (fun e => { e with
    alarmBits := e.alarmBits ||| BitVec.ofNat 64 (2 ^ ch) }))
  c.mapEng (fun e => { e with bus := e.bus ++ [{ word := w, ch := ch, targets := targets }] })

/-- The next number of a channel, taken (08 R274). -/
def Core.takeNumber (ch : Nat) (c : Core) : Nat × Core :=
  let n := (alook c.eng.alarmNum ch).getD 0
  (n, c.mapEng (fun e => { e with alarmNum := aput e.alarmNum ch ((n + 1) % 65536) }))

/-- The deadline of an alarm raised at `now`: 50 µs or 4 predicted intervals (05 R142, R158). -/
def Core.alarmDue (c : Core) (now : Nat) : Nat :=
  let v := if c.mot.vHat < 0 then -c.mot.vHat else c.mot.vHat
  let cp : Rat := (c.obj (0x2400 + c.mot.encInUse) 2 : Rat)
  if v = 0 then now + 50000
  else now + min 50000 (4 * cp / (v * c.pitch)).floor.toNat

/-- A RAISE for web line `n` of a blob part that begins at line `f`; an open alarm of the channel
for the same line takes it in (08 R275, R276, 09 R304). -/
def Core.raise (now ch f n : Nat) (c : Core) : Core :=
  let last := (c.eng.opens.filter (fun a => a.ch == ch)).getLast?
  let joins := match last with
    | some a => a.line == n
    | none => false
  if joins then c
  else
    let r := c.takeNumber ch
    let a : OpenAlarm := {
      ch := ch, num := r.1, first := f, line := n, deadline := r.2.alarmDue now, known := none,
      early := r.2.earlySet ch, late := r.2.lateSet ch }
    (r.2.mapEng (fun e => { e with opens := e.opens ++ [a] })).busSend ch 0 0 r.1 a.early

/-- A CONFIRMED event (08 R275). -/
def Core.confirmed (ch : Nat) (c : Core) : Core :=
  let r := c.takeNumber ch
  r.2.busSend ch 3 0 r.1 (r.2.earlySet ch ||| r.2.lateSet ch)

/-- The outcome of an open alarm issued (05 R158, 09 R304). -/
def Core.outcome (a : OpenAlarm) (o : Outcome) (c : Core) : Core :=
  let c := c.mapEng (fun e => { e with
    opens := e.opens.filter (fun x => !(x.ch == a.ch && x.num == a.num)) })
  match o with
  | .confirm => c.busSend a.ch 1 0 a.num (a.early ||| a.late)
  | .motion => c.busSend a.ch 2 0 a.num a.early
  | .untested => c.busSend a.ch 2 1 a.num a.early
  | .timeout => (c.busSend a.ch 2 2 a.num a.early).bump 0x2421 6

/-- The resolution of a web line of the inspected context (06 R203). -/
def Core.lineRes (c : Core) (n : Nat) : Option Resolution :=
  match c.pipe.lines.find? (fun l => l.n == n && l.ctx == c.obj 0x2A10 2) with
  | some l => l.res
  | none => none

/-- What the lines of an alarm say, once all have resolved (08 R276). -/
def Core.alarmKnown (c : Core) (a : OpenAlarm) : Option Outcome :=
  let rs := (List.range (a.line + 1 - a.first)).map (fun i => c.lineRes (a.first + i))
  if rs.contains none then none
  else if rs.contains (some .replace) then some .motion
  else if rs.contains (some .untested) then some .untested
  else some .confirm

/-- Every open alarm of a channel up to the last whose deadline has passed takes its known outcome
or TIMEOUT, in order (05 R158). -/
def Core.alarmsDue1 (now ch : Nat) (c : Core) : Core :=
  let mine := c.eng.opens.filter (fun a => a.ch == ch)
  let k := (mine.zipIdx.filter (fun p => p.1.deadline ≤ now)).foldl (fun k p => max k (p.2 + 1)) 0
  (mine.take k).foldl (fun c a => c.outcome a (a.known.getD .timeout)) c

def Core.alarmsDue (now : Nat) (c : Core) : Core :=
  if c.clk.tHeld then c else (List.range 64).foldl (fun c ch => c.alarmsDue1 now ch) c

/-- Known outcomes issued on every channel, each behind the earlier alarms of its channel. -/
def Core.alarmsIssue (c : Core) : Core :=
  (c.eng.opens.foldl (fun (r : List Nat × Core) a =>
    if r.1.contains a.ch then r
    else match a.known with
      | some o => (r.1, r.2.outcome a o)
      | none => (a.ch :: r.1, r.2)) ([], c)).2

/-- Held alarms of channels that were not early: CONFIRMED once their line resolves PASS, gone once it
resolves otherwise (08 R275). -/
def Core.heldIssue (c : Core) : Core :=
  let known := c.eng.heldAl.filter (fun h => (c.lineRes h.1).isSome)
  let c := c.mapEng (fun e => { e with
    heldAl := e.heldAl.filter (fun h => !known.contains h) })
  known.foldl (fun c h => c.when (c.lineRes h.1 == some .pass) (Core.confirmed h.2)) c

/-- Deadlines first, then what the lines' resolutions settle (05 R158, 08 R276): an outcome known exactly at the
deadline comes too late (DESIGN CHOICE, log entry 151). -/
def Core.alarmsFollow (now : Nat) (c : Core) : Core :=
  if c.clk.tHeld then c
  else
    let c := c.alarmsDue now
    let c := c.mapEng (fun e => { e with opens := e.opens.map (fun a =>
      { a with known := match a.known with
        | some o => some o
        | none => c.alarmKnown a }) })
    c.alarmsIssue.heldIssue

def execAlarmDeadline (t : Nat) (ch : Fin 64) (s : State) : Host.Outcome State Fault Refusal :=
  State.run t (fun now c => c.when (!c.clk.tHeld) (Core.alarmsDue1 now ch.val)) s

end Sys2Proof.Machine
end

