-- ==== Sys2Proof/Machine/Colour.lean ====
section
/-!
DEFINITION. Colour arithmetic: CIEDE2000 (08 R254), the hue (08 R259) and the conversion of a display pixel to
sRGB (07 R237). The real functions are evaluated in fixed point with 64 fractional bits (log entry 12).
-/

namespace Sys2Proof.Machine

/-! ### Real functions in fixed point -/

/-- A number cut to 64 fractional bits. -/
def fix (q : Rat) : Rat := ((q * 18446744073709551616).floor : Rat) / 18446744073709551616

def absQ (q : Rat) : Rat := if q < 0 then -q else q

/-- The square root of a number that is not negative. -/
def sqrtQ (q : Rat) : Rat :=
  ((q * 340282366920938463463374607431768211456).floor.toNat.sqrt : Rat) / 18446744073709551616

def piQ : Rat := 31415926535897932384626433832795028842 / 10000000000000000000000000000000000000

/-- A power series: terms `t 0 = a`, `t (i + 1) = t i * step i`, summed to `n` terms from index `i`. -/
def seriesQ (step : Nat → Rat) : Nat → Nat → Rat → Rat
  | 0, _, _ => 0
  | n + 1, i, t => t + seriesQ step n (i + 1) (fix (t * step i))

/-- Sine and cosine of an angle in degrees. -/
def sinDeg (d : Rat) : Rat :=
  let r := d - 360 * ((d / 360 + 1 / 2).floor : Rat)
  let x := fix (r * piQ / 180)
  fix (seriesQ (fun i => -(x * x) / ((2 * (i : Rat) + 2) * (2 * (i : Rat) + 3))) 24 0 x)

def cosDeg (d : Rat) : Rat := sinDeg (90 - d)

/-- e to the power of -y, y from 0 on. -/
def expNeg (y : Rat) : Rat :=
  let x := fix (y / 256)
  let e := fix (seriesQ (fun i => -x / ((i : Rat) + 1)) 24 0 1)
  (List.range 8).foldl (fun e _ => fix (e * e)) e

/-- The arc tangent of 0 to 1, in degrees. -/
def atanDeg (q : Rat) : Rat :=
  let half := fun (x : Rat) => fix (x / (1 + sqrtQ (1 + x * x)))
  let x := half (half q)
  let s := (List.range 24).foldl (fun (s : Rat × Rat) k =>
    (fix (s.1 + s.2 / (2 * (k : Rat) + 1)), fix (-(s.2 * x * x)))) (0, x)
  s.1 * 4 * 180 / piQ

/-- The angle of (a, b) in degrees, 0 to 360; 0 for (0, 0). -/
def hueDeg (a b : Rat) : Rat :=
  let x := absQ a
  let y := absQ b
  let t := if x = 0 then (if y = 0 then 0 else 90)
    else if y ≤ x then atanDeg (y / x) else 90 - atanDeg (x / y)
  if 0 ≤ a then (if 0 ≤ b || t = 0 then t else 360 - t) else if 0 ≤ b then 180 - t else 180 + t

/-! ### CIEDE2000 with kL = kC = kH = 1 (08 R254) -/

/-- C^7 / (C^7 + 25^7), square-rooted. -/
def chroma7 (x : Rat) : Rat := let p := fix (x * x * x * x * x * x * x); sqrtQ (p / (p + 6103515625))

/-- ΔE00 of two colours L*, a*, b*, by CIE's formula. -/
def ciede2000 (l1 a1 b1 l2 a2 b2 : Rat) : Rat :=
  let cm := (sqrtQ (a1 * a1 + b1 * b1) + sqrtQ (a2 * a2 + b2 * b2)) / 2
  let g := (1 - chroma7 cm) / 2
  let p1 := fix ((1 + g) * a1)
  let p2 := fix ((1 + g) * a2)
  let c1 := sqrtQ (p1 * p1 + b1 * b1)
  let c2 := sqrtQ (p2 * p2 + b2 * b2)
  let grey := (a1 = 0 && b1 = 0) || (a2 = 0 && b2 = 0)
  let h1 := hueDeg p1 b1
  let h2 := hueDeg p2 b2
  let d := h2 - h1
  let dh := if grey then 0 else if absQ d ≤ 180 then d else if 180 < d then d - 360 else d + 360
  let hm := if grey then h1 + h2 else if absQ d ≤ 180 then (h1 + h2) / 2
    else if h1 + h2 < 360 then (h1 + h2 + 360) / 2 else (h1 + h2 - 360) / 2
  let lm := (l1 + l2) / 2
  let cp := (c1 + c2) / 2
  let t := 1 - 17 / 100 * cosDeg (hm - 30) + 24 / 100 * cosDeg (2 * hm) + 32 / 100 * cosDeg (3 * hm + 6) -
    20 / 100 * cosDeg (4 * hm - 63)
  let th := 30 * expNeg (((hm - 275) / 25) * ((hm - 275) / 25))
  let k := (lm - 50) * (lm - 50)
  let x := fix ((l2 - l1) / (1 + 15 / 1000 * k / sqrtQ (20 + k)))
  let y := fix ((c2 - c1) / (1 + 45 / 1000 * cp))
  let z := fix (2 * sqrtQ (c1 * c2) * sinDeg (dh / 2) / (1 + 15 / 1000 * cp * t))
  sqrtQ (x * x + y * y + z * z - sinDeg (2 * th) * 2 * chroma7 cp * y * z)

/-! ### sRGB (07 R237) -/

/-- The inverse of f of 06 R207. -/
def labInv (t : Rat) : Rat := if 6 / 29 < t then t * t * t else 108 / 841 * (t - 4 / 29)

/-- CIE XYZ of L*, a*, b* against a white point (06 R207). -/
def labXyz (l a b : Rat) (w : Rat × Rat × Rat) : Rat × Rat × Rat :=
  let f := (l + 16) / 116
  (w.1 * labInv (f + a / 500), w.2.1 * labInv f, w.2.2 * labInv (f - b / 200))

/-- A 3 × 3 matrix, in units of 10^-7, times a vector. -/
def mulXyz (m : List Int) (v : Rat × Rat × Rat) : Rat × Rat × Rat :=
  let row := fun (i : Nat) => ((m.getD (3 * i) 0 : Rat) * v.1 + (m.getD (3 * i + 1) 0 : Rat) * v.2.1 +
    (m.getD (3 * i + 2) 0 : Rat) * v.2.2) / 10000000
  (row 0, row 1, row 2)

def bradford : List Int :=
  [8951000, 2664000, -1614000, -7502000, 17135000, 367000, 389000, -685000, 10296000]
def bradfordInv : List Int :=
  [9869929, -1470543, 1599627, 4323053, 5183603, 492912, -85287, 400428, 9684867]

/-- XYZ to linear sRGB (IEC 61966-2-1). -/
def xyzRgb : List Int :=
  [32406000, -15372000, -4986000, -9689000, 18758000, 415000, 557000, -2040000, 10570000]

/-- XYZ adapted from a white point to D65, Y of white 1, by the Bradford transform. -/
def adaptD65 (w v : Rat × Rat × Rat) : Rat × Rat × Rat :=
  let s := mulXyz bradford w
  let d := mulXyz bradford (95047 / 100000, 1, 108883 / 100000)
  let p := mulXyz bradford v
  mulXyz bradfordInv (p.1 * d.1 / s.1, p.2.1 * d.2.1 / s.2.1, p.2.2 * d.2.2 / s.2.2)

/-- The byte of a linear component: clipped to 0 to 1, the transfer function of IEC 61966-2-1, rounded. Byte k
begins where 255 × the transferred value reaches k - 1/2. -/
def srgbByte (v : Rat) : Nat :=
  if v ≤ 31308 / 10000000 then (ratEven (max 0 v * 1292 / 100 * 255)).toNat
  else if 1 ≤ v then 255
  else ((List.range 255).filter (fun k =>
    let t : Rat := (((k : Rat) + 1 / 2) / 255 + 55 / 1000) / (1055 / 1000)
    decide (t ^ 12 ≤ v ^ 5))).length

/-- Component `k`, 0 R, 1 G, 2 B, of a colour under a white point, exactly rounded. -/
def srgbOf (k : Nat) (l a b : Rat) (w : Rat × Rat × Rat) : Nat :=
  let v := mulXyz xyzRgb (adaptD65 w (labXyz l a b w))
  srgbByte (if k = 0 then v.1 else if k = 1 then v.2.1 else v.2.2)

end Sys2Proof.Machine
end

