-- ==== Sys2Proof/Machine/Converters.lean ====
section
/-!
DEFINITION. Column converters (04): the ramp reference buffers, the journeyman walk of each segment
bank, and foreground calibration with its correction tables.
-/

namespace Sys2Proof.Machine

/-! ### Reference buffers (04 R118 to R121) -/

def Core.refBuf (c : Core) (q : Nat) : RefBuf := c.refs.getD q {}

def Core.mapRef (q : Nat) (f : RefBuf → RefBuf) (c : Core) : Core :=
  { c with refs := modAt c.refs q f }

/-- The settled mask 2302h.01 follows the buffers (04 R119). -/
def Core.refMask (c : Core) : Core :=
  c.put 0x2302 1 (sumNat ((List.range 16).map (fun q =>
    if (c.refBuf q).settled && (c.refBuf q).inWindow then 2 ^ q else 0)))

/-- A bank's buffer enabled at `now`, its count started (04 R118, R119). -/
def Core.refStart (now q : Nat) (c : Core) : Core :=
  c.mapRef q (fun _ => { enabledAt := some now })

/-- The buffers of every enabled segment's banks enabled; no effect while they are (04 R118). -/
def Core.refsEnable (now : Nat) (c : Core) : Core :=
  if c.flag 0x2301 0 then c
  else ((c.banksOn.foldl (fun c q => c.refStart now q) c).put 0x2301 0 1).refMask

/-- Every buffer disabled (04 R118, R121). -/
def Core.refsDisable (c : Core) : Core :=
  ({ c with refs := List.replicate 16 {} }.put 0x2301 0 0).refMask

/-- The buffers follow a change of the enabled segments (04 R119). -/
def Core.refsFollow (now old : Nat) (c : Core) : Core :=
  ((List.range 16).foldl (fun c q =>
    if !c.segOn (q / 2) then c.mapRef q (fun _ => {})
    else if c.flag 0x2301 0 && !old.testBit (q / 2) then c.refStart now q
    else c) c).refMask

/-- Reasons to refuse a write of 2301h.00 (04 R118). -/
def Core.refCodes (c : Core) (v : Nat) : List Nat :=
  reason (v == 0 && (c.mode == .calibrate || c.inspecting)) 0x08000021

def Core.refWrite (now v : Nat) (c : Core) : Core :=
  if v = 0 then c.refsDisable else c.refsEnable now

/-- A write of 2301h.00 taken: in DUSK it waits for Dawn (16 R472). -/
def Core.refTake (now v : Nat) (c : Core) : Core :=
  if c.waitsDawn 0x2301 0 then c.duskWrite 0x2301 0 v else c.refWrite now v

def execRefBufferEnable (t : Nat) (orig : Orig) (s : State) : Host.Outcome State Fault Refusal :=
  State.run t (fun now c => c.command now orig 0x2301 0 1 1 (c.refCodes 1) (Core.refTake now 1)) s

def execRefBufferDisable (t : Nat) (orig : Orig) (s : State) : Host.Outcome State Fault Refusal :=
  State.run t (fun now c => c.command now orig 0x2301 0 1 0 (c.refCodes 0) (Core.refTake now 0)) s

/-- Time from a buffer's enable to settled, ns (04 R119). -/
def refSettleNs : Nat := 25000000

/-- 25.000 ms have passed since the enable and the voltage check passes (04 R119). -/
def Core.refSettles (now q : Nat) (c : Core) : Core :=
  match (c.refBuf q).enabledAt with
  | some a => if a + refSettleNs ≤ now then
      (c.mapRef q (fun r => { r with settled := true })).refMask else c
  | none => c

def execRefBufferSettled (t : Nat) (q : Fin 16) (s : State) : Host.Outcome State Fault Refusal :=
  State.run t (fun now c => c.refSettles now q.val) s

/-! ### The journeyman walk (04 R122 to R128) -/

/-- Ramp cycles count: CALIBRATE outside foreground calibration, WEB and SHEET, with the walk
enabled (04 R125). -/
def Core.walkRuns (c : Core) (q : Nat) : Bool :=
  ((c.mode == .calibrate && !c.calRun) || c.inspecting) && c.flag 0x2310 1 &&
  c.segOn (q / 2) && !(c.walk q).stopped

/-- The walk state 2320h.q+1 (04 R134). -/
def ConvWalk.word (w : ConvWalk) : Nat :=
  w.cur + 128 * b2n (w.phase != .idle) + 256 * b2n w.stopped + 512 * b2n w.permanent +
  1024 * b2n w.noSpare

/-- A step in progress restarts at its takeover point; one that has passed and only waits for its handback does not
(04 R125; DESIGN CHOICE, log entry 179). -/
def Core.walkRestart (q : Nat) (c : Core) : Core :=
  c.mapWalk q (fun w => if w.phase == .idle || w.phase == .handback then w
    else { w with phase := .settle, cycles := 0, found := [], fresh := [] })

/-- A step in progress is abandoned; J stays where it is (04 R125). A first failed verification still counts
when the step restarts (log entry 135). -/
def Core.walkAbandon (q : Nat) (c : Core) : Core :=
  c.mapWalk q (fun w =>
    let w := { w with slotAt := none, waits := false }
    if w.phase == .idle then w
    else { w with phase := .idle, cycles := 0, found := [], fresh := [], passed := false })

def Core.walksAbandon (c : Core) : Core :=
  (List.range 16).foldl (fun c q => c.walkAbandon q) c

/-- The walks that may no longer run are abandoned. -/
def Core.walksFollow (c : Core) : Core :=
  (List.range 16).foldl (fun c q => if c.walkRuns q then c else c.walkAbandon q) c

/-- One ramp cycle of the bank counted, and its period for the lap's mean (04 R123, R124). -/
def Core.walkCycle (now q : Nat) (c : Core) : Core :=
  c.when (c.walkRuns q) (Core.mapWalk q (fun w =>
    let w := match w.slotAt with
      | some a => { w with slotAt := some now, lapNs := w.lapNs + (now - a), lapN := w.lapN + 1 }
      | none => { w with slotAt := some now }
    if w.phase == .idle then w else { w with cycles := w.cycles + 1 }))

def settleCycles : Nat := 4096
def measureCycles : Nat := 28672
def stepCycles : Nat := 36864

/-- Takeover: J begins converting the slice's columns (04 R123). -/
def Core.walkTakeover (q : Nat) (c : Core) : Core :=
  c.when (c.walkRuns q && (c.walk q).phase == .idle)
    (Core.mapWalk q (fun w => { w with
      serving := w.cur != 64, phase := .settle, cycles := 0, found := [], fresh := [], passed := false }))

/-- The settle phase ends after 4 096 ramp cycles (04 R123). -/
def Core.walkSettled (q : Nat) (c : Core) : Core :=
  c.when ((c.walk q).phase == .settle && settleCycles ≤ (c.walk q).cycles)
    (Core.mapWalk q (fun w => { w with phase := .measure }))

def execConvSettleEnd (t : Nat) (q : Fin 16) (s : State) : Host.Outcome State Fault Refusal :=
  State.run t (fun _ c => c.walkSettled q.val) s

/-- Gain from the means of LOW (10 %) and HIGH (90 % of full scale at ×1), in 1/64 code (04 R123). -/
def gainOf (r : ConvResult) : Rat := (4096 * 64 * 8 / 10 : Rat) / ((r.high - r.low : Int) : Rat)

/-- The table entry of a converter: offset in 1/64 code, gain as UQ1.15 (04 R132). -/
def entryOf (r : ConvResult) : Int × Nat :=
  (r.zero, (ratEven (gainOf r * 32768)).toNat)

/-- The measure phase ends: O and G of every converter are computed from the means (04 R123). -/
def Core.walkMeasured (q : Nat) (res : List ConvResult) (c : Core) : Core :=
  c.when ((c.walk q).phase == .measure && measureCycles ≤ (c.walk q).cycles)
    (Core.mapWalk q (fun w => { w with
      phase := .verify, found := res, fresh := res.map entryOf }))

def execConvMeasureEnd (t : Nat) (q : Fin 16) (res : List ConvResult) (s : State) :
    Host.Outcome State Fault Refusal :=
  State.run t (fun _ c => c.walkMeasured q.val res) s

/-- The MID mean corrected with the converter's new O and G, in 1/64 code (04 R123). -/
def midOf (r : ConvResult) (m : MidResult) : Rat := ((m.mid - r.zero : Int) : Rat) * gainOf r

/-- A converter passes verification: corrected MID within 0.5 code of half the full scale, every rms at most 2.0
codes, |O| at most 256 codes, G from 0.900 to 1.100, no stuck Gray bit (04 R123). -/
def passesOf (r : ConvResult) (m : MidResult) : Bool :=
  decide (131072 - 32 ≤ midOf r m) && decide (midOf r m ≤ 131072 + 32) &&
  decide (r.rms ≤ 128) && decide (m.rms ≤ 128) &&
  decide (r.zero.natAbs ≤ 16384) && decide (r.low < r.high) &&
  decide ((9 / 10 : Rat) ≤ gainOf r) && decide (gainOf r ≤ 11 / 10) && !r.stuck && !m.stuck

/-- Every converter of a slice passes: each measured converter has its MID result. -/
def slicePasses (res : List ConvResult) (mids : List MidResult) : Bool :=
  res.length == mids.length && (res.zip mids).all (fun p => passesOf p.1 p.2)

/-- The four bytes of a table entry (04 R132). -/
def entryBytes (e : Int × Nat) : List Byte := leBytes 2 (ofSigned 16 e.1) ++ leBytes 2 e.2

/-- New O and G of physical slice `p` written into the bank's table (04 R123, R132). -/
def Core.loadSlice (q p : Nat) (es : List (Int × Nat)) (c : Core) : Core :=
  c.putDom (0x5300 + q) (p * 512) (es.flatMap entryBytes)

/-- A slice that failed twice is retired (04 R127), or, with no spare left, stays connected and
carries BLIND (04 R128). A slice whose place J has taken for good stands as it is. A J that fails while it serves
a retired slice stops serving it (log entry 136); 2320h bit 9 stays 1 then (04 R127, R134; DESIGN CHOICE, log entry 180). -/
def Core.retireSlice (now q p : Nat) (c : Core) : Core :=
  let w := c.walk q
  let tail := leBytes 1 q ++ leBytes 1 p
  let fresh := { w with phase := .idle, failed := false, found := [], fresh := [] }
  if p = 64 then
    (((c.mapWalk q (fun _ => { fresh with serving := false, stopped := true, jRetired := true })).put 0x2330 (q + 1) 64).journal
      0x2330 (q + 1) 64 []).event now 0x5010 (q / 2) tail
  else if w.permanent && w.serving && w.cur == p then c
  else if w.jRetired || w.permanent then
    (c.mapWalk q (fun _ => { fresh with
      noSpare := true, blind := if w.blind.contains p then w.blind else w.blind ++ [p] })).event
      now 0x5011 (q / 2) tail
  else
    (((c.mapWalk q (fun _ => { fresh with cur := p, serving := true, stopped := true, permanent := true })).put
      0x2330 (q + 1) p).journal 0x2330 (q + 1) p []).event now 0x5010 (q / 2) tail

/-- The verify phase ends: the step passes and loads its entries, is repeated once, or retires the
slice (04 R123, R127). -/
def Core.walkVerified (now q : Nat) (mids : List MidResult) (c : Core) : Core :=
  let w := c.walk q
  if w.phase != .verify || w.cycles < stepCycles then c
  else if slicePasses w.found mids then
    (c.loadSlice q w.cur w.fresh).mapWalk q
      (fun w => { w with phase := .handback, passed := true, failed := false })
  else if w.failed then c.retireSlice now q w.cur
  else c.mapWalk q (fun w => { w with
    phase := .settle, cycles := 0, failed := true, found := [], fresh := [] })

def execConvVerifyEnd (t : Nat) (q : Fin 16) (mids : List MidResult) (s : State) :
    Host.Outcome State Fault Refusal :=
  State.run t (fun now c => c.walkVerified now q.val mids) s

/-- The lap time: 2 396 160 times the bank's mean ramp-cycle period, µs (04 R124). -/
def ConvWalk.lapTime (w : ConvWalk) : Nat := 2396160 * w.lapNs / (max 1 w.lapN) / 1000

/-- Handback; after the self step the lap is complete (04 R123, R124). -/
def Core.walkHandback (q : Nat) (c : Core) : Core :=
  let w := c.walk q
  if w.phase != .handback then c
  else if w.cur = 64 then
    ((c.mapWalk q (fun w => { w with
      cur := 0, serving := false, phase := .idle, passed := false, lapNs := 0, lapN := 0 })).bump
      0x2322 (q + 1)).put 0x2321 (q + 1) (w.lapTime % 2 ^ 32)
  else c.mapWalk q (fun w => { w with cur := w.cur + 1, serving := false, phase := .idle, passed := false })

/-! ### Reference window (04 R121) -/

/-- A buffer leaves its voltage window: an event in CALIBRATE, WEB and SHEET, and a step in
progress restarts (04 R121, R125). -/
def Core.refLeaves (now q : Nat) (c : Core) : Core :=
  let r := c.refBuf q
  if r.enabledAt.isNone || !r.inWindow then c
  else
    let c := ((c.mapRef q (fun r => { r with inWindow := false })).refMask).walkRestart q
    c.when (c.mode == .calibrate || c.inspecting)
      (Core.event now 0x5012 (q / 2) (leBytes 1 q))

def execRefBufferWindow (t : Nat) (q : Fin 16) (s : State) : Host.Outcome State Fault Refusal :=
  State.run t (fun now c => c.refLeaves now q.val) s

/-- The buffer is back within its window (04 R121). -/
def Core.refReturns (q : Nat) (c : Core) : Core :=
  (c.mapRef q (fun r => { r with inWindow := true })).refMask

def execRefBufferWindowReturn (t : Nat) (q : Fin 16) (s : State) :
    Host.Outcome State Fault Refusal :=
  State.run t (fun _ c => c.refReturns q.val) s

/-! ### Foreground calibration (04 R129 to R131) -/

/-- The state code of 2340h.02. -/
def Core.calStatus (c : Core) : Nat := field (c.obj 0x2340 2) 3 0

def Core.calStartCodes (c : Core) : List Nat :=
  reason (c.mode != .calibrate) 0x08000021 ++ reason c.calRun 0x08000031

/-- Every slice of every enabled bank begins its phases; the walk pauses (04 R129). -/
def Core.calStart (now : Nat) (c : Core) : Core :=
  ({ c.walksAbandon with calRun := true, calAt := now, calFailed := none, calEnd := none }).put 0x2340 2 1

def execFgCalStart (t : Nat) (orig : Orig) (s : State) : Host.Outcome State Fault Refusal :=
  State.run t (fun now c => c.command now orig 0x2340 1 1 1 c.calStartCodes (Core.calStart now)) s

/-- The slices that a pass of the calibration judges, as bank and physical slice: every slice of every enabled bank, J
included; in the repeat those that have failed (04 R127, R129). -/
def Core.calSlices (c : Core) : List (Nat × Nat) :=
  match c.calFailed with
  | some l => l
  | none => c.banksOn.flatMap (fun q => (List.range 65).map (fun p => (q, p)))

/-- The conversion time of a row, ns (04 R110). -/
def convNs (depth : Nat) : Nat := if depth = 12 then 1600 else if depth = 10 then 620 else 380

/-- An enabled segment's divider in force is 1 (10 R316). -/
def Core.testClock (c : Core) : Bool := c.obj 0x2D02 4 &&& c.obj 0x2201 0 != 0

/-- The settle, measure and verify phases of a pass are over: 36 864 ramp cycles at the minimum row period of the
depth in force, which under the test divider is half the doubled conversion time (04 R110, R129, 10 R316). The repeat of
failed slices takes a pass of its own (DESIGN CHOICE, log entry 176). -/
def Core.calPassOver (c : Core) (now : Nat) : Bool :=
  c.calAt + stepCycles * (if c.testClock then convNs else rowPeriod) (c.obj 0x2300 0) ≤ now

/-- What a pass found of a slice, its 128 converters; none where the command does not bring them all. -/
def calFound (res : List (Nat × Nat × List (ConvResult × MidResult))) (k : Nat × Nat) :
    Option (List (ConvResult × MidResult)) :=
  (res.find? (fun r => r.1 == k.1 && r.2.1 == k.2 && r.2.2.length == 128)).map (·.2.2)

def calPasses (res : List (Nat × Nat × List (ConvResult × MidResult))) (k : Nat × Nat) : Bool :=
  match calFound res k with
  | some l => l.all (fun p => passesOf p.1 p.2)
  | none => false

/-- The entries of a slice that passed are loaded (04 R129). -/
def Core.calLoad (res : List (Nat × Nat × List (ConvResult × MidResult))) (c : Core) (k : Nat × Nat) : Core :=
  c.loadSlice k.1 k.2 (((calFound res k).getD []).map (fun p => entryOf p.1))

/-- A defect that CALIBRATE has found joins the field map in its first free entry, unless a map has it already;
with no entry free it is dropped (03 R90, 06 R189; DESIGN CHOICE, log entry 175). -/
def Core.addDefect (c : Core) (d : Defect) : Core :=
  let w := d.col.val + d.row.val * 2 ^ 16 + d.stripe.val * 2 ^ 22
  let has := fun (idx : Nat) => (List.range 256).any (fun i =>
    let v := c.domWord idx (4 * i) 4
    v.testBit 31 && v % 32768 == d.col.val && field v 24 16 == field w 24 16)
  if has 0x5100 || has 0x5101 then c
  else match (List.range 256).find? (fun i => !(c.domWord 0x5101 (4 * i) 4).testBit 31) with
    | some i => c.putDom 0x5101 (4 * i) (leBytes 4 (w + 2 ^ 31))
    | none => c

/-- A pass of the calibration ends once every slice it judges has its result: slices that passed are loaded; after
the first pass the others are repeated once, after the second they are retired, in ascending order with J last, and the calibration is
complete (04 R127 to R129; DESIGN CHOICE, log entry 177). A slice made BLIND that passes stays BLIND until the job's end
(04 R128; DEDUCED, log entry 181). -/
def Core.calComplete (now : Nat) (res : List (Nat × Nat × List (ConvResult × MidResult))) (defects : List Defect)
    (c : Core) : Core :=
  let l := c.calSlices
  if !c.calRun || !c.calPassOver now || !l.all (fun k => (calFound res k).isSome) then c
  else
    let bad := l.filter (fun k => !calPasses res k)
    let c := (l.filter (calPasses res)).foldl (Core.calLoad res) c
    let c := defects.foldl Core.addDefect c
    if c.calFailed.isNone && !bad.isEmpty then { c with calFailed := some bad, calAt := now }
    else
      ({ bad.foldl (fun (c : Core) (k : Nat × Nat) => c.retireSlice now k.1 k.2) c with calRun := false, calEnd := some now }).put 0x2340 2
        (2 + 32 * b2n (!bad.isEmpty))

def execFgCalComplete (t : Nat) (res : List (Nat × Nat × List (ConvResult × MidResult))) (defects : List Defect)
    (s : State) : Host.Outcome State Fault Refusal :=
  State.run t (fun now c => c.calComplete now res defects) s

/-- The objects whose bytes the calibration region keeps by command 02h (04 R131, 06 R213, 16 R470). -/
def calObject (idx : Nat) : Bool :=
  idx = 0x5101 || (0x5110 ≤ idx && idx ≤ 0x5114) || idx = 0x5200 || (0x5210 ≤ idx && idx ≤ 0x5215) ||
    (0x5300 ≤ idx && idx ≤ 0x530F)

/-- The tables in force, as the bytes that differ from the factory's. -/
def Core.calTables (c : Core) : List (Nat × Nat) := c.doms.filter (fun p => calObject (p.1 / 2 ^ 32))

def Core.calSaveCodes (c : Core) : List Nat :=
  reason (c.mode != .standby && c.mode != .calibrate) 0x08000021

/-- A save begins. It is taken while a calibration runs too, and 2340h.02 then reads saving (log entry 137). -/
def Core.calSave (c : Core) : Core :=
  { c with calPend := c.calTables, calSaving := true, calKeep := false }.put 0x2340 2 4

def execFgCalSave (t : Nat) (orig : Orig) (s : State) : Host.Outcome State Fault Refusal :=
  State.run t (fun now c => c.command now orig 0x2340 1 1 2 c.calSaveCodes Core.calSave) s

/-- The save ends: the tables stand in flash, or it failed (04 R131). A save lifts a 04h written before it, not one
written while it ran; a status that another command has set since stands (log entries 137, 138). -/
def Core.calSaved (ok : Bool) (c : Core) : Core :=
  if !c.calSaving then c
  else
    let c := { c with calSaving := false }.when ok (Core.mapNv (fun n => { n with
      cal := c.calPend, factory := n.factory && c.calKeep }))
    c.when (c.calStatus == 4) (Core.put 0x2340 2 (if ok then 5 else 6))

def execFgCalSaveComplete (t : Nat) (ok : Bool) (s : State) : Host.Outcome State Fault Refusal :=
  State.run t (fun _ c => c.calSaved ok) s

/-- A running calibration stops; entries loaded stay (04 R130). -/
def Core.calStop (c : Core) : Core :=
  c.when c.calRun (fun c => ({ c with calRun := false }).put 0x2340 2 3)

/-- The calibration finished before the abort was sampled: `late`, or in the same tick (04 R130). -/
def Core.calFinished (c : Core) (now : Nat) (late : Bool) : Bool :=
  !c.calRun && c.calStatus == 2 && (late || c.calEnd.any (fun a => a / 4 == now / 4))

/-- The abort, sampled once: after the calibration finished, or before (04 R130). -/
def Core.calAbort (now : Nat) (late : Bool) (c : Core) : Core :=
  if c.calFinished now late then c.put 0x2340 2 (c.obj 0x2340 2 ||| 16)
  else if late then c
  else c.calStop

def execFgCalAbort (t : Nat) (orig : Orig) (late : Bool) (s : State) :
    Host.Outcome State Fault Refusal :=
  State.run t (fun now c => c.command now orig 0x2340 1 1 3 [] (Core.calAbort now late)) s

/-- The factory tables are restored at the next BOOT (04 R131). -/
def Core.calFactory (c : Core) : Core :=
  { c.mapNv (fun n => { n with factory := true }) with calKeep := c.calSaving }

def execFgCalRestoreFactory (t : Nat) (orig : Orig) (s : State) :
    Host.Outcome State Fault Refusal :=
  State.run t (fun now c => c.command now orig 0x2340 1 1 4 [] Core.calFactory) s

/-- Reasons to refuse a command written to 2340h.01 (04 R129 to R131). -/
def Core.calCodes (c : Core) (v : Nat) : List Nat :=
  if v = 1 then c.calStartCodes else if v = 2 then c.calSaveCodes else []

def Core.calWrite (now v : Nat) (c : Core) : Core :=
  if v = 1 then c.calStart now else if v = 2 then c.calSave
  else if v = 3 then c.calAbort now false else c.calFactory

/-- A correction table whose every G lies from 0.900 to 1.100 (04 R133). -/
def gainsOk : List Byte → Bool
  | _ :: _ :: g0 :: g1 :: l =>
    let g := g0.toNat + 256 * g1.toNat
    29492 ≤ g && g ≤ 36044 && gainsOk l
  | _ => true

/-- The correction of a raw code by its converter's entry, at depth `n` (04 R133). -/
def Core.correction (c : Core) (q p j pong : Nat) : Int × Nat :=
  let off := ((p * 64 + j) * 2 + pong) * 4
  (toSigned 16 (c.domWord (0x5300 + q) off 2), c.domWord (0x5300 + q) (off + 2) 2)

/-- The physical slice that converts logical slice `n` of bank `q` (04 R122); 64 is J. -/
def Core.physical (c : Core) (q n : Nat) : Nat :=
  let w := c.walk q
  if w.cur = n && w.serving then 64 else n

end Sys2Proof.Machine
end

