-- ==== Sys2Proof/Machine/Memory.lean ====
section
/-!
DEFINITION. The module DRAM as data (11 R337, R338): bytes by device address, what an address reads as
when nothing is listed, and the reads and writes of byte runs, with the poison list kept by line.
-/

namespace Sys2Proof.Machine

/-- What an address of the DRAM reads as when nothing is listed there: 0 (11 R338 zeroes the DRAM
in BOOT). -/
def memDflt (_ : Nat) : Byte := 0

/-- The DRAM's canonical form: addresses strictly rising, no listed byte equal to the default. -/
def Memory.wf (m : List Host.Cell) : Bool := swf memDflt none m

/-- One byte of the DRAM. -/
def Memory.byte (m : List Host.Cell) (a : Nat) : Byte := sget memDflt m a

/-- `n` bytes from address `a` on. -/
def Memory.bytes (m : List Host.Cell) (a n : Nat) : List Byte := sgets memDflt m a n

/-- A byte string written from address `a` on. -/
def Memory.write (m : List Host.Cell) (a : Nat) (data : List Byte) : List Host.Cell :=
  sputs memDflt m a data

/-- The bytes of a line whose mask bits are set, from bit `i` on (11 R348). -/
def Memory.masked (m : List Host.Cell) (a : Nat) (mask : BitVec 64) : Nat → List Byte → List Host.Cell
  | _, [] => m
  | i, b :: l => Memory.masked (if mask.getLsbD i then sput memDflt m (a + i) b else m) a mask (i + 1) l

/-- Bytes written into a ring of `size` bytes at `base`, from offset `off` on. -/
def Memory.ringWrite (base size : Nat) (m : List Host.Cell) (off : Nat) : List Byte → List Host.Cell
  | [] => m
  | b :: l => Memory.ringWrite base size (sput memDflt m (base + off % size) b) (off + 1) l

/-- The first address past the device address space, and past HDM (11 R337, 13 R392). -/
def dpaEnd : Nat := 0x800000000
def hdmEnd : Nat := 0x7C0000000

/-- A line of the address run is poisoned (11 R352). -/
def Core.poisoned (c : Core) (a n : Nat) : Bool :=
  c.dram.poison.any (fun l => a / 64 ≤ l && l * 64 < a + n)

/-- The bytes of a run, none where a line of it is poisoned. -/
def Core.dramRead (c : Core) (m : List Host.Cell) (a n : Nat) : Option (List Byte) :=
  if c.poisoned a n then none else some (Memory.bytes m a n)

/-- The staging area of reference lines (08 R266). -/
def Core.stagingBase (c : Core) : Nat := c.obj 0x2A20 2
def Core.stagingSize (c : Core) : Nat := c.obj 0x2A20 3 * 2 ^ 20

/-- A page of 2 MiB touches the staging area. -/
def Core.stagingPage (c : Core) (p : Nat) : Bool :=
  decide (c.stagingBase < (p + 1) * 2 ^ 21) && decide (p * 2 ^ 21 < c.stagingBase + c.stagingSize)

/-- A page of HDM is in device bias: by the table, or as staging of a running job (13 R394). -/
def Core.deviceBias (c : Core) (p : Nat) : Bool :=
  c.cxl.devBias.contains p || (c.job.running && c.stagingPage p)

end Sys2Proof.Machine
end

