-- ==== Sys2Proof/Machine/Motion.lean ====
section
/-!
DEFINITION. The exposure and motion sequencer (05): encoders, the web loop, exposures and their
confirmation tests, loss and return, velocimetry, sheets and triggers, and the start instants at
which commits take effect (06 R179).
-/

namespace Sys2Proof.Machine

def absR (q : Rat) : Rat := if q < 0 then -q else q

/-! ### The loop's estimates (05 R142, R143, R160) -/

def Core.enc (c : Core) (i : Nat) : Enc := c.mot.encs.getD i {}
def Core.mapEnc (i : Nat) (f : Enc → Enc) (c : Core) : Core :=
  c.mapMot (fun m => { m with encs := modAt m.encs i f })

/-- The mapping offset in use. -/
def Core.offset (c : Core) : Rat := (c.enc c.mot.encInUse).off

/-- The position of encoder `i`'s count without its mapping offset (05 R139). -/
def Core.rawPos (c : Core) (i : Nat) : Rat :=
  ((c.enc i).count : Rat) * (c.obj (0x2400 + i) 2 : Rat) / c.pitch

def Core.coasting (c : Core) : Bool := c.mot.loop == .coasting || c.mot.loop == .lost

/-- The velocity the loop extrapolates with: while it coasts, velocimetry's when valid (05 R160). -/
def Core.vUse (c : Core) : Rat :=
  if c.coasting && c.flag 0x2440 2 then c.ofSpeed (c.objF 0x2440 3)
  else if c.mot.loop == .stopped then 0
  else c.mot.vHat

/-- x_pred at `t` (05 R142). -/
def Core.xAt (c : Core) (t : Nat) : Rat :=
  c.mot.xHat + c.vUse * ((t : Rat) - (c.mot.tPrev : Rat))

/-- The estimate carried to `now`, before the velocity in use changes. -/
def Core.rebase (now : Nat) (c : Core) : Core :=
  c.when c.coasting (fun c => c.mapMot (fun m => { m with xHat := c.xAt now, tPrev := now }))

/-- The loop tracks the encoder: a job in WEB or encoder-timed SHEET, ticks exist. -/
def Core.loopRuns (c : Core) : Bool :=
  c.job.running && c.inspecting && !c.timedJob && !c.clk.tHeld

/-- 2411h.00 follows v̂ at each edge (05 R143). -/
def Core.putSpeed (c : Core) : Core := c.put 0x2411 0 (toF32 (c.speed c.mot.vHat))

/-! ### Resolving exposures (05 R152, R155 to R157) -/

def Core.findExpo (c : Core) (m : Nat) (b : Bool) : Option Expo :=
  (c.mot.expos.reverse).find? (fun x => x.m == m && x.b == b)

def Core.mapExpo (m : Nat) (b : Bool) (f : Expo → Expo) (c : Core) : Core :=
  c.mapMot (fun k => { k with expos := k.expos.map (fun x => if x.m == m && x.b == b then f x else x) })

/-- A pending exposure resolves, and its rows in the pipeline with it; released rows are counted
once per row of the array, the rows that the tag check has discarded among them (05 R152, R160). -/
def Core.settleExpo (m : Nat) (b : Bool) (st : RowState) (c : Core) : Core :=
  let mine := fun (r : RowRec) => r.m == m && r.b == b && r.state == .pending
  let gone := match c.findExpo m b with
    | some x => if x.state == .pending then x.dropped else 0
    | none => 0
  let k := (c.pipe.rows.filter (fun r => mine r && r.seg == c.segsOn.headD 0)).length + gone
  let c := c.mapExpo m b (fun x => if x.state == .pending then { x with state := st } else x)
  let c := c.mapPipe (fun p => { p with rows := p.rows.map (fun r =>
    if mine r then { r with state := st } else r) })
  c.when (st == .released) (Core.bumpBy 0x2421 3 k)

/-- Velocimetry was valid at the moment `a` of the job (05 R160, R167). -/
def Core.veloAt (c : Core) (a : Nat) : Bool :=
  match (c.mot.veloLog.reverse).find? (fun p => decide (p.1 ≤ a)) with
  | some p => p.2
  | none => false

/-- A packet carries an active row of an exposure. -/
def RowPkt.isOf (p : RowPkt) (x : Expo) : Bool :=
  match p.kind with
  | .active m b _ _ => m == x.m && b == x.b
  | _ => false

/-- An exposure becomes coasted, and its rows with it, those on their way over a link among them, and is resolved (05
R159). -/
def Core.coastExpo (st : RowState) (x : Expo) (c : Core) : Core :=
  let mine := fun (r : RowRec) => r.m == x.m && r.b == x.b
  let c := c.mapPipe (fun p => { p with
    rows := p.rows.map (fun r => if mine r then { r with flags := { r.flags with coasted := true } } else r),
    inFlight := p.inFlight.map (fun k =>
      if k.isOf x then { k with flags := { k.flags with coasted := true } } else k) })
  (c.mapExpo x.m x.b (fun x => { x with coasted := true, tested := true })).settleExpo x.m x.b st

/-- Every exposure without a resolution whose centre has passed becomes coasted while the loop coasts:
confirmed where its centre fell while velocimetry was valid, else released (05 R159, R160). -/
def Core.markCoasted (now : Nat) (c : Core) : Core :=
  if !c.coasting then c
  else
    (c.mot.expos.filter (fun x => x.state == .pending && !x.coasted && x.centre ≤ now)).foldl
      (fun c x => c.coastExpo (if c.veloAt x.centre then .passed else .released) x) c

/-- Exposures that are committed but of which no stripe has reset by `now` are not made: their targets are skipped (15
R455). -/
def Core.skipUnmade (now : Nat) (c : Core) : Core :=
  let made := fun (x : Expo) => x.resets.any Option.isSome || x.resetAt.any (fun a => decide (a ≤ now))
  c.mapMot (fun m => { m with
    skipped := m.skipped ++ ((m.expos.filter (fun x => !made x)).map (fun x => (x.m, x.b))),
    expos := m.expos.filter made })

/-- Every exposure awaiting its test is released (06 R183, 15 R455). -/
def Core.releaseAll (c : Core) : Core :=
  (c.mot.expos.filter (fun x => x.state == .pending)).foldl (fun c x => c.coastExpo .released x) c

/-- The deviation of an exposure, in pitches, as 2421h.07 shows it (05 R155, R175): 1/1024 units;
the manual states no value past the object's range. -/
def Core.putDeviation (d : Rat) (c : Core) : Core :=
  let v := ratEven (d * 1024)
  if -32768 ≤ v ∧ v ≤ 32767 then c.put 0x2421 7 (ofSigned 16 v)
  else
    let r := c.fresh
    r.2.put 0x2421 7 (r.1 % 65536)

/-- The confirmation test with a measured position (05 R155). -/
def Core.testExpo (xm : Rat) (c : Core) (x : Expo) : Core :=
  let d := xm - x.target
  let pass := absR d * 256 ≤ (x.tol : Rat)
  let c := ((c.bump 0x2421 1).putDeviation d).mapExpo x.m x.b (fun x => { x with tested := true })
  if x.overdue then c
  else
    let c := c.when (!decide pass) (Core.bump 0x2421 2)
    c.settleExpo x.m x.b (if pass then .passed else .failed)

/-- Exposures that await edge b at an edge at `now` (05 R155). -/
def Core.awaiting (c : Core) (now : Nat) : List Expo :=
  c.mot.expos.filter (fun x => !x.tested && x.centre < now)

/-- Edge a: the latest edge so far, else the start reference (05 R155). -/
def Core.edgeA (c : Core) : Rat × Nat := c.mot.lastEdge.getD c.mot.startRef

/-- The tests whose edge b is the edge at `now` (05 R155). -/
def Core.testAtEdge (now : Nat) (raw : Rat) (c : Core) : Core :=
  let a := c.edgeA
  let o := c.offset
  (c.awaiting now).foldl (fun c x =>
    c.testExpo (a.1 + o + (raw - a.1) * ((x.centre : Rat) - (a.2 : Rat)) /
      ((now : Rat) - (a.2 : Rat))) x) c

/-- The tests at a declared stop: x_m is edge a's position (05 R164). -/
def Core.testAtRest (now : Nat) (c : Core) : Core :=
  let xm := c.edgeA.1 + c.offset
  (c.awaiting (now + 1)).foldl (fun c x => c.testExpo xm x) c

/-! ### Jumps and uncertain ranges (05 R162, R163) -/

/-- An entry of DFR or LSR in the holding store with POSITION_UNCERTAIN set where it lies in the range, its CRC
formed anew (05 R162, 08 R269, 13 R411). -/
def uncertainEntry (dfr : Bool) (first last : Nat) (e : List Byte) : List Byte :=
  let l := leAt e 0 6
  let n := if dfr then max 1 (leAt e 6 2) else 1
  if l ≤ last && first < l + n then
    if dfr then withCrc16 (slice e 0 29 ++ leBytes 1 (leAt e 29 1 ||| 16))
    else withCrc16 (slice e 0 6 ++ leBytes 2 (leAt e 6 2 ||| 2) ++ slice e 8 6)
  else e

/-- A jump of the coordinate reported: J and, with a range, its lines; records and line summaries not yet
written to their rings that lie in it carry POSITION_UNCERTAIN, those of the holding store too. -/
def Core.uncertainRange (first last : Nat) (c : Core) : Core :=
  let n := last + 1 - first
  let c := ((c.put 0x2416 3 first).put 0x2416 4 last).bumpBy 0x2421 5 n
  let c := (c.mapMot (fun m => { m with uncertain := m.uncertain ++ [(first, last)] })).mapEng (fun e =>
    { e with recs := e.recs.map (fun r =>
        if r.first ≤ last && first < r.first + r.ext then { r with flags := r.flags ||| 16 } else r) })
  let mark := fun (i : Nat) (c : Core) => c.mapRing i (fun r => { r with
    held := r.held.take r.old ++ (r.held.drop r.old).map (uncertainEntry (i == 0) first last) })
  mark 1 (mark 0 c)

def Core.putJump (j : Rat) (c : Core) : Core := c.put 0x2416 2 (ofSigned 32 (ratEven (j * 256)))

/-- The REGISTER_EVENT of a jump over the lines `first` to `last` (05 R162, 13 R413). -/
def Core.registerJump (now : Nat) (j : Rat) (first last : Nat) (c : Core) : Core :=
  (((c.registerEvent now first (ratEven (j * 256)) (last + 1 - first)).bump 0x2416 1)).mapTk
    (fun t => { t with seqReg := some now })

/-- The web line under a coordinate, 0 below the job. Between sheets no line lies there: a range that begins
there begins with the next sheet's first line, and one that ends there ends with the last line before it (log
entry 127). -/
def Core.lineUnder (c : Core) (begins : Bool) (u : Rat) : Nat :=
  match c.lineOf u.floor with
  | some n => n
  | none =>
    if !c.inSheet then 0
    else match (c.mot.sheets.filter (fun s => decide (s.coord ≤ u.floor))).getLast? with
      | some s => if begins then s.first + s.len else s.first + s.len - 1
      | none => 0

/-! ### Transitions of the loop (05 R144, R162 to R165) -/

/-- The next exposure's target (05 R146). -/
def Core.nextTarget (c : Core) : Rat := (c.mot.nextM : Rat) + c.phase c.mot.nextB

def Core.enterOverspeed (now : Nat) (c : Core) : Core :=
  ((c.mapMot (fun m => { m with
    loop := .overspeed, overspace := true,
    overFirst := c.lineUnder true (c.entryAt c.nextTarget) })).bump 0x2415 6).condOn
    now 0x7312 0xFF 0 []

/-- v̂ has fallen to the maximum speed: the lag decides (05 R163). The last uncertain line is taken from x̂ before
the lag is taken off it (DESIGN CHOICE, log entry 152). -/
def Core.leaveOverspeed (now : Nat) (c : Core) : Core :=
  let lag := c.mot.xHat - c.nextTarget
  let c := c.condOff 0x7312 0
  let last := c.lineUnder false (c.entryAt c.mot.xHat)
  if lag ≤ 0 then
    (c.mapMot (fun m => { m with loop := .tracking })).uncertainRange c.mot.overFirst last
  else if lag ≤ 1 / 2 then
    (c.mapMot (fun m => { m with
      loop := .slewing, slewStep := -lag / 64, slewLeft := 64, slewRange := true })).putJump (-lag)
  else
    let c := (c.mapMot (fun m => { m with loop := .tracking, xHat := m.xHat - lag })).mapEnc
      c.mot.encInUse (fun e => { e with off := e.off - lag })
    ((c.putJump (-lag)).uncertainRange c.mot.overFirst last).registerJump now (-lag) c.mot.overFirst last

/-- The states that follow from v̂ and x̂ after an edge (05 R144, R163, R165). -/
def Core.classify (now : Nat) (c : Core) : Core :=
  let fast := c.maxSpeed < c.speed c.mot.vHat
  match c.mot.loop with
  | .overspeed => if fast then c else c.leaveOverspeed now
  | .reversed =>
    c.when (0 < c.mot.vHat && c.mot.highWater < c.mot.xHat)
      (Core.mapMot (fun m => { m with loop := .tracking }))
  | .tracking | .slewing =>
    if fast then c.enterOverspeed now
    else if c.mot.vHat < 0 && c.mot.xHat < c.mot.highWater then
      ((c.mapMot (fun m => { m with loop := .reversed })).bump 0x2415 7).event now 0x0124 0xFF []
    else c
  | _ => c

/-- The update of the loop at an edge (05 R142). -/
def Core.loopStep (now : Nat) (e : Rat) (c : Core) : Core :=
  let dt : Rat := (now : Rat) - (c.mot.tPrev : Rat)
  let xp := c.mot.xHat + c.mot.vHat * dt
  let res := e - xp
  let alpha : Rat := (c.obj 0x2412 1 : Rat) / 65536
  let beta : Rat := (c.obj 0x2412 2 : Rat) / 65536
  c.mapMot (fun m => { m with
    xHat := xp + alpha * res,
    vHat := if dt = 0 then m.vHat else m.vHat + beta * res / dt,
    tPrev := now })

/-- The exposure times of the six stripes in the exposure of a target, in ticks: each stripe's by its own
generation (05 R148, R149). -/
def Core.expoTicks (c : Core) (target : Rat) (b : Bool) : List Nat :=
  (List.range 6).map (fun s => (c.sensorGen target s).expo b s)

/-- From the commit point of the exposure of a target to its centre, ns: half its longest exposure and the
lead of 2450h.00 + 16 ticks before its earliest reset edge (05 R147). -/
def Core.commitLead (c : Core) (target : Rat) (b : Bool) : Rat :=
  ((maxNat (c.expoTicks target b) * 2 + (c.obj 0x2450 0 + 16) * 4 : Nat) : Rat)

/-- The time at which x_pred reaches a target; none while the web does not approach it. -/
def Core.timeOf (c : Core) (target : Rat) : Option Rat :=
  let v := c.vUse
  if 0 < v then some ((c.mot.tPrev : Rat) + (target - c.mot.xHat) / v) else none

/-- The next exposure after the one in turn (05 R146). -/
def Core.advance (c : Core) : Core :=
  c.mapMot (fun m =>
    if c.dual && !m.nextB then { m with nextB := true }
    else { m with nextB := false, nextM := m.nextM + 1 })

/-- Targets whose commit point lies behind are skipped after a hold of PLL-T (15 R455). -/
def Core.skipPassed (now : Nat) : Nat → Core → Core
  | 0, c => c
  | f + 1, c =>
    match c.timeOf c.nextTarget with
    | some tt =>
      if tt - c.commitLead c.nextTarget c.mot.nextB ≤ (now : Rat) then
        ((c.mapMot (fun m => { m with
          skipped := m.skipped ++ [(ofSigned 32 m.nextM, m.nextB)] })).advance).skipPassed now f
      else c
    | none => c

/-- The targets between the next one and `x`. -/
def Core.targetsTo (c : Core) (x : Rat) : Nat := 2 * (x - c.nextTarget + 4096).ceil.toNat + 4

/-- Seeding (05 R145): the first edge places x̂, the second gives v̂ and TRACKING. -/
def Core.seedStep (now : Nat) (raw : Rat) (c : Core) : Core :=
  let e := raw + c.offset
  match c.mot.seedEdge with
  | none => c.mapMot (fun m => { m with xHat := e, tPrev := now, seedEdge := some (raw, now) })
  | some f =>
    let v := (raw - f.1) / ((now : Rat) - (f.2 : Rat))
    let c := c.mapMot (fun m => { m with
      xHat := e, vHat := v, tPrev := now, seedEdge := none, loop := .tracking, noExpose := false })
    let c := if c.mot.afterHold then
      (c.skipPassed now (c.targetsTo c.mot.xHat)).mapMot (fun m => { m with afterHold := false }) else c
    c.classify now

/-- The first edge after COASTING or LOST (05 R162). -/
def Core.returnStep (now : Nat) (raw : Rat) (c : Core) : Core :=
  let x := c.xAt now
  let v := c.vUse
  let j := raw + c.offset - x
  let c := (c.event now 0x0122 0xFF (leBytes 4 (ofSigned 32 (ratEven (j * 256))))).condOff 0x7311 0
  let c := (c.putJump j).mapEnc c.mot.encInUse (fun e => { e with off := e.off - j })
  if absR j ≤ 1 / 2 then
    c.mapMot (fun m => { m with
      loop := .slewing, xHat := x, vHat := v, tPrev := now, slewStep := j / 64, slewLeft := 64 })
  else
    let last := c.lineUnder false (c.entryAt x)
    ((c.mapMot (fun m => { m with
      loop := .seeding, xHat := x, vHat := v, tPrev := now, seedEdge := some (raw, now),
      noExpose := false })).uncertainRange c.mot.coastLine last).registerJump now j c.mot.coastLine last

/-- An accepted edge of the encoder in use, while the loop runs (05 R142 to R145, R162 to R165). -/
def Core.loopEdge (now : Nat) (raw : Rat) (c : Core) : Core :=
  let c := (c.markCoasted now).testAtEdge now raw
  let c := match c.mot.loop with
    | .idle => c
    | .seeding => c.seedStep now raw
    | .stopped => c.mapMot (fun m => { m with
        loop := .seeding, xHat := raw + c.offset, tPrev := now, seedEdge := some (raw, now), noExpose := true })
    | .coasting | .lost => c.returnStep now raw
    | .tracking | .slewing | .overspeed | .reversed =>
      (c.loopStep now (raw + c.offset)).classify now
  (c.mapMot (fun m => { m with lastEdge := some (raw, now) })).putSpeed

/-! ### Encoders (05 R138 to R141) -/

/-- A transition of line A, or of line B, that has stood for the filter time is accepted and decoded: by 2400h.01
every transition counts, every transition of A, every rising edge of A with its direction, or every rising
edge of A as forward. A that leads B counts forward (log entry 128). -/
def Core.decode (i : Nat) (lineA level : Bool) (stood : Nat) (c : Core) : Option Bool × Core :=
  if stood < 4 * c.obj (0x2400 + i) 4 then (none, c)
  else
    let e := c.enc i
    let moved := (if lineA then e.a else e.b) != level
    let fwd := if lineA then level != e.b else level == e.a
    let mode := c.obj (0x2400 + i) 1
    let counts := moved && (if mode = 4 then true else if mode = 2 then lineA else lineA && level)
    (if counts then some (mode == 0 || fwd) else none,
      c.mapEnc i (fun e => if lineA then { e with a := level } else { e with b := level }))

/-- One decoded count of encoder `i`. -/
def Core.encCount (i : Nat) (forward : Bool) (c : Core) : Core :=
  let fwd := c.obj (0x2400 + i) 1 == 0 || forward
  let up := fwd != c.flag (0x2400 + i) 3
  c.mapEnc i (fun e => { e with count := e.count + (if up then 1 else -1) })

/-- ENC1's offset follows every ENC0 edge with fallback configured (05 R140). -/
def Core.encAgree (c : Core) : Core :=
  c.when (c.obj 0x2402 0 == 2 && c.mot.encInUse == 0)
    (fun c => c.mapEnc 1 (fun e => { e with off := c.rawPos 0 + (c.enc 0).off - c.rawPos 1 }))

/-- The encoders that 2402h.00 has decoded (05 R140). -/
def Core.decoded (c : Core) (i : Nat) : Bool := c.obj 0x2402 0 == 2 || c.obj 0x2402 0 == i

/-- A decoded edge of encoder `i` comes less than 40 ns after the one before it: above 25 MHz (05 R138). -/
def Core.tooFast (c : Core) (now i : Nat) : Bool :=
  match (c.enc i).decodedAt with
  | some a => decide (now < a + 40)
  | none => false

/-- An edge of encoder `i`, counted; the encoder in use corrects the loop with it (05 R138, R142). Without ticks an
edge is only counted (15 R455). One above 25 MHz is lost. -/
def Core.edge (now i : Nat) (forward : Bool) (c : Core) : Core :=
  if c.tooFast now i then c.bump 0x2415 3 else
  let c := ((c.encCount i forward).mapEnc i (fun e => { e with decodedAt := some now })).when (c.decoded i)
    (Core.bump 0x2415 1)
  if c.clk.tHeld || !c.blocksOn then c
  else
    let c := (c.mapEnc i (fun e => { e with lastAt := some now })).condOff 0x7310 i
    if i ≠ c.mot.encInUse then c
    else
      let c := c.when c.loopRuns (Core.loopEdge now (c.rawPos i))
      let c := c.when (i == 0) Core.encAgree
      c.alarmsFollow now

/-- Both lines of encoder `i` have changed within one filter time, and stand so (05 R138). -/
def Core.encBoth (i : Nat) (c : Core) : Core := c.mapEnc i (fun e => { e with a := !e.a, b := !e.b })

/-- What an encoder's lines bring (05 R138). Counting only, a change of both lines in one filter time is no
error, and counts where A has risen. -/
def Core.encoderEdge (now i : Nat) (kind : EdgeKind) (c : Core) : Core :=
  match kind with
  | .quadError =>
    if c.obj (0x2400 + i) 1 != 0 then (c.encBoth i).bump 0x2415 2
    else if (c.enc i).a then c.encBoth i
    else (c.encBoth i).edge now i true
  | .overrun => c.bump 0x2415 3
  | .forward => c.edge now i true
  | .backward => c.edge now i false
  | .change lineA level stood =>
    let r := c.decode i lineA level stood
    match r.1 with
    | some f => r.2.edge now i f
    | none => r.2

def execEncoderEdge (t : Nat) (enc : Fin 2) (kind : EdgeKind) (s : State) :
    Host.Outcome State Fault Refusal :=
  State.run t (fun now c => c.encoderEdge now enc.val kind) s

/-- A rising Z edge: the count since the last one is compared (05 R141). -/
def Core.encoderZ (i : Nat) (c : Core) : Core :=
  let want := c.obj (0x2400 + i) 5
  let n := (c.enc i).count
  let bad := match (c.enc i).zCount with
    | some z => want != 0 && (n - z).natAbs != want
    | none => false
  (c.mapEnc i (fun e => { e with zCount := some n })).when bad (Core.bump 0x2415 4)

def execEncoderZ (t : Nat) (enc : Fin 2) (s : State) : Host.Outcome State Fault Refusal :=
  State.run t (fun _ c => c.encoderZ enc.val) s

/-! ### Loss and stop (05 R159, R164) -/

/-- The time without an edge of encoder `i` after which loss or a stop is declared, ns, by its own predicted interval
(05 R140, R142, R159). -/
def Core.lossTime (c : Core) (i : Nat) : Rat :=
  let v := absR c.mot.vHat * c.pitch
  if v = 0 then 1000
  else max 1000 ((c.obj 0x2413 1 : Rat) * (c.obj (0x2400 + i) 2 : Rat) / v)

/-- No edge of the encoder in use for the loss time. -/
def Core.edgesCeased (c : Core) (now : Nat) : Bool :=
  let last := max (max c.edgeA.2 c.mot.tPrev) ((c.enc c.mot.encInUse).lastAt.getD 0)
  c.loopRuns && decide (c.lossTime c.mot.encInUse ≤ (now : Rat) - (last : Rat)) &&
  [LoopState.seeding, .tracking, .slewing, .overspeed, .reversed].contains c.mot.loop

def Core.stopSpeed (c : Core) : Rat := c.objF 0x2413 3

/-- ENC1 takes over from ENC0 (05 R140). -/
def Core.encSwitch (now : Nat) (c : Core) : Core :=
  let d := (c.enc 0).off - (c.enc 1).off
  let mv := fun (p : Rat × Nat) => (p.1 + d, p.2)
  ((c.mapMot (fun m => { m with
    encInUse := 1, lastEdge := m.lastEdge.map mv, startRef := mv m.startRef,
    seedEdge := m.seedEdge.map mv })).bump 0x2415 8).event now 0x0121 0xFF []

/-- Loss declared (05 R140, R159). -/
def Core.declareLoss (now : Nat) (c : Core) : Core :=
  let i := c.mot.encInUse
  let c := c.condOn now 0x7310 0xFF i (leBytes 1 i)
  let alive := match (c.enc 1).lastAt with
    | some a => decide ((now : Rat) - (a : Rat) < c.lossTime 1)
    | none => false
  if c.obj 0x2402 0 == 2 && i == 0 && alive then c.encSwitch now
  else
    let x := c.mot.xHat + c.mot.vHat * ((now : Rat) - (c.mot.tPrev : Rat))
    let c := (c.condOff 0x7312 0).mapMot (fun m => { m with
      loop := .coasting, coastFrom := now,
      coastLine := c.lineUnder true (c.exitAt (c.edgeA.1 + c.offset)),
      xHat := x, tPrev := now })
    ((c.bump 0x2415 5).markCoasted now)

def Core.encoderLost (now : Nat) (c : Core) : Core :=
  c.when (c.edgesCeased now && decide (c.stopSpeed ≤ absR (c.speed c.mot.vHat)))
    (fun c => (c.declareLoss now).alarmsFollow now)

def execEncoderLost (t : Nat) (s : State) : Host.Outcome State Fault Refusal :=
  State.run t (fun now c => c.encoderLost now) s

/-- A stop declared: exposures cease, awaiting rows are tested at rest (05 R164). -/
def Core.declareStop (now : Nat) (c : Core) : Core :=
  c.when (c.edgesCeased now && decide (absR (c.speed c.mot.vHat) < c.stopSpeed))
    (fun c => (((c.condOff 0x7312 0).testAtRest now).mapMot (fun m => { m with
      loop := .stopped, noExpose := true })).alarmsFollow now)

def execStopDeclared (t : Nat) (s : State) : Host.Outcome State Fault Refusal :=
  State.run t (fun now c => c.declareStop now) s

/-- Coasting beyond 2413h.02 (05 R161). -/
def Core.coastLimit (now : Nat) (c : Core) : Core :=
  c.when (c.mot.loop == .coasting && decide (c.mot.coastFrom + c.obj 0x2413 2 * 1000 < now))
    (fun c => ((c.markCoasted now).mapMot (fun m => { m with loop := .lost })).condOn now 0x7311 0xFF 0 [])

def execCoastingLimit (t : Nat) (s : State) : Host.Outcome State Fault Refusal :=
  State.run t (fun now c => c.coastLimit now) s

/-! ### Velocimetry (05 R166 to R168) -/

/-- Mean-removed covariance, n² times, of two profiles over the enabled columns. -/
def cov (a b : List Nat) (n : Nat) : Int :=
  let p := (List.range n).map (fun i => ((a.getD i 0 : Int), (b.getD i 0 : Int)))
  (n : Int) * sumInt (p.map (fun q => q.1 * q.2)) -
    sumInt (p.map (·.1)) * sumInt (p.map (·.2))

/-- The normalised cross-correlation of two profiles, to 2^-32; 0 where a profile is flat. -/
def rho (a b : List Nat) (n : Nat) : Rat :=
  let vv := cov a a n * cov b b n
  if vv ≤ 0 then 0
  else (cov a b n : Rat) * 4294967296 / ((vv.toNat * 2 ^ 64).sqrt : Rat)

/-- The velocity of a valid sample, m/s; none where the sample is not valid (05 R167). -/
def Core.sampleSpeed (c : Core) (m : Nat) (up dm d0 dp : List Nat) : Option Rat :=
  let n := c.numCols
  let j0 := (ratEven (47 * c.rowRatio)).toNat
  let centre := fun k => (c.findExpo ((m + k) % 2 ^ 32) false).map (·.centre)
  let r0 := rho up d0 n
  let rm := rho up dm n
  let rp := rho up dp n
  match centre 0, centre (j0 - 1), centre j0, centre (j0 + 1) with
  | some t0, some tm, some tj, some tp =>
    if r0 * 100 < (c.obj 0x2440 4 : Rat) ∨ r0 < rm ∨ r0 < rp then none
    else
      let den := 2 * (rm - 2 * r0 + rp)
      let d := if den = 0 then 0 else (rm - rp) / den
      let tl := (tj : Rat) + d * (if 0 ≤ d then (tp : Rat) - (tj : Rat) else (tj : Rat) - (tm : Rat))
      let dt := tl - (t0 : Rat)
      if dt ≤ 0 then none else some (47 * (c.obj 0x2404 1 : Rat) / 1000 / dt)
  | _, _, _, _ => none

/-- Velocimetry is valid while at least 8 valid samples have completed in the last 2.0 ms; the job's changes of
it are kept for the exposures whose centres lie before them. -/
def Core.veloValid (now : Nat) (c : Core) : Core :=
  let v : Bool := 8 ≤ (c.mot.samples.filter (fun p => now ≤ p.1 + 2000000)).length
  (c.put 0x2440 2 (b2n v)).when (v != c.flag 0x2440 2) (Core.mapMot (fun m => { m with
    veloLog := m.veloLog ++ [(now, v)] }))

/-- Slip (05 R168): eight samples in a row beyond, or within, the limit. -/
def Core.slipStep (now : Nat) (c : Core) : Core :=
  let u := c.objF 0x2411 0
  let bad := (c.obj 0x2440 5 : Rat) * absR u / 10000 < absR (c.objF 0x2440 3 - u)
  let c := c.mapMot (fun m => { m with
    slipRun := if bad then m.slipRun + 1 else 0, clearRun := if bad then 0 else m.clearRun + 1 })
  if !c.flag 0x2440 6 && 8 ≤ c.mot.slipRun then
    (((c.put 0x2440 6 1).bump 0x2440 7).event now 0x0123 0xFF (leBytes 1 0))
  else if c.flag 0x2440 6 && 8 ≤ c.mot.clearRun then
    (c.put 0x2440 6 0).event now 0x0123 0xFF (leBytes 1 1)
  else c

/-- The clear stripe of a bank (03 R95). -/
def clearOf (south : Bool) : Nat := if south then 5 else 0

/-- Charge-binning factor of a stripe (03 R102). -/
def Core.chargeBin (c : Core) (s : Nat) : Nat :=
  max 1 (if s = 0 then c.obj 0x2220 1 else if s = 5 then c.obj 0x2220 2 else 1)

/-- The codes of a row binned by `f`: a bin's code, which its lowest column's converter gives, stands for each of its
columns, and idle converters give none (03 R102, 06 R188). -/
def binRaw (f : Nat) (l : List Nat) : List Nat :=
  if f = 1 then l else (List.range l.length).map (fun i => l.getD (i - i % f) 0)

/-- The profile over the enabled columns of row 0 or 47 of a clear stripe in exposure `m`, once the row has come
from every enabled segment (05 R166, R167). -/
def Core.profile (c : Core) (south : Bool) (m : Nat) (row47 : Bool) : Option (List Nat) :=
  let l := c.segsOn.map (fun s => c.pipe.velo.find? (fun r =>
    r.seg == s && r.south == south && r.m == m && r.row47 == row47))
  if l.contains none then none else some (l.flatMap (fun o => match o with
    | some r => binRaw (c.chargeBin (clearOf south)) r.raw
    | none => []))

/-- The speed that the four rows of a sample give; none where one of them is missing (05 R166, R167, 14 R426). -/
def Core.sampleOf (c : Core) (south : Bool) (m : Nat) : Option Rat :=
  let j0 := (ratEven (47 * c.rowRatio)).toNat
  let down := fun (k : Nat) => c.profile south ((m + k) % 2 ^ 32) c.reversed
  match c.profile south m (!c.reversed), down (j0 - 1), down j0, down (j0 + 1) with
  | some up, some dm, some d0, some dp => c.sampleSpeed m up dm d0 dp
  | _, _, _, _ => none

/-- The rows of a sample leave the velocimeter. -/
def Core.veloTake (south : Bool) (m : Nat) (c : Core) : Core :=
  let j0 := (ratEven (47 * c.rowRatio)).toNat
  c.mapPipe (fun p => { p with velo := p.velo.filter (fun r => !(r.south == south &&
    ((r.m == m && r.row47 != c.reversed) || (r.row47 == c.reversed &&
      [j0 - 1, j0, j0 + 1].any (fun k => r.m == (m + k) % 2 ^ 32))))) })

/-- A velocimetry sample completes (05 R167). -/
def Core.veloSample (now : Nat) (south : Bool) (m : Nat) (c : Core) : Core :=
  if !c.job.running || !c.inspecting || !c.flag 0x2440 1 then c
  else
    let c := (c.markCoasted now).rebase now
    let r := c.sampleOf south m
    let c := c.veloTake south m
    match r with
    | none => c.veloValid now
    | some v =>
      let c := (c.bump 0x2440 8).mapMot (fun k => { k with samples := k.samples ++ [(now, v)] })
      let l := (c.mot.samples.reverse.take 8).map (·.2)
      let c := c.put 0x2440 3 (toF32 (sumRat l / (l.length : Rat)))
      (c.veloValid now).slipStep now

def execVelocimetrySample (t : Nat) (south : Bool) (m : Nat) (s : State) :
    Host.Outcome State Fault Refusal :=
  State.run t (fun now c => c.veloSample now south m) s

def execVelocimetryValidityLapse (t : Nat) (s : State) : Host.Outcome State Fault Refusal :=
  State.run t (fun now c => ((c.markCoasted now).rebase now).veloValid now) s

/-! ### Start instants (06 R179, 03 R97, 07 R217, 16 R488) -/

/-- The row-timing sets change with the band: a step in progress restarts (04 R125). -/
def Core.walksRestart (c : Core) : Core :=
  (List.range 16).foldl (fun c q => c.walkRestart q) c

/-- A band in force (16 R488). In a job each stripe takes the row-timing set of the band with the first web line
it holds for (04 R115, `Core.convertActive`). -/
def Core.bandSet (now band : Nat) (c : Core) : Core :=
  let old := c.obj 0x3330 0x1B
  let c := (c.darkCopy band).mapPw (fun p => { p with band := some band, bandPend := none })
  if old = band then c
  else ((((c.put 0x2E30 1 (if band = 4 then 1 else if band = 3 then 2 else 4)).put 0x3330 0x1B band).bump 0x3330 0x1E).when
    (!c.job.running) Core.walksRestart).event now 0x0120 0xFF (leBytes 1 band ++ leBytes 1 old)

/-- The decided band takes effect at a start instant at least 1 ms after its decision. -/
def Core.bandStart (now : Nat) (c : Core) : Core :=
  match c.pw.bandPend with
  | some (b, at_) => if at_ + 1000000 ≤ now then c.bandSet now b else c
  | none => c

/-- The generation counter of a bank (07 R218, 05 R174). -/
def Core.bumpGen (b : Nat) (c : Core) : Core :=
  let k := if b = 4 then (0x2491, 0) else (0x2802, b + 1)
  let c := c.put k.1 k.2 ((c.obj k.1 k.2 + 1) % 2 ^ 32)
  c.when (b != 4) (fun c => c.put 0x2803 (b + 1) 0)

/-- A latched commit applied (07 R218, 05 R174). -/
def Core.applyBank (b : Nat) (c : Core) : Core :=
  match (c.bank b).latch with
  | some _ => (c.applyLatch b).bumpGen b
  | none => c

/-- A commit entered in an earlier tick than `now` applies (06 R179). -/
def Core.applyDue (now b : Nat) (c : Core) : Core :=
  c.when (tickOf (c.bank b).latchAt < tickOf now) (Core.applyBank b)

/-- New dark references in force; banks without a completed set are counted (03 R97, R98), at the start instant of the
next unit, so that the job's last unit is not counted (DESIGN CHOICE, log entry 174). -/
def Core.darkStart (first : Bool) (c : Core) : Core :=
  let c := c.pipe.darkPend.foldl (fun c p => c.put 0x2610 (p.1 + 1) (ofSigned 32 p.2)) c
  let c := [0, 1].foldl (fun c i =>
    c.when (!first && !c.pipe.darkSets.getD i false) (Core.bump 0x2240 (3 + i))) c
  c.mapPipe (fun p => { p with darkPend := [], darkSets := [false, false] })

/-- A start instant: commits, dark references and the band apply from web line `first` on. -/
def Core.startUnit (now first : Nat) (begins : Bool) (c : Core) : Core :=
  let c := (((c.applyDue now 0).applyDue now 1).applyDue now 4).darkStart begins
  let c := c.bandStart now
  c.mapPipe (fun p => { p with
    gens := p.gens ++ [c.genNow first now], curUnit := p.curUnit + 1 })

/-- The first web line of the next epoch, or of the next sheet not begun. -/
def Core.nextUnit (c : Core) : Option Nat :=
  if c.inSheet then (c.mot.sheets.find? (fun s => !s.begun)).map (·.first)
  else some (c.pipe.curUnit * c.epochLen)

/-- The next unit begun. -/
def Core.beginUnit (now : Nat) (c : Core) : Core :=
  match c.nextUnit with
  | none => c
  | some n =>
    let c := c.startUnit now n (c.pipe.curUnit == 0)
    c.when (c.inSheet) (Core.mapMot (fun m => { m with sheets := m.sheets.map (fun s =>
      if s.first == n then { s with begun := true } else s) }))

/-- The start instant of the next unit has come: 10.000 µs before the commit point of the first
exposure in which the entry row images its first line (06 R179). -/
def Core.unitDue (c : Core) (now : Nat) : Bool :=
  match c.nextUnit with
  | none => false
  | some n =>
    let u := c.coordOf n
    let m : Int := u - (c.phase false + c.rowOffset (c.entryRow c.genLast)).floor
    let x : Rat := (m : Rat) + c.phase false
    match c.timeOf x with
    | some tt => decide (tt - c.commitLead x false - 10000 ≤ (now : Rat))
    | none => false

def Core.epochStart (now : Nat) (c : Core) : Core :=
  c.when (c.loopRuns && c.unitDue now) (Core.beginUnit now)

def execEpochStart (t : Nat) (s : State) : Host.Outcome State Fault Refusal :=
  State.run t (fun now c => c.epochStart now) s

/-! ### Exposures (05 R146 to R151) -/

/-- A moment rounded to its nearest tick, not below 0. -/
def toTick (x : Rat) : Nat := 4 * (ratEven (x / 4)).toNat

/-- Where the edges of an exposure stand: all stripes about one centre, or, in a timed burst, all stripes reset at
one moment (05 R147, R171). -/
inductive Aim where
  | centre (t : Rat)
  | reset (t : Rat) (first : Bool)

/-- The earliest moment at which every stripe may reset again: 10 ticks after its last transfer (03 R83). -/
def Core.resetFloor (c : Core) (half : Nat → Rat) : Rat :=
  match c.mot.expos.getLast? with
  | none => 0
  | some y => ((List.range 6).map (fun s => ((y.xferAt.getD s 0 + 40 : Nat) : Rat) + half s)).foldl max 0

/-- The exposure in turn, with the edges of its stripes fixed (05 R147, R149, R151, R155, R171). Where an aim
would let a stripe reset within 10 ticks of its last transfer, the exposure follows at the 10 ticks (03 R83;
log entry 129). The actual centre is taken as the scheduled one (log entry 130). -/
def Core.fixExpo (aim : Aim) (c : Core) : Core :=
  let b := c.mot.nextB
  let target := c.nextTarget
  let es := c.expoTicks target b
  let e := fun (s : Nat) => es.getD s 0
  let half := fun (s : Nat) => ((2 * e s : Nat) : Rat)
  let emax : Rat := ((2 * maxNat es : Nat) : Rat)
  let centre : Rat := match aim with
    | .centre t => max t (c.resetFloor half)
    | .reset t _ => max t (c.resetFloor (fun _ => 0)) + emax
  let resets := (List.range 6).map (fun s => match aim with
    | .centre _ => toTick (centre - half s)
    | .reset _ _ => toTick (centre - emax))
  let xfers := (List.range 6).map (fun s => resets.getD s 0 + 4 * e s)
  let first := resets.foldl min (resets.headD 0)
  let lead := 4 * c.obj 0x2450 0
  let rise := match aim with
    | .reset _ true => first
    | _ => first - lead
  let entry := c.entryCoord target
  let x : Expo := {
    m := ofSigned 32 c.mot.nextM, b := b, target := target, centre := (ratEven centre).toNat,
    entry := entry, sn2 := if c.dual then b else c.mot.sn2Next, tol := (c.entryGen target).obj 0x2420 0,
    lvl0 := rise, lvl1 := maxNat xfers - lead, resetAt := resets, xferAt := xfers }
  let sheet := c.inSheet && c.mot.sheets.any (fun s => s.coord == entry && s.begun)
  let c := c.mapMot (fun m => { m with
    expos := m.expos ++ [x], sn2Next := !m.sn2Next, lastCentre := some x.centre,
    highWater := max m.highWater target })
  let c := c.when (sheet && !b) (Core.mapTk (fun t => { t with seqSheet := some (first - lead) }))
  c.advance

/-- The slew's addition at a commit point; the 64th ends the slew (05 R162, R163). -/
def Core.slewAdd (c : Core) : Core :=
  if c.mot.slewLeft = 0 then c
  else
    let d := c.mot.slewStep
    let c := (c.mapMot (fun m => { m with xHat := m.xHat + d, slewLeft := m.slewLeft - 1 })).mapEnc
      c.mot.encInUse (fun e => { e with off := e.off + d })
    if c.mot.slewLeft = 0 then
      let c := c.when (c.mot.loop == .slewing) (Core.mapMot (fun m => { m with loop := .tracking }))
      if c.mot.slewRange then
        (c.mapMot (fun m => { m with slewRange := false })).uncertainRange c.mot.overFirst
          (c.lineUnder false (c.entryAt c.mot.xHat))
      else c
    else c

/-- Exposures are scheduled in the loop's state (05 R144, R145, R164, R165). -/
def Core.exposes (c : Core) : Bool :=
  c.loopRuns && !c.mot.noExpose && match c.mot.loop with
    | .idle | .stopped | .reversed => false
    | .seeding => decide (c.stopSpeed < absR (c.speed c.mot.vHat))
    | _ => true

/-- The spacing after the previous exposure that the shortest spacing demands (05 R163). -/
def Core.spacing (c : Core) : Rat :=
  if !c.dual then c.pMin
  else if c.mot.nextB then (c.phase true - c.phase false) * c.pMin
  else (1 - c.phase true + c.phase false) * c.pMin

/-- The scheduled centre of the exposure in turn: from x_pred, or at the shortest spacing, and
whether the spacing held it back (05 R147, R163). -/
def Core.centreFor (c : Core) : Option (Rat × Bool) :=
  match c.timeOf c.nextTarget, c.mot.lastCentre with
  | some t, some l =>
    let s := (l : Rat) + c.spacing
    if c.mot.overspace && t < s then some (s, true) else some (t, false)
  | some t, none => some (t, false)
  | none, _ => none

/-- The last exposure the job still needs: the exit row has imaged its last line (06 R183). -/
def Core.exposDone (c : Core) : Bool :=
  match c.job.lineLast with
  | some l => decide (c.coordOf l < (c.exitAt c.nextTarget).floor)
  | none => false

/-- A commit point in WEB or encoder-timed SHEET (05 R147). -/
def Core.commitWeb (now : Nat) (c : Core) : Core :=
  if !c.exposes || c.exposDone then c
  else
    let c := (c.markCoasted now)
    let due := match c.centreFor with
      | some (t, _) => decide (t - c.commitLead c.nextTarget c.mot.nextB ≤ (now : Rat))
      | none => false
    if !due then c
    else
      let c := c.when (c.unitDue now) (Core.beginUnit now)
      let c := c.slewAdd
      match c.centreFor with
      | some (t, held) =>
        (c.mapMot (fun m => { m with
          overspace := m.overspace && (held || m.loop == .overspeed) })).fixExpo (.centre t)
      | none => c

/-- The moment at which every stripe resets in the burst's exposure in turn: 150 ns after the trigger, and every P
later (05 R171). -/
def Core.burstReset (c : Core) : Rat :=
  let p := 4 * c.obj 0x2460 6
  ((c.mot.burstAt + 150 + c.mot.burstNext * p : Nat) : Rat) +
    (if c.mot.nextB then (c.phase true - c.phase false) * (p : Rat) else 0)

/-- A commit in a timed burst, at its commit point (05 R147, R171). The exposure that is made last ends the burst with
its last transfer edge (log entry 37). -/
def Core.commitTimed (now : Nat) (c : Core) : Core :=
  if c.mot.burstLeft = 0 || c.clk.tHeld || !c.job.running ||
      !decide (c.burstReset - ((4 * (c.obj 0x2450 0 + 16) : Nat) : Rat) ≤ (now : Rat)) then c
  else
    let c := c.fixExpo (.reset c.burstReset (c.mot.burstNext == 0 && !c.mot.nextB))
    let c := c.mapMot (fun m => { m with burstEnd := maxNat ((m.expos.getLast?.map (·.xferAt)).getD []) })
    c.when (!c.mot.nextB) (Core.mapMot (fun m => { m with
      burstLeft := m.burstLeft - 1, burstNext := m.burstNext + 1 }))

def Core.commitPoint (now : Nat) (c : Core) : Core :=
  if c.timedJob then c.commitTimed now else c.commitWeb now

def execExposureCommitPoint (t : Nat) (s : State) : Host.Outcome State Fault Refusal :=
  State.run t (fun now c => c.commitPoint now) s

/-- A stripe's reset edge, at the tick that the sequencer has set for it (03 R82). -/
def Core.resetEdge (now m : Nat) (b : Bool) (s : Nat) (c : Core) : Core :=
  c.when (!c.clk.tHeld) (Core.mapExpo m b (fun x =>
    let a := x.resetAt.getD s 0
    if (x.resets.getD s none).isNone && decide (a ≤ now) then
      { x with resets := modAt x.resets s (fun _ => some a) } else x))

def execExposureReset (t : Nat) (m : Nat) (b : Bool) (stripe : Fin 6) (s : State) :
    Host.Outcome State Fault Refusal :=
  State.run t (fun now c => c.resetEdge now m b stripe.val) s

/-- The longest hold in a storage node, ns (03 R84). -/
def holdMax : Nat := 1048576

/-- The name of a row in `Expo.conv`. -/
def convKey (seg s row : Nat) : Nat := (seg * 6 + s) * 64 + row

/-- The window rows of a stripe in an exposure (03 R93). -/
def Core.windowRows (c : Core) (x : Expo) (s : Nat) : List Nat :=
  (List.range c.tdi).map (fun i => (c.sensorGen x.target s).window s + i)

/-- Charge of an exposure still waits in the storage nodes of a stripe: a window row is not converted on an
enabled segment whose link serves the job (03 R84). -/
def Core.chargeWaits (c : Core) (s : Nat) (x : Expo) : Bool :=
  (x.xfers.getD s none).isSome && c.segsOn.any (fun seg =>
    (c.link seg).st == 2 && !(c.link seg).blindJob &&
    (c.windowRows x s).any (fun r => !x.conv.contains (convKey seg s r)))

/-- A stripe's transfer edge, at its tick, after its reset. No charge is moved into a storage node that has not
been converted (03 R82, R84). -/
def Core.transferEdge (now m : Nat) (b : Bool) (s : Nat) (c : Core) : Core :=
  match c.findExpo m b with
  | none => c
  | some x =>
    let a := x.xferAt.getD s 0
    let free := c.mot.expos.all (fun y => y.sn2 != x.sn2 || !c.chargeWaits s y)
    c.when (!c.clk.tHeld && (x.resets.getD s none).isSome && (x.xfers.getD s none).isNone &&
        decide (a ≤ now) && free)
      (Core.mapExpo m b (fun x => { x with xfers := modAt x.xfers s (fun _ => some a) }))

def execExposureTransfer (t : Nat) (m : Nat) (b : Bool) (stripe : Fin 6) (s : State) :
    Host.Outcome State Fault Refusal :=
  State.run t (fun now c => c.transferEdge now m b stripe.val) s

/-! ### Sheets and triggers (05 R169 to R172) -/

/-- The level of a TRIG pin after an edge. -/
def Core.trigPin (i : Nat) (rising : Bool) (c : Core) : Core :=
  c.mapTk (fun t => { t with trig :=
    if rising then t.trig ||| BitVec.ofNat 4 (2 ^ i) else t.trig &&& ~~~(BitVec.ofNat 4 (2 ^ i)) })

/-- A new sheet at coordinate `u`; the sheet before it ends where it starts (05 R170). -/
def Core.addSheet (u : Int) (frac trigAt : Nat) (ratio : Option Rat) (c : Core) : Core :=
  c.mapMot (fun m =>
    let old := m.sheets.map (fun s => { s with len := min s.len (u - s.coord).toNat, open_ := false })
    let first := match old.getLast? with
      | some s => s.first + s.len
      | none => 0
    { m with sheets := old ++ [{
        coord := u, first := first, len := c.obj 0x2460 4, frac := frac, trigAt := c.stamp trigAt, ratio := ratio }] })

/-- A trigger with encoder timing (05 R170). -/
def Core.sheetEncoder (now : Nat) (c : Core) : Core :=
  let x := c.xAt now
  let near := match c.mot.lastTrig with
    | some y => decide (x - y < (c.obj 0x2460 7 : Rat))
    | none => false
  if near then c.bump 0x2460 8
  else
    let p := x + (c.obj 0x2460 5 : Rat)
    let c := c.addSheet p.ceil ((p.ceil : Rat) - p |> (· * 65536) |> Rat.floor).toNat now none
    (c.bump 0x2460 9).mapMot (fun m => { m with lastTrig := some x })

/-- A burst runs: exposures of it are still to be committed, or the last is still being made (05 R171). -/
def Core.inBurst (c : Core) (now : Nat) : Bool := c.mot.burstLeft != 0 || decide (now < c.mot.burstEnd)

/-- A trigger with timed operation starts a burst, unless one runs (05 R171). -/
def Core.sheetTimed (now : Nat) (c : Core) : Core :=
  if c.inBurst now then c.bump 0x2460 8
  else
    let u := (c.entryAt ((c.mot.nextM : Rat) + c.phase false)).floor
    let p := 4 * c.obj 0x2460 6
    let ratio := if c.flag 0x2440 2 then
      some (c.ofSpeed (c.objF 0x2440 3) * (p : Rat)) else none
    let c := (c.addSheet u 0 now ratio).put 0x2640 2 (toF32 (ratio.getD 1))
    ((c.bump 0x2460 9).beginUnit now).mapMot (fun m => { m with
      burstLeft := c.obj 0x2460 4 + 259 + c.tdi, burstAt := now + c.obj 0x2460 5 * p, burstNext := 0 })

/-- An edge on the selected TRIG input starts a sheet (05 R169). -/
def Core.sheetTrigger (now i : Nat) (rising : Bool) (c : Core) : Core :=
  let c := (c.tkDue now).trigPin i rising
  let mine := c.mode == .sheet && c.job.running && c.job.ending.isNone && !c.clk.tHeld &&
    c.obj 0x2460 2 == i && (c.obj 0x2460 3 == 0) == rising
  if !mine then c else if c.timedJob then c.sheetTimed now else c.sheetEncoder now

def execSheetTrigger (t : Nat) (input : Fin 4) (rising : Bool) (s : State) :
    Host.Outcome State Fault Refusal :=
  State.run t (fun now c => c.sheetTrigger now input.val rising) s

/-- The open sheet has had its 2460h.04 web lines (05 R170): the entry row stands beyond them, or
the burst's exposures have all been made. -/
def Core.sheetLimit (now : Nat) (c : Core) : Core :=
  c.mapMot (fun m => { m with sheets := m.sheets.map (fun s =>
    if s.open_ && (if c.timedJob then c.mot.burstLeft == 0
      else s.coord + (s.len : Int) ≤ (c.entryAt (c.xAt now)).floor) then { s with open_ := false } else s) })

def execSheetLimitReached (t : Nat) (s : State) : Host.Outcome State Fault Refusal :=
  State.run t (fun now c => c.sheetLimit now) s

/-- In WEB mode every TRIG edge is placed on the web; it is reported where 2460h.0A asks (05 R172). With no job the
loop is IDLE and its estimate stands. -/
def Core.trigPlaced (now i : Nat) (rising : Bool) (c : Core) : Core :=
  let c := (c.tkDue now).trigPin i rising
  if c.mode != .web || c.clk.tHeld then c
  else
    let x := if c.loopRuns then c.xAt now else c.mot.xHat
    let c := c.when c.loopRuns (Core.mapMot (fun m => { m with cuts := m.cuts ++ [(i, x)] }))
    let u := max 0 x.floor
    let f := (x - (x.floor : Rat)) * 65536
    c.when ((c.obj 0x2460 0x0A).testBit i) (Core.eventRaw now 0x0130 (c.stamp now) 0xFF 0
      (leBytes 6 u.toNat ++ leBytes 1 0xFF ++ leBytes 1 i ++ leBytes 1 (b2n !rising) ++
        leBytes 2 f.floor.toNat))

def execTrigEdge (t : Nat) (input : Fin 4) (rising : Bool) (s : State) :
    Host.Outcome State Fault Refusal :=
  State.run t (fun now c => c.trigPlaced now input.val rising) s

/-! ### Commits of the motion bank (05 R148, R174) -/

/-- The exposures of the motion bank fit the shortest period (05 R148), for values looked up by
`v`. -/
def Core.exposFit (c : Core) (v : Nat → Nat → Nat) : Bool :=
  (List.range 6).all (fun s =>
    let ea : Rat := ((4 * v 0x2430 (s + 1) : Nat) : Rat)
    let eb : Rat := ((4 * v 0x2431 (s + 1) : Nat) : Rat)
    if c.dual then
      let d := c.phase true - c.phase false
      decide ((ea + eb) / 2 + 40 ≤ d * c.pMin) && decide ((ea + eb) / 2 + 40 ≤ (1 - d) * c.pMin)
    else decide (ea + 40 ≤ c.pMin))

/-- A job runs in WEB or SHEET: commits wait for a start instant (05 R174, 07 R217). -/
def Core.commitWaits (c : Core) : Bool := c.inspecting && c.job.running

/-- A bank's pending values latched (07 R217). -/
def Core.latchBank (now b : Nat) (c : Core) : Core :=
  let c := c.mapBank b (fun k => { k with latch := some k.pend, pend := [], latchAt := now })
  c.when (b != 4) (fun c => c.put 0x2803 (b + 1) 1)

def Core.motionCodes (c : Core) : List Nat :=
  reason (c.bank 4).latch.isSome 0x08000029 ++
  reason (!c.exposFit (fun i s => (c.pendingView i s).1)) 0x08000031

def Core.motionCommit (now : Nat) (c : Core) : Core :=
  let c := c.latchBank now 4
  if c.commitWaits then c else c.applyBank 4

def execMotionCommit (t : Nat) (orig : Orig) (v : Byte) (s : State) :
    Host.Outcome State Fault Refusal :=
  State.run t (fun now c => c.command now orig 0x2490 0 1 v.toNat c.motionCodes (Core.motionCommit now)) s

end Sys2Proof.Machine
end

