-- ==== Sys2Proof/Machine/Contexts.lean ====
section
/-!
DEFINITION. Contexts, statistics and output streams (07): commits of the context banks, auxiliary
ports and the side path, statistics blocks, display tiles, archive pictures, machine-vision frames,
line summaries (13 R411) and what follows when an output finds no space (13 R409, 15 R452).
-/

namespace Sys2Proof.Machine

/-! ### Commits (07 R216 to R219) -/

/-- A context carries data (07 R214). -/
def Core.auxOn (c : Core) (p : Nat) : Bool := (c.ctx.ports.getD p {}).on
def Core.carries (c : Core) (n : Nat) : Bool :=
  let job := c.job.running && c.inspecting
  match n with
  | 0 => job
  | 1 => job && c.splitOn
  | n => c.auxOn (n - 2) && (job || c.mode == .service)

def Core.contextCodes (c : Core) (n v : Nat) : List Nat :=
  if v = 1 then
    reason (c.bank n).latch.isSome 0x08000029 ++
    reason (n == 0 && (c.pendingView 0x2630 3).1 ≤ (c.pendingView 0x2630 2).1) 0x08000031
  else []

/-- The bank latched; applied at once unless a boundary is to come (07 R217). -/
def Core.contextCommit (now n : Nat) (c : Core) : Core :=
  let c := c.latchBank now n
  if (if n < 2 then c.commitWaits else c.carries n) then c else c.applyBank n

def Core.contextDiscard (n : Nat) (c : Core) : Core := c.mapBank n (fun k => { k with pend := [] })

def execContextCommit (t : Nat) (orig : Orig) (n : Fin 4) (s : State) :
    Host.Outcome State Fault Refusal :=
  State.run t (fun now c => c.command now orig 0x2801 (n.val + 1) 1 1 (c.contextCodes n.val 1)
    (Core.contextCommit now n.val)) s

def execContextDiscard (t : Nat) (orig : Orig) (n : Fin 4) (s : State) :
    Host.Outcome State Fault Refusal :=
  State.run t (fun now c => c.command now orig 0x2801 (n.val + 1) 1 2 [] (Core.contextDiscard n.val)) s

/-! ### Losses reported when space returns (15 R452) -/

/-- A unit of a stream that found no descriptor slot; stream codes of 15 R446. -/
def Core.notStarted (stream n : Nat) (c : Core) : Core :=
  let k := stream * 256 + n
  (c.bump 0x3210 0x0A).mapEv (fun v => { v with
    notStarted := aput v.notStarted k ((alook v.notStarted k).getD 0 + 1) })

/-- The throttle level in force (15 R457). -/
def Core.throttle (c : Core) : Nat := c.obj 0x3330 0x1D

/-- The throttle level from which a stream's units are not started (15 R457). -/
def streamLevel (stream : Nat) : Nat := if stream = 3 then 4 else if stream = 4 then 3 else stream

/-- Summaries, units and events that were not kept are reported once there is space again. -/
def Core.lossReports (now : Nat) (c : Core) : Core :=
  let c := match c.ev.sumLost with
    | some (a, b) => if c.slotFree 1 false then
        (c.mapEv (fun v => { v with sumLost := none })).eventRaw now 0x0113 (c.stamp now) 0xFF 0
          (leBytes 6 a ++ leBytes 1 0xFF ++ leBytes 6 b)
      else c
    | none => c
  let ready := c.ev.notStarted.filter (fun p =>
    c.slotFree (if p.1 / 256 = 6 then 2 else if p.1 / 256 = 4 then 5 else 3) false &&
      (5 ≤ p.1 / 256 || c.throttle < streamLevel (p.1 / 256)))
  let c := ready.foldl (fun c p =>
    (c.mapEv (fun v => { v with notStarted := adel v.notStarted p.1 })).event now 0x0114 0xFF
      (leBytes 1 (p.1 / 256) ++ leBytes 1 (p.1 % 256) ++ leBytes 4 p.2)) c
  if c.ev.notKept ≠ 0 && c.slotFree 4 false then
    let n := c.ev.notKept
    (c.mapEv (fun v => { v with notKept := 0 })).event now 0x0115 0xFF (leBytes 4 n)
  else c

/-! ### What the streams need of the host link (07 R242, R243) -/

def auxIdx (p : Nat) : Nat := 0x2810 + p
def mvIdx (ctx : Nat) : Nat := 0x2850 + ctx

/-- Bytes of a pixel at the port's depth (07 R224). -/
def pixBytes (n : Nat) : Nat := if n = 8 then 1 else 2

/-- Output binning of an array context (06 R213). -/
def Core.binning (c : Core) (ctx : Nat) : Nat := max 1 (c.obj (if ctx = 0 then 0x2670 else 0x2770) 0)

/-- First column and width of the window, in output columns. -/
def Core.mvWindow (c : Core) (ctx : Nat) : Nat × Nat :=
  let n := c.numCols / c.binning ctx
  if c.obj (mvIdx ctx) 5 = 0 then (0, n)
  else (c.obj (mvIdx ctx) 4 - c.firstCol / c.binning ctx, c.obj (mvIdx ctx) 5)

/-- Channels of a mask. -/
def chans (m : Nat) : List Nat := (List.range 6).filter (fun i => m.testBit i)

/-- The needs of display, array machine vision, auxiliary machine vision and archive, in the order of their priority,
bytes per ns, which is GB/s. -/
def Core.streamNeeds (c : Core) (timed : Bool) : List Rat :=
  let rl := c.lineRate timed
  let n : Rat := (c.numCols : Rat)
  let b := fun ctx => (c.binning ctx : Rat)
  let f : Rat := (c.obj 0x2830 3 : Rat)
  let disp := if c.flag 0x2830 1 then 3 * (n / (b (c.obj 0x2830 2) * f)) * rl / f else 0
  let arch := if c.flag 0x2840 1 then
    n / b (c.obj 0x2840 2) * rl * (c.obj 0x2840 6 : Rat) / 128 else 0
  let one := fun ctx => if c.flag (mvIdx ctx) 1 && (ctx == 0 || c.splitOn) then
    ((chans (c.obj (mvIdx ctx) 2)).length : Rat) * ((c.mvWindow ctx).2 : Rat) * rl *
      (c.obj (mvIdx ctx) 3 : Rat) / 8 else 0
  let aux := fun p => if c.flag (auxIdx p) 0x0C then
    (15 / 100 : Rat) * (pixBytes (c.obj (auxIdx p) 2) : Rat) else 0
  [disp, one 0 + one 1, aux 0 + aux 1, arch]

/-- The needs of display, archive and machine vision (07 R242). -/
def Core.needs (c : Core) (timed : Bool) : List Rat :=
  let l := c.streamNeeds timed
  [l.getD 0 0, l.getD 3 0, l.getD 1 0 + l.getD 2 0]

/-- The planning figure in GB/s (13 R384); the rate is in 0.1 GT/s. -/
def planning (width rate10 : Nat) : Rat :=
  24 * ((width : Rat) / 8) * ((rate10 : Rat) / 320) * (if 80 ≤ rate10 then 1 else 8 / 10)

/-- The link carries stream `k` of the four, in their order of priority (07 R243). Up and in L0, it does where its
planning figure covers the allotment of the ring entries (01 R24), the stream and those before it; otherwise how many
it carries is a free value (log entry 141). -/
def Core.hostCarries (k : Nat) (c : Core) : Bool × Core :=
  let load := ((c.streamNeeds c.timedJob).take (k + 1)).foldl (· + ·) (1 / 2)
  if !c.cxl.hostUp then (false, c)
  else if c.cxl.recSince.isNone && decide (load ≤ planning (c.obj 0x3000 2) (c.obj 0x3000 3)) then (true, c)
  else
    let r := c.fresh
    (decide (k < Config.linkRoom r.1), r.2)

/-! ### Payload areas (13 R408, R409) -/

/-- Space of `n` bytes taken in a payload area; its byte offset, or none where it finds no room. -/
def Core.payTake (i n : Nat) (c : Core) : Option (Nat × Core) :=
  let r := c.ring i
  let sz := 2 ^ r.size
  let k := (n + 63) / 64
  let pos := r.prod % sz
  let skip := if sz < pos + k then sz - pos else 0
  if c.cxl.hostUp && r.enable && c.mode != .dusk && c.mode != .compline && r.used + skip + k ≤ sz then
    some ((r.prod + skip) % sz * 64,
      c.mapRing i (fun r => { r with prod := (r.prod + skip + k) % 2 ^ 32 }))
  else none

/-- Payload bytes written at an offset of an area, then the area's writeback (13 R406). -/
def Core.payWrite (now i off : Nat) (data : List Byte) (c : Core) : Core :=
  (c.emit (.hostWrite ((c.ring i).base + off) data)).writeback now i

/-- The frame descriptor (13 R412). -/
def fdrBytes (kind ctx flags seq g gm first status dc lines width depth chans off len pitch
    extra : Nat) : List Byte :=
  leBytes 1 kind ++ leBytes 1 ctx ++ leBytes 2 flags ++ leBytes 4 seq ++ leBytes 4 g ++
  leBytes 4 gm ++ leBytes 6 first ++ leBytes 2 status ++ leBytes 8 dc ++ leBytes 4 lines ++
  leBytes 2 width ++ leBytes 1 depth ++ leBytes 1 chans ++ leBytes 8 off ++ leBytes 8 len ++
  leBytes 4 pitch ++ leBytes 2 extra

def Core.issueFdr (now : Nat) (e : List Byte) (c : Core) : Core := c.issue now 3 (withCrc16 e)

/-! ### Lines and generations -/

/-- The context generation of a web line (07 R220). -/
def Core.ctxGen (c : Core) (ctx n : Nat) : Nat :=
  let g := c.genAt n
  if ctx = 0 then g.g0 else g.g1

def Core.motGen (c : Core) (n : Nat) : Nat := (c.genAt n).gm

/-- The last line of a sheet, or of the job: streams and their units end with it (07 R236). -/
def Core.lastOf (c : Core) (n : Nat) : Bool :=
  (c.inSheet && (c.unitOf n).2 == n) || c.job.lineLast == some n

/-- The line from which a stream's units are counted: the job's or the sheet's first (07 R237). -/
def Core.streamBase (c : Core) (n : Nat) : Nat := if c.inSheet then (c.unitOf n).1 else 0

/-- The six channel codes of a pixel. -/
def Pix.codes (p : Pix) : List Nat := [p.l, p.a, p.b, p.nir, p.clr, p.gls]

/-- Channels with signed codes: a*, b*, GLS (06 R208). -/
def signedCh (ch : Nat) : Bool := ch == 1 || ch == 2 || ch == 5

/-- A channel code as an offset-binary number. -/
def offsetCode (ch v : Nat) : Nat := if signedCh ch then (v ^^^ 0x8000) else v

/-- The mean of codes of one channel, rounded to its encoding (06 R209, 07 R233). -/
def meanCode (ch : Nat) (l : List Nat) : Nat :=
  if l.isEmpty then 0
  else offsetCode ch (divEven (sumNat (l.map (offsetCode ch))) l.length)

/-- Output columns after binning by `b` (06 R209). -/
def binPix (b : Nat) (cols : List Pix) : List Pix :=
  if b ≤ 1 then cols
  else (List.range (cols.length / b)).map (fun i =>
    let g := (cols.drop (i * b)).take b
    let m := fun (ch : Nat) (f : Pix → Nat) => meanCode ch (g.map f)
    { l := m 0 (·.l), a := m 1 (·.a), b := m 2 (·.b), nir := m 3 (·.nir), clr := m 4 (·.clr), gls := m 5 (·.gls), blind := g.any (·.blind) })

/-! ### Statistics (07 R229 to R234) -/

def satL (p : Pix) : Bool := p.l == 0xFFFF

/-- Channels of a pixel that count: saturation leaves some out (07 R232). -/
def countsCh (p : Pix) (ch : Nat) : Bool :=
  if ch < 3 then !satL p
  else if ch = 3 then p.nir != 0xFFFF
  else if ch = 4 then p.clr != 0xFFFF
  else true

/-- A zone: six sums, six counts, least and largest L*, pixels counted, pixels saturated. -/
def zoneEmpty : List Nat := [0, 0, 0, 0, 0, 0, 0, 0, 0, 0, 0, 0, 65536, 0, 0, 0]

def zoneAdd (z : List Nat) (p : Pix) : List Nat :=
  let cs := p.codes
  (List.range 6).map (fun ch => z.getD ch 0 +
    (if countsCh p ch then offsetCode ch (cs.getD ch 0) else 0)) ++
  (List.range 6).map (fun ch => z.getD (6 + ch) 0 + b2n (countsCh p ch)) ++
  [if satL p then z.getD 12 65536 else min (z.getD 12 65536) p.l,
   if satL p then z.getD 13 0 else max (z.getD 13 0) p.l,
   z.getD 14 0 + 1, z.getD 15 0 + b2n (satL p)]

/-- One output column counted into an accumulator: histogram key channel × 256 + bin. -/
def StatAcc.addPix (b : Nat) (a : StatAcc) (q : Pix × Nat) : StatAcc :=
  if q.1.blind then a
  else
    let zone := q.2 * b / 512
    let z := ((a.zones.find? (fun p => p.1 == zone)).map (·.2)).getD zoneEmpty
    { a with
      hist := (List.range 6).foldl (fun h ch =>
        if countsCh q.1 ch then
          let k := ch * 256 + offsetCode ch (q.1.codes.getD ch 0) / 256
          aput h k ((alook h k).getD 0 + 1)
        else h) a.hist,
      zones := a.zones.filter (fun p => p.1 != zone) ++ [(zone, zoneAdd z q.1)] }

/-- A resolved line counted (07 R230 to R233). The first column index is that of the run; `at_` is the timestamp of its
passing, `free` whether DC was out of sync then. -/
def StatAcc.addLine (at_ b first : Nat) (free : Bool) (l : LineRec) (a : StatAcc) : StatAcc :=
  let a := if a.lines = 0 then { a with first := l.n } else a
  let a := (binPix b l.cols).zipIdx.foldl (fun a q => a.addPix b (q.1, q.2 + first / b)) a
  { a with
    lines := a.lines + 1, motion := a.motion + l.status % 2, posit := a.posit + field l.status 1 1,
    blind := a.blind + b2n (256 ≤ l.status), settle := a.settle + b2n (l.status.testBit 3 || l.status.testBit 6),
    dcFree := a.dcFree || l.status.testBit 4 || free, last := at_ }

/-- A mean of a zone's channel (07 R233). -/
def zoneMean (z : List Nat) (ch : Nat) : Nat :=
  let n := z.getD (6 + ch) 0
  if n = 0 then 0 else offsetCode ch (divEven (z.getD ch 0) n)

def zoneBytes (z : List Nat) : List Byte :=
  (List.range 6).flatMap (fun ch => leBytes 2 (zoneMean z ch)) ++
  leBytes 2 (if z.getD 12 65536 = 65536 then 0 else z.getD 12 0) ++ leBytes 2 (z.getD 13 0) ++
  leBytes 4 (z.getD 14 0) ++ leBytes 4 (z.getD 15 0)

/-- The header of an array block (07 R230). -/
def Core.statHeader (c : Core) (ctx seq flags : Nat) (a : StatAcc) : List Byte :=
  let g := c.genAt a.first
  leBytes 1 ctx ++ leBytes 1 (b2n (c.inSheet)) ++ leBytes 2 flags ++ leBytes 4 seq ++
  leBytes 4 (c.ctxGen ctx a.first) ++ leBytes 4 g.gm ++ leBytes 6 a.first ++ leBytes 1 g.band ++
  leBytes 1 (c.binning ctx) ++ leBytes 4 a.lines ++ leBytes 4 a.motion ++ leBytes 4 a.posit ++
  leBytes 4 a.blind ++ leBytes 8 g.start ++ leBytes 8 a.last ++ leBytes 4 a.settle ++ zeros 4

/-- An array block's histograms and zones (07 R231, R233). -/
def statBody (a : StatAcc) : List Byte :=
  (List.range 1536).flatMap (fun k => leBytes 8 ((alook a.hist k).getD 0)) ++
  (List.range 64).flatMap (fun z =>
    zoneBytes (((a.zones.find? (fun p => p.1 == z)).map (·.2)).getD zoneEmpty))

/-- Block bodies held in the holding store: those whose DROPPED flag is clear (15 R449). -/
def Core.bodiesHeld (c : Core) : Nat :=
  ((c.ring 2).held.filter (fun e => !(leAt e 2 2).testBit 3)).length

/-- The next numbers of the contexts' statistics blocks (kind 0), machine-vision frames (1) or pictures (2). -/
def Ctx.seqs (x : Ctx) (kind : Nat) : List Nat :=
  if kind = 0 then x.blkSeq else if kind = 1 then x.mvSeq else x.picSeq

/-- The next number of a context's units in a numbering: the present one, or an earlier one of which a frame or a
picture is left (07 R228, R229, R236). -/
def Core.unitSeq (c : Core) (kind n run : Nat) : Nat :=
  if run = c.ctx.run then (c.ctx.seqs kind).getD n 0
  else (alook c.ctx.oldSeqs (run * 16 + kind * 4 + n)).getD 0

/-- That number taken. -/
def Core.takeSeq (kind n run : Nat) (c : Core) : Core :=
  let next := (c.unitSeq kind n run + 1) % 2 ^ 32
  c.mapCtx (fun x =>
    if run ≠ x.run then { x with oldSeqs := aput x.oldSeqs (run * 16 + kind * 4 + n) next }
    else if kind = 0 then { x with blkSeq := modAt x.blkSeq n (fun _ => next) }
    else if kind = 1 then { x with mvSeq := modAt x.mvSeq n (fun _ => next) }
    else { x with picSeq := modAt x.picSeq n (fun _ => next) })

/-- The auxiliary contexts number from 0 again; frames captured and pictures formed before keep the numbering they were
captured or formed in. -/
def Ctx.renumber (x : Ctx) : Ctx :=
  let kept := x.oldSeqs ++ [0, 1, 2].flatMap (fun k => [0, 1, 2, 3].map (fun n =>
    (x.run * 16 + k * 4 + n, (x.seqs k).getD n 0)))
  { x with
    run := x.run + 1,
    oldSeqs := kept.filter (fun p =>
      x.frames.any (fun f => f.run == p.1 / 16) || x.staged.any (fun q => q.run == p.1 / 16)),
    blkSeq := x.blkSeq.take 2 ++ [0, 0], mvSeq := x.mvSeq.take 2 ++ [0, 0],
    ports := x.ports.map (fun a => { a with seqNo := 0 }) }

/-- A block issued to STR, header only where its body finds no space; not formed where its header
finds none (15 R452). `mk` gives the header for a sequence number and flags. -/
def Core.issueBlock (now n run flags : Nat) (mk : Nat → Nat → List Byte) (body : List Byte) (c : Core) :
    Core :=
  if !c.slotFree 2 false then c.notStarted 6 n
  else
    let direct := c.ringOpen 2 && (c.ring 2).held.isEmpty
    let seq := c.unitSeq 0 n run
    let c := c.takeSeq 0 n run
    if direct || c.bodiesHeld < 2048 then c.issue now 2 (slice (mk seq flags ++ body) 0 16384)
    else c.issue now 2 (slice (mk seq (flags ||| 8)) 0 16384)

/-- The statistics of a line; at the unit's last line its block falls due (07 R229). -/
def Core.statLine (now : Nat) (l : LineRec) (c : Core) : Core :=
  if !(c.obj 0x2820 1).testBit l.ctx then c
  else
    let a := (c.ctx.acc.getD l.ctx {}).addLine (c.stamp now) (c.binning l.ctx) c.firstCol c.dcFree l
    let u := c.unitOf l.n
    if u.2 == l.n || c.job.lineLast == some l.n then
      c.mapCtx (fun x => { x with
        acc := modAt x.acc l.ctx (fun _ => {}),
        due := x.due ++ [(l.ctx, { a with whole := a.lines == u.2 + 1 - u.1 })] })
    else c.mapCtx (fun x => { x with acc := modAt x.acc l.ctx (fun _ => a) })

/-- The block of an array unit written (07 R229, R230); a zone whose words are poisoned is all 0 and the
block carries TRUNC (12 R378). -/
def Core.arrayBlock (now n : Nat) (c : Core) : Core :=
  match c.ctx.due.find? (fun d => d.1 == n) with
  | none => c
  | some d =>
    let a := d.2
    let band := (c.genAt a.first).band
    let changed := match c.ctx.lastBand.getD n none with
      | some b => b != band
      | none => false
    let c := c.sramUse now (fun w => (List.range 64).any (fun z => bufferWord 2 (c.ctx.blkSeq.getD n 0 * 4 + n) z w))
    let bad := fun (z : Nat) => c.bufferBad 2 (c.ctx.blkSeq.getD n 0 * 4 + n) z
    let a := { a with zones := a.zones.filter (fun z => !bad z.1) }
    let flags := b2n (a.dcFree || (c.genAt a.first).dcFree) + 2 * b2n (!a.whole) + 4 * b2n changed + 16 * b2n ((List.range 64).any bad)
    let c := c.mapCtx (fun x => { x with
      due := x.due.erase d, lastBand := modAt x.lastBand n (fun _ => some band) })
    c.issueBlock now n c.ctx.run flags (fun seq f => c.statHeader n seq f a) (statBody a)

/-! ### Auxiliary frames (07 R221 to R228, R234, R241) -/

def Core.mapPort (p : Nat) (f : AuxPort → AuxPort) (c : Core) : Core :=
  c.mapCtx (fun x => { x with ports := modAt x.ports p f })

/-- The same frame: of one port, numbering and number. -/
def AuxFrame.same (q r : AuxFrame) : Bool := q.port == r.port && q.run == r.run && q.seqNo == r.seqNo

def Core.mapFrame (q : AuxFrame) (f : AuxFrame → AuxFrame) (c : Core) : Core :=
  c.mapCtx (fun x => { x with frames := x.frames.map (fun r => if r.same q then f r else r) })

/-- Frames whose uses have all ended leave their slots (07 R225). -/
def Core.freeSlots (c : Core) : Core :=
  c.mapCtx (fun x => { x with frames := x.frames.filter (fun r =>
    !(r.ended && r.side && !r.statsDue && !r.mvDue)) })

/-- A write of the enable (07 R228). -/
def Core.auxEnable (p v : Nat) (c : Core) : Core :=
  (c.store (auxIdx p) 1 v).mapPort p (fun a =>
    if v = 1 then { a with want := some true }
    else if a.inFrame then { a with want := some false } else { a with on := false, want := none })

def execAuxEnable (t : Nat) (orig : Orig) (p : Fin 2) (v : Byte) (s : State) :
    Host.Outcome State Fault Refusal :=
  State.run t (fun now c => c.command now orig (auxIdx p.val) 1 1 v.toNat []
    (fun c => if c.waitsDawn (auxIdx p.val) 1 then c.duskWrite (auxIdx p.val) 1 (v.toNat % 2)
      else c.auxEnable p.val (v.toNat % 2))) s

/-- A level of HS (`k` = 1) or VS (`k` = 2) of a port is its active one: 2810h.05 gives the polarity (07 R221). -/
def Core.auxActive (c : Core) (p k : Nat) (level : Bool) : Bool := level != (c.obj (auxIdx p) 5).testBit k

/-- The samples at which a port takes a pixel: the edge that 2810h.05 selects, HS and VS active (07 R221). -/
def Core.auxTaken (c : Core) (p : Nat) (l : List AuxSample) : List AuxSample :=
  l.filter (fun q => q.falling == (c.obj (auxIdx p) 5).testBit 0 && c.auxActive p 1 q.hs && c.auxActive p 2 q.vs)

/-- x̂ for an auxiliary frame (07 R223). -/
def Core.framePos (c : Core) (now : Nat) : Option Rat :=
  if c.loopRuns && [LoopState.seeding, .tracking, .slewing].contains c.mot.loop then some (c.xAt now)
  else none

/-- The active edge of VS, the level after it being `vs` (07 R221, R223, R225, R228). -/
def Core.auxStart (now p : Nat) (c : Core) : Core :=
  let c := c.mapPort p (fun a =>
    if a.want == some true then { a with on := true, want := none } else a)
  let a := c.ctx.ports.getD p {}
  if !c.carries (p + 2) || a.inFrame || (c.mode != .service && c.job.ending.isSome) then c
  else
    let c := c.applyDue now (p + 2)
    let busy := (c.ctx.frames.filter (fun r => r.port == p && r.slot)).length
    let r : AuxFrame := {
      port := p, seqNo := a.seqNo, run := c.ctx.run, start := now / 4 * 4, stamp := c.stamp now / 4 * 4,
      dcFree := c.dcFree, pos := c.framePos now,
      gen := c.obj 0x2802 (p + 3), k := c.obj (auxIdx p) 6, g := c.obj (auxIdx p) 7,
      depth := c.obj (auxIdx p) 2, width := c.obj (auxIdx p) 3, height := c.obj (auxIdx p) 4,
      slot := busy < 2, statsDue := (c.obj 0x2820 1).testBit (p + 2), mvDue := c.flag (auxIdx p) 0x0C }
    let c := (c.bump (auxIdx p) 8).when (!r.slot) (Core.bump (auxIdx p) 9)
    (c.mapPort p (fun a => { a with inFrame := true, seqNo := (a.seqNo + 1) % 2 ^ 32 })).mapCtx
      (fun x => { x with frames := x.frames ++ [r] })

def execAuxStartOfFrame (t : Nat) (p : Fin 2) (vs : Bool) (s : State) : Host.Outcome State Fault Refusal :=
  State.run t (fun now c => c.when (c.auxActive p.val 2 vs) (Core.auxStart now p.val)) s

/-- The frame that a port takes in. -/
def Core.openFrame (c : Core) (p : Nat) : Option AuxFrame :=
  if (c.ctx.ports.getD p {}).inFrame then c.ctx.frames.find? (fun r => r.port == p && !r.ended) else none

/-- Pixel `i` of the frame's line being received stands in a poisoned word of the FIFO (12 R378). -/
def Core.fifoBad (c : Core) (r : AuxFrame) (i : Nat) : Bool :=
  c.bufferBad 3 (r.seqNo * 2 + r.port) (r.count * 8192 + i)

/-- A received line of samples: its pixels, trimmed to W, in the frame's store, discarded beyond H or after truncation;
a full FIFO ends the frame's intake at its pixel (07 R221, R224, R225; a line cut there is a line received but no
line-length error: log entry 140). Pixels of a poisoned word of the FIFO are 0 and the frame carries TRUNC
(12 R378). -/
def Core.auxLine (p : Nat) (samples : List AuxSample) (c : Core) : Core :=
  match c.openFrame p with
  | none => c
  | some r =>
    let w := r.width
    let taken := c.auxTaken p samples
    let kept := taken.takeWhile (fun q => !q.full)
    let cut := decide (kept.length < taken.length)
    let bad := fun (i : Nat) => c.fifoBad r i
    let px := kept.zipIdx.map (fun q => if bad q.2 then 0 else q.1.data.toNat % 2 ^ r.depth)
    let lost := (List.range (min w px.length)).any bad
    let off := !cut && px.length != w
    if r.trunc || r.height ≤ r.count || taken.isEmpty then c
    else
      let c := (c.when off (Core.bump (auxIdx p) 0x0B)).when cut (Core.bump (auxIdx p) 0x0A)
      c.mapFrame r (fun r => { r with
        count := r.count + b2n (!kept.isEmpty), lenErr := r.lenErr + b2n off, lost := r.lost || lost, trunc := cut,
        lines := if r.slot && !kept.isEmpty then r.lines ++ [px.take w] else r.lines })

/-- The FIFO's words behind a received line are read (12 R365, R366, R378). -/
def Core.fifoLook (now p : Nat) (samples : List AuxSample) (c : Core) : Core :=
  match c.openFrame p with
  | none => c
  | some r => c.sramUse now (fun a => (List.range samples.length).any (fun i =>
      bufferWord 3 (r.seqNo * 2 + r.port) (r.count * 8192 + i) a))

def execAuxLine (t : Nat) (p : Fin 2) (samples : List AuxSample) (s : State) : Host.Outcome State Fault Refusal :=
  State.run t (fun now c => (c.fifoLook now p.val samples).auxLine p.val samples) s

/-- The inactive edge of VS, the level after it being `vs` (07 R221, R223, R228). -/
def Core.auxEnd (now p : Nat) (c : Core) : Core :=
  match c.openFrame p with
  | none => c
  | some r =>
    (c.mapFrame r (fun r => { r with
      ended := true, endT := c.stamp now, dcFree := r.dcFree || c.dcFree })).mapPort p (fun a =>
      { a with
        inFrame := false, on := a.on && a.want != some false,
        want := if a.want == some false then none else a.want })

def execAuxEndOfFrame (t : Nat) (p : Fin 2) (vs : Bool) (s : State) : Host.Outcome State Fault Refusal :=
  State.run t (fun now c => c.when (!c.auxActive p.val 2 vs) (Core.auxEnd now p.val)) s

/-- The side path takes the oldest frame not yet processed; AUX-A first in one tick (07 R226). -/
def Core.sideStart (c : Core) : Core :=
  if c.ctx.sideBusy.isSome then c
  else
    let l := c.ctx.frames.filter (fun r => !r.side)
    match l.foldl (fun (b : Option AuxFrame) r => match b with
        | none => some r
        | some q => if r.start < q.start || (r.start == q.start && r.port < q.port) then some r else some q)
        none with
    | some r => c.mapCtx (fun x => { x with sideBusy := some (r.port, r.run, r.seqNo) })
    | none => c

def execSidePathFrameStart (t : Nat) (s : State) : Host.Outcome State Fault Refusal :=
  State.run t (fun _ c => c.sideStart) s

/-- One pixel through the side path (07 R227). -/
def sidePix (r : AuxFrame) (n x : Nat) : Nat := min (divEven ((x - r.k) * r.g) 4096) (2 ^ n - 1)

/-- The frame's rows of W pixels: a shorter line is padded with 0, lines not received read 0 (07 R224, R241). -/
def auxRows (r : AuxFrame) (n w h : Nat) : List (List Nat) :=
  (List.range h).map (fun i =>
    let l := (r.lines.getD i []).map (sidePix r n)
    l ++ List.replicate (w - l.length) 0)

def padTo64 (l : List Byte) : List Byte := l ++ zeros ((64 - l.length % 64) % 64)

/-- The last frame of its port in the job: the job has stopped, so that no frame begins any more, and none came after it
(13 R412). -/
def Core.auxLast (c : Core) (r : AuxFrame) : Bool :=
  c.job.ending.isSome && r.run == c.ctx.run && (r.seqNo + 1) % 2 ^ 32 == (c.ctx.ports.getD r.port {}).seqNo

/-- An auxiliary machine-vision frame leaves its slot, in capture order, where there is payload
space and a descriptor slot (07 R241, R243, 13 R409, R412). -/
def Core.auxSend (now p : Nat) (c : Core) : Core :=
  match c.ctx.frames.find? (fun r => r.port == p && r.mvDue) with
  | none => c
  | some r =>
    if !r.side then c
    else if !c.slotFree 3 false || 2 ≤ c.throttle then
      ((c.notStarted 2 (p + 2)).mapFrame r (fun r => { r with mvDue := false })).freeSlots
    else
      let n := r.depth
      let w := r.width
      let h := r.height
      let rows := (auxRows r n w h).map (fun l => padTo64 (l.flatMap (leBytes (pixBytes n))))
      let pitch := (w * pixBytes n + 63) / 64 * 64
      let link := if r.slot then c.hostCarries 2 else (true, c)
      let c := link.2
      let sent := if !r.slot then some (0, c) else if link.1 then c.payTake 7 (h * pitch) else none
      match sent with
      | none => c.when link.1 Core.payloadWait
      | some (off, c) =>
        let c := c.when r.slot (Core.payWrite now 7 off rows.flatten)
        let seq := c.unitSeq 1 (p + 2) r.run
        let flags := b2n (!r.slot) + 2 * b2n (r.trunc || r.lost) + 4 * b2n (0 < r.lenErr) + 8 * b2n r.pos.isNone +
          16 * b2n r.dcFree + 32 * b2n (c.auxLast r)
        let x := (max 0 ((r.pos.getD 0) * 65536).floor).toNat
        let c := c.issueFdr now (fdrBytes 2 (p + 2) flags seq r.gen 0 (x / 65536) 0 r.stamp
          (if r.slot then r.count else 0) w n 0
          off (if r.slot then h * pitch else 0) (if r.slot then pitch else 0) (x % 65536))
        ((c.takeSeq 1 (p + 2) r.run).mapFrame r (fun r => { r with mvDue := false })).freeSlots

/-- Side-path processing of a frame ends (07 R225). -/
def Core.sideEnd (now : Nat) (c : Core) : Core :=
  match c.ctx.sideBusy with
  | none => c
  | some (p, k, n) =>
    match c.ctx.frames.find? (fun r => r.port == p && r.run == k && r.seqNo == n && r.ended) with
    | none => c
    | some r =>
      let c := (c.mapFrame r (fun r => { r with side := true })).mapCtx (fun x => { x with sideBusy := none })
      (c.auxSend now p).freeSlots

def execSidePathFrameEnd (t : Nat) (s : State) : Host.Outcome State Fault Refusal :=
  State.run t (fun now c => c.sideEnd now) s

/-- One of the 64 zones of an auxiliary block (07 R234). -/
def auxZone (rows : List (List Nat)) (n w h z : Nat) : List Byte :=
  let i := z / 8
  let j := z % 8
  let px := ((rows.drop (i * h / 8)).take ((i + 1) * h / 8 - i * h / 8)).flatMap (fun l =>
    (l.drop (j * w / 8)).take ((j + 1) * w / 8 - j * w / 8))
  if px.isEmpty then zeros 16
  else
    leBytes 2 (divEven (sumNat px) px.length) ++ leBytes 2 (px.foldl min 65535) ++
    leBytes 2 (maxNat px) ++ zeros 2 ++ leBytes 4 px.length ++
    leBytes 4 (px.filter (· == 2 ^ n - 1)).length

/-- The block of an auxiliary frame, over its received pixels (07 R229 to R232, R234, 12 R378). -/
def Core.auxBlock (now p : Nat) (c : Core) : Core :=
  match c.ctx.frames.find? (fun r => r.port == p && r.statsDue) with
  | none => c
  | some r =>
    if !r.side then c
    else
      let n := r.depth
      let w := r.width
      let h := r.height
      let rows := r.lines.map (fun l => l.map (sidePix r n))
      let px := rows.flatten
      let sat := (px.filter (· == 2 ^ n - 1)).length
      let blk := c.unitSeq 0 (p + 2) r.run * 4 + p + 2
      let c := c.sramUse now (fun w => (List.range 64).any (fun z => bufferWord 2 blk z w))
      let bad := fun (z : Nat) => c.bufferBad 2 blk z
      let flags := b2n r.dcFree + 8 * b2n (!r.slot) + 16 * b2n (r.trunc || r.lost || (List.range 64).any bad) +
        32 * b2n (0 < r.lenErr) + 64 * b2n r.pos.isNone
      let head := fun seq f =>
        leBytes 1 (p + 2) ++ leBytes 1 2 ++ leBytes 2 f ++ leBytes 4 seq ++ leBytes 4 r.gen ++ zeros 4 ++
        leBytes 6 (max 0 (r.pos.getD 0).floor).toNat ++ leBytes 1 n ++ zeros 1 ++ leBytes 4 r.count ++
        leBytes 4 w ++ leBytes 4 h ++ leBytes 4 r.lenErr ++ leBytes 8 r.stamp ++ leBytes 8 r.endT ++
        leBytes 4 sat ++ zeros 4
      let body := (List.range 256).flatMap (fun k =>
          leBytes 8 (px.filter (fun y => y / 2 ^ (n - 8) == k)).length) ++
        (List.range 64).flatMap (fun z => if bad z then zeros 16 else auxZone rows n w h z)
      ((c.issueBlock now (p + 2) r.run flags head body).mapFrame r
        (fun r => { r with statsDue := false })).freeSlots

def execStatsBlockWrite (t : Nat) (n : Fin 4) (s : State) : Host.Outcome State Fault Refusal :=
  State.run t (fun now c =>
    if n.val < 2 then c.arrayBlock now n.val else c.auxBlock now (n.val - 2)) s

/-! ### Display tiles (07 R237) -/

/-- The mean of the codes of one channel of a display pixel's counted source pixels. -/
def dispMean (ch : Nat) (l : List Nat) : Rat :=
  if l.isEmpty then 0
  else (sumInt (l.map (fun v => if signedCh ch then toSigned 16 v else (v : Int))) : Rat) / (l.length : Rat)

/-- A parameter of a generation as a real number. -/
def Gen.objF (g : Gen) (idx sub : Nat) : Rat := ofF32 (g.obj idx sub)

/-- One display pixel: its three bytes, each within one code of the exactly rounded one (07 R237), with the white point
of a generation. -/
def dispPix (g : Gen) (ctx : Nat) (px : List Pix) : List Byte :=
  let seen := px.filter (fun p => !p.blind)
  let good := seen.filter (fun p => !satL p)
  if px.isEmpty then zeros 3
  else if seen.isEmpty then [0, 0, 255]
  else if good.isEmpty then [255, 0, 255]
  else
    let i := if ctx = 0 then 0x2660 else 0x2760
    let w := (g.objF i 0x0D, g.objF i 0x0E, g.objF i 0x0F)
    let l := dispMean 0 (good.map (·.l)) / 512
    let a := dispMean 1 (good.map (·.a)) / 256
    let b := dispMean 2 (good.map (·.b)) / 256
    (List.range 3).map (fun k => BitVec.ofNat 8
      (min 255 (srgbOf k l a b w + (Config.displayError k l a b w).val - 1)))

/-- The payload of tile `tx` of a tile row: rows of 256 display pixels, each row with its generation. -/
def tileBytes (ctx f tx : Nat) (rows : List (Gen × List (List Pix))) : List Byte :=
  rows.flatMap (fun grp => (List.range 256).flatMap (fun i =>
    dispPix grp.1 ctx (grp.2.flatMap (fun l => (l.drop ((tx * 256 + i) * f)).take f))))

/-- Display rows of `f` lines, each under the generation of its first line: the manual names none where the lines of a
row carry two (07 R220, R237, DESIGN CHOICE, log entry 161). -/
def Core.groupsOf (c : Core) (b f : Nat) (l : List LineRec) : List (Gen × List (List Pix)) :=
  (List.range ((l.length + f - 1) / f)).map (fun i =>
    let grp := (l.drop (i * f)).take f
    (c.genAt ((grp.head?.map (·.n)).getD 0 : Nat), grp.map (fun x => binPix b x.cols)))

/-- The lines of the unit of `h` lines that stands first, once its last line is there: it ends with its sheet or job
(07 R236 to R238). -/
def Core.unitLines (c : Core) (h : Nat) (l : List LineRec) : Option (List LineRec) :=
  match l with
  | [] => none
  | a :: _ =>
    let want := h - (a.n - c.streamBase a.n) % h
    let cut := l.take want
    match cut.findIdx? (fun x => c.lastOf x.n) with
    | some i => some (cut.take (i + 1))
    | none => if cut.length = want then some cut else none

/-- The lines of the tile row that stands first, once its last line has resolved. -/
def Core.tileRow (c : Core) : Option (List LineRec) := c.unitLines (256 * max 1 (c.obj 0x2830 3)) c.ctx.disp

def lineUnion (l : List LineRec) : Nat := l.foldl (fun s x => s ||| x.status) 0

/-- One tile: payload and descriptor, dropped without payload space or with a poisoned word in its FIFO
(07 R237, R243, 12 R378, 13 R409). -/
def Core.tile (now ctx f : Nat) (ls : List LineRec) (rows : List (Gen × List (List Pix))) (tx : Nat)
    (c : Core) : Core :=
  if !c.slotFree 3 false || 4 ≤ c.throttle then c.notStarted 3 ctx
  else
    let first := (ls.head?.map (·.n)).getD 0
    let last := (ls.getLast?.map (·.n)).getD 0
    let seq := c.ctx.tileSeq.getD ctx 0
    let c := c.sramUse now (bufferWord 5 ctx seq)
    let bad := c.bufferBad 5 ctx seq
    let link := c.hostCarries 0
    let c := link.2
    let r := if bad || !link.1 then none else c.payTake 8 196608
    let st := lineUnion ls
    let len := rows.length * 768
    let desc := fun (drop : Bool) (off : Nat) => fdrBytes 3 ctx
      (b2n drop + 16 * b2n (st.testBit 4) + 32 * b2n (c.lastOf last)) seq (c.ctxGen ctx first)
      (c.motGen first) first st ((ls.head?.map (·.dc)).getD 0) (if drop then 0 else ls.length) 256 8 0 off
      (if drop then 0 else len) 768 tx
    let c := match r with
      | some (off, c') => (((c'.payWrite now 8 off (tileBytes ctx f tx rows)).bump 0x2830 4).issueFdr
          now (desc false off))
      | none => (((c.when (!bad && link.1) Core.payloadWait).bump 0x2830 5).issueFdr now (desc true 0))
    c.mapCtx (fun x => { x with tileSeq := modAt x.tileSeq ctx (fun s => (s + 1) % 2 ^ 32) })

/-- A tile row emitted, west to east. -/
def Core.displayRow (now : Nat) (c : Core) : Core :=
  match c.tileRow with
  | none => c
  | some ls =>
    let ctx := (ls.head?.map (·.ctx)).getD 0
    let f := c.obj 0x2830 3
    let rows := c.groupsOf (c.binning ctx) f ls
    let n := (c.numCols / c.binning ctx + f * 256 - 1) / (f * 256)
    let c := c.mapCtx (fun x => { x with disp := x.disp.drop ls.length })
    (List.range n).foldl (fun c tx => c.tile now ctx f ls rows tx) c

def execDisplayTileRow (t : Nat) (s : State) : Host.Outcome State Fault Refusal :=
  State.run t (fun now c => c.displayRow now) s

/-! ### Archive (07 R238, R239) -/

def Core.pictureStart (c : Core) (n : Nat) : Bool :=
  (n - c.streamBase n) % max 1 (c.obj 0x2840 5) == 0

/-- The largest codestream of a picture (07 R238). -/
def Core.pictureMax (c : Core) : Nat :=
  let w := c.numCols / c.binning (c.obj 0x2840 2)
  (w * c.obj 0x2840 5 * c.obj 0x2840 6 + 127) / 128

def Core.stagedBytes (c : Core) : Nat := sumNat (c.ctx.staged.map (·.bytes.length))

/-- Staging holds `n` more pictures at their maximum size (07 R239). -/
def Core.stagingFits (c : Core) (n : Nat) : Bool :=
  decide (c.stagedBytes + n * c.pictureMax ≤ 512 * 2 ^ 20)

/-- 2840h.09: staging fill in KiB. -/
def Core.stagingFill (c : Core) : Core := c.put 0x2840 9 (c.stagedBytes / 1024)

/-- The archive entry (13 R414). -/
def Picture.entry (p : Picture) (seq off : Nat) : List Byte :=
  let k := if p.gap then 0 else 1
  leBytes 1 (2 - k) ++ leBytes 1 p.ctx ++ leBytes 2 (b2n (p.status.testBit 4) + 2 * b2n p.short) ++
  leBytes 4 seq ++ leBytes 4 (k * p.gen) ++ leBytes 4 (k * p.gm) ++ leBytes 6 p.first ++ leBytes 2 (k * p.status) ++
  leBytes 4 p.lines ++ leBytes 2 p.width ++ leBytes 1 p.comps ++ leBytes 1 p.depth ++ leBytes 8 off ++
  leBytes 4 p.bytes.length ++ leBytes 2 p.rate ++ zeros 2 ++ leBytes 8 p.dc ++ leBytes 6 p.last

/-- Staged pictures and GAPs written in order while there is space (13 R409, R414, 15 R452). -/
def Core.archiveDrain (now : Nat) : Nat → Core → Core
  | 0, c => c
  | f + 1, c =>
    match c.ctx.staged with
    | [] => c
    | p :: l =>
      if !c.slotFree 5 false then c
      else
        let seq := c.unitSeq 2 p.ctx p.run
        let done := fun (c : Core) => (c.mapCtx (fun x => { x with staged := l })).stagingFill
        if p.gap then
          ((done c).issue now 5 (withCrc16 (p.entry seq 0))).archiveDrain now f
        else
          let link := c.hostCarries 3
          match (if link.1 then link.2.payTake 9 p.bytes.length else none) with
          | none => link.2.when link.1 Core.payloadWait
          | some (off, c') =>
            (Core.takeSeq 2 p.ctx p.run (done (((c'.payWrite now 9 off p.bytes).issue now 5 (withCrc16 (p.entry seq off))).bump
              0x2840 7))).archiveDrain now f

def Core.drainArchive (now : Nat) (c : Core) : Core := c.archiveDrain now c.ctx.staged.length

/-- The lines of the picture that stands first, once its last line has resolved. -/
def Core.pictureLines (c : Core) : Option (List LineRec) := c.unitLines (max 1 (c.obj 0x2840 5)) c.ctx.arch

/-- A component's sample of a pixel at a bit depth (07 R238). -/
def archSample (depth ch : Nat) (p : Pix) : Nat :=
  if p.blind then 0 else offsetCode ch (p.codes.getD ch 0) / 2 ^ (16 - depth)

/-- The codestream of a picture: 4:4:4, no colour transform, five horizontal levels and one vertical, slices of 16
lines (07 R238). -/
def Core.codestream (c : Core) (ls : List LineRec) : List Byte :=
  let n := c.obj 0x2840 3
  let d := c.obj 0x2840 4
  let rows := ls.map (fun l => binPix (c.binning (c.obj 0x2840 2)) l.cols)
  (Config.codestream n d 5 1 16 (c.obj 0x2840 6) ((List.range n).map (fun ch =>
    rows.map (fun row => row.map (archSample d ch))))).take c.pictureMax

/-- A picture's codestream completes and enters staging; staging drains (07 R238, R239). -/
def Core.archivePicture (now : Nat) (c : Core) : Core :=
  match c.pictureLines with
  | none => c.drainArchive now
  | some ls =>
    let first := (ls.head?.map (·.n)).getD 0
    let last := (ls.getLast?.map (·.n)).getD 0
    let ctx := c.obj 0x2840 2
    let p : Picture := {
      ctx := ctx, run := c.ctx.run, gen := c.ctxGen ctx first, gm := c.motGen first,
      width := c.numCols / c.binning ctx, comps := c.obj 0x2840 3, depth := c.obj 0x2840 4, rate := c.obj 0x2840 6,
      first := first, last := last, lines := ls.length, status := lineUnion ls,
      dc := (ls.head?.map (·.dc)).getD 0, short := c.lastOf last, bytes := c.codestream ls }
    ((c.mapCtx (fun x => { x with
      arch := x.arch.drop ls.length, staged := x.staged ++ [p] })).stagingFill).drainArchive now

def execArchivePicture (t : Nat) (s : State) : Host.Outcome State Fault Refusal :=
  State.run t (fun now c => c.archivePicture now) s

/-- The archive suspended: the link is down, or staging cannot hold one more picture (07 R239). -/
def Core.archiveSuspend (c : Core) : Core :=
  c.when (!c.ctx.suspended && c.flag 0x2840 1 && (!c.cxl.hostUp || !c.stagingFits 1))
    (fun c => (c.mapCtx (fun x => { x with suspended := true, gapFrom := none })).bump 0x2840 8)

def execArchiveSuspend (t : Nat) (s : State) : Host.Outcome State Fault Refusal :=
  State.run t (fun _ c => c.archiveSuspend) s

/-- What a suspension has left out so far, as a GAP. -/
def Core.gapNow (c : Core) : List Picture := match c.ctx.gapFrom with
  | some f => [{ gap := true, ctx := c.obj 0x2840 2, run := c.ctx.run, first := f,
                 width := c.numCols / c.binning (c.obj 0x2840 2), comps := c.obj 0x2840 3, depth := c.obj 0x2840 4,
                 rate := c.obj 0x2840 6, status := c.ctx.gapStatus, dc := c.ctx.gapDc, short := c.lastOf c.ctx.gapTo,
                 last := c.ctx.gapTo, lines := c.ctx.gapTo + 1 - f }]
  | none => []

/-- The archive resumes at a picture boundary, a GAP standing for what is missing (07 R239). -/
def Core.archiveResume (now : Nat) (c : Core) : Core :=
  let at_ := match c.ctx.gapFrom with
    | some _ => c.pictureStart (c.ctx.gapTo + 1) || c.lastOf c.ctx.gapTo
    | none => true
  if !c.ctx.suspended || !c.cxl.hostUp || !c.stagingFits 2 || !at_ then c
  else
    (c.mapCtx (fun x => { x with
      suspended := false, gapFrom := none, staged := x.staged ++ c.gapNow })).drainArchive now

def execArchiveResume (t : Nat) (s : State) : Host.Outcome State Fault Refusal :=
  State.run t (fun now c => c.archiveResume now) s

/-- A resolved line at the archive branch. -/
def Core.archLine (l : LineRec) (c : Core) : Core :=
  if !(c.flag 0x2840 1 && c.obj 0x2840 2 == l.ctx) then c
  else if c.ctx.suspended && (c.ctx.gapFrom.isSome || c.pictureStart l.n) then
    c.mapCtx (fun x => { x with
      gapFrom := some (x.gapFrom.getD l.n), gapTo := l.n, gapDc := if x.gapFrom.isSome then x.gapDc else l.dc,
      gapStatus := (if x.gapFrom.isSome then x.gapStatus else 0) ||| l.status })
  else if c.pictureStart l.n && 3 ≤ c.throttle then
    (c.notStarted 4 l.ctx).mapCtx (fun x => { x with archSkip := true })
  else if c.ctx.archSkip && !c.pictureStart l.n then c
  else c.mapCtx (fun x => { x with archSkip := false, arch := x.arch ++ [l] })

/-! ### Array machine vision (07 R240, R243) -/

/-- The samples of one channel packed at a depth (07 R240). -/
def packDepth (d : Nat) : List Nat → List Byte
  | [] => []
  | [a] => if d = 8 then leBytes 1 a else leBytes 2 a
  | a :: b :: l =>
    (if d = 8 then leBytes 1 a ++ leBytes 1 b
     else if d = 12 then leBytes 3 (a + 4096 * b) else leBytes 2 a ++ leBytes 2 b) ++ packDepth d l

/-- One line of a frame (07 R240). -/
def Core.mvLine (c : Core) (ctx : Nat) (l : LineRec) : List Byte :=
  let d := c.obj (mvIdx ctx) 3
  let w := c.mvWindow ctx
  let px := ((binPix (c.binning ctx) l.cols).drop w.1).take w.2
  padTo64 ((chans (c.obj (mvIdx ctx) 2)).flatMap (fun ch => packDepth d (px.map (fun p =>
    if p.blind then 0
    else
      let v := p.codes.getD ch 0
      if d = 16 then v else offsetCode ch v / 2 ^ (16 - d)))))

def Core.mvPitch (c : Core) (ctx : Nat) : Nat :=
  ((chans (c.obj (mvIdx ctx) 2)).length * (c.mvWindow ctx).2 * c.obj (mvIdx ctx) 3 / 8 + 63) / 64 * 64

/-- A frame that ends: its area's writeback, now that its payload is issued, then its descriptor (13 R406, R412). -/
def Core.mvDone (now ctx n : Nat) (f : MvFrame) (c : Core) : Core :=
  let seq := c.ctx.mvSeq.getD ctx 0
  let pitch := c.mvPitch ctx
  let drop := f.off.isNone || f.lines == 0
  let last := c.lastOf n
  let c := (c.mapCtx (fun x => { x with mv := modAt x.mv ctx (fun _ => none) })).when f.off.isSome (Core.writeback now 7)
  let flags := b2n drop + 2 * b2n (f.lost && !drop) + 16 * b2n f.dcFree + 32 * b2n last
  let c := c.issueFdr now (fdrBytes 1 ctx flags seq (c.ctxGen ctx f.first) (c.motGen f.first) f.first
    f.status f.dc (if drop then 0 else f.lines) (c.mvWindow ctx).2 (c.obj (mvIdx ctx) 3)
    (c.obj (mvIdx ctx) 2) (if drop then 0 else f.off.getD 0) (if drop then 0 else f.lines * pitch) pitch 0)
  (c.bump (mvIdx ctx) (if drop then 8 else if f.lost then 9 else 7)).mapCtx (fun x => { x with
    mvSeq := modAt x.mvSeq ctx (fun s => (s + 1) % 2 ^ 32) })

/-- Frames in progress lose the rest of their lines: PMV has been disabled by a reset, or begins anew; a cleared ENABLE
alone lets the frame in progress end (13 R387, R405). -/
def Core.framesCut (c : Core) : Core :=
  c.mapCtx (fun x => { x with mv := x.mv.map (Option.map (fun f => { f with lost := true, unit := 0 })) })

/-- One line into the frame in progress; a line that cannot enter the output FIFO is discarded with the rest of the
frame (07 R243, 12 R378). -/
def Core.mvTake (now ctx : Nat) (c : Core) (l : LineRec) : Core :=
  match c.ctx.mv.getD ctx none with
  | none => c
  | some f =>
    let link := c.hostCarries 1
    let c := link.2.sramUse now (bufferWord 4 ctx l.n)
    let f' := { f with status := f.status ||| l.status, dcFree := f.dcFree || l.status.testBit 4 }
    let ok := f.off.isSome && !f.lost && link.1 && !c.bufferBad 4 ctx l.n
    let c := match f.off, ok with
      | some off, true => c.emit (.hostWrite ((c.ring 7).base + (off + f.lines * c.mvPitch ctx)) (c.mvLine ctx l))
      | _, _ => c
    let f' := if ok then { f' with lines := f'.lines + 1 } else { f' with lost := true }
    let c := c.mapCtx (fun x => { x with mv := modAt x.mv ctx (fun _ => some f') })
    if c.lastOf l.n || f.first + c.obj (mvIdx ctx) 6 ≤ l.n + 1 then c.mvDone now ctx l.n f' else c

/-- Queued lines into the frame in progress until it ends. -/
def Core.mvFeed (now ctx : Nat) : Nat → Core → Core
  | 0, c => c
  | k + 1, c =>
    match c.ctx.mv.getD ctx none, c.ctx.mvQ.getD ctx [] with
    | some _, l :: rest =>
      ((c.mapCtx (fun x => { x with mvQ := modAt x.mvQ ctx (fun _ => rest) })).mvTake now ctx l).mvFeed now ctx k
    | _, _ => c

/-- The first line of the frame that a line belongs to (07 R240). -/
def Core.mvFirst (c : Core) (ctx n : Nat) : Nat :=
  let b := c.streamBase n
  let h := max 1 (c.obj (mvIdx ctx) 6)
  b + (n - b) / h * h

/-- A frame not started: its lines are discarded, and it is counted. -/
def Core.mvDrop (ctx n : Nat) (c : Core) : Core :=
  let k := c.mvFirst ctx n
  (c.mapCtx (fun x => { x with
    mvSkip := modAt x.mvSkip ctx (fun _ => some k),
    mvQ := modAt x.mvQ ctx (fun q => q.dropWhile (fun y => c.mvFirst ctx y.n == k)) })).notStarted 1 ctx

/-- A frame begins at its first line: payload space, or dropped; not started without a descriptor
slot, while throttled, or while PMV's frames may not start (07 R240, 13 R409, 15 R452, R457). -/
def Core.mvStart (now ctx : Nat) (c : Core) : Core :=
  match c.ctx.mv.getD ctx none, c.ctx.mvQ.getD ctx [] with
  | none, l :: rest =>
    let h := c.obj (mvIdx ctx) 6
    if c.throttle ≠ 0 || !c.slotFree 3 false then c.mvDrop ctx l.n
    else
      let r := c.payTake 7 (h * c.mvPitch ctx)
      let f : MvFrame := { first := l.n, unit := (c.ring 7).prod, dc := l.dc, off := r.map (·.1) }
      let c := match r with
        | some (_, c') => c'
        | none => c.when c.sends Core.payloadWait
      (c.mapCtx (fun x => { x with mv := modAt x.mv ctx (fun _ => some f) })).mvFeed now ctx
        (rest.length + 1)
  | _, _ => c

def execMvFrameStart (t : Nat) (n : Fin 2) (s : State) : Host.Outcome State Fault Refusal :=
  State.run t (fun now c => c.mvStart now n.val) s

/-- A resolved line at the machine-vision branch. -/
def Core.mvBranch (now : Nat) (l : LineRec) (c : Core) : Core :=
  if !c.flag (mvIdx l.ctx) 1 || c.ctx.mvSkip.getD l.ctx none == some (c.mvFirst l.ctx l.n) then c
  else if (c.ctx.mv.getD l.ctx none).isSome && (c.ctx.mvQ.getD l.ctx []).isEmpty then c.mvTake now l.ctx l
  else c.mapCtx (fun x => { x with mvQ := modAt x.mvQ l.ctx (fun q => q ++ [l]) })

/-! ### A resolved line at the output branches (06 R203, R210) -/

/-- The line summary mode in force (13 R411). -/
def Core.lsrMode (c : Core) : Nat :=
  if c.flag 0x2850 1 || (c.splitOn && c.flag 0x2851 1) then 0 else c.obj 0x3020 0

/-- The line summary (13 R411, 15 R452). -/
def Core.summaryLine (now : Nat) (l : LineRec) (c : Core) : Core :=
  let m := c.lsrMode
  if m = 2 || (m = 1 && l.status = 0) then c
  else if !c.slotFree 1 false then
    (c.bump 0x3210 9).mapEv (fun v => { v with sumLost := some ((v.sumLost.map (·.1)).getD l.n, l.n) })
  else
    let c := c.lossReports now
    c.issue now 1 (withCrc16 (leBytes 6 l.n ++ leBytes 2 (withBit l.status 7 false) ++ leBytes 4 l.dc ++
      leBytes 1 l.ctx ++ leBytes 1 (c.ctxGen l.ctx l.n)))

/-- The number of a web line's sheet, in the order of the sheets' begin. -/
def Core.sheetIndex (c : Core) (n : Nat) : Nat := match c.sheetOf n with
  | some s => (c.mot.sheets.takeWhile (fun q => q.first != s.first)).length
  | none => 0

/-- The descriptor of a sheet whose last line has passed (13 R412, 15 R452). -/
def Core.sheetDone (now : Nat) (l : LineRec) (c : Core) : Core :=
  match c.sheetOf l.n with
  | none => c
  | some s =>
    if !c.inSheet || l.ctx != 0 || !c.lastOf l.n then c
    else if !c.slotFree 3 false then c.notStarted 5 0
    else
      let ls := c.pipe.lines.filter (fun x => x.ctx == 0 && s.first ≤ x.n && x.n ≤ l.n)
      c.issueFdr now (fdrBytes 4 0 (16 * b2n ((lineUnion ls).testBit 4) +
        32 * b2n (c.job.lineLast == some l.n)) (c.sheetIndex l.n) (c.ctxGen 0 s.first) (c.motGen s.first) s.first
        (lineUnion ls) s.trigAt (l.n + 1 - s.first) 0 0 0 0 0 0 s.frac)

/-- A resolved line passes the output branches once, in order. A web line flagged through any exposure, in any
context, counts once (05 R157); 2651h.00 is the epoch, or in SHEET the sheet, of the newest line here (06 R213). -/
def Core.outLine (now : Nat) (l : LineRec) (c : Core) : Core :=
  let c := c.when (l.ctx == 0) (fun c =>
    let c := ((c.bump 0x2680 3).put 0x2651 0 (if c.inSheet then c.sheetIndex l.n
      else l.n / c.epochLen)).put 0x2414 3 l.n
    c.when l.conf (Core.raiseTo 0x6100 2 l.n))
  let c := c.when (l.status.testBit 0 && (l.ctx == 0 || !c.pipe.lines.any (fun x =>
    x.n == l.n && x.ctx == 0 && x.status.testBit 0))) (Core.bump 0x2421 4)
  let c := c.summaryLine now l
  let c := c.statLine now l
  let c := c.when (c.flag 0x2830 1 && c.obj 0x2830 2 == l.ctx)
    (Core.mapCtx (fun x => { x with disp := x.disp ++ [l] }))
  ((c.archLine l).mvBranch now l).sheetDone now l

/-! ### Bandwidth (07 R242) -/

def needsFit (l : List Rat) : Bool :=
  decide (l.getD 0 0 ≤ 1 / 2) && decide (l.getD 1 0 ≤ 4) && decide (l.getD 2 0 ≤ 19)

def Core.putNeeds (timed : Bool) (c : Core) : Core :=
  let l := c.needs timed
  [0, 1, 2].foldl (fun c i => c.put 0x2860 (i + 1) (toF32 (l.getD i 0))) c

/-- The objects at whose writes the needs are checked (07 R242). -/
def outputChecked (idx sub : Nat) : Bool :=
  ((idx = 0x2810 || idx = 0x2811) && (sub = 2 || sub = 0x0C)) ||
    idx = 0x2830 || idx = 0x2840 || idx = 0x2850 || idx = 0x2851

/-- A machine-vision window reaches outside the enabled run (07 R240). -/
def Core.mvOutside (c : Core) (ctx : Nat) : Bool :=
  let first := c.obj (mvIdx ctx) 4 * c.binning ctx
  c.obj (mvIdx ctx) 5 != 0 &&
    (decide (first < c.firstCol) ||
     decide (c.firstCol + c.numCols < first + c.obj (mvIdx ctx) 5 * c.binning ctx))

def Core.mvWindowsFit (c : Core) : Bool := !c.mvOutside 0 && !c.mvOutside 1

/-- Reasons of the output objects to refuse a value, once it would stand (07 R224, R240, R242, 06
R199, 03 R104). `c` holds the value already. At a write in STANDBY with 2460h.01 = 1 the line rate of the needs is
that of WEB: the manual gives R_L by mode and no mode has been asked for (log entry 142). -/
def Core.outputCodes (c : Core) (idx sub : Nat) : List Nat :=
  let p := idx - 0x2810
  let auxBad := (idx = 0x2810 || idx = 0x2811) && 2 ≤ sub && sub ≤ 4 &&
    decide (32 * 2 ^ 20 < c.obj (auxIdx p) 3 * c.obj (auxIdx p) 4 * pixBytes (c.obj (auxIdx p) 2))
  let mv := idx = 0x2850 || idx = 0x2851
  reason (mv && sub = 2 && c.obj idx 2 == 0) 0x06090030 ++
  reason (auxBad || (mv && (sub = 4 || sub = 5) && c.mvOutside (idx - 0x2850))) 0x08000031 ++
  reason (outputChecked idx sub && !needsFit (c.needs c.timedJob)) 0x08000026

/-! ### Job start (07 R229, R236, R228, R239) -/

/-- What the last job's streams have not sent yet goes out: its blocks, tile rows, pictures and frames; what a
suspension left out of it stands as a GAP, so that none spans two jobs. -/
def Core.streamsEnd (now : Nat) (c : Core) : Core :=
  let c := c.ctx.due.foldl (fun c d => c.arrayBlock now d.1) c
  let c := (List.range c.ctx.disp.length).foldl (fun c _ => c.displayRow now) c
  let c := (List.range c.ctx.arch.length).foldl (fun c _ => c.archivePicture now) c
  let c := [0, 1].foldl (fun c x =>
    (List.range (c.ctx.mvQ.getD x []).length).foldl (fun c _ => c.mvStart now x) c) c
  (c.mapCtx (fun x => { x with gapFrom := none, staged := x.staged ++ c.gapNow })).drainArchive now

def Core.ctxJobStart (c : Core) : Core :=
  let c := c.mapCtx (fun x => { x.renumber with
    acc := [{}, {}], due := [], blkSeq := [0, 0, 0, 0], lastBand := [none, none], disp := [],
    tileSeq := [0, 0], mv := [none, none], mvQ := [[], []], mvSeq := [0, 0, 0, 0], mvSkip := [none, none], arch := [],
    archSkip := false, picSeq := [0, 0] })
  let c := c.unputs 0x2810 [8, 9, 10, 11]
  let c := c.unputs 0x2811 [8, 9, 10, 11]
  ((c.unputs 0x2830 [4, 5]).unputs 0x2840 [7, 8]).unputs 0x2850 [7, 8, 9] |>.unputs 0x2851 [7, 8, 9]

end Sys2Proof.Machine
end

