-- ==== Sys2Proof/Machine/Pipeline.lean ====
section
/-!
DEFINITION. From rows to web lines (04 R106 to R117, 06): row conversion, row packets and the tag
check, the correction of raw codes, groups and their values, alignment, remap, colour, and the
completion and resolution of web lines.
-/

namespace Sys2Proof.Machine

/-- The binary32 rounding of a number (06 R177). -/
def r32 (q : Rat) : Rat := roundF32 q

/-- What stands for −∞: the value next beyond the largest negative binary16 number (log entry 131). -/
def negInf : Rat := -65536

/-- A binary16 value; none is +∞, and a negative overflow is −∞ (06 R177). -/
def val16 (code : Nat) : Option Rat :=
  if code % 2 ^ 15 < 0x7C00 then some (ofF16 code) else if 2 ^ 15 ≤ code then some negInf else none

/-- A term with −∞ makes a sum −∞, or +∞ under a negative weight. -/
def infSum (l : List (Rat × Rat)) : Option (Option Rat) :=
  if l.any (fun p => p.2 ≤ negInf && p.1 < 0) then some none
  else if l.any (fun p => p.2 ≤ negInf && 0 < p.1) then some (some negInf)
  else none

/-- A number rounded to binary16. -/
def r16 (q : Rat) : Option Rat := val16 (toF16 q)

/-! ### Row conversion (04 R106 to R108, R114, R116) -/

/-- The raw code of a column (04 R107, R108). -/
def rawCode (n : Nat) (s : ColSample) : Nat :=
  if s.flipped then min (s.cs - s.cr) (2 ^ n - 1) else 2 ^ n - 1

/-- The coordinate of a stripe row in an exposure (05 R136, R150). -/
def Core.rowCoord (c : Core) (x : Expo) (s row : Nat) : Rat :=
  x.target + c.rowOffset (stripeRow s + row)

/-- Gain, bandwidth and window start of a stripe as one number, never 0. -/
def setCode (g : Gen) (s : Nat) : Nat := g.gain s + 16 * g.obj 0x2304 (s + 1) + 64 * g.window s

/-- A bank follows the settings of the stripe it converts: two SETTLE rows after a change of gain or
bandwidth, one after a change of window start (03 R94, 04 R116). -/
def settleAfter (g : Gen) (s : Nat) (w : ConvWalk) : ConvWalk :=
  let old := w.lastSet.getD s 0
  let new := setCode g s
  let k := if old = 0 || old = new then w.settleRows.getD s 0
    else if old % 64 = new % 64 then max 1 (w.settleRows.getD s 0) else 2
  { w with lastSet := modAt w.lastSet s (fun _ => new), settleRows := modAt w.settleRows s (fun _ => k) }

/-- A row converted from `start` to `now` on segment `seg` met a held counting clock, or its
reference buffer stands outside its window at the conversion's end (04 R114, R121; DESIGN CHOICE, log entry 178). -/
def Core.clockBad (c : Core) (seg q start : Nat) : Bool :=
  let h := c.clk.segs.getD seg {}
  h.held || (match h.lastEnd with | some e => decide (start ≤ e) | none => false) ||
    !((c.refBuf q).settled && (c.refBuf q).inWindow)

/-- Rows of one bank go to ping and pong in turn, and each is a ramp cycle of the walk (04 R106,
R123). -/
def Core.rowSlot (now q : Nat) (c : Core) : Core :=
  (c.mapWalk q (fun w => { w with pong := !w.pong })).walkCycle now q

/-- Rows of a pending exposure stand in the pending store (06 R197). -/
def Core.inStore (c : Core) (x : Expo) : Bool :=
  x.state == .pending && (c.pipe.rows.any (fun r => r.m == x.m && r.b == x.b) ||
    c.pipe.inFlight.any (fun p => p.isOf x))

/-- An exposure fails because it is overdue: it counts as failed and as overdue (05 R155, 06 R197). -/
def Core.failOverdue (x : Expo) (c : Core) : Core :=
  let c := (c.settleExpo x.m x.b .failed).mapExpo x.m x.b (fun x => { x with overdue := true })
  ((c.mapPipe (fun p => { p with rows := p.rows.map (fun r =>
    if r.m == x.m && r.b == x.b then { r with overdue := true } else r) })).bump 0x2620 3).bump 0x2421 2

/-- While rows of more than D web-line periods are pending, the oldest pending exposure fails (06 R197). -/
def Core.overdueGo : Nat → Core → Core
  | 0, c => c
  | f + 1, c =>
    match c.mot.expos.filter c.inStore with
    | x :: l =>
      if ((((x :: l).map (·.m)).dedup.length : Nat) : Int) ≤ c.pendingDepth then c
      else (c.failOverdue x).overdueGo f
    | [] => c

def Core.overdueStep (c : Core) : Core := c.overdueGo (c.mot.expos.filter c.inStore).length

/-- The row packet of a converted row (05 R150, 14 R425). -/
def Core.packet (c : Core) (now seg : Nat) (south : Bool) (kind : RowKind) (raw : List Nat)
    (flags : RowFlags) (coord : Rat) (centre hold : Nat) : RowPkt :=
  let q := 2 * seg + b2n south
  let w := c.walk q
  { seg := seg, south := south, kind := kind, coord := coord.floor,
    frac := ((coord - (coord.floor : Rat)) * 256).floor.toNat, centre := centre, hold := hold,
    flags := flags, phys := if w.serving && w.cur < 64 then some w.cur else none, pong := w.pong,
    due := now + 2000, raw := raw }

def Core.send (p : RowPkt) (c : Core) : Core :=
  c.mapPipe (fun x => { x with inFlight := x.inFlight ++ [p] })

/-- The name of a bank's row slot in `ConvWalk.lastRow`, never 0. -/
def slotKey (m : Nat) (b : Bool) (s row : Nat) : Nat := ((m * 2 + b2n b) * 8 + s) * 64 + row + 1

/-- A conversion that starts at `start` falls within the hold of charge transferred at `tx` (03 R84). -/
def inHold (tx start : Nat) : Bool := decide (tx ≤ start) && decide (start ≤ tx + holdMax)

/-- The row slot that the bank owes: after SN1 of a row, SN2 of that row, while its charge is within its hold (03
R85). -/
def Core.owedSlot (c : Core) (seg : Nat) (south : Bool) (start : Nat) : Option Nat :=
  let k := (c.walk (2 * seg + b2n south)).lastRow
  let j := k - 1
  if !c.dual || k = 0 || j / 512 % 2 = 1 then none
  else match (c.findExpo (j / 1024) true).bind (fun y => y.xfers.getD (j / 64 % 8) none) with
    | some ty => if inHold ty start then some (k + 512) else none
    | none => none

/-- The bank's turn in dual operation: the row that is owed, or SN1 of a row whose SN2 can follow in the next slot, or
a row whose other node has no exposure (03 R85). -/
def Core.dualTurn (c : Core) (seg : Nat) (south : Bool) (m : Nat) (b : Bool) (s row start : Nat) : Bool :=
  !c.dual || match c.owedSlot seg south start with
    | some k => k == slotKey m b s row
    | none => match c.findExpo m (!b) with
      | none => true
      | some y => !b && (match y.xfers.getD s none with
        | some ty => inHold ty start
        | none => false)

/-- The exposure of an active row that its bank can convert from `start` on: a window row, transferred and within
its hold, not converted before; in dual operation SN1 first and SN2 of the same row in the next slot (03 R84,
R85). A job's first eight black rows come before any of them (03 R96). -/
def Core.activeDue (c : Core) (seg : Nat) (south : Bool) (m : Nat) (b : Bool) (s row start : Nat) :
    Option (Expo × Nat) :=
  match c.findExpo m b with
  | none => none
  | some x =>
    match x.xfers.getD s none with
    | none => none
    | some tx =>
      let w := c.walk (2 * seg + b2n south)
      if (c.windowRows x s).contains row && stripeBank s == b2n south && inHold tx start &&
          !x.conv.contains (convKey seg s row) && w.darkFirst && c.dualTurn seg south m b s row start then some (x, tx)
      else none

/-- The tag coordinate of a web coordinate: in a timed burst it counts from its sheet's line 0 (05 R171). -/
def Core.tagCoord (c : Core) (x : Expo) (u : Rat) : Rat :=
  if !c.timedJob then u
  else match (c.mot.sheets.filter (fun k => decide (k.coord ≤ x.entry))).getLast? with
    | some k => u - (k.coord : Rat)
    | none => u

/-- The row of an exposure images a web line of a generation before the one whose exposure time it has (05 R149). -/
def Core.mixedExpo (c : Core) (x : Expo) (s row : Nat) : Bool :=
  match c.lineOf (c.rowCoord x s row).floor with
  | none => false
  | some n => (c.sensorGen x.target s).expo x.b s != (c.genAt n).expo x.b s

/-- The converter's SETTLE rows of a stripe in a bank, as the stripe's settings now stand (04 R116). -/
def Core.settleLeft (c : Core) (q : Nat) (x : Expo) (s : Nat) : Nat :=
  (settleAfter (c.sensorGen x.target s) s (c.walk q)).settleRows.getD s 0

/-- A row is flagged SETTLE (04 R116, 03 R94, 05 R149). -/
def Core.rowSettles (c : Core) (q : Nat) (x : Expo) (s row : Nat) : Bool :=
  decide (0 < c.settleLeft q x s) || c.mixedExpo x s row

/-- The row-timing set of a stripe follows the band of the generation it images; a change restarts a step of the
bank's walk (04 R115, R125). -/
def Core.timingFollow (q s band : Nat) (c : Core) : Core :=
  if (c.walk q).timing.getD s 0 = band then c
  else (c.mapWalk q (fun w => { w with timing := modAt w.timing s (fun _ => band) })).walkRestart q

/-- A row of an exposure marked as converted on a segment. -/
def Core.markConv (seg s row : Nat) (x : Expo) (c : Core) : Core :=
  (c.mapExpo x.m x.b (fun x => { x with conv := x.conv ++ [convKey seg s row] })).mapWalk
    (2 * seg + b2n (decide (3 ≤ s))) (fun w => { w with lastRow := slotKey x.m x.b s row })

/-- An active row converted (04 R107, 05 R150, R160, R171). -/
def Core.convertActive (now seg : Nat) (south : Bool) (x : Expo) (tx s row start : Nat) (raw : List Nat)
    (c : Core) : Core :=
  let q := 2 * seg + b2n south
  let g := c.sensorGen x.target s
  let u := c.rowCoord x s row
  let tag := c.tagCoord x u
  let settle := c.rowSettles q x s row
  let bad := c.clockBad seg q start
  let c := (c.timingFollow q s g.band).mapWalk q (settleAfter g s)
  let fl : RowFlags := {
    provisional := x.state == .pending && !c.timedJob, coasted := x.coasted, preJob := decide (tag < 0),
    outside := c.inSheet && (c.lineOf u.floor).isNone, settle := settle, clockBad := bad, dcFree := c.dcFree }
  let p := c.packet now seg south (if h : s < 6 then .active x.m x.b ⟨s, h⟩ row else .active x.m x.b 0 row)
    raw fl tag (c.stamp x.centre % 2 ^ 32) (start - tx)
  let c := ((c.send p).markConv seg s row x).mapWalk q (fun w => { w with
    settleRows := modAt w.settleRows s (fun k => k - 1) })
  let c := (c.when settle (Core.bump 0x2350 1)).when bad (Core.bump 0x2350 3)
  let c := c.when c.timedJob (Core.settleExpo x.m x.b .passed)
  c.overdueStep

/-- The clear stripe beside the black rows has been transferred, and its hold is not over (03 R95). -/
def Core.blackHeld (c : Core) (south : Bool) (start : Nat) : Bool :=
  c.mot.expos.any (fun x => match x.xfers.getD (clearOf south) none with
    | some tx => inHold tx start
    | none => false)

/-- A conversion that starts at `start` falls in the free row slot that its bank was given for `who`, 1 the velocimeter
or 2 black rows, and not yet used on its segment (03 R97, 05 R166). -/
def Core.inSlot (c : Core) (seg : Nat) (south : Bool) (who start : Nat) : Bool :=
  let a := c.mot.slotFrom.getD (b2n south) 0
  c.mot.slotFor.getD (b2n south) 0 == who && !(c.walk (2 * seg + b2n south)).slotUsed &&
    decide (a ≤ start) && decide (start < a + rowPeriod c.depth)

/-- Black row `j` is the one its bank converts now: the next in order, among the first eight of the job or in a
free slot given to black rows (03 R95 to R97). -/
def Core.blackDue (c : Core) (seg : Nat) (south : Bool) (j start : Nat) : Bool :=
  let w := c.walk (2 * seg + b2n south)
  w.blackNext == j && c.blackHeld south start && (!w.darkFirst || c.inSlot seg south 2 start)

/-- The storage node of a clear stripe still holds exposure `m` at `start` (05 R166). -/
def Core.veloHeld (c : Core) (south : Bool) (m start : Nat) : Bool :=
  match c.findExpo m false with
  | none => false
  | some x =>
    let s := clearOf south
    match x.xfers.getD s none with
    | none => false
    | some tx => inHold tx start && c.mot.expos.all (fun y => y.sn2 != x.sn2 || (match y.xfers.getD s none with
        | some ty => decide (ty ≤ tx)
        | none => true))

/-- A velocimetry row converts in the free slot given to the velocimeter for it (05 R166). -/
def Core.veloDue (c : Core) (seg : Nat) (south : Bool) (m : Nat) (row47 : Bool) (start : Nat) : Bool :=
  c.flag 0x2440 1 && (c.walk (2 * seg + b2n south)).darkFirst && c.inSlot seg south 1 start &&
    c.mot.slotRow.getD (b2n south) (0, false) == (m, row47) && c.veloHeld south m start

/-- The row that a sample needs next: row 47 or 0, and the exposure (05 R166). -/
def Core.sampRow (c : Core) (v : VeloSamp) : Nat × Bool :=
  if v.got = 0 then (v.m, !c.reversed) else ((v.m + v.j0 + v.got - 2) % 2 ^ 32, c.reversed)

/-- The row that a sample needs next has been transferred, and its charge is gone: the sample cannot complete. -/
def Core.sampLost (c : Core) (now : Nat) (v : VeloSamp) : Bool :=
  let m := (c.sampRow v).1
  ((c.findExpo m false).bind (fun x => x.xfers.getD (clearOf v.south) none)).isSome && !c.veloHeld v.south m now

/-- What the velocimeter does with a free slot of a bank: the row it converts, and the samples then under way. A sample
under way whose next row stands in its node comes first; else a sample starts with the upstream row of the latest
exposure in its node, where `fits` says that the slots it will receive convert its rows in time; else the
velocimeter cannot use the slot (05 R166). -/
def Core.veloUse (c : Core) (now : Nat) (south fits : Bool) : Option ((Nat × Bool) × List VeloSamp) :=
  let l := c.mot.veloSamps.filter (fun v => v.south != south || !c.sampLost now v)
  match l.find? (fun v => v.south == south && c.veloHeld south (c.sampRow v).1 now) with
  | some v =>
    let next := { v with got := v.got + 1 }
    some (c.sampRow v, if v.got = 3 then l.erase v else l.map (fun x => if x = v then next else x))
  | none =>
    match (if fits then c.mot.expos.reverse.find? (fun x => !x.b && c.veloHeld south x.m now &&
        !c.mot.veloSamps.any (fun v => v.south == south && v.m == x.m)) else none) with
    | some x =>
      let v : VeloSamp := { south := south, m := x.m, j0 := (ratEven (47 * c.rowRatio)).toNat, got := 1 }
      some ((x.m, !c.reversed), l ++ [v])
    | none => none

/-- A black or velocimetry row goes out without a tag, but with CLOCK_INVALID where its converter's clock or
reference failed (04 R114, R121, 14 R425). -/
def Core.convertFree (now seg : Nat) (south : Bool) (kind : RowKind) (start : Nat) (raw : List Nat) (c : Core) :
    Core :=
  let q := 2 * seg + b2n south
  let bad := c.clockBad seg q start
  let c := c.send (c.packet now seg south kind raw { clockBad := bad, dcFree := c.dcFree } 0 0 0)
  (c.when bad (Core.bump 0x2350 3)).mapWalk q (fun w => { w with slotUsed := true, lastRow := 0 })

/-- The next black row of a bank, in order; the eighth ends the job's first dark reference (03 R96, R97). -/
def blackTurn (w : ConvWalk) : ConvWalk :=
  { w with blackNext := (w.blackNext + 1) % 8, darkFirst := w.darkFirst || w.blackNext == 7 }

/-- The factor by which a row is binned in charge (03 R102). -/
def Core.rowBin (c : Core) (south : Bool) : RowKind → Nat
  | .active _ _ s _ => c.chargeBin s.val
  | .black _ => 1
  | .velo _ _ => c.chargeBin (clearOf south)

/-- A row that its bank converts in this slot (04 R106, R107, R108): in a job the one its schedule has, else any; rows of
CALIBRATE and of SERVICE's converter diagnostics go out without a tag (03 R95, 10 R315, R316). -/
def Core.convertKind (now seg : Nat) (south : Bool) (kind : RowKind) (start : Nat) (raw : List Nat)
    (c : Core) : Option Core :=
  if c.mode == .calibrate || c.mode == .service then some (c.convertFree now seg south kind start raw)
  else if !c.job.running then some c
  else match kind with
  | .active m b s row =>
    (c.activeDue seg south m b s.val row start).map (fun x =>
      c.convertActive now seg south x.1 x.2 s.val row start raw)
  | .black j =>
    if !c.blackDue seg south j.val start then none
    else some ((c.convertFree now seg south kind start raw).mapWalk (2 * seg + b2n south) blackTurn)
  | .velo m row47 =>
    if c.veloDue seg south m row47 start then some (c.convertFree now seg south kind start raw) else none

/-- The samples of a row that converters take part in, and have not flipped by the end of the reset ramp: the
others of a bin are idle (03 R102, 04 R108). -/
def fullCols (f : Nat) (cols : List ColSample) : Nat :=
  (cols.zipIdx.filter (fun p => p.2 % f == 0 && !p.1.flipped)).length

/-- Periods of the nominal counting clock that one count of a segment takes (10 R316). -/
def Core.countPeriods (c : Core) (seg : Nat) : Nat := 1 + b2n ((c.obj 0x2D02 4).testBit seg)

/-- The conversion time of a row on a segment, ns (04 R110, 10 R316). -/
def Core.convTime (c : Core) (seg : Nat) : Nat := convNs c.depth * c.countPeriods seg

/-- A row slot converts a row, from `start` on for the conversion time (04 R106, R107, R110). -/
def Core.convertRow (now seg : Nat) (south : Bool) (kind : RowKind) (start : Nat)
    (cols : List ColSample) (c : Core) : Core :=
  if !c.segOn seg || !(c.mode == .calibrate || c.inspecting || c.mode == .service) ||
      decide (now < start + c.convTime seg) then c
  else
    let full := fullCols (c.rowBin south kind) cols
    match (c.markCoasted now).convertKind now seg south kind start (cols.map (rawCode c.depth)) with
    | none => c
    | some c => (c.bumpBy 0x2350 2 full).rowSlot now (2 * seg + b2n south)

/-- A free row slot (03 R97): in its bank no row waits for its conversion, and none becomes due before the slot
ends. -/
def Core.slotFree3 (c : Core) (now : Nat) (south : Bool) : Bool :=
  c.mot.expos.all (fun x => (if south then [3, 4, 5] else [0, 1, 2]).all (fun s =>
    match x.xfers.getD s none with
    | some tx => !(inHold tx now && c.chargeWaits s x)
    | none =>
      let a := x.xferAt.getD s 0
      decide (a < now) || decide (now + rowPeriod c.depth ≤ a)))

/-- A free row slot is offered to the velocimeter and to black rows in turn; a party that cannot use it leaves it
to the other, and with velocimetry off every one goes to black rows (05 R166). Black rows can use it while the clear
stripe beside them holds charge (03 R95). Whether the slots to come suffice for a new sample is the scheduler's
forecast, `fits` (log entry 39). -/
def Core.freeSlot (now : Nat) (south fits : Bool) (c : Core) : Core :=
  let i := b2n south
  if !c.job.running || !c.slotFree3 now south then c
  else
    let black := c.blackHeld south now
    let use := if c.flag 0x2440 1 && (c.mot.veloTurn.getD i true || !black) then c.veloUse now south fits else none
    let took := if use.isSome then 1 else if black then 2 else 0
    let c := c.mapMot (fun m => { m with
      veloTurn := modAt m.veloTurn i (fun v => !v), slotFor := modAt m.slotFor i (fun _ => took),
      slotFrom := modAt m.slotFrom i (fun _ => now),
      slotRow := modAt m.slotRow i (fun r => (use.map (·.1)).getD r),
      veloSamps := (use.map (·.2)).getD m.veloSamps })
    (List.range 8).foldl (fun c s => c.mapWalk (2 * s + i) (fun w => { w with slotUsed := false })) c

def execFreeRowSlot (t : Nat) (south fits : Bool) (s : State) : Host.Outcome State Fault Refusal :=
  State.run t (fun now c => c.freeSlot now south fits) s

/-! ### Column correction (06 R185 to R188) -/

/-- The converter's table entry of a pixel (04 R122, R132). -/
def Core.entryFor (c : Core) (p : RowPkt) (i : Nat) : Int × Nat :=
  let n := i / 64
  c.correction (2 * p.seg + b2n p.south) (if p.phys = some n then 64 else n) (i % 64) (b2n p.pong)

/-- The signed dark-table entry of a stripe and column in a band (06 R186). -/
def Core.darkEntry (c : Core) (band s col : Nat) : Int :=
  toSigned 8 (c.domByte (0x5110 + band) (s * 32768 + col)).toNat

/-- The dark term of a column in codes at 12-bit scale (06 R186). -/
def Core.darkTerm (c : Core) (g : Gen) (b : Bool) (s col hold : Nat) : Rat :=
  if g.obj 0x2611 0 = 0 then 0
  else (c.darkEntry g.band s col : Rat) / 1024 * (g.gain s : Rat) *
    (((4 * g.expo b s : Nat) : Rat) / 1000000 + 5 / 2 * (hold : Rat) / 1000000)

/-- The saturation threshold of raw codes (06 R187). -/
def satCode (n : Nat) : Nat := 2 ^ n - 2 ^ (n - 6)

/-- y of one column in 1/64 code, with its saturation mark (06 R187). -/
def Core.yOf (c : Core) (g : Gen) (p : RowPkt) (b : Bool) (s i : Nat) : Int × Bool :=
  let x := p.raw.getD i 0
  let e := c.entryFor p i
  let lvl := toSigned 32 (g.obj 0x2610 (2 * p.seg + b2n p.south + 1))
  let y : Rat := ((x * 2 ^ (12 - c.depth) : Nat) : Rat) - (e.1 : Rat) / 64 - (lvl : Rat) / 64 -
    c.darkTerm g b s (4096 * p.seg + i) p.hold
  (clampInt (-524288) 524287 (ratEven (y * (e.2 : Rat) / 32768 * 64)), satCode c.depth ≤ x)

/-- The columns of a row packet whose correction entry stands in a poisoned word (12 R378). -/
def Core.entriesBad (c : Core) (p : RowPkt) (s : Nat) : List Nat :=
  let f := c.chargeBin s
  (List.range 4096).filter (fun i =>
    let k := i - i % f
    c.tableBad (0x5300 + (2 * p.seg + b2n p.south))
      ((((if p.phys = some (k / 64) then 64 else k / 64) * 64 + k % 64) * 2 + b2n p.pong) * 4))

/-- A word of a correction table is one that a row packet's columns are corrected with (06 R187). -/
def Core.entryUse (c : Core) (p : RowPkt) (s a : Nat) : Bool :=
  match c.tableAt (0x5300 + (2 * p.seg + b2n p.south)) with
  | some b =>
    let n := (a - b) / 512
    inSpan b 33280 a && (a - b) / 8 % 64 % c.chargeBin s == 0 && (if n = 64 then p.phys.isSome else p.phys != some n)
  | none => false

/-- The corrected codes of a row packet; a bin's code stands for each of its columns (06 R188). -/
def Core.ysOf (c : Core) (g : Gen) (p : RowPkt) (b : Bool) (s : Nat) : List (Int × Bool) :=
  let f := c.chargeBin s
  (List.range 4096).map (fun i => c.yOf g p b s (i - i % f))

/-- A black row of a bank, in 1/64 code summed over its columns (06 R185). -/
def Core.blackRow (c : Core) (p : RowPkt) : Int :=
  sumInt ((List.range 4096).map (fun i =>
    ((p.raw.getD i 0 * 2 ^ (12 - c.depth) * 64 : Nat) : Int) - (c.entryFor p i).1))

/-- A dark level in force at once: the first of a job in each bank, and one of CALIBRATE (03 R95, R96, 06 R185;
log entry 132). -/
def Core.darkLevelNow (q : Nat) (lvl : Int) (c : Core) : Core :=
  (c.put 0x2610 (q + 1) (ofSigned 32 lvl)).mapPipe (fun x => { x with
    darkHad := x.darkHad ++ [q]
    gens := match x.gens with
      | [g] => [{ g with params := sput dfltOf g.params (key 0x2610 (q + 1)) (ofSigned 32 lvl) }]
      | l => l })

/-- A black row joins its bank's dark set; the eighth completes it (03 R96, R97, 06 R185). The sets of the first
enabled segment are counted for the bank, the set of R96 before the first line among them (DESIGN CHOICE, log entry 173). -/
def Core.blackArrives (p : RowPkt) (c : Core) : Core :=
  let q := 2 * p.seg + b2n p.south
  let old := (c.pipe.blackSum.find? (fun b => b.1 == q)).getD (q, 0, 0)
  let n := old.2.1 + 1
  let s := old.2.2 + c.blackRow p
  let rest := c.pipe.blackSum.filter (fun b => b.1 != q)
  if n < 8 then c.mapPipe (fun x => { x with blackSum := rest ++ [(q, n, s)] })
  else
    let lvl := ratEven ((s : Rat) / 32768)
    let c := c.mapPipe (fun x => { x with blackSum := rest })
    if !c.job.running then c.darkLevelNow q lvl
    else
      let lead := p.seg == c.segsOn.headD 0
      let c := c.when lead (fun c => (c.mapPipe (fun x => { x with
        darkSets := modAt x.darkSets (b2n p.south) (fun _ => true) })).bump 0x2240 (1 + b2n p.south))
      if c.pipe.darkHad.contains q then c.mapPipe (fun x => { x with
        darkPend := x.darkPend.filter (fun d => d.1 != q) ++ [(q, lvl)] })
      else c.darkLevelNow q lvl

/-! ### Row tag check (06 R184, 14 R426) -/

/-- The schedule of a bank: the rows of every exposure in order, its stripes in ascending order (log entry 133); in
dual operation both storage nodes of a row in turn (03 R85, 06 R184). -/
def Core.schedule (c : Core) (south : Bool) : List (Expo × Nat × Nat) :=
  let l := c.mot.expos
  let lead := fun (x : Expo) => !c.dual || !x.b || !l.any (fun y => y.m == x.m && !y.b)
  (l.filter lead).flatMap (fun x => (if south then [3, 4, 5] else [0, 1, 2]).flatMap (fun s =>
    (c.windowRows x s).flatMap (fun r =>
      (if c.dual then l.filter (fun y => y.m == x.m) else [x]).map (fun y => (y, s, r)))))

/-- Sensor-side settings of another generation: the row counts as SETTLE (06 R181). -/
def Core.otherGen (c : Core) (x : Expo) (s line : Nat) : Bool :=
  (c.sensorGen x.target s).sensor x.b s != (c.genAt line).sensor x.b s

/-- A row discarded by the tag check, counted once for the array; the release of its exposure counts it too
(05 R160, 06 R184). -/
def Core.discardRow (p : RowPkt) (x : Expo) (c : Core) : Core :=
  if p.seg != c.segsOn.headD 0 then c
  else
    let c := c.bump 0x2680 1
    match (c.findExpo x.m x.b).map (·.state) with
    | some RowState.released => c.bump 0x2421 3
    | some RowState.pending => c.mapExpo x.m x.b (fun x => { x with dropped := x.dropped + 1 })
    | _ => c

/-- A row of the tag check joins its group; BLIND where `p` has no data (06 R184, R193). -/
def Core.joinRow (p : RowPkt) (x : Expo) (s row : Nat) (blind : Bool) (c : Core) : Core :=
  let u := c.rowCoord x s row
  match (if c.tagCoord x u < 0 then none else c.lineOf u.floor) with
  | none => c.discardRow p x
  | some line =>
    let split := !blind && c.otherGen x s line
    let c := c.when (!blind && (p.flags.settle || p.flags.clockBad || split)) (Core.bump 0x2620 6)
    let y := (c.findExpo x.m x.b).getD x
    let st := y.state
    let c := c.when (st == .released && p.seg == c.segsOn.headD 0) (Core.bump 0x2421 3)
    let r : RowRec := {
      line := line, frac := ((u - (u.floor : Rat)) * 256).floor.toNat, m := x.m, b := x.b, stripe := s,
      row := row, seg := p.seg, state := st, flags := { p.flags with coasted := p.flags.coasted || y.coasted }, blind := blind, split := split,
      overdue := x.overdue, centre := x.centre,
      ys := if blind then [] else c.ysOf (c.genAt line) p x.b s,
      bad := if blind then [] else c.entriesBad p s }
    c.mapPipe (fun k => { k with rows := k.rows ++ [r] })

/-- A BLIND row in the place of a scheduled one, counted by its link (14 R426). -/
def Core.blindRow (seg : Nat) (x : Expo) (s row : Nat) (c : Core) : Core :=
  c.joinRow { seg := seg, south := 3 ≤ s, kind := .active x.m x.b 0 row, coord := 0, frac := 0, centre := 0, hold := 0,
              flags := { coasted := x.coasted, dcFree := c.dcFree }, phys := none, pong := false, due := 0 }
    x s row true

/-- A lane's case of 06 R184: rows that stand BLIND in their places, counted and logged. -/
def Core.laneFails (now seg : Nat) (south : Bool) (miss : List (Expo × Nat × Nat)) (c : Core) : Core :=
  (miss.foldl (fun c e => c.blindRow seg e.1 e.2.1 e.2.2) (c.bump 0x2680 2)).event
    now 0x5080 seg (leBytes 1 (2 * seg + b2n south))

/-- The place of the row that a lane delivered last. -/
def lanePlace (e : Expo × Nat × Nat) : Nat := slotKey e.1.m e.1.b e.2.1 e.2.2

/-- A row at the tag check of its segment bank's lane. The row expected, or one further on in the schedule, joins
its exposure, and those missing before it stand BLIND. Any other row is skipped: a BLIND row stands in the place
of the expected one, and the lane skips until an expected row comes (06 R184). -/
def Core.tagCheck (now : Nat) (p : RowPkt) (m : Nat) (b : Bool) (s row : Nat) (blind : Bool)
    (c : Core) : Core :=
  let sch := c.schedule p.south
  let me := fun (e : Expo × Nat × Nat) => e.1.m == m && e.1.b == b && e.2.1 == s && e.2.2 == row
  let lane := 2 * p.seg + b2n p.south
  let rest : List (Expo × Nat × Nat) := match alook c.pipe.lastRow lane with
    | none => sch
    | some k => (sch.dropWhile (fun e => lanePlace e != k)).drop 1
  let place := fun (e : Expo × Nat × Nat) (skips : Bool) (c : Core) => c.mapPipe (fun x => { x with
    lastRow := aput x.lastRow lane (lanePlace e)
    skipping := if skips then x.skipping ++ [lane] else x.skipping.filter (· != lane) })
  match rest.find? me with
  | some e =>
    let miss := rest.takeWhile (fun e => !me e)
    let c := if miss.isEmpty then c else c.laneFails now p.seg p.south miss
    let c := if blind then c else c.sramUse now (c.entryUse p s)
    (place e false c).joinRow p e.1 s row blind
  | none =>
    if c.pipe.skipping.contains lane then c
    else match rest with
      | e :: _ => place e true (c.laneFails now p.seg p.south [e])
      | [] => (c.laneFails now p.seg p.south []).mapPipe (fun x => { x with skipping := x.skipping ++ [lane] })

/-- The oldest packet in flight of a segment, taken. -/
def Core.takePacket (seg : Nat) (c : Core) : Option (RowPkt × Core) :=
  match c.pipe.inFlight.find? (fun p => p.seg == seg) with
  | none => none
  | some p => some (p, c.mapPipe (fun x => { x with inFlight := x.inFlight.erase p }))

/-- A packet delivered whole, or lost: an active row then stands BLIND, a black row ends its set, and the sample of
a velocimetry row goes without it (14 R426). A black or velocimetry row with CLOCK_INVALID is used no more than
a lost one (log entry 132). -/
def Core.deliverRow (now : Nat) (p : RowPkt) (lost : Bool) (c : Core) : Core :=
  match p.kind with
  | .active m b s row =>
    let c := c.when lost (Core.bump 0x3106 (p.seg + 1))
    c.when c.job.running (Core.tagCheck now p m b s.val row lost)
  | .black _ =>
    if c.mode == .service then c
    else if lost || p.flags.clockBad then c.mapPipe (fun x => { x with
      blackSum := x.blackSum.filter (fun b => b.1 != 2 * p.seg + b2n p.south) })
    else c.blackArrives p
  | .velo m r47 =>
    if lost || p.flags.clockBad || !c.job.running then c
    else c.mapPipe (fun x => { x with
      velo := x.velo ++ [{ seg := p.seg, south := p.south, m := m, row47 := r47, raw := p.raw }] })

/-- The link carries row packets: up, its data direction awake, block lock on every lane of its map, and not given
up for the job (14 R426, R433). -/
def Core.linkCarries (c : Core) (seg : Nat) : Bool :=
  let l := c.link seg
  l.st == 2 && !l.dataSleep && !l.blindJob && l.map.all (fun x => match x with
    | some i => l.lock.toNat.testBit i
    | none => true)

def Core.packetArrives (now seg : Nat) (crcOk lockOk : Bool) (c : Core) : Core :=
  match c.takePacket seg with
  | none => c
  | some (p, c) =>
    let c := c.when (!crcOk) (Core.bump 0x3107 (seg + 1))
    c.deliverRow now p (!crcOk || !lockOk || !c.linkCarries seg)

def execRowPacketArrival (t : Nat) (seg : Fin 8) (crcOk : Bool) (lockOk : Bool) (s : State) :
    Host.Outcome State Fault Refusal :=
  State.run t (fun now c => c.packetArrives now seg.val crcOk lockOk) s

/-- A packet not arrived 2.0 µs after its conversion (14 R426). -/
def Core.packetTimeout (now seg : Nat) (c : Core) : Core :=
  match c.takePacket seg with
  | none => c
  | some (p, c') => if p.due ≤ now then c'.deliverRow now p true else c

def execRowPacketTimeout (t : Nat) (seg : Fin 8) (s : State) : Host.Outcome State Fault Refusal :=
  State.run t (fun now c => c.packetTimeout now seg.val) s

/-! ### Defective pixels and flat field (06 R189 to R191) -/

/-- The defective columns of a stripe row, of both maps (06 R189). -/
def Core.defects (c : Core) (s row : Nat) : List Nat :=
  [0x5100, 0x5101].flatMap (fun idx => (List.range 256).filterMap (fun i =>
    let v := c.domWord idx (4 * i) 4
    if v.testBit 31 && field v 24 22 == s && field v 21 16 == row then some (v % 32768) else none))

/-- The rows that stand with `r` in one row of the array. -/
def Core.rowMates (c : Core) (r : RowRec) : List RowRec :=
  c.pipe.rows.filter (fun q => q.m == r.m && q.b == r.b && q.stripe == r.stripe && q.row == r.row)

/-- Defective columns of a stripe row whose map entry stands in a poisoned word (12 R378). -/
def Core.defectsBad (c : Core) (s row : Nat) : List Nat :=
  [0x5100, 0x5101].flatMap (fun idx => (List.range 256).filterMap (fun i =>
    let v := c.domWord idx (4 * i) 4
    if c.tableBad idx (4 * i) && v.testBit 31 && field v 24 22 == s && field v 21 16 == row then
      some (v % 32768)
    else none))

/-- y at an absolute column of a joined row; none outside the run or in a BLIND part. -/
def yAt (mates : List RowRec) (col : Nat) : Option (Int × Bool) :=
  match mates.find? (fun q => q.seg == col / 4096) with
  | some q => if q.blind || q.bad.contains (col % 4096) then none else q.ys[col % 4096]?
  | none => none

/-- y after replacement of defective pixels, bins as units (06 R190). -/
def Core.yFixed (c : Core) (g : Gen) (mates : List RowRec) (bad : List Nat) (s col : Nat) :
    Option (Int × Bool) :=
  let f := c.chargeBin s
  let isBad := fun (k : Nat) => (List.range f).any (fun i => bad.contains (k - k % f + i))
  if g.obj 0x2615 0 = 0 || !isBad col then yAt mates col
  else
    let base := col - col % f
    let pick := fun (l : List Nat) => l.findSome? (fun k =>
      if isBad k then none else (yAt mates k).map (fun y => (k, y)))
    let west := pick ([1, 2, 3].filterMap (fun d => if d * f ≤ base then some (base - d * f) else none))
    let east := pick ([1, 2, 3].map (fun d => base + d * f))
    match west, east with
    | some (kl, yl), some (kr, yr) =>
      let w : Rat := ((base - kl : Nat) : Rat) / ((kr - kl : Nat) : Rat)
      some (ratEven ((yl.1 : Rat) + ((yr.1 - yl.1 : Int) : Rat) * w), yl.2 || yr.2)
    | some (_, y), none => some y
    | none, some (_, y) => some y
    | none, none => yAt mates col

/-- The factor that turns y into reflectance (06 R191). -/
def Core.flatFactor (c : Core) (g : Gen) (b : Bool) (s col : Nat) : Rat :=
  let fl : Rat := (c.domWord 0x5200 ((s * 32768 + col) * 2) 2 : Rat) / 16384
  let sc := ofF32 (g.obj (if b && c.splitOn then 0x2718 else 0x2618) (s + 1 + (if b then 6 else 0)))
  let ref : Rat := ((g.obj 0x2619 (7 + s) * g.obj 0x2619 (13 + s) : Nat) : Rat)
  let now : Rat := ((g.expo b s * g.gain s : Nat) : Rat)
  let w := ofF32 (g.obj 0x2619 (1 + s))
  fl * sc * (ref / (now * w))

/-- The reflectance of y; none is +∞. -/
def Core.reflectance (c : Core) (g : Gen) (b : Bool) (s col : Nat) (y : Int × Bool) : Option Rat :=
  if y.2 then none else r16 (r32 ((y.1 : Rat) / 64 * c.flatFactor g b s col))

/-! ### Groups (06 R192 to R194) -/

def RowRec.excluded (r : RowRec) : Bool := r.flags.settle || r.split
def RowRec.valid (r : RowRec) : Bool := !(r.excluded || r.flags.clockBad || r.blind)

/-- The rows of a group, in exposure order. -/
def Core.group (c : Core) (line s : Nat) (b : Bool) (seg : Nat) : List RowRec :=
  c.pipe.rows.filter (fun r => r.line == line && r.stripe == s && r.b == b && r.seg == seg)

/-- The rows a group's value rests on, none where its columns are BLIND; pending rows count as
passed in the provisional value (06 R193, R194). -/
def groupUses (l : List RowRec) : Option (List RowRec) :=
  let v := l.filter RowRec.valid
  let p := v.filter (fun r => r.state != .failed)
  if !p.isEmpty then some p
  else if !v.isEmpty then some v
  else if !l.isEmpty && l.all (fun r => r.excluded && !r.flags.clockBad && !r.blind) then some l
  else none

/-- The mean of binary16 values, summed and scaled in binary32 (06 R193). -/
def meanOf (l : List (Option Rat)) : Option Rat :=
  if l.any Option.isNone then none
  else if l.any (fun v => v.getD 0 ≤ negInf) then some negInf
  else r16 (r32 (l.foldl (fun a v => r32 (a + v.getD 0)) 0 * r32 (1 / (l.length : Rat))))

/-- The slice of a column carries BLIND (04 R128). -/
def Core.sliceBlind (c : Core) (s col : Nat) : Bool :=
  (c.walk (2 * (col / 4096) + stripeBank s)).blind.contains (col % 4096 / 64)

/-- A column's entry of a table in force, or its place in the line buffers, is poisoned (12 R378). -/
def Core.columnBad (c : Core) (line s col : Nat) : Bool :=
  let g := c.genAt line
  c.tableBad 0x5200 ((s * 32768 + col) * 2) ||
  (g.obj 0x2611 0 != 0 && c.tableBad (0x5110 + g.band) (s * 32768 + col)) ||
  c.bufferBad 1 line (s * 8192 + col / 4)

/-- The value of a group at a column: none BLIND, some none +∞ (06 R193, 12 R378). -/
def Core.groupVal (c : Core) (line s : Nat) (b : Bool) (col : Nat) : Option (Option Rat) :=
  if c.sliceBlind s col || c.columnBad line s col then none
  else match groupUses (c.group line s b (col / 4096)) with
  | none => none
  | some l =>
    let g := c.genAt line
    let vs := l.map (fun r =>
      if g.obj 0x2615 0 != 0 && (c.defectsBad s r.row).contains col then none else
      (c.yFixed g (c.rowMates r) (c.defects s r.row) s col).map (c.reflectance g b s col))
    if vs.any Option.isNone then none else some (meanOf (vs.map (fun v => v.getD none)))

/-! ### HDR merge (06 R198) -/

/-- The weight of exposure b at a value of exposure a. -/
def Core.mergeWeight (c : Core) (g : Gen) (s col : Nat) (ra : Option Rat) : Rat :=
  match ra with
  | none => 1
  | some r =>
    let u := match c.reflectance g false s col (4095 * 64, false) with
      | none => 0
      | some full => if full = 0 then 0 else r / full
    let lo : Rat := (g.obj 0x2630 2 : Rat) / 4095
    let hi : Rat := (g.obj 0x2630 3 : Rat) / 4095
    if u ≤ lo then 0 else if hi ≤ u then 1 else (u - lo) / (hi - lo)

/-- The value of a stripe of a line after stage 7, for a context; an exposure of zero weight is left out. -/
def Core.stripeVal (c : Core) (ctx line s col : Nat) : Option (Option Rat) :=
  if !c.dual then c.groupVal line s false col
  else if c.splitOn then c.groupVal line s (ctx == 1) col
  else
    let g := c.genAt line
    match c.groupVal line s false col with
    | none => none
    | some ra =>
      let w := c.mergeWeight g s col ra
      if w = 0 then some ra
      else match c.groupVal line s true col with
        | none => none
        | some rb =>
          if w = 1 then some rb
          else match ra, rb with
            | some x, some y => some ((infSum [(1 - w, x), (w, y)]).getD (r16 (r32 ((1 - w) * x + w * y))))
            | _, _ => some none

/-! ### Stripe alignment (06 R201) -/

/-- The remap entry of a slice: a, b, d, e (06 R204). -/
def Core.remap (c : Core) (s n : Nat) : Rat × Rat × Rat × Rat :=
  let k := 16 * n
  let idx := 0x5210 + s
  ((c.domWord idx k 4 : Rat) / 65536, (toSigned 32 (c.domWord idx (k + 4) 4) : Rat) / 2 ^ 30,
   (toSigned 16 (c.domWord idx (k + 8) 2) : Rat) / 32768,
   (toSigned 16 (c.domWord idx (k + 10) 2) : Rat) / 2 ^ 20)

/-- The along-web offset of a source column (06 R204). -/
def Core.alongWeb (c : Core) (s col : Nat) : Rat :=
  let e := c.remap s (col / 64)
  e.2.2.1 + e.2.2.2 * ((col % 64 : Nat) : Rat)

/-- The velocity term of a timed sheet (06 R201). -/
def Core.veloTerm (c : Core) (line s : Nat) : Rat :=
  match (if c.timedJob then (c.sheetOf line).bind (·.ratio) else none) with
  | none => 0
  | some q =>
    if q = 0 then 0
    else
      let mid : Rat := ((stripeRow s + (c.genAt line).window s : Nat) : Rat) + ((c.tdi : Rat) - 1) / 2
      (if c.reversed then 315 - mid else mid - 8) * c.rowRatio * (1 - 1 / q)

/-- The fraction of a stripe's rows in a line (05 R150). -/
def Core.stripeFrac (c : Core) (line s : Nat) (b : Bool) : Rat :=
  match c.pipe.rows.find? (fun r => r.line == line && r.stripe == s && r.b == b) with
  | some r => (r.frac : Rat) / 256
  | none => c.phase false

/-- t before its clamp (06 R201). -/
def Core.alignT (c : Core) (ctx line s col : Nat) : Rat :=
  c.phase false - c.stripeFrac line s (c.splitOn && ctx == 1) - c.alongWeb s col - c.veloTerm line s

def clampT (t : Rat) : Rat := if t < -1 then -1 else if 1 < t then 1 else t

/-- Line `n + i`, or line n itself beyond the job, the sheet (06 R201). -/
def Core.neighbour (c : Core) (n : Nat) (i : Int) : Nat :=
  let k := (n : Int) + i
  let u := c.unitOf n
  if k < 0 || (c.inSheet && (k < (u.1 : Int) || (u.2 : Int) < k)) ||
    (match c.job.lineLast with | some l => decide ((l : Int) < k) | none => false) then n
  else k.toNat

/-- The weighted terms of a sum; none BLIND, some none +∞. Terms of no weight are left out. -/
def weigh (l : List (Rat × Option (Option Rat))) : Option (Option Rat) :=
  let l := l.filter (fun p => p.1 != 0)
  if l.any (fun p => p.2.isNone) then none
  else if l.any (fun p => p.2 == some none) then some none
  else
    let k := l.map (fun p => (p.1, (p.2.getD none).getD 0))
    some ((infSum k).getD (r16 (r32 (sumRat (k.map (fun p => p.1 * p.2))))))

/-- The aligned value of a stripe at a source column (06 R201); none with its remap entry's offsets
poisoned (12 R378). -/
def Core.aligned (c : Core) (ctx n s col : Nat) : Option (Option Rat) :=
  let t := clampT (c.alignT ctx n s col)
  let i := t.floor
  let a := t - (i : Rat)
  if c.tableBad (0x5210 + s) (16 * (col / 64) + 8) then none else
  weigh [(1 - a, c.stripeVal ctx (c.neighbour n i) s col),
         (a, c.stripeVal ctx (c.neighbour n (i + 1)) s col)]

/-! ### Lateral remap (06 R206) -/

/-- A source column beyond an edge of the run is the edge column. -/
def Core.inRun (c : Core) (k : Int) : Nat :=
  (clampInt (c.firstCol : Int) ((c.firstCol + c.numCols : Nat) - 1 : Int) k).toNat

def Core.remapped (c : Core) (ctx n s col : Nat) : Option (Option Rat) :=
  let e := c.remap s (col / 64)
  let x := e.1 + e.2.1 * ((col % 64 : Nat) : Rat)
  let j := x.floor
  let u := x - (j : Rat)
  let v := fun (d : Int) => c.aligned ctx n s (c.inRun (j + d))
  if c.tableBad (0x5210 + s) (16 * (col / 64)) then none else
  weigh [(-u ^ 3 / 2 + u ^ 2 - u / 2, v (-1)), (3 / 2 * u ^ 3 - 5 / 2 * u ^ 2 + 1, v 0),
         (-3 / 2 * u ^ 3 + 2 * u ^ 2 + u / 2, v 1), (u ^ 3 / 2 - u ^ 2 / 2, v 2)]

/-! ### Colour (06 R207, R208) -/

/-- The cube root of a positive number, to 2^-40, by bisection. -/
def cbrtGo (q : Rat) : Nat → Rat → Rat → Rat
  | 0, lo, _ => lo
  | f + 1, lo, hi =>
    let m := (lo + hi) / 2
    if m * m * m ≤ q then cbrtGo q f m hi else cbrtGo q f lo m

def cbrt (q : Rat) : Rat := cbrtGo q 60 0 (max 1 q)

/-- f of 06 R207. -/
def labF (q : Rat) : Rat :=
  if (216 / 24389 : Rat) < q then cbrt q else q * 841 / 108 + 4 / 29

/-- One of the codes c - 1, c, c + 1 within the channel's range (06 R207). -/
def nearCode (ch : Nat) (lo hi code : Int) (x y z : Rat) : Nat :=
  let e := Config.labError ch (toF32 x) (toF32 y) (toF32 z)
  ofSigned 16 (clampInt lo hi (code + (e.val : Int) - 1))

/-- The colour of a pixel from its six stripes, +∞ as none (06 R207, R208). -/
def pixColour (g : Gen) (ctx : Nat) (v : List (Option Rat)) : Pix :=
  let at_ := fun i => v.getD i none
  let clr := match at_ 0, at_ 5 with
    | some a, some b => some ((a + b) / 2)
    | _, _ => none
  let w := if ctx = 0 then 0x2660 else 0x2760
  let m := fun (i : Nat) => ofF32 (g.obj w (i + 1))
  let uq := fun (r : Option Rat) => match r with
    | none => 0xFFFF
    | some q => (clampInt 0 65535 (ratEven (q * 16384))).toNat
  let lab := match at_ 2, at_ 3, at_ 4, clr with
    | some r, some gg, some b, some k =>
      let x := fun (i : Nat) => m (4 * i) * r + m (4 * i + 1) * gg + m (4 * i + 2) * b + m (4 * i + 3) * k
      let f := fun (i : Nat) => labF (x i / m (12 + i))
      let cl := fun (ch : Nat) (lo hi : Int) (q : Rat) =>
        nearCode ch lo hi (clampInt lo hi (ratEven q)) (x 0) (x 1) (x 2)
      (cl 0 0 65535 ((116 * f 1 - 16) * 512), cl 1 (-32768) 32767 (500 * (f 0 - f 1) * 256),
       cl 2 (-32768) 32767 (200 * (f 1 - f 2) * 256))
    | _, _, _, _ => (0xFFFF, 0, 0)
  let four := fun (r : Option Rat) => r.getD 4
  let gls := if g.obj (if ctx = 0 then 0x2661 else 0x2761) 0 = 1 then
    ofSigned 16 (clampInt (-32768) 32767 (ratEven ((four (at_ 5) - four (at_ 0)) * 16384))) else 0
  { l := lab.1, a := lab.2.1, b := lab.2.2, nir := uq (at_ 1), clr := uq clr, gls := gls }

/-- One output column of a line (06 stages 8 to 10). -/
def Core.pixel (c : Core) (ctx n col : Nat) : Pix :=
  let v := (List.range 6).map (fun s => c.remapped ctx n s col)
  if v.any Option.isNone then { l := 0, a := 0, b := 0, nir := 0, clr := 0, gls := 0, blind := true }
  else pixColour (c.genAt n) ctx (v.map (fun x => x.getD none))

def Core.lineCols (c : Core) (ctx n : Nat) : List Pix :=
  (List.range c.numCols).map (fun i => c.pixel ctx n (c.firstCol + i))

/-! ### Completeness, status and resolution (06 R202, R203) -/

/-- The exposures a context's values rest on. -/
def Core.expoKinds (c : Core) (ctx : Nat) : List Bool :=
  if !c.dual then [false] else if c.splitOn then [ctx == 1] else [false, true]

/-- The source columns of stripe `s` that an output column takes with a weight other than 0 (06 R206). -/
def Core.usedCols (c : Core) (s col : Nat) : List Nat :=
  let e := c.remap s (col / 64)
  let x := e.1 + e.2.1 * ((col % 64 : Nat) : Rat)
  let j := x.floor
  if x = (j : Rat) then [c.inRun j] else [c.inRun (j - 1), c.inRun j, c.inRun (j + 1), c.inRun (j + 2)]

/-- The lines whose values the aligned value of a source column takes (06 R201). -/
def Core.usedLines (c : Core) (ctx n s col : Nat) : List Nat :=
  let t := clampT (c.alignT ctx n s col)
  let i := t.floor
  if t = (i : Rat) then [c.neighbour n i] else [c.neighbour n i, c.neighbour n (i + 1)]

/-- The lines and segments whose groups the values of stripe `s` in a line use. -/
def Core.usedCells (c : Core) (ctx n s : Nat) : List (Nat × Nat) :=
  ((List.range c.numCols).flatMap (fun k => (c.usedCols s (c.firstCol + k)).flatMap (fun col =>
    (c.usedLines ctx n s col).map (fun l => (l, col / 4096))))).dedup

/-- The groups of a line: stripe, line, exposure, segment. -/
def Core.usedGroups (c : Core) (ctx n : Nat) : List (Nat × Nat × Bool × Nat) :=
  (List.range 6).flatMap (fun s => (c.usedCells ctx n s).flatMap (fun l =>
    (c.expoKinds ctx).map (fun b => (s, l.1, b, l.2))))

/-- The row of a stripe that leaves a line last (05 R137). -/
def Core.exitSide (c : Core) (x : Expo) (s : Nat) : Nat :=
  (c.sensorGen x.target s).window s + (if c.reversed then c.tdi - 1 else 0)

/-- Every scheduled row of a group has come, and no further exposure can image the line. Rows before the job's
coordinate 0 are discarded and never awaited (05 R137). -/
def Core.groupDone (c : Core) (s line : Nat) (b : Bool) (seg : Nat) : Bool :=
  let u := c.coordOf line
  let mine := c.mot.expos.filter (fun x => x.b == b)
  (!c.timedJob && decide (u < 0)) || mine.any (fun x => u ≤ (c.rowCoord x s (c.exitSide x s)).floor) &&
  mine.all (fun x => (c.windowRows x s).all (fun r =>
    (c.rowCoord x s r).floor != u ||
      (c.group line s b seg).any (fun k => k.m == x.m && k.row == r)))

def Core.lineDone (c : Core) (ctx n : Nat) : Bool :=
  (c.usedGroups ctx n).all (fun g => c.groupDone g.1 g.2.1 g.2.2.1 g.2.2.2)

/-- The contexts that a line has. -/
def Core.lineCtxs (c : Core) : List Nat := if c.splitOn then [0, 1] else [0]

/-- A skipped exposure would have imaged the line in a stripe (15 R455). -/
def Core.skippedIn (c : Core) (s line : Nat) (b : Bool) : Bool :=
  (List.range c.tdi).any (fun i =>
    let r := stripeRow s + (c.genAt line).window s + i
    let m : Int := c.coordOf line - (c.phase b + c.rowOffset r).floor
    c.mot.skipped.contains (ofSigned 32 m, b))

def Core.usedRows (c : Core) (ctx n : Nat) : List RowRec :=
  (c.usedGroups ctx n).flatMap (fun g => c.group g.2.1 g.1 g.2.2.1 g.2.2.2)

/-- An open alarm whose lines rest on an overdue exposure has its outcome, MOTION (06 R197). -/
def Core.alarmsOverdue (now : Nat) (c : Core) : Core :=
  if c.eng.opens.isEmpty then c
  else
    let bad := fun (n : Nat) => (c.usedRows (c.obj 0x2A10 2) n).any (fun r => r.overdue && r.valid)
    (c.mapEng (fun e => { e with opens := e.opens.map (fun a =>
      if a.known.isNone && (List.range (a.line + 1 - a.first)).any (fun i => bad (a.first + i)) then
        { a with known := some .motion } else a) })).alarmsFollow now

/-! ### Takeover and handback between row slots (04 R117, R123) -/

/-- The next active row of a segment bank's schedule that has been transferred. -/
def Core.nextRow (c : Core) (q : Nat) : Option (Expo × Nat × Nat) :=
  (c.schedule (q % 2 == 1)).find? (fun e => (e.1.xfers.getD e.2.1 none).isSome &&
    !e.1.conv.contains (convKey (q / 2) e.2.1 e.2.2))

/-- The bank's next row slot holds a row flagged SETTLE. -/
def Core.nextSettles (c : Core) (q : Nat) : Bool :=
  match c.nextRow q with
  | some (x, s, row) => c.rowSettles q x s row
  | none => false

/-- A takeover, or a handback, that is due takes place, or waits for the first slot whose row is not flagged SETTLE
(04 R117). -/
def Core.stepSwitch (q : Nat) (take : Bool) (c : Core) : Core :=
  let due := if take then c.walkRuns q && (c.walk q).phase == .idle else (c.walk q).phase == .handback
  if !due then c
  else if c.nextSettles q then c.mapWalk q (fun w => { w with waits := true })
  else
    let c := c.mapWalk q (fun w => { w with waits := false })
    if take then c.walkTakeover q else c.walkHandback q

def execConvStepTakeover (t : Nat) (q : Fin 16) (s : State) : Host.Outcome State Fault Refusal :=
  State.run t (fun _ c => c.stepSwitch q.val true) s

def execConvStepHandback (t : Nat) (q : Fin 16) (s : State) : Host.Outcome State Fault Refusal :=
  State.run t (fun _ c => c.stepSwitch q.val false) s

/-- A switch that waits is tried again after each row slot (04 R117). -/
def Core.walkWaits (q : Nat) (c : Core) : Core :=
  c.when (c.walk q).waits (Core.stepSwitch q ((c.walk q).phase == .idle))

/-- A row slot, and what follows from it at once (04 R117, 06 R197). -/
def execRowConversion (t : Nat) (seg : Fin 8) (south : Bool) (kind : RowKind) (start : Nat)
    (cols : List ColSample) (s : State) : Host.Outcome State Fault Refusal :=
  State.run t (fun now c => ((c.convertRow now seg.val south kind start cols).alarmsOverdue now).walkWaits
    (2 * seg.val + b2n south)) s

/-- A void line: in some stripe every row would have come from skipped exposures (15 R455). -/
def Core.voidLine (c : Core) (ctx n : Nat) : Bool :=
  (List.range 6).any (fun s => (c.expoKinds ctx).any (fun b =>
    c.skippedIn s n b && c.segsOn.all (fun seg => (c.group n s b seg).isEmpty)))

/-- Every enabled segment's BLIND bit (06 R202). -/
def Core.allBlind (c : Core) : Nat := c.obj 0x2201 0 * 256

/-- BLIND bits of the columns of a line. -/
def Core.blindBits (c : Core) (cols : List Pix) : Nat :=
  sumNat (c.segsOn.map (fun seg =>
    if ((cols.drop (4096 * seg - c.firstCol)).take 4096).any (·.blind) then 2 ^ (8 + seg) else 0))

/-- A line lies in an uncertain range (05 R162, R163). -/
def Core.posUncertain (c : Core) (n : Nat) : Bool := c.mot.uncertain.any (fun p => p.1 ≤ n && n ≤ p.2)

/-- The line status without PROVISIONAL (06 R202). -/
def Core.lineStatus (c : Core) (ctx n : Nat) (cols : List Pix) : Nat :=
  let gs := c.usedGroups ctx n
  let rows := c.usedRows ctx n
  let grp := fun (g : Nat × Nat × Bool × Nat) => c.group g.2.1 g.1 g.2.2.1 g.2.2.2
  let motion := gs.any (fun g =>
    let v := (grp g).filter RowRec.valid
    let f := (v.filter (fun r => r.state == .failed)).length
    0 < f && (f == v.length || c.tdi < 2 * f))
  let skip := gs.any (fun g => c.skippedIn g.1 g.2.1 g.2.2.1)
  let used := gs.flatMap (fun g => (groupUses (grp g)).getD [])
  let coast := used.any (fun r => r.flags.coasted || r.state == .released) || skip
  let settle := gs.any (fun g => match groupUses (grp g) with
    | some l => l.all RowRec.excluded
    | none => false)
  let clamped := (List.range 6).any (fun s => (List.range c.numCols).any (fun k =>
    let t := c.alignT ctx n s (c.firstCol + k)
    t < -1 || 1 < t))
  let base := b2n motion + 2 * b2n (c.posUncertain n) + 4 * b2n coast + 8 * b2n settle +
    16 * b2n (used.any (fun r => r.flags.dcFree)) + 32 * b2n clamped +
    64 * b2n ((used ++ rows.filter RowRec.valid).any (·.overdue))
  base + (if c.voidLine ctx n then c.allBlind else c.blindBits cols)

/-- Every row that a line uses is resolved (05 R154). -/
def Core.lineSettled (c : Core) (ctx n : Nat) : Bool :=
  (c.usedRows ctx n).all (fun r => r.state != .pending)

/-- The resolution of a line whose rows are resolved (06 R203). -/
def Core.resolution (c : Core) (ctx n : Nat) : Resolution :=
  let v := (c.usedRows ctx n).filter RowRec.valid
  if v.any (fun r => r.state == .failed || r.overdue) then .replace
  else if v.any (fun r => r.state == .released) || c.voidLine ctx n then .untested
  else .pass

/-- The line is confirmed (08 R249). -/
def Core.lineConfirmed (c : Core) (ctx n : Nat) : Bool :=
  let v := (c.usedRows ctx n).filter RowRec.valid
  v.all (fun r => r.state != .released) && !c.voidLine ctx n &&
  (c.usedGroups ctx n).all (fun g =>
    let w := (c.group g.2.1 g.1 g.2.2.1 g.2.2.2).filter RowRec.valid
    w.isEmpty || w.any (fun r => r.state == .passed))

/-- The scheduled centre of the exposure in which the exit row imaged a line of a context: exposure b for C1 in SPLIT,
else a (07 R215, 13 R411). -/
def Core.lineDc (c : Core) (ctx n : Nat) : Option Nat :=
  let u := c.coordOf n
  (c.mot.expos.find? (fun x => x.b == (c.splitOn && ctx == 1) && (c.exitAt x.target).floor == u)).map (·.centre)

/-- The DC time that a line carries; where no exposure imaged it, the manual states none. -/
def Core.dcOf (ctx n : Nat) (c : Core) : Nat × Core := match c.lineDc ctx n with
  | some t => (c.stamp t, c)
  | none => c.fresh

/-- The contexts of a line with the DC time that each carries. -/
def Core.dcsOf (n : Nat) (c : Core) : List (Nat × Nat) × Core :=
  c.lineCtxs.foldl (fun r x => ((r.1 ++ [(x, (r.2.dcOf x n).1)]), (r.2.dcOf x n).2)) ([], c)

/-- Some column of `k` columns from `col` on is enabled. -/
def Core.runMeets (c : Core) (col k : Nat) : Bool :=
  decide (col < c.firstCol + c.numCols) && decide (c.firstCol < col + k)

/-- Byte `off` of a table is read for a line: the defect maps whole, the flat field, the dark table of the line's band
and the remap tables where they stand for enabled columns (06 R186, R189, R191, R204). -/
def Core.tableUse (c : Core) (n idx off : Nat) : Bool :=
  let g := c.genAt n
  if idx = 0x5100 || idx = 0x5101 then decide (off < 1024) && g.obj 0x2615 0 != 0
  else if idx = 0x5200 then decide (off < 393216) && c.runMeets (off / 2 % 32768) 4
  else if idx = 0x5110 + g.band then decide (off < 196608) && g.obj 0x2611 0 != 0 && c.runMeets (off % 32768) 8
  else if 0x5210 ≤ idx && idx ≤ 0x5215 then decide (off < 8192) && c.runMeets (off / 16 * 64) 64
  else false

/-- A word is one that stages 4 to 9 read for a line: of the tables in force. -/
def Core.lineUse (c : Core) (n a : Nat) : Bool :=
  ([0x5100, 0x5101, 0x5200, 0x5110 + (c.genAt n).band] ++ (List.range 6).map (0x5210 + ·)).any (fun idx =>
    match c.tableAt idx with
    | some b => decide (b ≤ a) && c.tableUse n idx (a - b)
    | none => false)

/-- A word is one of the line buffers' that a line's columns stand in. -/
def Core.lineBuffer (c : Core) (n a : Nat) : Bool :=
  (List.range 6).any (fun s => (List.range (c.numCols / 4)).any (fun k =>
    bufferWord 1 n (s * 8192 + c.firstCol / 4 + k) a))

/-- The words that line `n` reads as it is formed; a line buffer's error is logged once for its word (12 R365, R366,
R378). -/
def Core.lineReads (now n : Nat) (c : Core) : Core :=
  (c.sramUse now (c.lineUse n)).sramFind now (c.lineBuffer n)

/-- A line of a context formed from the rows as they stand. -/
def Core.formLine (c : Core) (ctx n dc : Nat) (resolved once : Bool) : LineRec :=
  let cols := c.lineCols ctx n
  let cols := if c.voidLine ctx n then cols.map (fun p => { p with blind := true }) else cols
  let res := c.resolution ctx n
  let st := c.lineStatus ctx n cols
  let st := if resolved && res == .untested then st ||| 4 else st
  { n := n, ctx := ctx, status := if resolved then st else st + 128,
    res := if resolved then some res else none, once := once,
    conf := resolved && c.lineConfirmed ctx n, dc := dc, cols := cols }

/-- Alignment clamps of a line (06 R201). -/
def Core.clamps (c : Core) (ctx n : Nat) : Nat :=
  sumNat ((List.range 6).map (fun s => ((List.range c.numCols).filter (fun k =>
    let t := c.alignT ctx n s (c.firstCol + k)
    t < -1 || 1 < t)).length))

/-- Groups of a line without a valid row (06 R193). -/
def Core.emptyGroups (c : Core) (n : Nat) : Nat :=
  ((List.range 6).flatMap (fun s => [false, true].flatMap (fun b => c.segsOn.filter (fun seg =>
    (b == false || c.dual) && !(c.group n s b seg).any RowRec.valid)))).length

/-- The job still has line `n` to emit. -/
def Core.lineWanted (c : Core) (n : Nat) : Bool :=
  c.job.running && (!c.inSheet || (c.sheetOf n).isSome) &&
  match c.job.lineLast with
  | some l => decide (n ≤ l)
  | none => true

/-- The line's first pass, or its single pass where it is resolved already (06 R203); the buffers move on
with it (12 R366). -/
def Core.lineComplete (now : Nat) (c : Core) : Core :=
  let n := c.pipe.nextLine
  let ctxs := c.lineCtxs
  if !c.lineWanted n || !ctxs.all (fun x => c.lineDone x n) then c
  else
    let once := ctxs.all (fun x => c.lineSettled x n) && c.pipe.nextRes == n
    let r := c.dcsOf n
    let c := r.2.lineReads now n
    let ls := r.1.map (fun x => c.formLine x.1 n x.2 once once)
    let c := (c.bumpBy 0x2640 1 (sumNat (ctxs.map (fun x => c.clamps x n)))).bumpBy 0x2620 7
      (c.emptyGroups n)
    let c := (c.mapPipe (fun p => { p with
      lines := p.lines ++ ls, nextLine := n + 1, nextRes := if once then n + 1 else p.nextRes })).refill n
    if once then (ls.foldl (fun c l => c.outLine now l) c).alarmsFollow now
    else c.bump 0x2620 4

def execLineComplete (t : Nat) (s : State) : Host.Outcome State Fault Refusal :=
  State.run t (fun now c => c.lineComplete now) s

/-- A provisional line resolves: the engines hear how, the outputs take the line (06 R203). -/
def Core.lineResolved (now : Nat) (c : Core) : Core :=
  let n := c.pipe.nextRes
  let mine := c.pipe.lines.filter (fun l => l.n == n && l.res.isNone)
  if mine.isEmpty || !mine.all (fun l => c.lineSettled l.ctx n) then c
  else
    let c := c.lineReads now n
    let ls := mine.map (fun l => c.formLine l.ctx n l.dc true false)
    let c := c.when (ls.any (fun l => l.res == some .replace)) (Core.bump 0x2620 5)
    let c := c.mapPipe (fun p => { p with
      lines := p.lines.map (fun l => (ls.find? (fun k => k.n == l.n && k.ctx == l.ctx)).getD l),
      nextRes := n + 1 })
    (ls.foldl (fun c l => c.outLine now l) c).alarmsFollow now

def execLineResolved (t : Nat) (s : State) : Host.Outcome State Fault Refusal :=
  State.run t (fun now c => c.lineResolved now) s

/-- Lines that have completed resolve, one after another. -/
def Core.resolveAll (now : Nat) : Nat → Core → Core
  | 0, c => c
  | f + 1, c => (c.lineResolved now).resolveAll now f

/-- A remaining line emitted with every segment BLIND; it resolves as UNTESTED (06 R183). -/
def Core.blindLine (now : Nat) (c : Core) : Core :=
  let n := c.pipe.nextLine
  if !c.lineWanted n then c
  else
    let r := c.dcsOf n
    let c := r.2
    let px : Pix := { l := 0, a := 0, b := 0, nir := 0, clr := 0, gls := 0, blind := true }
    let ls : List LineRec := r.1.map (fun x => {
      n := n, ctx := x.1, status := c.allBlind + 4 + 2 * b2n (c.posUncertain n), res := some .untested, once := true,
      conf := false, dc := x.2, cols := List.replicate c.numCols px })
    let c := c.mapPipe (fun p => { p with lines := p.lines ++ ls, nextLine := n + 1, nextRes := n + 1 })
    ls.foldl (fun c l => c.outLine now l) c

def Core.blindLines (now : Nat) : Nat → Core → Core
  | 0, c => c
  | f + 1, c => (c.blindLine now).blindLines now f

/-- What remains of a job whose exposures have stopped: awaiting rows are released, converted lines
resolve, the others are emitted BLIND up to the last (06 R183). -/
def Core.flushLines (now : Nat) (c : Core) : Core :=
  let c := c.releaseAll
  let c := c.resolveAll now (c.pipe.nextLine - c.pipe.nextRes)
  match c.job.lineLast with
  | some l => (c.blindLines now (l + 1 - c.pipe.nextLine)).alarmsFollow now
  | none => c.alarmsFollow now

/-- The coasting limit after JOB_END has passed without the last line (06 R183). -/
def Core.jobEndTimeout (now : Nat) (c : Core) : Core :=
  match c.job.ending, c.job.lineLast with
  | some (_, at_), some l =>
    c.when (decide (at_ + c.obj 0x2413 2 * 1000 ≤ now) && decide (c.pipe.nextRes ≤ l)) (fun c =>
      ((c.mapMot (fun m => { m with noExpose := true, burstLeft := 0 })).flushLines now))
  | _, _ => c

def execJobEndTimeout (t : Nat) (s : State) : Host.Outcome State Fault Refusal :=
  State.run t (fun now c => c.jobEndTimeout now) s

end Sys2Proof.Machine
end

