-- ==== Sys2Proof/Machine/Reference.lean ====
section
/-!
DEFINITION. Reference pages and their fetch (08 R262 to R268, 13 R398 to R401): page descriptors,
their validity and placement, and reference lines from their request to the engines' windows.
-/

namespace Sys2Proof.Machine

/-! ### Requests of the DRAM controller (11 R344, R345) -/

/-- A request takes its deadline and its place. -/
def Core.dramArrive (now port dpa : Nat) (op : DramOp) (c : Core) : Core :=
  let dl := now + c.obj 0x2E21 (port + 1)
  c.mapDram (fun d => { d with
    queue := d.queue ++ [⟨d.nextId, port, dpa / 64 * 64, op, now, dl⟩],
    owed := if op == .read then d.owed ++ [(port, d.nextId)] else d.owed,
    nextId := d.nextId + 1 })

/-- Lines read through the reference port, as one job. -/
def Core.dramJob (now : Nat) (line : Option (Nat × Nat)) (lines : List Nat) (c : Core) : Core :=
  let c := c.mapDram (fun d => { d with
    jobs := d.jobs ++ [{ line := line, addr := lines.headD 0, first := d.nextId, count := lines.length }] })
  lines.foldl (fun c a => c.dramArrive now 0 a .read) c

/-- The lines of a run of addresses. -/
def linesOf (a n : Nat) : List Nat := (List.range ((n + 63) / 64)).map (fun k => a + 64 * k)

/-- The lines of the staging ring from a slot on (08 R266). -/
def Core.stagingLines (c : Core) (slot n : Nat) : List Nat :=
  (List.range ((n + 63) / 64)).map (fun k => c.stagingBase + 64 * ((slot + k) % max 1 (c.stagingSize / 64)))

/-- Bytes written to lines of the staging ring, through the host HDM port (08 R266, 11 R344). -/
def Core.stageWrite (now slot : Nat) (d : List Byte) (c : Core) : Core :=
  (c.stagingLines slot d.length).zipIdx.foldl (fun c q =>
    c.dramArrive now 2 q.1 (.write (BitVec.allOnes 64) (slice d (64 * q.2) 64))) c

/-- Room for `n` bytes taken in the staging ring. -/
def Core.stageRoom (n : Nat) (c : Core) : Nat × Core :=
  (Config.stagingSlot c.eng.fetched, c.mapEng (fun e => { e with fetched := e.fetched + (n + 63) / 64 }))

/-! ### Where the web stands -/

/-- The web position that lead points and placements are judged by; in a timed sheet job, the newest
target exposed. -/
def Core.posNow (c : Core) (now : Nat) : Rat := if c.timedJob then c.mot.highWater else c.xAt now

/-- The newest web line at or before a coordinate; `low` before the first sheet is known. -/
def Core.lineReached (c : Core) (low : Int) (u : Rat) : Int :=
  let k := u.floor
  if c.inSheet then
    match c.mot.sheets with
    | [] => low
    | s :: l => (s :: l).foldl (fun (m : Int) (s : SheetRun) =>
        if s.coord ≤ k then max m ((s.first : Int) + min ((s.len : Int) - 1) (k - s.coord)) else m)
        (min (k - s.coord) (-1))
  else k

/-- The web line under the entry row, and the newest to reach the engines (05 R137, 08 R267). -/
def Core.entryLine (c : Core) (now : Nat) : Int := c.lineReached (-1) (c.entryAt (c.posNow now))
def Core.engineLine (c : Core) (now : Nat) : Int :=
  c.lineReached (-4294967296) (c.exitAt (c.posNow now))

/-- One past the last column of the enabled run. -/
def Core.endCol (c : Core) : Nat := c.firstCol + c.numCols

/-! ### Placement (08 R263) -/

/-- The first line of the first sheet that begins at or after line `e`, or the line at which the next
sheet will begin. -/
def Core.sheetFrom (c : Core) (e : Nat) : Nat :=
  match c.mot.sheets.find? (fun s => e ≤ s.first) with
  | some s => s.first
  | none => match c.mot.sheets.getLast? with
    | some s => max e (s.first + s.len)
    | none => e

def Core.placeFrom (c : Core) : Nat → List Page → List Page
  | _, [] => []
  | e, p :: l =>
    let s := match p.absolute with
      | some a => a
      | none => (if p.aligned then c.sheetFrom e else e) + p.gap
    { p with gapStart := e, start := s } :: c.placeFrom (s + p.len) l

/-- The pages of the job at their places. -/
def Core.pages (c : Core) : List Page := c.placeFrom 0 c.eng.pages

/-- The end of the page placed last. -/
def Core.pagesEnd (c : Core) : Nat := match c.pages.getLast? with
  | some p => p.start + p.len
  | none => 0

/-- The page that holds web line `n`, with its number. -/
def Core.pageAt (c : Core) (n : Nat) : Option (Page × Nat) :=
  c.pages.zipIdx.find? (fun q => q.1.start ≤ n && n < q.1.start + q.1.len)

/-- The page whose profile applies to web line `n`: the one that holds it, or the next (08 R251). -/
def Core.pageFor (c : Core) (n : Nat) : Option (Page × Nat) :=
  c.pages.zipIdx.find? (fun q => q.1.gapStart ≤ n && n < q.1.start + q.1.len)

/-- Page ID of a web line (08 R269). -/
def Core.pageId (c : Core) (n : Nat) : Nat := match c.pageAt n with
  | some q => q.1.id
  | none => 0xFFFFFFFF

/-- A page's columns inside the enabled run: the first, and one past the last (08 R263). -/
def Core.pageCols (c : Core) (p : Page) : Nat × Nat :=
  (max p.col c.firstCol, min (p.col + p.width) c.endCol)

/-- COMPARE-REF runs on the page (08 R251, R262). -/
def Core.pageCompares (c : Core) (p : Page) : Bool :=
  p.format != 0 && !p.noComp && (c.obj 0x2A10 1).testBit 0 && decide ((c.pageCols p).1 < (c.pageCols p).2)

/-! ### Raster lines (08 R264, 13 R399) -/

/-- The raster column of an output column of the page. -/
def Page.rasterCol (p : Page) (col : Nat) : Nat :=
  if p.format = 2 then (col - p.col) / 2 else col - p.col

/-- The bytes of a raster line that are read: the first, a multiple of 64, and their number. -/
def Core.refSpan (c : Core) (p : Page) : Nat × Nat :=
  let q := c.pageCols p
  let a := 3 * p.rasterCol q.1 / 64 * 64
  let b := (3 * (p.rasterCol (q.2 - 1) + 1) + 63) / 64 * 64
  (a, b - a)

/-! ### Descriptors (08 R262, R265, R268) -/

/-- Region `i` of a region list (08 R268). -/
def regionOf (b : List Byte) (i : Nat) : Region :=
  let at_ := fun o n => leAt b (32 * i + o) n
  let bar := at_ 0 1 == 1
  { kind := at_ 0 1, comp := (at_ 1 1).testBit 0 && at_ 0 1 != 3, index := at_ 2 2, line := at_ 4 4,
    lines := at_ 8 2, col := at_ 10 2, width := at_ 12 2, p1 := at_ 14 1, p2 := at_ 15 1,
    base := at_ 16 2, tol := if bar then at_ 18 2 else at_ 24 4,
    dx := toSigned 32 (at_ 16 4), dy := toSigned 32 (at_ 20 4) }

def Region.ok (c : Core) (p : Page) (r : Region) : Bool :=
  (r.kind == 1 || r.kind == 2 || r.kind == 3) &&
  decide (1 ≤ r.lines) && decide (r.lines ≤ 4096) && decide (1 ≤ r.width) &&
  decide (r.line + r.lines ≤ p.len) && decide (r.col + r.width ≤ p.width) &&
  decide (c.firstCol ≤ p.col + r.col) && decide (p.col + r.col + r.width ≤ c.endCol) &&
  (r.kind != 1 || (decide (1 ≤ r.p1) && decide (r.p1 ≤ 64) && r.width % r.p1 == 0 &&
    decide (8 * r.p1 ≤ r.width) && decide (r.base + r.p1 ≤ 1024))) &&
  (r.kind != 2 || (decide (r.p1 ≤ 4) && decide (r.p2 ≤ 5)))

def Region.overlaps (a b : Region) : Bool :=
  decide (a.line < b.line + b.lines) && decide (b.line < a.line + a.lines) &&
  decide (a.col < b.col + b.width) && decide (b.col < a.col + a.width)

/-- No two regions of a list overlap. -/
def regionsApart : List Region → Bool
  | [] => true
  | r :: l => l.all (fun q => !r.overlaps q) && regionsApart l

/-- The page that a descriptor describes, its profile as it stands. -/
def Core.pageOfDesc (c : Core) (now : Nat) (d regs : List Byte) : Page :=
  let fl := leAt d 22 2
  let col := leAt d 24 2
  let w := leAt d 26 2
  { id := leAt d 0 4, cookie := leAt d 56 8, gap := leAt d 28 4, len := leAt d 4 4,
    absolute := if fl.testBit 0 then some (leAt d 48 8) else none, aligned := fl.testBit 1,
    raster := leAt d 8 8, stride := leAt d 16 4, format := leAt d 20 1,
    hostSrc := leAt d 21 1 == 0, noComp := fl.testBit 2, col := col,
    width := if w = 0 then c.endCol - col else w,
    prof := (List.range 15).map (fun i => c.obj (0x2A40 + leAt d 42 1 % 8) (i + 1)),
    targets := [], regions := (List.range (leAt d 40 2)).map (regionOf regs),
    readAt := c.entryLine now }

/-- A reserved encoding or a value outside its range (08 R262, R264, R265, 13 R399). -/
def Core.descBad (c : Core) (d : List Byte) (p : Page) : Bool :=
  p.id == 0xFFFFFFFF || decide (p.len < 16) || decide (1048576 < p.len) || p.stride % 64 != 0 ||
  decide (2 < p.format) || decide (1 < leAt d 21 1) || decide (64 < leAt d 40 2) ||
  decide (7 < leAt d 42 1) || decide (2 ^ 48 ≤ leAt d 48 8) ||
  (p.format == 2 && p.width % 2 != 0) || (p.format != 0 && p.raster % 64 != 0) ||
  (0 < leAt d 40 2 && leAt d 32 8 % 64 != 0) ||
  (p.aligned && (c.mode == .web || p.absolute.isSome))

/-- A DRAM raster that reaches outside HDM or into the staging area (08 R265, 13 R385). -/
def Core.rasterBad (c : Core) (p : Page) : Bool :=
  let n := (p.len - 1) * p.stride + (if p.format = 2 then 3 * (p.width / 2) else 3 * p.width)
  !p.hostSrc && (!c.cxl.cxlMode || (p.format != 0 && (decide (hdmEnd < p.raster + n) ||
    (decide (p.raster < c.stagingBase + c.stagingSize) && decide (c.stagingBase < p.raster + n)))))

/-- The reason a descriptor is invalid (08 R265, 13 R413). -/
def Core.descReason (c : Core) (d : List Byte) (p : Page) (ok : Bool) : Option Nat :=
  let q := c.pageCols p
  if !ok then some 6
  else if c.descBad d p then some 1
  else if !(p.regions.all (Region.ok c p) && regionsApart p.regions) then some 2
  else if (match p.absolute with | some a => decide (a < c.pagesEnd) | none => false) then some 3
  else if p.hostSrc && p.format == 1 && decide (20 < c.lineRate c.timedJob * 3 * ((q.2 - q.1 : Nat) : Rat))
    then some 4
  else if c.rasterBad p then some 5
  else if c.eng.pglAnchor && p.absolute.isNone && !p.aligned then some 7
  else none

/-- PGL holds a descriptor that can be read now: posted, its lead point reached (08 R265, 13 R404). -/
def Core.pglReady (c : Core) (now : Nat) : Bool :=
  let r := c.ring 6
  c.job.running && c.inspecting && c.cxl.hostUp && !c.cxl.d3Want && r.enable && r.prod != r.cons &&
  c.eng.pglWait.isNone &&
  match c.pages.getLast? with
  | some p => decide ((p.start : Int) - (c.obj 0x2A20 1 : Int) ≤ c.entryLine now)
  | none => true

/-- 64-byte reads issued to the host (13 R421). -/
def Core.readsIssued (n : Nat) (c : Core) : Core := c.bumpBy 0x3030 1 n

/-- Lines read with RdShared stay in the device cache (13 R398). -/
def Core.cacheLines (addr n : Nat) (c : Core) : Core :=
  if !c.cxl.cxlMode then c
  else c.mapCxl (fun x =>
    { x with cache := ((List.range n).map (fun i => addr / 64 + i) ++ x.cache).take 4096 })

/-- The colour targets that a page's patches use, as they stand (08 R265). -/
def Core.targetsOf (c : Core) (p : Page) : List (Nat × Int × Int × Int) :=
  p.regions.flatMap (fun r => if r.kind = 1 then (List.range r.p1).map (fun i =>
    let k := r.base + i
    (k, toSigned 16 (c.domWord 0x2A52 (8 * k) 2), toSigned 16 (c.domWord 0x2A52 (8 * k + 2) 2),
      toSigned 16 (c.domWord 0x2A52 (8 * k + 4) 2))) else [])

/-! ### Reads of host memory (13 R394, R399, R401) -/

/-- Bytes of one read of host memory: a line over CXL.cache, else a memory read (13 R399, R401). -/
def Core.readUnit (c : Core) : Nat := if c.cxl.cxlMode then 64 else 512

/-- The host has enabled 10-bit tags: the enable stands in Device Control 2 (13 R401, PRESUMED, log entry 148). -/
def Core.tenBitTags (c : Core) : Bool := ((alook c.cxl.cfg 0x88).getD 0).testBit 12

/-- How many reads may be outstanding at once (13 R399, R401). -/
def Core.readLimit (c : Core) : Nat :=
  if c.cxl.cxlMode then 1024 else if c.tenBitTags then 768 else 256

/-- Reads of host memory, in ascending address, each of at most a read's unit. -/
def Core.hostReads (a n : Nat) (c : Core) : Core :=
  let u := c.readUnit
  ((List.range ((n + u - 1) / u)).foldl (fun (c : Core) k => c.emit (.hostRead (a + u * k) (min u (n - u * k)))) c).readsIssued
    ((n + 63) / 64)

/-- The host address of an HDM offset: the decoder's base and the offset (13 R394). -/
def Core.hostAddr (c : Core) (dpa : Nat) : Nat :=
  (alook c.cxl.comp 0x1210).getD 0 + 2 ^ 32 * (alook c.cxl.comp 0x1214).getD 0 + dpa

/-- Pages of a run of HDM are in device bias. -/
def Core.runBias (c : Core) (a n : Nat) : Bool := c.deviceBias (a / 2 ^ 21) && c.deviceBias ((a + n - 1) / 2 ^ 21)

/-! ### Descriptors read (08 R262, R265, R266, 13 R398, R404) -/

/-- A descriptor with its region list places its page, or is invalid. -/
def Core.pglPlace (now : Nat) (ok : Bool) (d regs : List Byte) (c : Core) : Core :=
  let p := c.pageOfDesc now d regs
  match c.descReason d p ok with
  | some k =>
    ((c.mapEng (fun e => { e with pglAnchor := true, pglWait := none })).bump 0x2A20 6).eventRaw now 0x0112 (c.stamp now)
      0xFF 0 (leBytes 8 p.cookie ++ leBytes 4 p.id ++ leBytes 1 k)
  | none => c.mapEng (fun e => { e with
      pglAnchor := false, pglWait := none, pages := e.pages ++ [{ p with targets := c.targetsOf p }] })

/-- The next descriptor read and consumed. Its region list comes from the host into the staging ring and from there, or
lies in HDM: in a device-bias page it is read in place, in a host-bias page through the host. The device reads the list
with RdShared and keeps it, as 13 R398 says and 08 R266 does not (log entry 162); where it is read through the DRAM, the
descriptor is judged when the list has come (DESIGN CHOICE, log entry 163). -/
def Core.pglTake (now : Nat) (ok : Bool) (d regs : List Byte) (c : Core) : Core :=
  let r := c.ring 6
  let a := r.base + r.cons % 2 ^ r.size * 64
  let n := 32 * leAt d 40 2
  let len := (n + 63) / 64 * 64
  let at_ := leAt d 32 8
  let hostSrc := leAt d 21 1 == 0
  let place := !hostSrc && c.runBias at_ n
  let c := ((c.emit (.hostRead a 64)).readsIssued 1).cacheLines a 1
  let c := c.when (ok && n != 0 && !place) (fun c =>
    let h := if hostSrc then at_ else c.hostAddr at_
    (c.hostReads h len).cacheLines h (len / 64))
  let c := (c.mapRing 6 (fun r => { r with cons := (r.cons + 1) % 2 ^ 32 })).writeback now 6
  if !ok then (c.bump 0x3030 5).pglPlace now false d []
  else if n = 0 || (hostSrc && c.stagingSize == 0) || (!hostSrc && !place) then c.pglPlace now true d regs
  else
    let c := c.mapEng (fun e => { e with pglWait := some d })
    if place then c.dramJob now none (linesOf at_ n)
    else
      let q := c.stageRoom n
      (q.2.stageWrite now q.1 (slice regs 0 n)).dramJob now none (c.stagingLines q.1 n)

/-- The next descriptor where PGL holds one that can be read. -/
def Core.pglRead (now : Nat) (ok : Bool) (d regs : List Byte) (c : Core) : Core :=
  c.when (c.pglReady now) (Core.pglTake now ok d regs)

def execPglDescriptorRead (t : Nat) (ok : Bool) (desc regions : List Byte) (s : State) :
    Host.Outcome State Fault Refusal :=
  State.run t (fun now c => c.pglRead now ok desc regions) s

/-! ### Reference lines (08 R266, R267) -/

def Core.refAt (c : Core) (page line : Nat) : Option RefLine :=
  c.eng.refs.find? (fun r => r.page == page && r.line == line)

def Core.mapPage (i : Nat) (f : Page → Page) (c : Core) : Core :=
  c.mapEng (fun e => { e with pages := modAt e.pages i f })

def Core.mapLineRef (page line : Nat) (f : RefLine → RefLine) (c : Core) : Core :=
  c.mapEng (fun e => { e with refs := e.refs.map (fun r =>
    if r.page == page && r.line == line then f r else r) })

/-- The page with the lowest raster line not yet requested, and not yet placed. -/
def Core.nextRequest (c : Core) : Option (Page × Nat) :=
  c.pages.zipIdx.find? (fun q => c.pageCompares q.1 && decide (q.1.nextReq < q.1.len))
def Core.nextPlacement (c : Core) : Option (Page × Nat) :=
  c.pages.zipIdx.find? (fun q => c.pageCompares q.1 && decide (q.1.nextPlace < q.1.len))

/-- The reads outstanding for the raster lines now awaited (13 R399, R401). -/
def Core.outstanding (c : Core) : Nat :=
  sumNat (c.eng.refs.map (fun r => (r.asked - r.got + c.readUnit - 1) / c.readUnit))

/-- The host address from which a raster line is read (13 R394). -/
def Core.lineAddr (c : Core) (p : Page) (j : Nat) : Nat :=
  let a := p.raster + j * p.stride + (c.refSpan p).1
  if p.hostSrc then a else c.hostAddr a

/-- The reads of the line whose reads are not all issued, as many as may be outstanding (13 R399, R401, R419). -/
def Core.refMore (c : Core) : Core :=
  match c.eng.refs.find? (fun r => (r.state == 1 || r.state == 5) && !r.bad && (match c.pages[r.page]? with
    | some p => decide (r.asked < (c.refSpan p).2)
    | none => false)) with
  | none => c
  | some r => match c.pages[r.page]? with
    | none => c
    | some p =>
      let k := min ((c.readLimit - c.outstanding) * c.readUnit) ((c.refSpan p).2 - r.asked)
      if k = 0 || !c.cxl.hostUp || c.cxl.d3Want then c
      else
        let c := (c.hostReads (c.lineAddr p r.line + r.asked) k).mapLineRef r.page r.line
          (fun r => { r with asked := r.asked + k })
        c.raiseTo 0x3030 4 c.outstanding

/-- The reads of every requested line are issued. -/
def Core.allAsked (c : Core) : Bool := c.eng.refs.all (fun r => match c.pages[r.page]? with
  | some p => !(r.state == 1 || r.state == 5) || r.bad || decide ((c.refSpan p).2 ≤ r.asked)
  | none => true)

/-- The next raster line is requested, or read in place through the reference port (08 R266, 11 R344, 13 R394, R399,
R419); a request waits until every read of the line before it is issued. -/
def Core.refRequest (now : Nat) (c : Core) : Core :=
  match c.nextRequest with
  | none => c
  | some (p, i) =>
    let j := p.nextReq
    if !c.job.running || decide (c.entryLine now < (p.start + j : Nat) - (c.obj 0x2A20 1 : Int)) then c
    else
      let q := c.refSpan p
      let a := p.raster + j * p.stride + q.1
      let add := fun (r : RefLine) (c : Core) => (c.mapEng (fun e => { e with refs := e.refs ++ [r] })).mapPage i
        (fun p => { p with nextReq := j + 1 })
      if !p.hostSrc && c.runBias a q.2 then
        (add { page := i, line := j, state := 6 } c).dramJob now (some (i, j)) (linesOf a q.2)
      else if !c.cxl.hostUp || c.cxl.d3Want || !c.allAsked || decide (c.readLimit ≤ c.outstanding) then c
      else
        let s := if p.hostSrc then c.stageRoom q.2 else (0, c)
        (add { page := i, line := j, state := 1, slot := s.1 } s.2).refMore

def execRefLineRequest (t : Nat) (s : State) : Host.Outcome State Fault Refusal :=
  State.run t (fun now c => c.refRequest now) s

/-- A line that is whole stands ready; a late one is missing for good (08 R267). -/
def Core.refReady (now page line : Nat) (bad : Bool) (data : List Byte) (c : Core) : Core :=
  c.mapLineRef page line (fun r => { r with
    state := if bad || r.state == 5 || r.state == 7 then 4 else 2, at_ := c.entryLine now, data := data })

/-- Every read of a line has come: a line from host memory is read from the staging ring, one of HDM is ready. -/
def Core.refWhole (now : Nat) (r : RefLine) (p : Page) (c : Core) : Core :=
  let n := (c.refSpan p).2
  if r.bad then (if r.got = r.asked then c.refReady now r.page r.line true [] else c)
  else if r.got < n then c
  else if p.hostSrc && c.stagingSize != 0 then
    (c.mapLineRef r.page r.line (fun r => { r with state := if r.state = 5 then 7 else 6 })).dramJob now
      (some (r.page, r.line)) (c.stagingLines r.slot n)
  else c.refReady now r.page r.line false r.data

/-- The next reads outstanding, in their order, come back: as many as there are bytes, at least one; or one read fails
(08 R266, 13 R400). What came of a host-sourced line goes into the staging ring; reads that waited follow. -/
def Core.refArrive (now : Nat) (ok : Bool) (data : List Byte) (c : Core) : Core :=
  match c.eng.refs.find? (fun r => decide (r.got < r.asked)) with
  | none => c
  | some r =>
    match c.pages[r.page]? with
    | none => c
    | some p =>
      let n := min (r.asked - r.got) (if ok then max c.readUnit (data.length / 64 * 64) else c.readUnit)
      let d := slice data 0 n
      let r' := { r with
        got := r.got + n, bad := r.bad || !ok, data := if ok && !(p.hostSrc && c.stagingSize != 0) then r.data ++ d else r.data }
      let c := if !ok then c.bumpBy 0x3030 5 ((n + 63) / 64)
        else (c.bumpBy 0x3030 2 n).when (p.hostSrc && c.stagingSize != 0) (Core.stageWrite now (r.slot + r.got / 64) d)
      ((c.mapLineRef r.page r.line (fun _ => r')).refWhole now r' p).refMore

/-- Data of the reference port reach their line or region list (08 R266, 11 R344, R353, 13 R400). -/
def Core.refData (now id : Nat) (data : Option (List Byte)) (c : Core) : Core :=
  match c.dram.jobs.find? (fun j => j.first ≤ id && id < j.first + j.count) with
  | none => c
  | some j =>
    let j' := { j with
      came := j.came + 1, bad := j.bad + b2n data.isNone, data := j.data ++ data.getD (zeros 64) }
    let c := c.when data.isNone (Core.bump 0x3030 5)
    if j'.came < j.count then
      c.mapDram (fun d => { d with jobs := d.jobs.map (fun x => if x.first == j.first then j' else x) })
    else
      let c := c.mapDram (fun d => { d with jobs := d.jobs.filter (fun x => x.first != j.first) })
      match j.line with
      | some (i, n) => c.refReady now i n (j'.bad != 0) j'.data
      | none => match c.eng.pglWait with
        | some d => c.pglPlace now (j'.bad == 0) d j'.data
        | none => c

/-- The next raster line is placed in the windows when web line n - 80 reaches the engines; one that is
not there is missing for good (08 R267). -/
def Core.refPlace (now : Nat) (c : Core) : Core :=
  match c.nextPlacement with
  | none => c
  | some (p, i) =>
    let j := p.nextPlace
    if !c.job.running || decide (c.engineLine now < ((p.start + j : Nat) : Int) - 80) then c
    else
      let c := c.mapPage i (fun p => { p with nextPlace := j + 1, nextReq := max p.nextReq (j + 1) })
      let least := fun (n : Nat) (c : Core) => c.when (decide (n < c.obj 0x2A20 8)) (Core.put 0x2A20 8 n)
      match c.refAt i j with
      | none => least 0 (c.mapEng (fun e => { e with refs := e.refs ++ [{ page := i, line := j, state := 4 }] }))
      | some r =>
        if r.state = 2 then
          least (c.entryLine now - r.at_).toNat (c.mapLineRef i j (fun r => { r with state := 3 }))
        else least 0 (c.mapLineRef i j (fun r => { r with
          state := if r.state = 1 then 5 else if r.state = 6 then 7 else if r.state = 5 || r.state = 7 then r.state else 4 }))

def execRefLinePlace (t : Nat) (s : State) : Host.Outcome State Fault Refusal :=
  State.run t (fun now c => c.refPlace now) s

/-- Outstanding reads discarded, each of 64 bytes a failed read: their lines are missing (13 R387, R400). -/
def Core.refsDiscard (c : Core) : Core :=
  let n := sumNat (c.eng.refs.map (fun r => (r.asked - r.got + 63) / 64))
  (c.bumpBy 0x3030 5 n).mapEng (fun e => { e with refs := e.refs.map (fun r =>
    if r.state == 1 || r.state == 5 then { r with state := 4, got := r.asked } else r) })

end Sys2Proof.Machine
end

