-- ==== Sys2Proof/Machine/Kernels.lean ====
section
/-!
DEFINITION. The inspection kernels (08 R246 to R261) as the slice engines run them: which kernel runs
where, COMPARE-REF with its tiles, BLANK-WEB with its backgrounds and streaks, slice parts of blobs
and the alarms they raise (08 R275), and the early and the verdict stage of a slice.
-/

namespace Sys2Proof.Machine

/-! ### Lines and slices -/

/-- The inspected context (08 R246), and its line `n` as it stands. -/
def Core.inspCtx (c : Core) : Nat := c.obj 0x2A10 2
def Core.inspLine (c : Core) (n : Nat) : Option LineRec :=
  c.pipe.lines.find? (fun l => l.n == n && l.ctx == c.inspCtx)

/-- The logical slices of the enabled run, and whether one is in it. -/
def Core.slices (c : Core) : List Nat := (List.range 512).filter (fun s => c.segOn (s / 64))
def Core.sliceOn (c : Core) (s : Nat) : Bool := decide (s < 512) && c.segOn (s / 64)

/-- The next line of a slice in its early and its verdict stage. -/
def Core.earlyNext (c : Core) (s : Nat) : Nat := (alook c.eng.early s).getD 0
def Core.verdictNext (c : Core) (s : Nat) : Nat := (alook c.eng.verdict s).getD 0

/-- The history lag H (08 R250). -/
def Core.lag (c : Core) : Nat := (c.pendingDepth + 2).toNat

def Core.sliceLine (c : Core) (s n : Nat) : Option SliceLine :=
  c.eng.lines.find? (fun l => l.slice == s && l.line == n)

def Core.mapSliceLine (s n : Nat) (f : SliceLine → SliceLine) (c : Core) : Core :=
  c.mapEng (fun e => { e with lines := e.lines.map (fun l =>
    if l.slice == s && l.line == n then f l else l) })

/-- What line `n` of a slice carries over from has been resolved, here and beside it (08 R250). -/
def Core.carryReady (c : Core) (s n : Nat) : Bool :=
  decide (n < c.lag) || (([s] ++ (if 0 < s then [s - 1] else []) ++ [s + 1]).filter c.sliceOn).all (fun k =>
    decide (n - c.lag < c.verdictNext k))

/-- Column `col` of a line. -/
def Core.pixAt (c : Core) (l : LineRec) (col : Nat) : Option Pix := l.cols[col - c.firstCol]?

/-- The columns of a slice. -/
def sliceCols (s : Nat) : List Nat := (List.range 64).map (fun i => 64 * s + i)

/-! ### Who serves a slice (08 R277 to R280) -/

def Core.engWalk (c : Core) (seg : Nat) : EngWalk := c.eng.walks.getD seg {}

/-- 2A81h of a segment (08 R284): the engine that J serves or served last, 64 in the self step. -/
def EngWalk.code (w : EngWalk) : Nat :=
  (if w.phase = 2 && w.cur = 64 then 64 else w.shown) + 128 * b2n (w.phase != 0) + 256 * b2n w.stopped + 512 * b2n w.permanent + 1024 * b2n w.noSpare

def Core.mapEngWalk (seg : Nat) (f : EngWalk → EngWalk) (c : Core) : Core :=
  let c := c.mapEng (fun e => { e with walks := modAt e.walks seg f })
  c.put 0x2A81 (seg + 1) (c.engWalk seg).code

/-- Engine `n` of a segment retired, 64 for J; the walk stops (08 R278). -/
def Core.retireEngine (now seg n : Nat) (c : Core) : Core :=
  let c := c.mapEngWalk seg (fun w => { w with
    phase := 0, stopped := true, permanent := w.permanent || decide (n < 64) })
  (c.store 0x2A82 (seg + 1) n).event now 0x5021 seg (leBytes 1 n)

/-- Lines of a slice that give no decision (08 R279). -/
def Core.markUnknown (s n0 n1 : Nat) (c : Core) : Core :=
  c.mapEng (fun e => { e with unknown := e.unknown ++ [(s, n0, n1)] })

/-- An engine of a segment has failed while it served a slice (08 R279, R280): J takes the slice, cold, or nobody does.
Where J itself fails as it relieves an engine, J is retired and that engine takes its slice back, cold (log entry
143). -/
def Core.engineFails (now seg n s last firstOpen : Nat) (c : Core) : Core :=
  let w := c.engWalk seg
  if n < 64 && !w.stopped then
    let relieving := decide (w.cur < 64) && (w.phase == 2 || w.phase == 3)
    let m := 64 * seg + w.cur
    let c := c.when relieving (Core.markUnknown m (last + 1) (last + 48))
    let c := (c.markUnknown s firstOpen last).markUnknown s (last + 1) (last + 48 + b2n relieving)
    let c := (c.mapEngWalk seg (fun w => { w with
      cur := n, shown := n, jServes := some s, handover := some (s, last + b2n relieving) })).bump 0x2A85 3
    c.retireEngine now seg n
  else if n = 64 && !w.permanent then
    let c := (c.markUnknown s firstOpen last).markUnknown s (last + 1) (last + 48)
    (c.mapEngWalk seg (fun w => { w with jServes := none, handover := some (s, last) })).retireEngine now seg 64
  else
    ((c.markUnknown s firstOpen (2 ^ 48)).mapEngWalk seg (fun w => { w with
      noSpare := true, stopped := true })).event now 0x5022 seg (leBytes 1 n)

/-- The slice that an engine serves. -/
def Core.servedBy (c : Core) (seg n : Nat) : Option Nat :=
  let j := (c.engWalk seg).jServes
  if n = 64 then j else if j == some (64 * seg + n) then none else some (64 * seg + n)

/-- The engine that serves a slice, 64 for J. -/
def Core.engineOf (c : Core) (s : Nat) : Nat := if (c.engWalk (s / 64)).jServes == some s then 64 else s % 64

/-- The address of byte `o` of the local store of the engine that serves a slice (12 R363). -/
def Core.storeAddr (c : Core) (s o : Nat) : Nat := sramAddr 0 ((65 * (s / 64) + c.engineOf s) * 131072 + o)

/-- The slice is UNKNOWN in the line (08 R276, R279, R280). -/
def Core.isUnknown (c : Core) (s n : Nat) : Bool :=
  c.eng.unknown.any (fun u => u.1 == s && u.2.1 ≤ n && n ≤ u.2.2)

/-! ### Kernel plan (08 R251) -/

/-- The region of a page at page line `j` and an output column. -/
def Page.regionAt (p : Page) (j col : Nat) : Option Region :=
  p.regions.find? (fun r => r.line ≤ j && j < r.line + r.lines && p.col + r.col ≤ col &&
    col < p.col + r.col + r.width)

/-- The page that covers a pixel with its columns. -/
def Core.pageOver (c : Core) (n col : Nat) : Option (Page × Nat) :=
  match c.pageAt n with
  | some q => if (c.pageCols q.1).1 ≤ col && col < (c.pageCols q.1).2 then some q else none
  | none => none

/-- A pixel lies in an excluded region: a MASK, or a region that is not also compared. -/
def Core.excluded (c : Core) (n col : Nat) : Bool :=
  match c.pageOver n col with
  | some q => match q.1.regionAt (n - q.1.start) col with
    | some r => !r.comp
    | none => false
  | none => false

/-- COMPARE-REF runs on the pixel; BLANK-WEB does. -/
def Core.compares (c : Core) (n col : Nat) : Bool :=
  match c.pageOver n col with
  | some q => c.pageCompares q.1 && !c.excluded n col
  | none => false
def Core.blanks (c : Core) (n col : Nat) : Bool :=
  (c.obj 0x2A10 1).testBit 1 && c.flag 0x2A10 3 && !c.compares n col && !c.excluded n col

/-- A sub of the profile that applies to a web line (08 R251, R265). -/
def Core.prof (c : Core) (n sub : Nat) : Nat := match c.pageFor n with
  | some q => q.1.prof.getD (sub - 1) 0
  | none => 0

/-- What a line lacks when it first reaches a slice: 1 a descriptor that covers it, 2 a reference line
it compares with (08 R251, R265, R267). -/
def Core.lateness (c : Core) (s n : Nat) : Nat :=
  match c.pageFor n with
  | none => 1
  | some q =>
    let p := q.1
    if decide ((n : Int) ≤ p.readAt) then 1
    else if !(sliceCols s).any (c.compares n) then 0
    else
      let j := n - p.start
      let r := p.prof.getD 6 4 + 1
      let js := (List.range (min (p.len - 1) (j + r) + 1 - (j - r))).map (fun i => j - r + i)
      if js.all (fun k => match c.refAt q.2 k with | some x => x.state == 3 | none => false) then 0 else 2

/-! ### The local store as a slice's line uses it (08 R247, R276, 12 R378) -/

/-- A poisoned word in `n` bytes from byte `o` of the store of the slice's engine. -/
def Core.storeBad (c : Core) (s o n : Nat) : Bool :=
  c.faulty.any (fun a => inSpan (c.storeAddr s o) n a && c.wordBad a)

/-- A poisoned word in the slice's line window, or in the lines of its reference window that a compared line needs. -/
def Core.windowBad (c : Core) (s n : Nat) : Bool :=
  let r := c.prof n 7 + 1
  c.storeBad s (imageWindow + n % 48 * 960) 960 ||
  ((sliceCols s).any (c.compares n) && (List.range (2 * r + 1)).any (fun d =>
    c.storeBad s (refWindow + (n + d + 96 * r - r) % 96 * 240) 240))

/-- The spans, as offset and length, of the store of the slice's engine that a line uses: code, state, the line's
window, and the reference lines where it is compared. -/
def Core.storeUsed (c : Core) (s n : Nat) : List (Nat × Nat) :=
  let r := c.prof n 7 + 1
  [(0, imageWindow), (kernelState, 131072 - kernelState), (imageWindow + n % 48 * 960, 960)] ++
  (if (sliceCols s).any (c.compares n) then (List.range (2 * r + 1)).map (fun d =>
    (refWindow + (n + d + 96 * r - r) % 96 * 240, 240)) else [])

/-- A line used by a slice's engine: a poisoned word of its windows makes the slice UNKNOWN in the line, one of its
code or state makes the engine fail. -/
def Core.windowRead (now s n : Nat) (c : Core) : Core :=
  if c.isUnknown s n then c else
  let c := c.sramUse now (fun a => (c.storeUsed s n).any (fun p => inSpan (c.storeAddr s p.1) p.2 a))
  if c.storeBad s 0 imageWindow || c.storeBad s kernelState (131072 - kernelState) then
    c.engineFails now (s / 64) (c.engineOf s) s (c.earlyNext s - 1) (c.verdictNext s)
  else c.when (c.windowBad s n) (Core.mapEng (fun e => { e with unknown := e.unknown ++ [(s, n, n)] }))

/-! ### COMPARE-REF (08 R253, R254, R264) -/

/-- One byte of a reference pixel; positions outside the page and the columns read are those of its
edge. A line that is not in the windows has none (08 R267): what then stands there is 0, and no line that needs it is
compared or taken into a tile. -/
def Core.refByte (c : Core) (p : Page) (i : Nat) (j k : Int) (ch : Nat) : Rat :=
  let q := c.pageCols p
  let a : Int := p.rasterCol q.1
  let b : Int := p.rasterCol (q.2 - 1)
  let jj := (clampInt 0 ((p.len : Int) - 1) j).toNat
  let kk := (clampInt a b k).toNat
  match c.refAt i jj with
  | some r => if r.state = 3 then (((r.data.getD (3 * kk + ch - (c.refSpan p).1) 0).toNat : Nat) : Rat) else 0
  | none => 0

/-- A reference byte by bilinear interpolation. -/
def Core.refInterp (c : Core) (p : Page) (i : Nat) (x y : Rat) (ch : Nat) : Rat :=
  let k := x.floor
  let j := y.floor
  let u := x - (k : Rat)
  let v := y - (j : Rat)
  let at_ := fun (dj dk : Int) => c.refByte p i (j + dj) (k + dk) ch
  (1 - v) * ((1 - u) * at_ 0 0 + u * at_ 0 1) + v * ((1 - u) * at_ 1 0 + u * at_ 1 1)

/-- The raster position of an output column at an offset, in pixels (08 R254). -/
def Page.rasterX (p : Page) (col : Nat) (dx : Rat) : Rat :=
  let x : Rat := ((col - p.col : Nat) : Rat) + dx
  if p.format = 2 then x / 2 - 1 / 4 else x

/-- The decoded reference colour of a pixel at an offset (08 R264). -/
def Core.refColour (c : Core) (p : Page) (i n col : Nat) (dx dy : Rat) : Rat × Rat × Rat :=
  let x := p.rasterX col dx
  let y : Rat := ((n - p.start : Nat) : Rat) + dy
  (c.refInterp p i x y 0 * 100 / 255, c.refInterp p i x y 1 - 128, c.refInterp p i x y 2 - 128)

/-- The image colour of a pixel (06 R208). -/
def Pix.colour (q : Pix) : Rat × Rat × Rat :=
  ((q.l : Rat) / 512, (toSigned 16 q.a : Rat) / 256, (toSigned 16 q.b : Rat) / 256)

/-- ΔE00 of two colours. -/
def deltaE (a b : Rat × Rat × Rat) : Rat := ciede2000 a.1 a.2.1 a.2.2 b.1 b.2.1 b.2.2

/-- A score as a U16 that saturates (08 R261). -/
def score16 (q : Rat) : Nat := (clampInt 0 65535 (ratEven q)).toNat

/-- The offset of the latest tile of the page that ends at or before n - H (08 R253). -/
def Core.tileOffset (c : Core) (i s n : Nat) : Rat × Rat :=
  let l := c.eng.tiles.filter (fun t => t.page == i && t.slice == s && t.last + c.lag ≤ n)
  match l.getLast? with
  | some t => ((t.dx : Rat) / 8, (t.dy : Rat) / 8)
  | none => (0, 0)

/-- ΔE of a compared pixel, and its class and score where it is deviant (08 R254). -/
def Core.comparePix (c : Core) (p : Page) (i s n col : Nat) (q : Pix) : Rat × Option (Nat × Nat) :=
  let o := c.tileOffset i s n
  let r := c.refColour p i n col o.1 o.2
  let e := deltaE q.colour r
  let d := q.colour.1 - r.1
  if satL q then (e, if r.1 < 90 then some (1, score16 (e * 100)) else none)
  else if (p.prof.getD 0 0 : Rat) < e * 100 || (p.prof.getD 1 0 : Rat) < absR d * 100 then
    (e, some (if 1 < d then 1 else if d < -1 then 2 else 3, score16 (e * 100)))
  else (e, none)

/-! ### BLANK-WEB (08 R256) -/

/-- The background of a column under the history lag. -/
def Core.background (c : Core) (n col : Nat) : Option (Rat × Rat × Rat) :=
  if n < c.lag then none
  else match c.sliceLine (col / 64) (n - c.lag) with
  | some l => l.bgs.getD (col % 64) none
  | none => none

/-- L*, NIR and GLS of a pixel: in units of L*, and in 1/16384 twice. -/
def Pix.blank (q : Pix) : Rat × Rat × Rat :=
  ((q.l : Rat) / 512, (q.nir : Rat), (toSigned 16 q.gls : Rat))

/-- The class and score of a pixel against its background, in the order of precedence. -/
def Core.blankPix (c : Core) (n col : Nat) (q : Pix) : Option (Nat × Nat) :=
  if n < 256 then none
  else match c.background n col with
  | none => none
  | some b =>
    let v := q.blank
    let d := (v.1 - b.1) * 100
    let t := (c.prof n 9 : Rat)
    let dn := absR (v.2.1 - b.2.1)
    let dg := absR (v.2.2 - b.2.2)
    if d < -t then some (5, score16 (-d))
    else if t < d then some (6, score16 d)
    else if (c.prof n 0x0C : Rat) < dn then some (8, score16 dn)
    else if (c.prof n 0x0D : Rat) < dg then some (9, score16 dg)
    else none

/-- |B_L - m| of a column, in 0.01 units. -/
def Core.streakDepth (c : Core) (n col : Nat) : Option Rat :=
  match c.background n col with
  | none => none
  | some b =>
    let ks := [-8, -7, -6, -5, -4, 4, 5, 6, 7, 8].filterMap (fun (d : Int) =>
      let k := (col : Int) + d
      if (c.firstCol : Int) ≤ k && k < (c.endCol : Int) then
        (c.background n k.toNat).map (·.1) else none)
    if ks.isEmpty then none
    else some (absR (b.1 - sumRat ks / (ks.length : Rat)) * 100)

/-- The streak of a column at line `n`, after the one at the line before (08 R256); none on a line that no descriptor
covers (08 R251). -/
def Core.streakStep (c : Core) (s n late col : Nat) : Nat × Bool × Nat :=
  let old := match (if n = 0 then none else c.sliceLine s (n - 1)) with
    | some l => l.streak.getD (col % 64) (0, false, 0)
    | none => (0, false, 0)
  if n < 256 || late = 1 || !c.blanks n col then (0, false, 0)
  else match c.streakDepth n col with
  | none => (0, false, 0)
  | some d =>
    if (c.prof n 0x0A : Rat) < d then
      (old.1 + 1, old.2.1 || decide (c.prof n 0x0B ≤ old.1 + 1), score16 d)
    else (0, false, 0)

/-- The background after a line: a weighted mean over the pixels inspected and not deviant. -/
def Core.bgStep (c : Core) (s late : Nat) (l : LineRec) (devs : List (Nat × Nat × Nat)) (col : Nat) :
    Option (Rat × Rat × Rat) :=
  let old := if l.n = 0 then none else match c.sliceLine s (l.n - 1) with
    | some k => k.bgs.getD (col % 64) none
    | none => none
  match c.pixAt l col with
  | none => old
  | some q =>
    if q.blind then old
    else match old with
    | none => some q.blank
    | some b =>
      if late = 1 || !c.blanks l.n col || devs.any (fun d => d.1 == col) then old
      else
        let t : Rat := (max 1 (c.prof l.n 0x0E) : Nat)
        let v := q.blank
        some (b.1 + (v.1 - b.1) / t, b.2.1 + (v.2.1 - b.2.1) / t, b.2.2 + (v.2.2 - b.2.2) / t)

/-! ### Per-line results of a slice (08 R248, R254, R256) -/

/-- The deviant pixels of a slice's line, by pixel, and the ΔE of its compared ones. -/
def Core.pixelDevs (c : Core) (s late : Nat) (l : LineRec) :
    List (Nat × Nat × Nat) × List (Nat × Rat) :=
  if late = 1 || c.isUnknown s l.n then ([], [])
  else
    let r := (sliceCols s).filterMap (fun col => match c.pixAt l col with
      | none => none
      | some q =>
        if q.blind then none
        else if c.compares l.n col then
          match c.pageAt l.n with
          | some (p, i) => if late = 2 then none else
              let e := c.comparePix p i s l.n col q
              some (col, e.2, if satL q then none else some e.1)
          | none => none
        else if c.blanks l.n col then some (col, c.blankPix l.n col q, none)
        else none)
    (r.filterMap (fun x => x.2.1.map (fun d => (x.1, d.1, d.2))),
     r.filterMap (fun x => x.2.2.map (fun e => (x.1, e))))

/-! ### Blobs (08 R270) -/

/-- Columns in ascending order, each once. -/
def insCol (k : Nat) : List Nat → List Nat
  | [] => [k]
  | a :: l => if k < a then k :: a :: l else if k = a then a :: l else a :: insCol k l

/-- Ascending columns in runs of adjacent ones; `cut s` separates slices s and s + 1. -/
def splitRuns (cut : Nat → Bool) : List Nat → List (List Nat)
  | [] => []
  | a :: l => match splitRuns cut l with
    | (b :: r) :: rest =>
      if b = a + 1 && !(a / 64 != b / 64 && cut (a / 64)) then (a :: b :: r) :: rest
      else [a] :: (b :: r) :: rest
    | other => [a] :: other

/-- Two columns of neighbouring lines touch by side or corner. -/
def touchCols (cut : Nat → Bool) (a b : Nat) : Bool :=
  decide (a ≤ b + 1) && decide (b ≤ a + 1) && !(a / 64 != b / 64 && cut (min a b / 64))

/-- A run of line `n` touches the columns of a blob in the line before. -/
def Blob.touches (cut : Nat → Bool) (cls : Nat) (run : List Nat) (b : Blob) : Bool :=
  b.cls == cls && run.any (fun x => b.tail.any (touchCols cut x))

/-- The first columns of a run in each slice it meets. -/
def runParts (run : List Nat) : List (Nat × Nat) :=
  run.foldl (fun l k => if l.any (fun p => p.1 == k / 64) then l else l ++ [(k / 64, k)]) []

def joinParts (a b : List (Nat × Nat)) : List (Nat × Nat) :=
  b.foldl (fun l p => if l.any (fun q => q.1 == p.1) then
    l.map (fun q => if q.1 == p.1 then (q.1, min q.2 p.2) else q) else l ++ [p]) a

/-- Two blobs joined: the union of bounds, areas and flags, the largest score (08 R272). -/
def Blob.join (a b : Blob) : Blob :=
  { a with
    first := min a.first b.first, last := max a.last b.last, c0 := min a.c0 b.c0, c1 := max a.c1 b.c1,
    tail := a.tail ++ b.tail, head := a.head ++ b.head, area := a.area + b.area,
    score := max a.score b.score, flags := a.flags ||| b.flags, parts := joinParts a.parts b.parts,
    met := a.met || b.met, flow := a.flow || b.flow }

/-- A blob of one run. -/
def runBlob (cls n : Nat) (run : List Nat) (score flags : Nat) : Blob :=
  { cls := cls, first := n, last := n, c0 := run.headD 0, c1 := run.getLastD 0, head := run,
    area := run.length, score := score, flags := flags, parts := runParts run }

/-- A slice holds as many open blobs as its engine has room for (08 R247, R270). -/
def noRoom (s : Nat) (l : List Blob) : Bool :=
  decide (64 + spillBytes / 64 ≤ (l.filter (fun b => !b.flow && b.parts.any (fun p => p.1 == s))).length)

/-- A run taken into the open blobs; with no room it joins the slice's overflow blob of its class.
Answers whether an overflow blob began. -/
def takeRun (cut : Nat → Bool) (l : List Blob) (b : Blob) : List Blob × Bool :=
  let mine := l.filter (Blob.touches cut b.cls b.head)
  let s := b.c0 / 64
  if !mine.isEmpty then
    (l.filter (fun x => !Blob.touches cut b.cls b.head x) ++ [mine.foldl Blob.join b], false)
  else if noRoom s l then
    let isFlow := fun (x : Blob) => x.flow && x.cls == b.cls && x.c0 / 64 == s
    let all : Blob := { b with c0 := 64 * s, c1 := max b.c1 (64 * s + 63), flow := true, flags := b.flags ||| 128 }
    if l.any isFlow then (l.map (fun x => if isFlow x then x.join all else x), false)
    else (l ++ [all], true)
  else (l ++ [b], false)

/-- The runs of a line's deviant pixels, class by class, each with its largest score. -/
def runsOf (cut : Nat → Bool) (n : Nat) (flags : List Nat → Nat) (devs : List (Nat × Nat × Nat)) :
    List Blob :=
  (List.range 13).flatMap (fun cls =>
    let mine := devs.filter (fun d => d.2.1 == cls)
    (splitRuns cut (mine.foldl (fun l d => insCol d.1 l) [])).map (fun run =>
      runBlob cls n run (maxNat ((mine.filter (fun d => run.contains d.1)).map (·.2.2))) (flags run)))

/-- The next line begins: the columns of the newest line become those of the line before. -/
def Blob.turn (b : Blob) : Blob := { b with tail := b.head, head := [] }

/-! ### Alarms of slice parts (08 R275) -/

/-- The channel of a class or status at a column; none without an alarm. `sub` is the sub of 2A70h. -/
def Core.channel (c : Core) (sub col : Nat) : Option Nat :=
  let v := c.obj 0x2A70 sub
  let base := v % 256
  let w := field v 23 8
  let ch := base + (if w = 0 then 0 else col / w)
  if base = 0xFF || 63 < ch then none else some ch

/-- Classes that raise alarms by pixel (08 R261). -/
def earlyClass (cls : Nat) : Bool := [1, 2, 3, 5, 6, 8, 9].contains cls

/-- The page or gap, and the sheet, of a web line. -/
def Core.lineMark (c : Core) (n : Nat) : Option Nat × Option Nat :=
  (match c.pageAt n with
   | some q => some (2 * q.2 + 1)
   | none => (c.pageFor n).map (fun q => 2 * q.2),
   if c.inSheet then (c.sheetOf n).map (·.first) else none)

/-- A page, gap or sheet ends between lines `n - 1` and `n`. -/
def Core.boundAt (c : Core) (n : Nat) : Bool := decide (0 < n) && c.lineMark n != c.lineMark (n - 1)

/-- What goes on of a blob that is divided: its columns in the line before, and nothing yet. -/
def Blob.rest (n flag : Nat) (b : Blob) : Blob :=
  { cls := b.cls, first := n, last := n, c0 := 65535, c1 := 0, tail := b.tail, area := 0, score := 0,
    flags := flag, parts := [] }

/-- The flags with which a blob that line `n` continues is divided there: TRUNC at a boundary, SPLIT at the line limit,
both where they meet (08 R270). -/
def Core.divides (c : Core) (n : Nat) (b : Blob) : Option Nat :=
  let f := 128 * b2n (c.boundAt n) + 64 * b2n (decide (c.obj 0x2A10 5 < n + 1 - b.first))
  if f = 0 then none else some f

/-- A slice's own blobs grown by its deviant pixels of a line, divided where blobs are. -/
def Core.growBlobs (c : Core) (n : Nat) (devs : List (Nat × Nat × Nat)) (mine : List Blob) : List Blob :=
  let runs := runsOf (fun _ => false) n (fun _ => 0) devs
  let start := (mine.map Blob.turn).map (fun b =>
    if (c.divides n b).isSome && runs.any (fun r => Blob.touches (fun _ => false) r.cls r.head b) then b.rest n 0 else b)
  (runs.foldl (fun l r => (takeRun (fun _ => false) l r).1) start).filter (fun b => !b.head.isEmpty)

/-- The slice's parts grown by a line, divided where their blobs are; the parts that first meet the alarm area and score in it
(08 R275). -/
def Core.growParts (c : Core) (s n : Nat) (devs : List (Nat × Nat × Nat)) (old : List Blob) :
    List Blob × List Blob :=
  let mine := old.filter (fun b => b.parts.any (fun p => p.1 == s))
  let rest := old.filter (fun b => !b.parts.any (fun p => p.1 == s))
  let grown := c.growBlobs n devs mine
  let meets := fun (b : Blob) => !b.met && decide (c.prof n 5 ≤ b.area) && decide (c.prof n 6 ≤ b.score)
  (rest ++ grown.map (fun b => if meets b then { b with met := true } else b), grown.filter meets)

/-- A channel is early while an enabled route from it has early release (08 R275). -/
def Core.earlyChannel (c : Core) (ch : Nat) : Bool := c.earlySet ch != 0

/-- A part that meets the criteria in line `n` as the line reaches the early stage (08 R275). -/
def Core.alarmEarly (now : Nat) (l : LineRec) (c : Core) (b : Blob) : Core :=
  match (if earlyClass b.cls then c.channel b.cls b.c0 else none) with
  | none => c
  | some ch => match l.res with
    | none => if c.earlyChannel ch then c.raise now ch b.first l.n
        else c.mapEng (fun e => { e with heldAl := e.heldAl ++ [(l.n, ch)] })
    | some _ => c.when l.conf (Core.confirmed ch)

/-! ### The early stage (08 R248) -/

/-- A line as it first reaches a slice's engine. -/
def Core.earlyStage (now s n : Nat) (c : Core) : Core :=
  match c.inspLine n with
  | none => c
  | some l =>
    if !c.job.running || !c.sliceOn s || c.earlyNext s != n || !c.carryReady s n then c
    else
      let c := c.windowRead now s n
      let late := c.lateness s n
      let devs := (c.pixelDevs s late l).1
      let g := c.growParts s n devs c.eng.parts
      let c := c.mapEng (fun e => { e with
        early := aput e.early s (n + 1), parts := g.1,
        lines := e.lines ++ [{ slice := s, line := n, late := late, prov := l.res.isNone }] })
      (g.2.foldl (fun c b => c.alarmEarly now l b) c).alarmsFollow now

def execEngineEarlyStage (t : Nat) (slice : Nat) (line : Nat) (s : State) :
    Host.Outcome State Fault Refusal :=
  State.run t (fun now c => c.earlyStage now slice line) s

/-! ### Tiles (08 R253, R255) -/

/-- The tile that holds a page line, and its last page line. -/
def Page.tileEnd (p : Page) (j : Nat) : Nat := min (16 * (j / 16) + 15) (p.len - 1)

/-- The image's L* codes of a tile with the columns and lines they stand at; a line that was REF_LATE takes no part: a
reference line that arrives late is never used (08 R253, R267). -/
def Core.tilePix (c : Core) (p : Page) (s tile : Nat) : List (Nat × Nat × Nat) :=
  (List.range 16).flatMap (fun k =>
    let j := 16 * tile + k
    if p.len ≤ j || ((c.sliceLine s (p.start + j)).map (·.late)).getD 0 != 0 then []
    else match c.inspLine (p.start + j) with
    | none => []
    | some l => (sliceCols s).filterMap (fun col => match c.pixAt l col with
      | some q => if q.blind || !c.compares (p.start + j) col then none else some (p.start + j, col, q.l)
      | none => none))

/-- Four times the reference L* byte at a whole offset. -/
def Core.refFour (c : Core) (p : Page) (i n col : Nat) (dx dy : Int) : Nat :=
  (c.refInterp p i (p.rasterX col dx) (((n - p.start : Nat) : Rat) + (dy : Rat)) 0 * 4).floor.toNat

/-- The correlation of a tile at a whole offset. -/
def Core.tileRho (c : Core) (p : Page) (i : Nat) (px : List (Nat × Nat × Nat)) (dx dy : Int) : Rat :=
  rho (px.map (·.2.2)) (px.map (fun q => c.refFour p i q.1 q.2.1 dx dy)) px.length

/-- The parabola's peak through three values, in 1/8 pixel. -/
def peakEighths (m z p : Rat) : Int :=
  let d := 2 * (m - 2 * z + p)
  if d = 0 then 0 else ratEven ((m - p) / d * 8)

/-- The offset of a tile where it is valid, in 1/8 pixel (08 R253). -/
def Core.tileValid (c : Core) (p : Page) (i s tile : Nat) : Option (Int × Int) :=
  let px := c.tilePix p s tile
  let r : Int := (p.prof.getD 6 4 : Nat)
  let offs := (List.range (2 * r.toNat + 1)).flatMap (fun a => (List.range (2 * r.toNat + 1)).map (fun b =>
    ((b : Int) - r, (a : Int) - r)))
  let best := offs.foldl (fun (o : Option (Rat × Int × Int)) d =>
    let v := c.tileRho p i px d.1 d.2
    match o with
    | some x => if x.1 < v then some (v, d) else some x
    | none => some (v, d)) none
  let n : Int := px.length
  let var := n * sumInt (px.map (fun q => (q.2.2 : Int) * q.2.2)) - sumInt (px.map (fun q => (q.2.2 : Int))) ^ 2
  match best with
  | none => none
  | some (v, dx, dy) =>
    if v < 1 / 2 || decide (var < 1048576 * n * n) then none
    else
      let at_ := fun a b => c.tileRho p i px a b
      some (8 * dx + (if dx.natAbs = r.toNat then 0 else peakEighths (at_ (dx - 1) dy) v (at_ (dx + 1) dy)),
        8 * dy + (if dy.natAbs = r.toNat then 0 else peakEighths (at_ dx (dy - 1)) v (at_ dx (dy + 1))))

/-- Every compared pixel of a tile's lines deviant in a class (08 R255). -/
def Core.tileDeviant (p : Page) (s tile cls score : Nat) (c : Core) : Core :=
  c.mapEng (fun e => { e with lines := e.lines.map (fun l =>
    if l.slice == s && l.late == 0 && p.start + 16 * tile ≤ l.line &&
        l.line ≤ p.start + p.tileEnd (16 * tile) && !c.isUnknown s l.line then
      { l with devs := l.devs ++ (sliceCols s).filterMap (fun col =>
          let blind := match (c.inspLine l.line).bind (fun k => c.pixAt k col) with
            | some q => q.blind
            | none => true
          if blind || !c.compares l.line col || l.devs.any (fun d => d.1 == col && d.2.1 == cls) then none
          else some (col, cls, score)) }
    else l) })

/-- A tile whose last line has been through the verdict stage (08 R253, R255). -/
def Core.tileStep (s n : Nat) (c : Core) : Core :=
  match c.pageAt n with
  | none => c
  | some (p, i) =>
    let j := n - p.start
    if !c.pageCompares p || j != p.tileEnd j || !(sliceCols s).any (fun k =>
        (c.pageCols p).1 ≤ k && k < (c.pageCols p).2) then c
    else
      let tile := j / 16
      let prev := (c.eng.tiles.filter (fun t => t.page == i && t.slice == s)).getLast?
      let v := c.tileValid p i s tile
      let o := v.getD ((prev.map (fun t => (t.dx, t.dy))).getD (0, 0))
      let es := ((c.eng.lines.filter (fun l => l.slice == s && p.start + 16 * tile ≤ l.line && l.line ≤ n)).flatMap
        (·.des)).map (·.2)
      let mean := sumRat es / (es.length : Rat)
      let c := c.mapEng (fun e => { e with tiles := e.tiles ++ [{
        page := i, slice := s, tile := tile, dx := o.1, dy := o.2, last := n }] })
      let c := c.when (!es.isEmpty && decide ((p.prof.getD 2 0 : Rat) < mean * 100))
        (Core.tileDeviant p s tile 3 (score16 (mean * 100)))
      match v with
      | none => c
      | some d =>
        let sq := (d.1 * d.1 + d.2 * d.2).toNat
        c.when (decide (p.prof.getD 7 0 * p.prof.getD 7 0 < sq)) (Core.tileDeviant p s tile 4 (min 65535 sq.sqrt))

/-! ### The verdict stage (08 R248, R249, R255, R256) -/

/-- The status of a slice-line, one by precedence: BLIND, UNKNOWN, REF_LATE (15 R444). -/
def Core.sliceStatus (c : Core) (s late : Nat) (l : LineRec) : Nat :=
  let blind := (sliceCols s).any (fun k => match c.pixAt l k with
    | some q => q.blind
    | none => false)
  if blind then 2 else if c.isUnknown s l.n then 1 else if late ≠ 0 then 4 else 0

/-- A streak declared at line `n` makes every pixel from its first line on deviant (08 R256). -/
def Core.streakDeviant (s n : Nat) (c : Core) : Core :=
  match c.sliceLine s n with
  | none => c
  | some l =>
    (sliceCols s).foldl (fun c col =>
      let k := l.streak.getD (col % 64) (0, false, 0)
      if !k.2.1 then c
      else c.mapEng (fun e => { e with lines := e.lines.map (fun x =>
        if x.slice == s && n < x.line + k.1 && x.line ≤ n &&
            !x.devs.any (fun d => d.1 == col && d.2.1 == 7) && !c.isUnknown s x.line then
          { x with devs := x.devs ++ [(col, 7, (x.streak.getD (col % 64) (0, false, 0)).2.2)] }
        else x) })) c

/-- The blob of a slice, of its own pixels up to a line, that has a column of that line. -/
def Core.sliceBlob (c : Core) (s cls edge n : Nat) : Option Blob :=
  ((c.eng.lines.filter (fun l => l.slice == s && l.line ≤ n)).foldl (fun (o : List Blob) l =>
    c.growBlobs l.line (l.devs.filter (fun d => d.2.1 == cls)) o) []).find? (·.head.contains edge)

/-- The message of a blob that touches an edge of its slice in a line (08 R272): the sender's blob label, class, bounds,
area and score, as its blob stands with that line. The manual numbers no label; the model's is made of the blob's first
line, the column of its first run and its class, so that no two blobs of a slice share one (DESIGN CHOICE, log entry
144). -/
def Core.edgeMessage (c : Core) (s k edge n cls : Nat) : List Msg :=
  match c.sliceBlob s cls edge n with
  | none => []
  | some b => [{
      fromS := s, toS := k, line := n, label := (b.first * 64 + (b.parts.headD (s, 0)).2 % 64) * 16 + cls, cls := cls,
      first := b.first, last := b.last, c0 := b.c0, c1 := b.c1, area := b.area, score := b.score,
      toJ := (c.engWalk (k / 64)).jServes == some k }]

/-- Messages to the slices beside it, for what a slice's lines have become deviant in since `old`: one for each line
and class that stands on an edge (08 R272). -/
def Core.edgeMessages (s : Nat) (old : List SliceLine) (c : Core) : Core :=
  let post := fun (l : SliceLine) (k edge : Nat) =>
    let was := ((old.find? (fun x => x.slice == s && x.line == l.line)).map (·.devs)).getD []
    if !c.sliceOn k then [] else
      (l.devs.filter (fun d => d.1 == edge && !was.contains d)).flatMap (fun d =>
        c.edgeMessage s k edge l.line d.2.1)
  c.mapEng (fun e => { e with msgs := e.msgs ++ (e.lines.filter (fun l => l.slice == s)).flatMap (fun l =>
    (if s = 0 then [] else post l (s - 1) (64 * s)) ++ post l (s + 1) (64 * s + 63)) })

/-- The next resolved line of a slice through its verdict stage. -/
def Core.verdictLine (now s : Nat) (c : Core) : Core :=
  let n := c.verdictNext s
  match c.inspLine n, c.sliceLine s n with
  | some l, some e =>
    if l.res.isNone || !c.carryReady s n then c
    else
      let c := c.windowRead now s n
      let old := c.eng.lines
      let r := c.pixelDevs s e.late l
      let st := c.sliceStatus s e.late l
      let k := (sliceCols s).map (fun col => c.streakStep s n e.late col)
      let bg := (sliceCols s).map (fun col => c.bgStep s e.late l
        (r.1 ++ (k.zipIdx.filter (fun x => x.1.2.1)).map (fun x => (64 * s + x.2, 7, 0))) col)
      let g := c.growParts s n r.1 c.eng.vparts
      let c := c.mapSliceLine s n (fun x => { x with
        status := st, devs := r.1, des := r.2, bgs := bg, streak := k })
      let c := c.mapEng (fun x => { x with verdict := aput x.verdict s (n + 1), vparts := g.1 })
      let c := c.when (st == 4) (Core.bump 0x2A20 7)
      let c := c.when (e.prov && l.res == some .replace && l.conf) (fun c =>
        g.2.foldl (fun c b => match (if earlyClass b.cls then c.channel b.cls b.c0 else none) with
          | some ch => c.confirmed ch
          | none => c) c)
      ((c.tileStep s n).streakDeviant s n).edgeMessages s old
  | _, _ => c

end Sys2Proof.Machine
end

