-- ==== Sys2Proof/Machine/Collector.lean ====
section
/-!
DEFINITION. What the slices find, over the whole run (08 R257 to R260, R267 to R273, R281): blobs
across slices, status records, colour bars and marks, the record collector with its loss runs (15
R451), and PAGE_DONE.
-/

namespace Sys2Proof.Machine

/-! ### Records (08 R261, R269) -/

/-- The kernel of a class (08 R261). -/
def kernelOf (cls : Nat) : Nat :=
  if cls = 0 then 0 else if cls ≤ 4 then 1 else if cls ≤ 9 then 2 else if cls = 10 then 3 else 4

/-- Flags [3] to [5] of a line (08 R269). -/
def lineFlags (status : Nat) : Nat := status % 8 * 8

def Core.lineDcLow (c : Core) (n : Nat) : Nat := match c.inspLine n with
  | some l => l.dc % 2 ^ 32
  | none => 0

/-- A record handed to the collector. -/
def Core.pushRec (r : Rec) (c : Core) : Core := c.mapEng (fun e => { e with recs := e.recs ++ [r] })

/-- CONFIRMED events of a record, one for each slice part (08 R275). -/
def Core.confirmParts (sub : Nat) (parts : List (Nat × Nat)) (c : Core) : Core :=
  parts.foldl (fun c p => match c.channel sub p.2 with
    | some ch => c.confirmed ch
    | none => c) c

/-- A line imaged while the loop coasted without velocimetry: it carries COASTED and is not confirmed (05 R160, 08 R276). -/
def LineRec.coastedOnly (l : LineRec) : Bool := l.status.testBit 2 && !l.conf && l.cols.any (fun q => !q.blind)

/-- A record's lines give an alarm: not all of them were imaged in coasting without velocimetry, whose material gives
none (08 R276; which holds of a record that has both is not stated: DESIGN CHOICE, log entry 165). -/
def Core.alarming (c : Core) (first ext : Nat) : Bool :=
  !(List.range ext).all (fun i => ((c.inspLine (first + i)).map LineRec.coastedOnly).getD false)

/-- The parts of a stretch of columns. -/
def colParts (c0 c1 : Nat) : List (Nat × Nat) :=
  (List.range (c1 / 64 + 1 - c0 / 64)).map (fun i => (c0 / 64 + i, max c0 (64 * (c0 / 64 + i))))

/-- A blob closed: its record where its area is enough (08 R270). -/
def Core.closeBlob (extra : Nat) (c : Core) (b : Blob) : Core :=
  if b.area < c.prof b.first 4 then c
  else
    let c := c.pushRec {
      first := b.first, ext := b.last + 1 - b.first, c0 := b.c0, c1 := b.c1, cls := b.cls, kern := kernelOf b.cls,
      score := b.score, page := c.pageId b.first, dc := c.lineDcLow b.first, ctx := c.inspCtx,
      flags := b.flags ||| extra }
    c.when (!earlyClass b.cls && c.alarming b.first (b.last + 1 - b.first)) (Core.confirmParts b.cls b.parts)

/-- A run of slice-lines with one status closed (08 R271). -/
def Core.closeRun (extra : Nat) (c : Core) (r : StatRun) : Core :=
  c.pushRec {
    first := r.first, ext := r.last + 1 - r.first, c0 := 64 * r.s0, c1 := 64 * r.s1 + 63, cls := 0, kern := 0,
    score := 0, page := c.pageId r.first, dc := c.lineDcLow r.first, ctx := c.inspCtx,
    flags := r.flag ||| r.lines ||| extra ||| (if r.split then 64 else 0) }

/-! ### Final lines -/

/-- The deviant pixels of a slice's line are complete: its tile has ended and no streak that reaches
back to it is undecided; at the job's last line all that is open stays as it is (08 R255, R256). -/
def Core.isFinal (c : Core) (n s : Nat) : Bool :=
  let v := c.verdictNext s
  decide (n < v) &&
  ((match c.job.lineLast with | some l => decide (l < v) | none => false) ||
   ((match c.pageAt n with
     | some (p, _) => !c.pageCompares p || decide (c.pageCols p ≠ (0, 0) ∧ 64 * s + 64 ≤ (c.pageCols p).1) ||
         decide ((c.pageCols p).2 ≤ 64 * s) || decide (p.start + p.tileEnd (n - p.start) < v)
     | none => true) &&
    match (if v = 0 then none else c.sliceLine s (v - 1)) with
    | some l => l.streak.all (fun k => k.1 == 0 || k.2.1 || decide (n + k.1 < v))
    | none => true))

def Core.frontReady (c : Core) : Bool :=
  let n := c.eng.front
  (c.inspLine n).isSome && !c.slices.isEmpty && c.slices.all (c.isFinal n) &&
  !c.eng.msgs.any (fun m => m.line ≤ n)

/-! ### Blobs across slices (08 R270, R272) -/

def Core.statusOf (c : Core) (s n : Nat) : Nat := match c.sliceLine s n with
  | some l => l.status
  | none => 0

/-- The edge between slices s and s + 1 is cut in a line: a status beside it, or a STALE answer. -/
def Core.edgeCut (c : Core) (n s : Nat) : Bool :=
  c.statusOf s n != 0 || c.statusOf (s + 1) n != 0 || c.eng.edgeCuts.contains (n, s)

/-- TRUNC of a run that ends at a cut edge of the enabled run's slices (08 R270, R281). -/
def Core.runTrunc (c : Core) (n : Nat) (run : List Nat) : Nat :=
  let a := run.headD 0
  let b := run.getLastD 0
  let west := a % 64 == 0 && a != 0 && c.sliceOn (a / 64 - 1) &&
    (c.statusOf (a / 64 - 1) n != 0 || c.eng.edgeCuts.contains (n, a / 64 - 1))
  let east := b % 64 == 63 && c.sliceOn (b / 64 + 1) &&
    (c.statusOf (b / 64 + 1) n != 0 || c.eng.edgeCuts.contains (n, b / 64))
  if west || east then 128 else 0

/-- One line formed into blobs. -/
def Core.blobStep (n : Nat) (c : Core) : Core :=
  match c.inspLine n with
  | none => c
  | some l =>
    let cut := fun s => c.edgeCut n s || (decide (0 < n) && c.edgeCut (n - 1) s)
    let devs := c.slices.flatMap (fun s => ((c.sliceLine s n).map (·.devs)).getD [])
    let runs := runsOf (c.edgeCut n) n (fun r => lineFlags l.status ||| c.runTrunc n r) devs
    let goes := fun (b : Blob) => runs.any (fun r => Blob.touches cut r.cls r.head b)
    let r := (c.eng.blobs.map Blob.turn).foldl (fun (r : Core × List Blob) b =>
      match (if goes b then c.divides n b else none) with
      | some flag => (r.1.closeBlob flag b, r.2 ++ [b.rest n flag])
      | none => (r.1, r.2 ++ [b])) (c, [])
    let q := runs.foldl (fun (q : List Blob × Nat) b =>
      let k := takeRun cut q.1 b
      (k.1, q.2 + b2n k.2)) (r.2, 0)
    let c := (q.1.filter (fun b => b.head.isEmpty)).foldl (Core.closeBlob 0) r.1
    (c.bumpBy 0x2A85 5 q.2).mapEng (fun e => { e with blobs := q.1.filter (fun b => !b.head.isEmpty) })

/-! ### Status records (08 R271, R275) -/

/-- The sub of 2A70h of a status flag. -/
def statusSub (flag : Nat) : Nat := if flag = 1 then 0x0D else if flag = 2 then 0x0E else 0x0F

/-- Runs of adjacent slices with one status in a line: flag, first and last slice. -/
def Core.statusRuns (c : Core) (n : Nat) : List (Nat × Nat × Nat) :=
  c.slices.foldl (fun l s =>
    let f := c.statusOf s n
    if f = 0 then l
    else match l.getLast? with
      | some (g, a, b) => if g = f && b + 1 = s then l.dropLast ++ [(f, a, s)] else l ++ [(f, s, s)]
      | none => [(f, s, s)]) []

def Core.statusStep (n : Nat) (c : Core) : Core :=
  match c.inspLine n with
  | none => c
  | some l =>
    let now := c.statusRuns n
    let lim := c.obj 0x2A10 5
    let same := fun (r : StatRun) (k : Nat × Nat × Nat) => r.flag == k.1 && r.s0 == k.2.1 && r.s1 == k.2.2
    let gone := c.eng.runs.filter (fun r => !now.any (same r))
    let full := c.eng.runs.filter (fun r => now.any (same r) && decide (lim < n + 1 - r.first))
    let kept := c.eng.runs.filter (fun r => now.any (same r) && !decide (lim < n + 1 - r.first))
    let fresh := now.filter (fun k => !kept.any (fun r => same r k))
    let c := full.foldl (Core.closeRun 64) (gone.foldl (Core.closeRun 0) c)
    let c := c.when (!l.coastedOnly) (fun c =>
      fresh.foldl (fun c k => c.confirmParts (statusSub k.1) (colParts (64 * k.2.1) (64 * k.2.2 + 63))) c)
    let runs := kept.map (fun r => { r with last := n, lines := r.lines ||| lineFlags l.status }) ++
      fresh.map (fun k => ({
        s0 := k.2.1, s1 := k.2.2, first := n, last := n, flag := k.1, lines := lineFlags l.status,
        split := full.any (fun r => same r k) } : StatRun))
    c.mapEng (fun e => { e with runs := runs })

/-- What is open at the job's last line: blobs and runs cut there (08 R270, R271). -/
def Core.cutOpen (c : Core) : Core :=
  let c := c.eng.blobs.foldl (Core.closeBlob 128) c
  let c := c.eng.runs.foldl (Core.closeRun 0) c
  c.mapEng (fun e => { e with blobs := [], runs := [] })

/-- Every line that has become final, in order. -/
def Core.advanceFront : Nat → Core → Core
  | 0, c => c
  | f + 1, c =>
    if !c.frontReady then c
    else
      let n := c.eng.front
      let c := ((c.blobStep n).statusStep n).mapEng (fun e => { e with front := n + 1 })
      let c := c.when (c.job.lineLast == some n) Core.cutOpen
      c.advanceFront f

/-! ### Colour bars (08 R257, R258) -/

/-- The pixels of a rectangle of resolved lines. -/
def Core.areaPix (c : Core) (l0 l1 c0 c1 : Nat) : List (Nat × Nat × Pix) :=
  (List.range (l1 - l0)).flatMap (fun i => match c.inspLine (l0 + i) with
    | some l => (List.range (c1 - c0)).filterMap (fun k =>
        (c.pixAt l (c0 + k)).map (fun q => (l0 + i, c0 + k, q)))
    | none => [])

/-- The union of the flags of lines. -/
def Core.flagsOver (c : Core) (l0 l1 : Nat) : Nat :=
  (List.range (l1 - l0)).foldl (fun f i => match c.inspLine (l0 + i) with
    | some l => f ||| lineFlags l.status
    | none => f) 0

/-- The first line of a region that is inspected: a line that the entry row reached before the page was read is not
(08 R251, R265). -/
def Page.regionFrom (p : Page) (r : Region) : Nat := max (p.start + r.line) (p.readAt + 1).toNat

/-- A record of a region kernel, with its CONFIRMED events (08 R261, R275). -/
def Core.regionRec (p : Page) (r : Region) (c0 c1 cls kern score : Nat) (c : Core) : Core :=
  let l0 := p.regionFrom r
  let ext := p.start + r.line + r.lines - l0
  (c.pushRec {
    first := l0, ext := ext, c0 := c0, c1 := c1, cls := cls, kern := kern, score := score, page := p.id,
    dc := c.lineDcLow l0, ctx := c.inspCtx, flags := c.flagsOver l0 (l0 + ext) }).when (c.alarming l0 ext)
    (Core.confirmParts cls (colParts c0 c1))

/-- One patch: its ΔE in 0.01, FFFFh without a measurement. -/
def Core.patch (p : Page) (r : Region) (i : Nat) (c : Core) : Nat × Core :=
  let w := r.width / max 1 r.p1
  let x := p.col + r.col + i * w
  let y := p.start + r.line
  let px := c.areaPix (max (p.regionFrom r) (y + (r.lines + 4) / 5)) (y + 4 * r.lines / 5) (x + (w + 4) / 5) (x + 4 * w / 5)
  let good := px.filter (fun q => !q.2.2.blind && !satL q.2.2)
  let n := good.length
  if n = 0 || 2 * n < px.length then (0xFFFF, c.regionRec p r x (x + w - 1) 11 3 (min 65535 n))
  else
    let mean := fun (f : Rat × Rat × Rat → Rat) => sumRat (good.map (fun q => f q.2.2.colour)) / (n : Rat)
    let lab : Rat × Rat × Rat := (mean (fun v => v.1), mean (fun v => v.2.1), mean (fun v => v.2.2))
    let t : Int × Int × Int := ((p.targets.find? (fun t => t.1 == r.base + i)).map (fun t => t.2)).getD (0, 0, 0)
    let e := deltaE lab ((t.1 : Rat) / 100, (t.2.1 : Rat) / 100, (t.2.2 : Rat) / 100)
    let v := score16 (e * 100)
    let i16 := fun (q : Rat) => ofSigned 16 (clampInt (-32768) 32767 (ratEven (q * 100)))
    let c := (c.raiseTo 0x6110 1 (y + r.lines - 1)).put 0x6110 2 i
    let c := (((c.put 0x6110 3 (i16 lab.1)).put 0x6110 4 (i16 lab.2.1)).put 0x6110 5 (i16 lab.2.2)).put 0x6110 6 v
    let c := c.put 0x6110 7 ((c.obj 0x6110 7 + 1) % 65536)
    (v, c.when (decide ((r.tol : Rat) < e * 100)) (Core.regionRec p r x (x + w - 1) 10 3 v))

/-- A bar whose last line has been through the verdict stage. -/
def Core.bar (p : Page) (r : Region) (c : Core) : Core :=
  let q := (List.range r.p1).foldl (fun (q : List Nat × Core) i =>
    let k := q.2.patch p r i
    (q.1 ++ [k.1], k.2)) ([], c)
  (List.range 64).foldl (fun c i => c.put 0x6111 (i + 1) (q.1.getD i 0xFFFF)) q.2

/-! ### Marks (08 R259, R260) -/

/-- A pixel of an ink class (08 R259). -/
def inInk (k : Nat) (q : Pix) : Bool :=
  let v := q.colour
  let h := hueDeg v.2.1 v.2.2
  let chroma := decide (400 ≤ v.2.1 * v.2.1 + v.2.2 * v.2.2)
  !q.blind && match k with
  | 0 => decide (v.1 < 30)
  | 1 => chroma && decide (180 ≤ h) && decide (h < 260)
  | 2 => chroma && (decide (320 ≤ h) || decide (h < 40))
  | 3 => chroma && decide (70 ≤ h) && decide (h < 110)
  | 4 => decide ((q.nir : Rat) / 16384 < 3 / 10)
  | _ => false

/-- A mark's centroid, column and web coordinate, where it is found, and its pixels. -/
def Core.markAt (c : Core) (k : Nat) (px : List (Nat × Nat × Pix)) : Option (Rat × Rat) × Nat :=
  let m := px.filter (fun q => inInk k q.2.2)
  let n := m.length
  if n < 16 || 65535 < n then (none, n)
  else (some (sumRat (m.map (fun q => (q.2.1 : Rat) + 1 / 2)) / (n : Rat),
    sumRat (m.map (fun q => (c.coordOf q.1 : Rat))) / (n : Rat)), n)

/-- The coordinate of the cut of a region that ends at line `n` (08 R260). -/
def Core.cutAt (c : Core) (n : Nat) : Option Rat :=
  if c.inSheet then (c.sheetOf n).map (fun s => (s.coord : Rat) - (s.frac : Rat) / 65536)
  else ((c.mot.cuts.filter (fun k => k.1 == c.obj 0x2A10 4 && decide (k.2.floor ≤ (n : Int)))).getLast?).map (·.2)

/-- A mark pair whose region's last line has been through the verdict stage. -/
def Core.marks (p : Page) (r : Region) (c : Core) : Core :=
  let l0 := p.regionFrom r
  let l1 := p.start + r.line + r.lines
  let x := p.col + r.col
  let px := c.areaPix l0 l1 x (x + r.width)
  let a := c.markAt r.p1 px
  let b := if r.p2 = 5 then ((c.cutAt (l1 - 1)).map (fun y => ((0 : Rat), y)), 0) else c.markAt r.p2 px
  match a.1, b.1, c.flagsOver l0 l1 == 0 with
  | some u, some v, true =>
    let ox := if r.p2 = 5 then 0 else (v.1 - u.1) * (c.obj 0x2404 1 : Rat) / 100000 - (r.dx : Rat)
    let oy := (v.2 - u.2) * c.pitch / 100000 - (r.dy : Rat)
    let i32 := fun (q : Rat) => ofSigned 32 (clampInt (-2147483648) 2147483647 (ratEven q))
    let c := ((c.raiseTo 0x6120 1 (l1 - 1)).put 0x6120 2 r.index).put 0x6120 3 (i32 ox)
    let c := (c.put 0x6120 4 (i32 oy)).put 0x6120 5 ((c.obj 0x6120 5 + 1) % 65536)
    c.when (decide ((r.tol : Rat) < absR ox) || decide ((r.tol : Rat) < absR oy))
      (Core.regionRec p r x (x + r.width - 1) 12 4 (score16 (max (absR ox) (absR oy) / 10)))
  | _, _, _ => c.regionRec p r x (x + r.width - 1) 11 4 (min 65535 (a.2 + b.2))

/-- The kernel of a region is enabled (08 R251). -/
def Core.regionRuns (c : Core) (r : Region) : Bool :=
  (r.kind == 1 && (c.obj 0x2A10 1).testBit 2) || (r.kind == 2 && (c.obj 0x2A10 1).testBit 3)

/-- Regions whose last line has been through every slice's verdict stage. -/
def Core.regionStep (c : Core) : Core :=
  c.pages.zipIdx.foldl (fun c q => q.1.regions.zipIdx.foldl (fun c k =>
    let done := match c.eng.pages[q.2]? with
      | some p => p.regDone.contains k.2
      | none => true
    if done || decide (c.eng.seen < q.1.start + k.1.line + k.1.lines) then c
    else
      let c := c.mapPage q.2 (fun p => { p with regDone := p.regDone ++ [k.2] })
      if !c.regionRuns k.1 || decide (q.1.start + k.1.line + k.1.lines ≤ q.1.regionFrom k.1) then c
      else if k.1.kind = 1 then c.bar q.1 k.1 else c.marks q.1 k.1) c) c

/-- The first line that some slice has not been through. -/
def Core.seenNow (c : Core) : Nat := match c.slices with
  | [] => 0
  | s :: l => l.foldl (fun m k => min m (c.verdictNext k)) (c.verdictNext s)

/-- What follows from a slice's progress. -/
def Core.engFollow (c : Core) : Core :=
  let n := c.seenNow
  let c := c.when (decide (c.eng.seen < n)) (fun c =>
    (c.mapEng (fun e => { e with seen := n })).put 0x2A20 4 (c.pageId (n - 1)))
  c.regionStep.advanceFront (n + 1 - c.eng.front)

/-- A slice engine processes its next resolved line (08 R248). -/
def Core.verdictStage (now s : Nat) (c : Core) : Core :=
  if !c.job.running || !c.sliceOn s then c
  else ((c.verdictLine now s).engFollow).alarmsFollow now

def execVerdictStage (t : Nat) (slice : Nat) (s : State) : Host.Outcome State Fault Refusal :=
  State.run t (fun now c => c.verdictStage now slice) s

/-! ### Neighbour messages (08 R272, R281) -/

/-- A message delivered, forwarded after a handover, or answered STALE; then its sender's blob part is
cut at the edge. -/
def Core.neighbourMsg (q : NbrMsg) (c : Core) : Core :=
  match c.eng.msgs.find? (fun m => m.fromS == q.fromSlice && m.toS == q.toSlice && m.line == q.line &&
      m.label == q.label) with
  | none => c
  | some m =>
    let w := c.eng.walks.getD (m.toS / 64) {}
    let nowJ := w.jServes == some m.toS
    let c := c.mapEng (fun e => { e with msgs := e.msgs.erase m })
    let c := match w.handover with
      | some (s, l) =>
        if s != m.toS then c
        else if m.toJ == nowJ && decide (m.line ≤ l) then
          (c.bump 0x2A85 1).mapEng (fun e => { e with edgeCuts := e.edgeCuts ++ [(m.line, min m.fromS m.toS)] })
        else if m.toJ != nowJ && decide (l < m.line) then c.bump 0x2A85 2
        else c
      | none => c
    c.engFollow

def execNeighbourMessage (t : Nat) (msg : NbrMsg) (s : State) : Host.Outcome State Fault Refusal :=
  State.run t (fun _ c => c.neighbourMsg msg) s

/-! ### The record collector (08 R273, 15 R451) -/

/-- The bytes of a record with its sequence number (08 R269). -/
def recBytes (r : Rec) (seq : Nat) : List Byte :=
  withCrc16 (leBytes 6 r.first ++ leBytes 2 r.ext ++ leBytes 2 r.c0 ++ leBytes 2 r.c1 ++ leBytes 1 r.cls ++
    leBytes 1 r.kern ++ leBytes 2 r.score ++ leBytes 4 r.page ++ leBytes 4 seq ++ leBytes 4 r.dc ++
    leBytes 1 r.ctx ++ leBytes 1 r.flags)

/-- A record issued with the next sequence number (08 R273, 15 R442); POSITION_UNCERTAIN as it stands
then (05 R162). -/
def Core.putRec (now : Nat) (r : Rec) (c : Core) : Core :=
  let u := c.mot.uncertain.any (fun p => p.1 < r.first + r.ext && r.first ≤ p.2)
  let r := if u then { r with flags := r.flags ||| 16 } else r
  let seq := c.eng.recSeq
  ((c.mapEng (fun e => { e with recSeq := (e.recSeq + 1) % 2 ^ 32 })).bump 0x2A85 6).issue now 0 (recBytes r seq)

/-- HOLD_OVERFLOW, once while the DFR reserve is full (15 R451). -/
def Core.overflowEvent (now : Nat) (c : Core) : Core :=
  if c.ev.maskOverflow.getD 0 false || c.slotFree 0 true then c
  else (c.mapEv (fun v => { v with maskOverflow := modAt v.maskOverflow 0 (fun _ => true) })).event
    now 0x8111 0xFF (leBytes 1 0)

/-- Records that are neither kept nor reported by record (15 R451). -/
def Core.notReported (now n : Nat) (c : Core) : Core := (c.bumpBy 0x3210 7 n).overflowEvent now

/-- A loss run ends with its loss record (15 R451). -/
def Core.endLoss (now : Nat) (c : Core) : Core :=
  match c.ev.loss with
  | none => c
  | some l =>
    let c := c.mapEv (fun v => { v with loss := none })
    if !c.slotFree 0 true then c.notReported now l.count
    else (c.bump 0x3210 8).putRec now {
      first := l.first, ext := min 65535 (l.last + 1 - l.first), c0 := c.firstCol, c1 := c.endCol - 1, cls := 0,
      kern := 0, score := min 65535 l.count, page := l.page, dc := l.dc, ctx := c.inspCtx, flags := 129 }

/-- A record that is not kept joins its loss run (15 R451). -/
def Core.loseRec (now : Nat) (r : Rec) (c : Core) : Core :=
  let c := c.mapEv (fun v => { v with lostLast := some r.first })
  if !c.slotFree 0 true then c.notReported now 1
  else
    let long := match c.ev.loss with
      | some l => decide (65535 < r.first + 1 - l.first)
      | none => false
    let c := c.when long (Core.endLoss now)
    c.mapEv (fun v => { v with loss := some (match v.loss with
      | some l => { l with last := r.first, count := l.count + 1 }
      | none => { first := r.first, last := r.first, count := 1, dc := r.dc, page := r.page }) })

def Core.issueRec (now : Nat) (r : Rec) (c : Core) : Core :=
  let c := c.when (c.slotFree 0 true) (Core.mapEv (fun v => { v with
    maskOverflow := modAt v.maskOverflow 0 (fun _ => false) }))
  let resumes := match c.ev.lostLast with
    | some l => decide (l < r.first)
    | none => true
  if c.slotFree 0 false && resumes then
    ((c.endLoss now).mapEv (fun v => { v with lostLast := none })).putRec now r
  else c.loseRec now r

/-- The order of records: first web line, first column, class (08 R273). -/
def Rec.before (a b : Rec) : Bool :=
  a.first < b.first || (a.first == b.first && (a.c0 < b.c0 || (a.c0 == b.c0 && a.cls < b.cls)))

/-- All lines of the job have been formed into blobs. -/
def Core.engDone (c : Core) : Bool := match c.job.lineLast with
  | some l => decide (l < c.eng.front)
  | none => false

/-- A region record whose first line is `n` or lower can still arise. -/
def Core.regionOpen (c : Core) (n : Nat) : Bool :=
  !c.engDone && c.pages.any (fun p => p.regions.zipIdx.any (fun k =>
    !p.regDone.contains k.2 && c.regionRuns k.1 && decide (p.regionFrom k.1 ≤ n)))

/-- No record that would precede one of first line `n` can still arise (08 R273). -/
def Core.settledTo (c : Core) (n : Nat) : Bool :=
  decide (n < c.eng.front) && c.eng.blobs.all (fun b => decide (n < b.first)) &&
  c.eng.runs.all (fun r => decide (n < r.first)) && !c.regionOpen n

/-- The record that stands first. -/
def Core.firstRec (c : Core) : Option Rec := match c.eng.recs with
  | [] => none
  | r :: l => some (l.foldl (fun a b => if b.before a then b else a) r)

def Core.collect (now : Nat) (c : Core) : Core :=
  match c.firstRec with
  | none => c
  | some r =>
    if !c.settledTo r.first then c
    else (c.mapEng (fun e => { e with recs := e.recs.erase r })).issueRec now r

def execRecordCollectorWrite (t : Nat) (s : State) : Host.Outcome State Fault Refusal :=
  State.run t (fun now c => c.collect now) s

/-! ### PAGE_DONE (08 R267, 15 R441) -/

/-- The last line of a page in the job. -/
def Core.pageLast (c : Core) (p : Page) : Nat := match c.job.lineLast with
  | some l => min (p.start + p.len - 1) l
  | none => p.start + p.len - 1

/-- The job has reached, or can still reach, a line of the page. -/
def Core.pageReached (c : Core) (p : Page) : Bool := match c.job.lineLast with
  | some l => decide (p.start ≤ l)
  | none => true

/-- A loss run that begins at line `l` or before it goes on (15 R441, R451): there is no space beyond the reserve yet, and
records of the job can still join it. -/
def Core.lossOpen (c : Core) (l : Nat) : Bool :=
  (match c.ev.loss with
    | some r => decide (r.first ≤ l)
    | none => false) && !c.slotFree 0 false && !(c.engDone && c.eng.recs.isEmpty)

/-- That run's loss record is issued. -/
def Core.lossEnds (now l : Nat) (c : Core) : Core :=
  c.when (match c.ev.loss with
    | some r => decide (r.first ≤ l)
    | none => false) (Core.endLoss now)

/-- PAGE_DONE of the next page, once every record whose first web line lies in it has been issued, the loss record among
them (08 R267, 15 R441). -/
def Core.pageDone (now : Nat) (c : Core) : Core :=
  match c.pages.zipIdx.find? (fun q => !q.1.done) with
  | none => c
  | some (p, i) =>
    let l := c.pageLast p
    if !c.pageReached p || !c.settledTo l || c.eng.recs.any (fun r => r.first ≤ l) || c.lossOpen l then c
    else (((c.lossEnds now l).mapPage i (fun p => { p with done := true })).bump 0x2A20 5).eventRaw now 0x0111 (c.stamp now) 0xFF 0
      (leBytes 8 p.cookie ++ leBytes 4 p.id)

def execPageDone (t : Nat) (s : State) : Host.Outcome State Fault Refusal :=
  State.run t (fun now c => c.pageDone now) s

/-- HOLD_OVERFLOW of the DFR reserve (15 R451); no other ring's partition reports in this way (15
R452). -/
def execHoldOverflow (t : Nat) (ring : Fin 6) (s : State) : Host.Outcome State Fault Refusal :=
  State.run t (fun now c => c.when (ring.val == 0) (Core.overflowEvent now)) s

end Sys2Proof.Machine
end

