-- ==== Sys2Proof/Machine/Walk.lean ====
section
/-!
DEFINITION. The journeyman engines (08 R277 to R282): the walk of a segment's engines, stalls and
failures, kernel packages, and the engines at job start.
-/

namespace Sys2Proof.Machine

/-- The slice and its neighbours stand past line `n`. -/
def Core.slicesPast (c : Core) (s n : Nat) : Bool :=
  (([s] ++ (if 0 < s then [s - 1] else []) ++ [s + 1]).filter c.sliceOn).all (fun k =>
    decide (n ≤ c.verdictNext k))

/-- A step begins: warm-up on the next engine, or the self step; the 65 steps of the lap before it have taken the time
since that lap's first (08 R277). -/
def Core.stepStart (now seg : Nat) (c : Core) : Core :=
  let w := c.engWalk seg
  let due := match w.stepStart with
    | some t => decide (t + c.obj 0x2A80 2 * 1000 ≤ now)
    | none => true
  c.when (c.flag 0x2A80 1 && c.job.running && c.inspecting && c.segOn seg && w.phase == 0 && !w.stopped && due)
    (fun c =>
      let c := c.when w.lapOver (Core.put 0x2A84 (seg + 1) ((now - w.lapStart) / 1000 % 2 ^ 32))
      c.mapEngWalk seg (fun w => { w with
        phase := if w.cur = 64 then 2 else 1, warmLine := c.pipe.nextLine, stepStart := some now, lapOver := false,
        lapStart := if w.cur = 0 then now else w.lapStart }))

def execEngineStepStart (t : Nat) (seg : Fin 8) (s : State) : Host.Outcome State Fault Refusal :=
  State.run t (fun now c => c.stepStart now seg.val) s

/-- The boundary line of a handover, where warm-up has ended and the slices beside have finished it. -/
def Core.boundary (c : Core) (seg phase : Nat) : Option (Nat × Nat) :=
  let w := c.engWalk seg
  let s := 64 * seg + w.cur
  let n := c.verdictNext s
  if w.phase == phase && decide (w.warmLine + 48 ≤ n) && c.slicesPast s n then some (s, n - 1) else none

/-- J takes the slice over at the line boundary that ends its warm-up (08 R277, R281). -/
def Core.engTakeover (seg : Nat) (c : Core) : Core :=
  match c.boundary seg 1 with
  | none => c
  | some b => c.mapEngWalk seg (fun w => { w with phase := 2, shown := w.cur, jServes := some b.1, handover := some b })

def execEngineTakeover (t : Nat) (seg : Fin 8) (s : State) : Host.Outcome State Fault Refusal :=
  State.run t (fun _ c => c.engTakeover seg.val) s

/-- A self-test ends (08 R277, R278). -/
def Core.selfTest (now seg : Nat) (pass : Bool) (c : Core) : Core :=
  let w := c.engWalk seg
  if w.phase ≠ 2 then c
  else if !pass then (c.bump 0x2A85 4).retireEngine now seg w.cur
  else if w.cur = 64 then
    (c.mapEngWalk seg (fun w => { w with phase := 0, cur := 0, lapOver := true })).bump 0x2A83 (seg + 1)
  else c.mapEngWalk seg (fun w => { w with phase := 3, warmLine := c.pipe.nextLine })

def execEngineSelfTestEnd (t : Nat) (seg : Fin 8) (pass : Bool) (s : State) :
    Host.Outcome State Fault Refusal :=
  State.run t (fun now c => c.selfTest now seg.val pass) s

/-- The slice returns to its engine (08 R277). -/
def Core.engHandback (seg : Nat) (c : Core) : Core :=
  match c.boundary seg 3 with
  | none => c
  | some b => c.mapEngWalk seg (fun w => { w with
      phase := 0, cur := w.cur + 1, jServes := none, handover := some b })

def execEngineHandback (t : Nat) (seg : Fin 8) (s : State) : Host.Outcome State Fault Refusal :=
  State.run t (fun _ c => c.engHandback seg.val) s

/-- The handshake watchdog expires (08 R279). -/
def Core.stall (now seg n last firstOpen : Nat) (c : Core) : Core :=
  match c.servedBy seg n with
  | none => c
  | some s =>
    if !c.job.running || !c.segOn seg then c
    else
      let c := c.event now 0x5020 seg (leBytes 1 n ++ leBytes 6 last)
      ((c.engineFails now seg n s last firstOpen).engFollow).alarmsFollow now

def execEngineStall (t : Nat) (seg : Fin 8) (engine : Fin 65) (last firstOpen : Nat) (s : State) :
    Host.Outcome State Fault Refusal :=
  State.run t (fun now c => c.stall now seg.val engine.val last firstOpen) s

/-! ### Kernel packages (08 R282) -/

def Core.packageCodes (c : Core) (signed : Bool) : List Nat :=
  reason (!signed) 0x0800002A ++ reason (c.mode != .standby) 0x08000021

/-- An accepted package; the manual does not lay out where it carries its kernels' versions. -/
def Core.packageTake (data : List Byte) (c : Core) : Core :=
  let q := (List.range 4).foldl (fun (q : List Nat × Core) _ =>
    let r := q.2.fresh
    (q.1 ++ [r.1 % 2 ^ 32], r.2)) ([], c)
  let c := ((q.2.clearDom 0x2A01).putDom 0x2A01 0 data).mapNv (fun n => { n with kernel := q.1 })
  q.1.zipIdx.foldl (fun c v => c.put 0x2A00 (v.2 + 1) v.1) c

def execKernelPackageWrite (t : Nat) (orig : Orig) (signed : Bool) (data : List Byte) (s : State) :
    Host.Outcome State Fault Refusal :=
  State.run t (fun now c => Core.answered orig 0x2A01 0
    (c.judged now orig 0x2A01 0 data (c.packageCodes signed) (Core.packageTake data))) s

/-! ### Job start (08 R256, R265, R269, R274, R284) -/

def Core.engJobStart (c : Core) : Core :=
  let c := c.mapEng (fun e => { e with
    pages := [], pglAnchor := false, pglWait := none, refs := [], fetched := 0, early := [], verdict := [], lines := [],
    tiles := [], parts := [], vparts := [], blobs := [], seen := 0, front := 0, msgs := [], edgeCuts := [],
    runs := [], unknown := [], recs := [], recSeq := 0, alarmNum := [], opens := [], heldAl := [],
    walks := e.walks.map (fun w => if w.permanent then w else { w with
      phase := 0, jServes := none, handover := none, stepStart := none, lapOver := false }) })
  let c := c.mapDram (fun d => { d with jobs := [] })
  let c := (List.range 8).foldl (fun c s => c.mapEngWalk s (fun w => w)) c
  let c := (c.unputs 0x2A20 [4, 5, 6, 7, 8]).unputs 0x2A85 [1, 2, 3, 4, 5, 6]
  let c := (c.unputs 0x2A86 [1, 2, 3, 4, 5, 6, 7, 8]).unputs 0x3210 [7, 8, 9, 0x0A]
  ((c.unput 0x6110 1).unput 0x6120 1).mapEv (fun v => { v with loss := none, lostLast := none })

end Sys2Proof.Machine
end

