-- ==== Sys2Proof/Machine/DramCtl.lean ====
section
/-!
DEFINITION. The DRAM controller (11 R335 to R362): address orders, the pick of a command, order between
requests, page policy, errors and poison with what each port makes of them, refresh, retirement and
migration of ranks. DRAM timing within a command is not modelled: a command comes when its timing
allows it.
-/

namespace Sys2Proof.Machine

/-! ### Address orders (11 R339) -/

/-- Where an address lies: its logical rank, bank, row, and its line's place in its rank in ascending
order of device address. -/
structure DramPlace where
  logical : Nat
  bank    : Nat
  row     : Nat
  line    : Nat
  deriving DecidableEq, Repr

def placeOf (order a : Nat) : DramPlace :=
  if order = 0 then
    { logical := 2 * field a 34 33 + field a 32 32, bank := field a 31 28, row := field a 27 12,
      line := field a 31 6 }
  else if order = 1 then
    { logical := 2 * field a 13 12 + field a 14 14, bank := field a 18 15, row := field a 34 19,
      line := field a 34 15 * 64 + field a 11 6 }
  else
    { logical := 2 * (field a 9 8 ^^^ field a 20 19 ^^^ field a 22 21) + field a 18 18,
      bank := field a 13 10 ^^^ field a 22 19, row := field a 34 19,
      line := field a 34 19 * 1024 + field a 17 10 * 4 + field a 7 6 }

/-- The device address of a line's place in a logical rank. -/
def dpaOf (order logical line : Nat) : Nat :=
  let ch := logical / 2
  let r := logical % 2
  if order = 0 then ch * 2 ^ 33 + r * 2 ^ 32 + line * 64
  else if order = 1 then (line / 64) * 2 ^ 15 + r * 2 ^ 14 + ch * 2 ^ 12 + line % 64 * 64
  else
    let row := line / 1024
    let high := row * 2 ^ 19
    let lo := ch ^^^ field high 20 19 ^^^ field high 22 21
    high + r * 2 ^ 18 + (line / 4 % 256) * 2 ^ 10 + lo * 2 ^ 8 + line % 4 * 64

def Core.order (c : Core) : Nat := c.obj 0x2E01 2
def Core.rankOf (c : Core) (logical : Nat) : Nat := c.obj 0x2E41 (logical + 1)
def Core.logicalOf (c : Core) (p : Nat) : Option Nat :=
  (List.range 8).find? (fun l => c.rankOf l == p)
def Core.rankState (c : Core) (p : Nat) : Nat := c.obj 0x2E44 (p + 1)
def Core.dramReady (c : Core) : Bool := c.obj 0x2E00 4 == 2

/-- The physical rank that serves a request (11 R356): below the copy pointer a read goes to the spare, as the copy's own
write does, which has not taken a number. -/
def Core.servedAt (c : Core) (r : DramReq) : Nat :=
  let w := placeOf c.order r.dpa
  match c.dram.mig with
  | some m => if r.id = c.dram.nextId && r.op != .read then m.dst
      else if r.op == .read && m.logical == w.logical && decide (w.line < m.ptr) then m.dst
      else c.rankOf w.logical
  | none => c.rankOf w.logical

/-! ### Arrival (11 R345, R347) -/

/-- The class of a port (11 R344). -/
def portClass (p : Nat) : Nat := [0, 1, 1, 2, 2, 3].getD p 3

/-- DUSK is being entered: the controller stops accepting requests and drains its queues (11 R359). -/
def Core.toDusk (c : Core) : Bool := match c.trans with
  | some tr => tr.target == .dusk
  | none => false

/-- The controller accepts requests. -/
def Core.dramAccepts (c : Core) : Bool := c.dramReady && !c.toDusk

def execDramRequest (t : Nat) (port : Fin 6) (dpa : Nat) (op : DramOp) (s : State) :
    Host.Outcome State Fault Refusal :=
  if dpaEnd ≤ dpa then .fault (.noSuchAddress dpa)
  else State.run t (fun now c => c.when c.dramAccepts (Core.dramArrive now port.val dpa op)) s

/-- Order of arrival: by controller cycle of 1.875 ns, then by port, then as received (11 R347). -/
def DramReq.before (a b : DramReq) : Bool :=
  let ca := a.arr * 8 / 15
  let cb := b.arr * 8 / 15
  decide (ca < cb) || (ca == cb && (decide (a.port < b.port) || (a.port == b.port && decide (a.id < b.id))))

def DramReq.sameLine (a b : DramReq) : Bool := a.dpa / 64 == b.dpa / 64

def rankLines : Nat := 2 ^ 26

/-- The moment from which a migration may copy its next line at its rate (11 R356; MB/s are bytes per µs). -/
def Core.copyFrom (c : Core) (m : Migration) : Nat :=
  m.start + ((m.ptr + 1) * 64000 + c.obj 0x2E40 3 - 1) / c.obj 0x2E40 3

/-- The request of the running migration, of port 5: the read of its next line, arrived when its rate allows it, then the
write of that line to the spare (11 R344, R356). -/
def Core.copyReq (c : Core) (now : Nat) : List DramReq := match c.dram.mig with
  | none => []
  | some m =>
    let dpa := dpaOf c.order m.logical m.ptr
    match m.pend with
    | some (a, b) => [⟨c.dram.nextId, 5, dpa, .write (BitVec.allOnes 64) b, a, a + c.obj 0x2E21 6⟩]
    | none =>
      let a := c.copyFrom m
      if decide (m.ptr < rankLines) && decide (a ≤ now) then [⟨c.dram.nextId, 5, dpa, .read, a, a + c.obj 0x2E21 6⟩]
      else []

/-- No earlier request to its line is still pending, a migration's among them; a port write waits until the line that is
being copied has been written (11 R347, R356). -/
def Core.unblocked (c : Core) (now : Nat) (r : DramReq) : Bool :=
  (c.dram.queue ++ c.copyReq now).all (fun e => !(e.before r && e.sameLine r)) &&
    (r.op == .read || r.id == c.dram.nextId ||
      !(c.copyReq now).any (fun e => e.op != .read && e.sameLine r))

/-! ### The pick (11 R346) -/

def DramReq.urgency (r : DramReq) (now : Nat) : Nat :=
  if r.dl < now then 2 else if r.arr + r.dl ≤ 2 * now then 1 else 0

def Core.effClass (c : Core) (now : Nat) (r : DramReq) : Nat :=
  if r.arr + c.obj 0x2E22 (portClass r.port + 1) < now then 0 else portClass r.port

def oldest (l : List DramReq) : Option DramReq :=
  l.foldl (fun o r => match o with
    | some q => some (if r.before q then r else q)
    | none => some r) none

def Core.bankKey (c : Core) (r : DramReq) : Nat := c.servedAt r * 16 + (placeOf c.order r.dpa).bank

def Core.openRowOf (c : Core) (k : Nat) : Option Nat :=
  (c.dram.openRow.find? (fun x => x.1 == k)).map (fun x => x.2.1)

def Core.rowHit (c : Core) (r : DramReq) : Bool :=
  c.openRowOf (c.bankKey r) == some (placeOf c.order r.dpa).row

/-- Whether the channel drains its writes in this cycle: enough of them stand, or a read waits on one; on entry to
DUSK also where no read is left (11 R346, R347, R359). The next read of a migration waits on the write of the line
before it (DESIGN CHOICE, log entry 164). -/
def Core.drains (c : Core) (now chan : Nat) : Bool :=
  let mine := (c.dram.queue ++ c.copyReq now).filter (fun r => c.servedAt r / 2 == chan)
  let w := (mine.filter (fun r => r.op != .read)).length
  let waits := mine.any (fun w => w.op != .read && (w.id == c.dram.nextId ||
    (c.dram.queue ++ c.copyReq now).any (fun r => r.op == .read && w.before r && w.sameLine r)))
  let last := c.toDusk && mine.all (fun r => r.op != .read)
  if c.dram.draining.getD chan false then waits || last || decide (16 < w) else waits || last || decide (48 ≤ w)

/-- The request that a channel issues. -/
def Core.pick (c : Core) (now chan : Nat) : Option DramReq :=
  let cs := (c.dram.queue ++ c.copyReq now).filter (fun r => c.servedAt r / 2 == chan &&
    (r.op == .read) != c.drains now chan && c.unblocked now r)
  let u2 := cs.filter (fun r => r.urgency now == 2)
  let u1 := cs.filter (fun r => r.urgency now == 1)
  if !u2.isEmpty then oldest u2
  else if !u1.isEmpty then oldest u1
  else
    let low := cs.foldl (fun k r => min k (c.effClass now r)) 3
    let pool := if c.obj 0x2E20 (chan + 1) = 0 then cs
      else cs.filter (fun r => c.effClass now r == low)
    match oldest (pool.filter c.rowHit) with
    | some r => some r
    | none => oldest pool

/-! ### Page policy (11 R349) -/

def Core.predictor (c : Core) (k : Nat) : Nat := (alook c.dram.pred k).getD 2

/-- An access by row: the predictor learns, and the row stays open or not. -/
def Core.access (now k row : Nat) (c : Core) : Core :=
  let p := c.predictor k
  let p' := match c.openRowOf k with
    | some r => if r = row then min 3 (p + 1) else p - 1
    | none => p
  c.mapDram (fun d => { d with
    pred := aput d.pred k p',
    openRow := d.openRow.filter (fun x => x.1 != k) ++ (if 2 ≤ p then [(k, row, now)] else []) })

/-! ### Retirement and migration (11 R354 to R358) -/

def Core.putRank (p st : Nat) (c : Core) : Core := c.store 0x2E44 (p + 1) st

def Core.freeSpare (c : Core) : Option Nat := [8, 9].find? (fun p => c.rankState p % 16 == 1)

def Core.migStatus (code logical : Nat) (c : Core) : Core := c.put 0x2E45 2 (code + 32 * logical)

/-- A migration of a rank begins on a spare. -/
def Core.migrate (now src dst logical : Nat) (c : Core) : Core :=
  let c := (c.put 0x2E44 (src + 1) 2).put 0x2E44 (dst + 1) 3
  let c := (c.migStatus 1 logical).put 0x2E45 3 0
  (c.mapDram (fun d => { d with mig := some { src := src, dst := dst, logical := logical, ptr := 0, start := now } })).mapNv
    (fun n => { n with migSwap := some (logical, dst) })

/-- No spare is free: the rank stays in service (11 R355). -/
def Core.degrade (now p : Nat) (c : Core) : Core :=
  if (c.rankState p).testBit 10 then c
  else (c.putRank p (c.rankState p + 1024)).event now 0x5041 0xFF (leBytes 1 p)

/-- A retirement begins: RANK_RETIRED and a migration, or DEGRADED. -/
def Core.beginRetire (now : Nat) (c : Core) (r : Nat × Nat) : Core :=
  match c.logicalOf r.1, c.freeSpare with
  | some l, some d => (c.event now 0x5040 0xFF (leBytes 1 r.1 ++ leBytes 1 r.2)).migrate now r.1 d l
  | some _, none => c.degrade now r.1
  | none, _ => c

/-- The retirements that waited, in order, until one of them migrates. -/
def Core.nextRetire (now : Nat) : Nat → Core → Core
  | 0, c => c
  | k + 1, c => match c.dram.mig, c.dram.retiring with
    | none, r :: l => Core.nextRetire now k ((c.mapDram (fun d => { d with retiring := l })).beginRetire now r)
    | _, _ => c

def Core.retirements (now : Nat) (c : Core) : Core := c.nextRetire now c.dram.retiring.length

/-- A physical rank is retired: causes 0 count, 1 uncorrectable, 2 request (11 R354); a free spare, which holds nothing,
without a migration. -/
def Core.retireRank (now p cause : Nat) (c : Core) : Core :=
  if c.rankState p % 16 = 1 then (c.putRank p 4).event now 0x5040 0xFF (leBytes 1 p ++ leBytes 1 cause)
  else if c.rankState p % 16 ≠ 0 || c.dram.retiring.any (fun r => r.1 == p) then c
  else (c.mapDram (fun d => { d with retiring := d.retiring ++ [(p, cause)] })).retirements now

/-- The count of a rank in the window has passed its threshold (11 R354). -/
def Core.countCheck (now p : Nat) (c : Core) : Core :=
  c.when (c.flag 0x2E40 4 && decide (c.obj 0x2E40 1 < c.dram.winErr.getD p 0)) (Core.retireRank now p 0)

/-- `n` correctable errors in a rank (11 R352, R354). -/
def Core.correctable (now p n : Nat) (c : Core) : Core :=
  if n = 0 then c
  else (((c.bumpBy 0x2E42 (p + 1) n).mapDram (fun d => { d with
    winErr := modAt d.winErr p (· + n) })).countCheck now p)

/-- The migration's spare fails: it is retired, and the copy restarts on the other spare (11 R357). -/
def Core.spareFails (now : Nat) (c : Core) : Core :=
  match c.dram.mig with
  | none => c
  | some m =>
    let c := ((c.putRank m.dst 4).event now 0x5040 0xFF (leBytes 1 m.dst ++ leBytes 1 1)).put
      0x2E44 (m.src + 1) 0
    let c := ((c.mapDram (fun d => { d with mig := none })).mapNv (fun n => { n with migSwap := none })).migStatus
      4 m.logical
    match c.freeSpare with
    | some d => c.migrate now m.src d m.logical
    | none => (c.degrade now m.src).retirements now

/-- The last line is copied (11 R356). -/
def Core.migrationDone (now : Nat) (c : Core) : Core :=
  match c.dram.mig with
  | none => c
  | some m =>
    if !c.dramReady || decide (m.ptr < rankLines) then c
    else
      let c := ((c.store 0x2E41 (m.logical + 1) m.dst).putRank m.src 4).putRank m.dst 0
      let c := ((c.migStatus 2 m.logical).put 0x2E45 3 rankLines).put 0x2E45 4
        ((now - m.start) / 1000000 % 2 ^ 32)
      let c := (c.mapDram (fun d => { d with mig := none, doneAt := some now })).mapNv
        (fun n => { n with migSwap := none })
      (c.event now 0x0125 0xFF (leBytes 1 m.logical ++ leBytes 1 m.dst)).retirements now

def execMigrationDone (t : Nat) (s : State) : Host.Outcome State Fault Refusal :=
  State.run t (fun now c => c.migrationDone now) s

/-- A running migration is aborted, or the abort comes as its map has changed (11 R358). -/
def Core.migrationAbort (now : Nat) (c : Core) : Core :=
  match c.dram.mig with
  | some m =>
    let c := ((c.put 0x2E44 (m.src + 1) 0).put 0x2E44 (m.dst + 1) 1).migStatus 3 m.logical
    ((c.mapDram (fun d => { d with mig := none })).mapNv (fun n => { n with migSwap := none })).retirements now
  | none => if c.dram.doneAt = some now ∧ c.obj 0x2E45 2 % 16 = 2 then
      c.put 0x2E45 2 (c.obj 0x2E45 2 ||| 16) else c

/-- The object's own refusals of 2E45h.01 (11 R362). -/
def Core.rankCodes (c : Core) (v : Nat) : List Nat :=
  reason (match c.dram.mig with
    | some m => decide (v = m.logical + 1)
    | none => false) 0x08000031

def Core.rankCommand (now v : Nat) (c : Core) : Core :=
  if v = 16 then c.migrationAbort now
  else c.retireRank now (c.rankOf (v - 1)) 2

def execRetireLogicalRank (t : Nat) (orig : Orig) (v : Byte) (s : State) :
    Host.Outcome State Fault Refusal :=
  State.run t (fun now c => c.command now orig 0x2E45 1 1 v.toNat (c.rankCodes v.toNat)
    (Core.rankCommand now v.toNat)) s

def execMigrationAbort (t : Nat) (orig : Orig) (s : State) : Host.Outcome State Fault Refusal :=
  State.run t (fun now c => c.command now orig 0x2E45 1 1 16 [] (Core.rankCommand now 16)) s

/-! ### Errors and poison (11 R352, R353) -/

/-- A line enters the poison list, if it has room; the event when it becomes full. -/
def Core.poisonLine (now dpa : Nat) (c : Core) : Core :=
  let l := dpa / 64
  if c.dram.poison.contains l || 4096 ≤ c.dram.poison.length then c
  else
    let c := c.mapDram (fun d => { d with poison := d.poison ++ [l] })
    let c := (c.put 0x2E46 1 c.dram.poison.length).put 0x2E46 2 (l * 64)
    let c := c.event now 0x5042 0xFF (leBytes 5 (l * 64))
    c.when (c.dram.poison.length == 4096) (fun c => c.event now 0x5043 0xFF (leBytes 1 0))

/-- A full write takes a line off the list. -/
def Core.unpoison (dpa : Nat) (c : Core) : Core :=
  let c := c.mapDram (fun d => { d with poison := d.poison.filter (fun l => l != dpa / 64) })
  c.put 0x2E46 1 c.dram.poison.length

/-- An uncorrectable error in the rank that served an access. -/
def Core.uncorrectable (now p dpa : Nat) (c : Core) : Core :=
  let c := (c.bump 0x2E43 (p + 1)).poisonLine now dpa
  if c.rankState p % 16 = 3 then c.spareFails now else c.retireRank now p 1

def spillBase : Nat := 0x7F8000000

/-- What a port makes of poison or a bus error (11 R353); reference reads and the holding store take it
at REF_LINE_ARRIVAL and HOLD_DRAIN, host HDM in the data it is given. Which frame and line an address of a frame
store holds, and which picture one of archive staging, is not stated: a free value (log entry 83). -/
def Core.portPoison (now port dpa : Nat) (c : Core) : Core :=
  if port = 1 ∧ spillBase ≤ dpa ∧ dpa < spillBase + 520 * spillBytes then
    let e := (dpa - spillBase) / spillBytes
    match c.servedBy (e / 65) (e % 65) with
    | some s =>
      if !c.job.running || !c.segOn (e / 65) then c
      else
        let n := c.verdictNext s
        ((c.engineFails now (e / 65) (e % 65) s (c.pipe.nextLine - 1) n).engFollow).alarmsFollow now
    | none => c
  else if port = 3 ∧ 0x7F0000000 ≤ dpa then
    let p := (dpa - 0x7F0000000) / 0x4000000
    let fs := c.ctx.frames.filter (fun f => f.port == p && f.slot)
    let k := c.fresh
    match fs[k.1 % fs.length]? with
    | some f =>
      let n := k.1 / fs.length % f.lines.length
      k.2.mapFrame f (fun r => { r with lost := true, lines := modAt r.lines n (List.map (fun _ => 0)) })
    | none => c
  else if port = 4 ∧ 0x7D0000000 ≤ dpa ∧ dpa < 0x7F0000000 then
    let k := c.fresh
    k.2.mapCtx (fun x => { x with
      staged := modAt x.staged (k.1 % x.staged.length) (fun p => { p with gap := true, bytes := [] }) })
  else if port = 2 then c.mapCxl (fun x => { x with ras := x.ras ++ [dpa] })
  else c

/-! ### Commands (11 R346 to R349) -/

/-- Read data goes to its port in the order of its requests. -/
def deliverGo (done : List (Nat × Nat × Option (List Byte))) (held : List Nat) :
    List (Nat × Nat) → List (Nat × Nat) × List (Nat × Nat × Option (List Byte))
  | [] => ([], [])
  | (p, i) :: l =>
    match done.find? (fun x => x.2.1 == i) with
    | some x => if held.contains p then
        let r := deliverGo done held l
        ((p, i) :: r.1, r.2)
      else
        let r := deliverGo done held l
        (r.1, x :: r.2)
    | none =>
      let r := deliverGo done (p :: held) l
      ((p, i) :: r.1, r.2)

def Core.dramDeliver (now : Nat) (c : Core) : Core :=
  let r := deliverGo c.dram.done [] c.dram.owed
  let c := c.mapDram (fun d => { d with
    owed := r.1, done := d.done.filter (fun x => !(r.2.any (fun y => y.2.1 == x.2.1))) })
  r.2.foldl (fun c x => (c.emit (.dramData x.1 x.2.1 x.2.2)).when (x.1 == 0) (Core.refData now x.2.1 x.2.2)) c

/-- A request completes. -/
def Core.dramComplete (now : Nat) (r : DramReq) (data : Option (Option (List Byte))) (c : Core) : Core :=
  let c := c.when (decide (r.dl < now)) (Core.bump 0x2E23 (r.port + 1))
  match data with
  | some v => (c.mapDram (fun d => { d with done := d.done ++ [(r.port, r.id, v)] })).dramDeliver now
  | none => c

/-- A read issued. -/
def Core.dramReadIssue (now : Nat) (m : List Host.Cell) (r : DramReq) (res : DramOutcome) (c : Core) : Core :=
  if c.poisoned r.dpa 64 then
    (c.dramComplete now r (some none)).portPoison now r.port r.dpa
  else
    let p := c.servedAt r
    let c := c.access now (c.bankKey r) (placeOf c.order r.dpa).row
    match res with
    | .clean => c.dramComplete now r (some (some (Memory.bytes m r.dpa 64)))
    | .corrected => (c.correctable now p 1).dramComplete now r (some (some (Memory.bytes m r.dpa 64)))
    | .uncorrectable | .spareUncorrectable =>
      ((c.uncorrectable now p r.dpa).dramComplete now r (some none)).portPoison now r.port r.dpa

/-- A write issued (11 R348, R352): to both ranks while its rank migrates. -/
def Core.dramWriteIssue (now : Nat) (m : List Host.Cell) (r : DramReq) (mask : BitVec 64) (data : List Byte)
    (c : Core) : List Host.Cell × Core :=
  if mask ≠ BitVec.allOnes 64 ∧ c.poisoned r.dpa 64 then
    (m, ((c.emit (.busError r.port)).dramComplete now r none).portPoison now r.port r.dpa)
  else
    let w := placeOf c.order r.dpa
    let c := c.access now (c.bankKey r) w.row
    let c := match c.dram.mig with
      | some g => c.when (g.logical == w.logical) (Core.access now (g.dst * 16 + w.bank) w.row)
      | none => c
    let c := c.when (mask == BitVec.allOnes 64 && c.poisoned r.dpa 64) (Core.unpoison r.dpa)
    (Memory.masked m r.dpa mask 0 (slice data 0 64), c.dramComplete now r none)

/-- A command of the running migration (11 R356, R357): the copy's read finds what the line holds, zero where it is poisoned,
and the copy's write moves the pointer. -/
def Core.copyLine (now : Nat) (r : DramReq) (res : DramOutcome) (m : List Host.Cell) (c : Core) :
    List Host.Cell × Core :=
  match c.dram.mig with
  | none => (m, c)
  | some g =>
    let w := placeOf c.order r.dpa
    let c := (c.access now (c.bankKey r) w.row).when (decide (r.dl < now)) (Core.bump 0x2E23 6)
    if res == .spareUncorrectable then (m, (c.bump 0x2E43 (g.dst + 1)).spareFails now)
    else match g.pend with
      | some (_, b) =>
        (Memory.masked m r.dpa (BitVec.allOnes 64) 0 b, (c.mapDram (fun d => { d with
          mig := some { g with ptr := g.ptr + 1, pend := none } })).put 0x2E45 3 (g.ptr + 1))
      | none =>
        let bad := c.poisoned r.dpa 64 || res == .uncorrectable
        let c := c.mapDram (fun d => { d with
          mig := some { g with pend := some (now, if bad then zeros 64 else Memory.bytes m r.dpa 64) } })
        (m, if c.poisoned r.dpa 64 then c
          else if res == .corrected then c.correctable now g.src 1
          else if res == .uncorrectable then (c.bump 0x2E43 (g.src + 1)).poisonLine now r.dpa
          else c)

/-- One command of a channel. -/
def Core.dramCommand (now chan : Nat) (res : DramOutcome) (m : List Host.Cell) (c : Core) :
    List Host.Cell × Core :=
  if !c.dramReady then (m, c)
  else
    let w := c.drains now chan
    let pick := c.pick now chan
    let c := c.mapDram (fun d => { d with draining := modAt d.draining chan (fun _ => w) })
    match pick with
    | none => (m, c)
    | some r =>
      let c' := c.mapDram (fun d => { d with queue := d.queue.filter (fun x => x.id != r.id) })
      if r.id = c.dram.nextId then c.copyLine now r res m
      else match r.op with
        | .read => (m, c'.dramReadIssue now m r res)
        | .write mask data => c'.dramWriteIssue now m r mask data

def execDramCommand (t : Nat) (chan : Fin 5) (res : DramOutcome) (s : State) :
    Host.Outcome State Fault Refusal :=
  State.runMem t (fun now m c => c.dramCommand now chan.val res m) s

/-! ### Refresh, row closing, drift and windows (11 R343, R349 to R351, R354) -/

/-- The next bank of a rank is refreshed; the dies' scrub counts are read (11 R350, R352). -/
def Core.refresh (now rank scrub : Nat) (c : Core) : Core :=
  c.when c.dramReady (fun c => (c.mapDram (fun d => { d with
    refBank := modAt d.refBank rank (fun b => (b + 1) % 16) })).correctable now rank scrub)

def execPerBankRefresh (t : Nat) (rank : Fin 10) (scrubErrors : Nat) (s : State) :
    Host.Outcome State Fault Refusal :=
  State.run t (fun now c => c.refresh now rank.val scrubErrors) s

/-- A row idle for 2E25h.00 is closed. -/
def Core.rowClose (now rank bank : Nat) (c : Core) : Core :=
  c.mapDram (fun d => { d with openRow := d.openRow.filter (fun x =>
    !(x.1 == rank * 16 + bank && decide (x.2.2 + c.obj 0x2E25 0 ≤ now))) })

def execRowIdleClose (t : Nat) (rank : Fin 10) (bank : Fin 16) (s : State) :
    Host.Outcome State Fault Refusal :=
  State.run t (fun now c => c.rowClose now rank.val bank.val) s

/-- A delay moved one step towards the new centre. -/
def stepDelay (drift : Int) (v : Nat) : Nat :=
  if 0 < drift then min 255 (v + 1) else v - 1

/-- A lane whose drift exceeds 3/64 UI moves its delays one step. -/
def Core.laneDrift (c : Core) (p : Int × Nat) : Core :=
  if -3 ≤ p.1 ∧ p.1 ≤ 3 then c
  else
    let v := c.obj 0x2E10 (p.2 + 1)
    (c.put 0x2E10 (p.2 + 1) (v / 65536 * 65536 + stepDelay p.1 (field v 15 8) * 256 +
      stepDelay p.1 (field v 7 0))).bump 0x2E11 0

def Core.measureDrift (drift : List Int) (c : Core) : Core :=
  c.when c.dramReady (fun c => ((drift.take 20).zipIdx.foldl Core.laneDrift c).mapDram
    (fun d => { d with drift := drift.take 20 }))

def execWckDqMeasure (t : Nat) (drift : List Int) (s : State) : Host.Outcome State Fault Refusal :=
  State.run t (fun _ c => c.measureDrift drift) s

/-- MR4 of a rank's dies asks for the interval multiplier `need` in quarters (11 R351). -/
def Core.mr4Rank (now : Nat) (c : Core) (p : Nat × Nat) : Core :=
  let band := c.obj 0x2E30 1
  let high := decide (p.1 < band)
  let begins := high && !c.dram.mr4Over.getD p.2 false
  let c := c.mapDram (fun d => { d with
    mr4 := modAt d.mr4 p.2 (fun _ => p.1), mr4Over := modAt d.mr4Over p.2 (fun _ => high) })
  c.when begins (fun c => (c.event now 0x0128 0xFF (leBytes 1 p.2)).bump 0x2E30 2)

def execMr4Read (t : Nat) (need : List Nat) (s : State) : Host.Outcome State Fault Refusal :=
  State.run t (fun now c => c.when c.dramReady (fun c => (need.take 10).zipIdx.foldl (Core.mr4Rank now) c)) s

/-- The refresh multiplier that a rank follows (11 R350, R351). -/
def Core.refreshMult (c : Core) (rank : Nat) : Nat := min (c.obj 0x2E30 1) (c.dram.mr4.getD rank 4)

/-- The window of correctable errors restarts, each window as long as 2E40h.02 says (11 R354). -/
def Core.windowRestart (now : Nat) (c : Core) : Core :=
  let w := c.obj 0x2E40 2 * 1000000000
  if now < c.dram.winAt + w then c
  else
    let c := (List.range 10).foldl (fun c p => c.countCheck now p) c
    c.mapDram (fun d => { d with winErr := List.replicate 10 0, winAt := d.winAt + (now - d.winAt) / w * w })

def execErrorWindowRestart (t : Nat) (s : State) : Host.Outcome State Fault Refusal :=
  State.run t (fun now c => c.windowRestart now) s

/-- The controller's own state after BOOT or Dawn (11 R349, R356). -/
def Core.pagesRestart (c : Core) : Core := c.mapDram (fun d => { d with
  queue := [], draining := List.replicate 5 false, openRow := [], pred := [], done := [], owed := [], jobs := [] })

end Sys2Proof.Machine
end

