-- ==== Sys2Proof/Machine/Cxl.lean ====
section
/-!
DEFINITION. The CXL attachment (13 R382 to R421) but for its register accesses: resets, the host link, rings
and doorbells, the drain of the holding store (15 R450, R453), interrupts, host-managed memory and
snoops. The mailbox's registers stand here too, since a reset of the attachment stops its request.
-/

namespace Sys2Proof.Machine

/-! ### The mailbox's header and response (02 R62, R63, R67) -/

/-- A field of the request that was taken. -/
def Core.reqField (c : Core) (off n : Nat) : Nat :=
  leNat ((sgets (fun _ => 0) c.mbx.taken off n).map (BitVec.ofNat 8))

/-- The response: status, flags, the request's tag, index and sub, abort code and payload. -/
def Core.mbxResponse (status flags abort : Nat) (data : List Byte) (c : Core) : Core :=
  c.mapMbx (fun m => { m with
    rsp := leBytes 1 status ++ leBytes 1 flags ++ leBytes 2 (c.reqField 2 2) ++ leBytes 2 (c.reqField 4 2) ++
      leBytes 1 (c.reqField 6 1) ++ leBytes 1 0 ++ leBytes 4 abort ++ leBytes 4 data.length ++ data })

/-- The request ends: BUSY clears, COMPLETE or ABORTED sets, the interrupt follows. -/
def Core.mbxFinish (aborted : Bool) (c : Core) : Core :=
  let tag := c.reqField 2 2
  (c.mapMbx (fun m => { m with
    busy := false, tag := tag, complete := m.complete || !aborted,
    aborted := m.aborted || aborted })).when c.mbx.irqEn (Core.msix 0)

/-- A running request stopped before any value changes (02 R67). -/
def Core.mbxStop (c : Core) : Core :=
  if !c.mbx.busy then c
  else ((c.mapMbx (fun m => { m with xfer := none })).mbxResponse 2 0 0 []).mbxFinish true

/-! ### Host link (13 R384 to R387, R417, R419) -/

/-- The host link goes down (13 R386, 15 R447). -/
def Core.linkDown (now cause : Nat) (c : Core) : Core :=
  if !c.cxl.hostUp then c
  else ((c.mapCxl (fun x => { x with hostUp := false, downAt := now })).bump 0x3000 7).condOn now 0x8110 0xFF 0
    (leBytes 1 cause)

/-- The CXL link goes down. -/
def Core.dlDown (c : Core) : Core :=
  c.when c.cxl.dlUp (Core.mapCxl (fun x => { x with dlUp := false }))

/-- The rings and payload areas disabled; what is held stays held. -/
def Core.ringsOff (dflt : Bool) (c : Core) : Core :=
  c.framesCut.mapCxl (fun x => { x with rings := x.rings.map (fun r =>
    if dflt then { held := r.held, old := r.old, lastOut := r.lastOut } else { r with enable := false }) })

/-- Every page but staging of a running job back in host bias. -/
def Core.biasReset (c : Core) : Core :=
  c.mapCxl (fun x => { x with
    devBias := if c.job.running then x.devBias.filter c.stagingPage else [] })

/-- The attachment resets (13 R387). -/
def Core.attachReset (now : Nat) (c : Core) : Core :=
  let c := (c.mbxStop.ringsOff true).biasReset.refsDiscard
  let c := c.dlDown |>.mapCxl (fun x => { x with
    d0 := true, master := false, recSince := none, training := false, msix := [], pba := [],
    shadow := [], half := [], hdmOk := false, hdmErr := false, cache := [],
    cfg := [], comp := [], d3Want := false })
  (c.bump 0x3000 0x0A).linkDown now 1

def execPerstNAssert (t : Nat) (kind : AttachReset) (s : State) : Host.Outcome State Fault Refusal :=
  State.run t (fun now c => (c.attachReset now).mapCxl (fun x => { x with
    perst := x.perst || kind == .perstN })) s

/-- A function-level reset (13 R387). -/
def Core.flr (c : Core) : Core :=
  (c.mbxStop.ringsOff false).mapCxl (fun x => { x with msix := [], pba := [] })

def execFlr (t : Nat) (s : State) : Host.Outcome State Fault Refusal :=
  State.run t (fun _ c => c.flr) s

/-- D3hot: acknowledged once the outstanding reference reads are complete (13 R417). -/
def Core.toD3 (now : Nat) (c : Core) : Core :=
  if c.eng.refs.any (fun r => decide (r.got < r.asked)) then c.mapCxl (fun x => { x with d3Want := true })
  else (c.mapCxl (fun x => { x with d0 := false, d3Want := false })).linkDown now 2

def execRefLineArrival (t : Nat) (ok : Bool) (data : List Byte) (s : State) :
    Host.Outcome State Fault Refusal :=
  State.run t (fun now c =>
    let c := c.refArrive now ok data
    c.when c.cxl.d3Want (Core.toD3 now)) s

/-- A cause of link down holds (13 R386); a recovery must have lasted 1 ms; DL_Down resets the attachment too, where
its reset has not come yet (13 R387). -/
def Core.hostLinkDown (now : Nat) (cause : LinkDownCause) (c : Core) : Core :=
  match cause with
  | .recovery => match c.cxl.recSince with
    | some a => if a + 1000000 ≤ now then c.linkDown now 0 else c
    | none => c
  | .dlDown => if c.cxl.dlUp then c.attachReset now else (c.mapCxl (fun x => { x with recSince := none })).linkDown now 1
  | .d3hot => c.toD3 now
  | .busMasterOff => (c.mapCxl (fun x => { x with master := false })).linkDown now 3

def execHostLinkDown (t : Nat) (cause : LinkDownCause) (s : State) : Host.Outcome State Fault Refusal :=
  State.run t (fun now c => c.hostLinkDown now cause) s

/-- What waits for the link or for payload space of area `i` tries again (07 R243, 13 R409). -/
def Core.payloadFreed (now i : Nat) (c : Core) : Core :=
  if i = 7 then
    c.ctx.frames.foldl (fun c f => if f.mvDue && f.side then c.auxSend now f.port else c) c
  else if i = 9 then c.drainArchive now
  else c

/-- The link can carry data again: auxiliary frames before archive pictures (07 R243). -/
def Core.payloadRetry (now : Nat) (c : Core) : Core := (c.payloadFreed now 7).payloadFreed now 9

/-- The conditions hold again: L0, D0, Bus Master Enable (13 R386). -/
def Core.hostLinkUp (now : Nat) (c : Core) : Core :=
  if c.cxl.hostUp || !c.cxl.dlUp || c.cxl.perst then c
  else
    let was := c.active 0x8110 0
    let c := c.mapCxl (fun x => { x with hostUp := true, d0 := true, master := true, d3Want := false, recSince := none })
    let c := c.when was (Core.raiseTo 0x3000 9 ((now - c.cxl.downAt) / 1000000 % 2 ^ 32)) |>.msixPending
    ((c.condOff 0x8110 0).event now 0x012A 0xFF []).payloadRetry now

def execHostLinkUp (t : Nat) (s : State) : Host.Outcome State Fault Refusal :=
  State.run t (fun now c => c.hostLinkUp now) s

/-- BOOT has trained the DRAM, so the link may train (13 R387). -/
def Core.mayTrain (c : Core) : Bool := !c.cxl.perst && 2 ≤ c.obj 0x2E00 4

/-- The link trains at a width and rate (13 R384, R385); below 8 GT/s it runs in PCIe-only operation (13 R382). -/
def Core.linkTrained (now width rate10 : Nat) (cxl : Bool) (c : Core) : Core :=
  if !c.mayTrain then c
  else
    let mode := (if c.cxl.dlUp then c.cxl.cxlMode else cxl && c.flag 0x3001 1) && decide (80 ≤ rate10)
    let c := c.mapCxl (fun x => { x with dlUp := true, training := false, recSince := none, cxlMode := mode })
    let c := ((c.put 0x3000 2 (width % 256)).put 0x3000 3 (rate10 % 65536)).put 0x3000 4
      (toF32 (planning width rate10))
    (c.when (decide (width < 8) || decide (rate10 < 320)) (fun c => (c.summary 0).event now 0x0129 0xFF
      (leBytes 1 width ++ leBytes 1 (rate10 / 10)))).payloadRetry now

def execLinkTrained (t : Nat) (width rate10 : Nat) (cxl : Bool) (s : State) :
    Host.Outcome State Fault Refusal :=
  State.run t (fun now c => c.linkTrained now width rate10 cxl) s

/-- The link leaves L0 and L1 into Recovery (13 R386). -/
def execLinkRecovery (t : Nat) (s : State) : Host.Outcome State Fault Refusal :=
  State.run t (fun now c => c.when (c.cxl.dlUp && c.cxl.recSince.isNone) (fun c =>
    (c.mapCxl (fun x => { x with recSince := some now })).bump 0x3000 8)) s

/-- PERST_N released: training starts (13 R387). -/
def execPerstNRelease (t : Nat) (s : State) : Host.Outcome State Fault Refusal :=
  State.run t (fun _ c => c.when c.cxl.perst (Core.mapCxl (fun x => { x with
    perst := false, training := true }))) s

/-- 3000h.01 (13 R421). -/
def Core.linkState (c : Core) : Nat :=
  if !c.cxl.dlUp then (if c.cxl.training && c.mayTrain then 1 else 0)
  else if c.cxl.recSince.isSome then 4
  else if c.cxl.cxlMode then 2 else 3

/-! ### Rings (13 R402 to R409) -/

/-- The smallest and largest log2 size of ring `i` (13 R402). -/
def sizeRange (i : Nat) : Nat × Nat := if i = 2 then (4, 16) else if i < 7 then (4, 20) else (14, 28)

/-- The largest unit that the settings in force can give a payload area, bytes (13 R409). -/
def Core.largestUnit (c : Core) (i : Nat) : Nat :=
  if i = 7 then
    let mv := fun n => if c.flag (mvIdx n) 1 then c.obj (mvIdx n) 6 * c.mvPitch n else 0
    let aux := fun p => if c.flag (auxIdx p) 0x0C then
      c.obj (auxIdx p) 4 * ((c.obj (auxIdx p) 3 * pixBytes (c.obj (auxIdx p) 2) + 63) / 64 * 64) else 0
    maxNat [mv 0, if c.splitOn then mv 1 else 0, aux 0, aux 1]
  else if i = 8 then (if c.flag 0x2830 1 then 196608 else 0)
  else if i = 9 then (if c.flag 0x2840 1 then (c.pictureMax + 63) / 64 * 64 else 0)
  else 0

def Core.areaFits (c : Core) (i : Nat) : Bool := decide (2 * c.largestUnit i ≤ 2 ^ (c.ring i).size * 64)

/-- Refusals of 13 R409 for WEB and SHEET. -/
def Core.areaCodes (c : Core) : List Nat :=
  reason ([7, 8, 9].any (fun i => (c.ring i).enable && !c.areaFits i)) 0x08000031

/-- HOST owns RINGS (13 R391). -/
def Core.ringOwned (c : Core) : Bool := c.owner 7 == .host

/-- The registers of ring `i` allow it to be enabled (13 R405). -/
def Core.ringValid (c : Core) (i : Nat) : Bool :=
  let r := c.ring i
  r.base % 4096 == 0 && r.wb % 8 == 0 && decide ((sizeRange i).1 ≤ r.size) && decide (r.size ≤ (sizeRange i).2) &&
    (i < 7 || c.areaFits i)

/-- The writeback at ENABLE, which makes no new unit visible: its vector comes where every writeback raises it
(13 R405, R416). -/
def Core.firstWriteback (i : Nat) (c : Core) : Core :=
  let r := c.ring i
  (c.emit (.hostWrite r.wb (c.writebackBytes i))).when
    (r.irqEn && i < 7 && r.irqCnt == 0 && r.irqUs == 0) (Core.msix (ringVector i))

/-- ENABLE set: indices at 0 and the writeback, then what waits for space of the area; or CONFIG_ERROR
(13 R405, R419). -/
def Core.ringOn (now i : Nat) (c : Core) : Core :=
  if (c.ring i).enable then c
  else if c.ringValid i then
    let c := c.mapRing i (fun r => { r with
      enable := true, prod := 0, cons := 0, unrep := 0, since := none, dbErr := false, cfgErr := false })
    ((c.when (i == 7) Core.framesCut).when c.sends (Core.firstWriteback i)).payloadFreed now i
  else (c.mapRing i (fun r => { r with cfgErr := true })).summary 5

def execRingEnable (t : Nat) (ring : Fin 10) (s : State) : Host.Outcome State Fault Refusal :=
  State.run t (fun now c => if c.ringOwned then c.ringOn now ring.val else c.ringRefused) s

def Core.ringStop (i : Nat) (c : Core) : Core := c.mapRing i (fun r => { r with enable := false })

def execRingDisable (t : Nat) (ring : Fin 10) (s : State) : Host.Outcome State Fault Refusal :=
  State.run t (fun _ c => if c.ringOwned then c.ringStop ring.val else c.ringRefused) s

/-- A doorbell value (13 R404). -/
def Core.doorbell (now i v : Nat) (c : Core) : Core :=
  let r := c.ring i
  let step := (v + 2 ^ 32 - (if i = 6 then r.prod else r.cons)) % 2 ^ 32
  let room := if i = 6 then 2 ^ r.size - r.used else r.used
  if room < step then (c.mapRing i (fun r => { r with dbErr := true })).summary 2
  else if i = 6 then c.mapRing i (fun r => { r with prod := v })
  else (c.mapRing i (fun r => { r with cons := v })).payloadFreed now i

def execDoorbell (t : Nat) (ring : Fin 10) (v : Word32) (s : State) : Host.Outcome State Fault Refusal :=
  State.run t (fun now c => if c.ringOwned then c.doorbell now ring.val v.toNat else c.ringRefused) s

/-- The void entry of 15 R453. -/
def voidEntry (n : Nat) : List Byte := withCrc16 (leBytes 2 0xFFFF ++ zeros (n - 4))

/-- A record of the same job that stands `d` places after another: its number says so. -/
def follows (d : Nat) (a b : List Byte) : Bool := !a.isEmpty && leAt b 20 4 == (leAt a 20 4 + d) % 2 ^ 32

/-- The loss record in the place of a lost record: from the readable record before it to the next readable one, `d` places
after it (15 R453). Where the job has neither, no first web line and no time are stated: free values. -/
def Core.lossFor (prev next lost : List Byte) (d : Nat) (c : Core) : List Byte × Core :=
  let near := if follows 1 prev lost then prev else if follows d lost next then next else []
  let r := c.fresh
  let near := if near.isEmpty then leBytes 6 r.1 ++ zeros 18 ++ leBytes 4 (r.1 / 2 ^ 48) else near
  let c := r.2
  let first := leAt near 0 6
  let ext := if follows d lost next then min 65535 (leAt next 0 6 + 1 - first) else 1
  (withCrc16 (leBytes 6 first ++ leBytes 2 ext ++ leBytes 2 c.firstCol ++ leBytes 2 (c.endCol - 1) ++ leBytes 1 0 ++
    leBytes 1 0 ++ leBytes 2 1 ++ leBytes 4 (c.pageId first) ++ leBytes 4 (leAt lost 20 4) ++
    leBytes 4 (leAt near 24 4) ++ leBytes 1 c.inspCtx ++ leBytes 1 129), c)

/-- A statistics block with one poisoned line of its body at 0, and TRUNC. -/
def blankLine (k : Nat) (e : List Byte) : List Byte :=
  let off := 64 * (1 + k % 255)
  let e := leBytes 2 (leAt e 0 2) ++ leBytes 2 (leAt e 2 2 ||| 16) ++ e.drop 4
  e.take off ++ zeros 64 ++ e.drop (off + 64)

/-- An entry lost to poison: its loss record, SUMMARY_LOST over its range, or a void entry (15 R453). -/
def Core.drainLost (now i more : Nat) (e prev : List Byte) (rest : List (List Byte)) (c : Core) : Core :=
  let next := (rest.drop more).headD []
  if i = 0 then
    let r := (c.bump 0x3210 8).lossFor prev next e (more + 1)
    r.2.produce now i r.1
  else if i = 1 then
    let own := leAt e 0 6
    let a := if prev.isEmpty || own ≤ leAt prev 0 6 then own else leAt prev 0 6 + 1
    let b := if next.isEmpty then own else max own (leAt next 0 6 - 1)
    (c.bump 0x3210 9).eventRaw now 0x0113 (c.stamp now) 0xFF 0 (leBytes 6 a ++ leBytes 1 0xFF ++ leBytes 6 b)
  else c.produce now i (voidEntry (unitSize i))

/-- The oldest held entry of a ring is written (15 R450, R453). An entry of one line has two copies, so that a poisoned
one of them loses nothing (15 R449). -/
def Core.drainOne (now i : Nat) (found : HoldRead) (c : Core) : Core :=
  match (c.ring i).held with
  | [] => c
  | e :: rest =>
    if !c.ringOpen i then c
    else
      let prev := (c.ring i).lastOut
      let c := c.mapRing i (fun r => { r with held := rest, old := r.old - 1 })
      (match found with
        | .whole => c.produce now i e
        | .bodyLine k => c.produce now i (if i = 2 then blankLine k e else e)
        | .lost more => c.drainLost now i more e prev rest).lossReports now

/-- The next entry that outbound ring `i` is due: while it is open, the oldest held one; else the next record of
the collector, or the next picture or GAP that stands staged, to its ring or held; then what the ring owes in
reports. Every other entry is issued by its unit when the unit forms it, so no entry enters a ring that no unit
numbered, and none out of its order (13 R406, R407, 00 R17). -/
def Core.entryIssue (now i : Nat) (c : Core) : Core :=
  if c.ringOpen i && !(c.ring i).held.isEmpty then c.drainOne now i .whole
  else
    let c := if i = 0 then c.collect now else if i = 5 then c.archiveDrain now 1 else c
    c.lossReports now

def execRingEntryIssue (t : Nat) (ring : Fin 6) (s : State) : Host.Outcome State Fault Refusal :=
  State.run t (fun now c => c.entryIssue now ring.val) s

def execHoldDrain (t : Nat) (ring : Fin 6) (found : HoldRead) (s : State) :
    Host.Outcome State Fault Refusal :=
  State.run t (fun now c => c.drainOne now ring.val found) s

/-- The holding store has been emptied (13 R407, R415). -/
def Core.holdEmptied (now : Nat) (c : Core) : Core :=
  if c.cxl.drained || c.cxl.rings.any (fun r => !r.held.isEmpty) then c
  else ((c.mapCxl (fun x => { x with drained := true })).event now 0x0116 0xFF []).msix 12

def execHoldEmptied (t : Nat) (s : State) : Host.Outcome State Fault Refusal :=
  State.run t (fun now c => c.holdEmptied now) s

/-- The time threshold after the first unreported unit (13 R416). -/
def Core.irqTime (now i : Nat) (c : Core) : Core :=
  let r := c.ring i
  match r.since with
  | some a => if r.irqEn && r.irqUs != 0 && decide (a + r.irqUs * 1000 ≤ now) then
      (c.mapRing i (fun r => { r with unrep := 0, since := none })).msix (ringVector i) else c
  | none => c

def execIrqTimeThreshold (t : Nat) (ring : Fin 7) (s : State) : Host.Outcome State Fault Refusal :=
  State.run t (fun now c => c.irqTime now ring.val) s

def execEvtSummaryClear (t : Nat) (v : Word32) (s : State) : Host.Outcome State Fault Refusal :=
  State.run t (fun _ c => c.mapCxl (fun x => { x with summary := x.summary &&& ~~~v })) s

/-! ### Host-managed device memory (13 R392 to R397) -/

/-- The page range of 3010h. -/
def Core.flipRange (c : Core) : Nat × Nat := (c.obj 0x3010 1 / 2 ^ 21, c.obj 0x3010 2)

def Core.flipCodes (c : Core) : List Nat :=
  let r := c.flipRange
  let stage := (List.range (c.obj 0x3010 2)).any (fun k => c.stagingPage (r.1 + k))
  reason (decide (hdmEnd < c.obj 0x3010 1 + r.2 * 2 ^ 21)) 0x06090030 ++
  reason (c.job.running && stage) 0x0800002C ++ reason c.cxl.flip.isSome 0x08000031

def Core.flipStart (v : Nat) (c : Core) : Core :=
  let r := c.flipRange
  (c.mapCxl (fun x => { x with flip := some ⟨r.1, r.2, v == 1⟩ })).put 0x3010 4 1

/-- A flip command judged; a refused one reads refused unless a flip runs (13 R395). -/
def Core.flipWrite (now : Nat) (o : Orig) (data : List Byte) (c : Core) : Nat × Core :=
  let own := c.flipCodes
  let r := c.judged now o 0x3010 3 data own (Core.flipStart (leNat data))
  (r.1, r.2.when (own.contains r.1 && c.cxl.flip.isNone) (Core.put 0x3010 4 3))

def Core.flipCommand (now : Nat) (o : Orig) (v : Nat) (c : Core) : Core :=
  Core.answered o 0x3010 3 (c.flipWrite now o (leBytes 1 v))

def execBiasFlipDevice (t : Nat) (orig : Orig) (s : State) : Host.Outcome State Fault Refusal :=
  State.run t (fun now c => c.flipCommand now orig 1) s

def execBiasFlipHost (t : Nat) (orig : Orig) (s : State) : Host.Outcome State Fault Refusal :=
  State.run t (fun now c => c.flipCommand now orig 2) s

/-- Reads that the device has outstanding in a range of pages (13 R395). -/
def Core.readsIn (c : Core) (first pages : Nat) : Bool :=
  c.dram.jobs.any (fun j => decide (j.addr < (first + pages) * 2 ^ 21) && decide (first * 2 ^ 21 < j.addr + 64 * j.count))

/-- A flip ends; one to host bias once the device's reads of the range are complete (13 R395). -/
def Core.flipDone (c : Core) : Core :=
  match c.cxl.flip with
  | none => c
  | some f =>
    if !f.toDev && c.readsIn f.first f.pages then c
    else
    let ps := (List.range f.pages).map (f.first + ·)
    let c := c.mapCxl (fun x => { x with
      flip := none,
      devBias := x.devBias.filter (fun p => !(f.first ≤ p && p < f.first + f.pages)) ++
        (if f.toDev then ps else []) })
    ((c.put 0x3010 4 2).summary 4).msix 10

def execBiasDone (t : Nat) (s : State) : Host.Outcome State Fault Refusal :=
  State.run t (fun _ c => c.flipDone) s

/-- CXL.mem reaches the device: CXL mode, the decoder committed, memory active (13 R385, R392). -/
def Core.memOpen (c : Core) : Bool := c.cxl.dlUp && c.cxl.cxlMode && c.cxl.hdmOk && c.cxl.memActive

/-- HDM sleeps: DUSK, and its entry, in which the controller accepts no request (11 R359, 13 R397). -/
def Core.hdmAsleep (c : Core) : Bool := (c.mode == .dusk && c.trans.isNone) || c.toDusk

/-- A host request to HDM (13 R396, R397): in DUSK a read returns poison and a write is discarded, both
logged; else it goes to the host HDM port. -/
def Core.memRequest (now off : Nat) (op : DramOp) (c : Core) : Core :=
  if !c.memOpen then c
  else if c.hdmAsleep then
    let c := c.mapCxl (fun x => { x with ras := x.ras ++ [off / 64 * 64] })
    if op == .read then
      (c.emit (.dramData 2 c.dram.nextId none)).mapDram (fun d => { d with nextId := d.nextId + 1 })
    else c
  else (c.when (c.deviceBias (off / 2 ^ 21)) (Core.bump 0x3010 6)).dramArrive now 2 off op

def execCxlMemRequest (t : Nat) (off : Nat) (op : DramOp) (s : State) : Host.Outcome State Fault Refusal :=
  if hdmEnd ≤ off then .fault (.noSuchAddress off)
  else State.run t (fun now c => c.memRequest now off op) s

/-- The HDM decoder committed, or its commit error (13 R392). -/
def Core.hdmCommit (size ways : Nat) (c : Core) : Core :=
  c.mapCxl (fun x =>
    if size = hdmEnd ∧ ways = 1 then { x with hdmOk := true, hdmErr := false }
    else { x with hdmOk := false, hdmErr := true })

/-- Host software sets the decoder's size and commits it. -/
def execHdmDecoderCommit (t : Nat) (size : Nat) (ways : Nat) (s : State) :
    Host.Outcome State Fault Refusal :=
  State.run t (fun _ c => (c.mapCxl (fun x => { x with
    comp := aput (aput x.comp 0x1218 (size % 2 ^ 32)) 0x121C (size / 2 ^ 32 % 2 ^ 32) })).hdmCommit size ways) s

/-- A snoop is answered; an invalidated line is dropped (13 R398). -/
def Core.snoop (addr : Nat) (inv : Bool) (c : Core) : Core :=
  if !(c.cxl.dlUp && c.cxl.cxlMode) then c
  else
    let c := c.when inv (Core.mapCxl (fun x => { x with cache := x.cache.filter (fun l => l != addr / 64) }))
    (c.bump 0x3030 3).emit (.snoopAnswer addr)

def execSnoop (t : Nat) (addr : Nat) (invalidate : Bool) (s : State) :
    Host.Outcome State Fault Refusal :=
  State.run t (fun _ c => c.snoop addr invalidate) s

end Sys2Proof.Machine
end

