-- ==== Sys2Proof/Machine/ConfigSpace.lean ====
section
/-!
DEFINITION. The function's configuration space, the CDAT that DOE returns, and BAR4 (13 R383, R388, R392, R393).
The manual gives the registers' contents; where each stands in configuration space and how the CDAT's entries are
laid out are PCIe's and CXL's (PRESUMED, log entry 148).
-/

namespace Sys2Proof.Machine

/-- Bytes of host-managed memory, 31 GiB (13 R392). -/
def hdmSize : Nat := 0x7C0000000

/-- A capability's header: identifier, version, position of the next. -/
def capHead (id ver next : Nat) : Nat := id + 2 ^ 16 * ver + 2 ^ 20 * next

/-- Bits of a doubleword of configuration space that host software writes, and which are held as written: the base
addresses of BAR0, BAR2 and BAR4, of 64 KiB, 256 KiB and 64 KiB, the ASPM control and the 10-bit tag enable. -/
def cfgMask (off : Nat) : Nat :=
  if off = 0x10 || off = 0x20 then 0xFFFF0000
  else if off = 0x18 then 0xFFFC0000
  else if off = 0x14 || off = 0x1C || off = 0x24 then 0xFFFFFFFF
  else if off = 0x70 then 3
  else if off = 0x88 then 4096
  else 0

def Core.cfgHeld (c : Core) (off : Nat) : Nat := (alook c.cxl.cfg off).getD 0

/-- Link Status: the speed's number and the width of the link that is up. -/
def Core.linkStatus (c : Core) : Nat :=
  let r := c.obj 0x3000 3
  if !c.cxl.dlUp then 0
  else (if r < 50 then 1 else if r < 80 then 2 else if r < 160 then 3 else if r < 320 then 4 else 5) +
    16 * (c.obj 0x3000 2)

/-- A doubleword of configuration space; none is a register whose contents the manual does not give. -/
def Core.cfgKnown (c : Core) (off : Nat) : Option Nat :=
  -- The header: identity, Bus Master Enable, class (13 R383, R386).
  if off = 0x00 then some (0x1F3D + 2 ^ 16 * 0x3206)
  else if off = 0x08 then some (0x21 + 2 ^ 8 * 0x118000)
  -- The base addresses: memory, 64-bit, not prefetchable.
  else if off = 0x10 || off = 0x18 || off = 0x20 then some (c.cfgHeld off + 4)
  else if off = 0x14 || off = 0x1C || off = 0x24 then some (c.cfgHeld off)
  else if off = 0x2C then some (0x1F3D + 2 ^ 16 * 0x0001)
  else if off = 0x34 then some 0x40
  -- MSI-X: 64 vectors, its table and PBA in BAR0.
  else if off = 0x50 then some (0x11 + 2 ^ 8 * 0x60 + 2 ^ 16 * 63)
  else if off = 0x54 then some 0x8000
  else if off = 0x58 then some 0x9000
  -- PCI Express: FLR; 32 GT/s by 8 lanes, ASPM L1 with an exit latency of at most 16 µs; 10-bit tag requester.
  else if off = 0x60 then some (0x10 + 2 ^ 16 * 2)
  else if off = 0x64 then some (2 ^ 28)
  else if off = 0x6C then some (5 + 16 * 8 + 2 ^ 10 * 2 + 2 ^ 15 * 4)
  else if off = 0x70 then some (c.cfgHeld off + 2 ^ 16 * c.linkStatus)
  else if off = 0x84 then some (2 ^ 17)
  else if off = 0x88 then some (c.cfgHeld off)
  -- Power management: D0 or D3hot, No_Soft_Reset.
  else if off = 0x40 then some (0x01 + 2 ^ 8 * 0x50 + 2 ^ 16 * 3)
  else if off = 0x44 then some ((if c.cxl.d0 then 0 else 3) + 8)
  -- Device Serial Number: 1018h.04 and 0.
  else if off = 0x100 then some (capHead 0x0003 1 0x110)
  else if off = 0x104 then some (c.obj 0x1018 4)
  else if off = 0x108 then some 0
  -- CXL device DVSEC: Cache_Capable, IO_Capable, Mem_Capable, HDM_Count = 1; the one range of 31 GiB.
  else if off = 0x110 then some (capHead 0x0023 1 0x150)
  else if off = 0x118 then some (2 ^ 16 * (1 + 2 + 4 + 16))
  else if off = 0x128 then some (hdmSize / 2 ^ 32)
  else if off = 0x12C then some (hdmSize % 2 ^ 32 + 1 + 2 * b2n c.cxl.memActive)
  -- Register Locator DVSEC: the component registers in BAR4.
  else if off = 0x150 then some (capHead 0x0023 1 0x180)
  else if off = 0x158 then some 8
  else if off = 0x15C then some (4 + 2 ^ 8 * 1)
  else if off = 0x160 then some 0
  -- DOE, the way to the CDAT.
  else if off = 0x180 then some (capHead 0x002E 1 0x1A0)
  -- AER; the manual gives none of its registers.
  else if off = 0x1A0 then some (capHead 0x0001 2 0)
  else none

/-- One CDAT entry of 24 bytes: its type and its bytes from the fourth on. -/
def cdatEntry (type : Nat) (body : List Byte) : List Byte := leBytes 1 type ++ zeros 1 ++ leBytes 2 24 ++ body

/-- A DSLBIS entry: data type, base unit, value. -/
def dslbis (kind unit value : Nat) : List Byte :=
  cdatEntry 1 (zeros 2 ++ leBytes 1 kind ++ zeros 1 ++ leBytes 8 unit ++ leBytes 2 value ++ zeros 6)

/-- The entries of the CDAT: DSMAS of handle 0 over 31 GiB from DPA 0; read latency 280 ns, write latency 200 ns,
read and write bandwidth 24 000 MB/s; DSEMTS marking the range as specific-purpose memory (13 R393). -/
def cdatEntries : List Byte :=
  cdatEntry 0 (zeros 4 ++ leBytes 8 0 ++ leBytes 8 hdmSize) ++
  dslbis 1 1000 280 ++ dslbis 2 1000 200 ++ dslbis 4 1 24000 ++ dslbis 5 1 24000 ++
  cdatEntry 4 (zeros 1 ++ leBytes 1 1 ++ zeros 2 ++ leBytes 8 0 ++ leBytes 8 hdmSize)

/-- The CDAT: its header, whose checksum makes the bytes sum to 0, and its entries. -/
def cdat : List Byte :=
  let head := leBytes 4 (16 + cdatEntries.length) ++ leBytes 1 1
  let rest := zeros 10 ++ cdatEntries
  let sum := sumNat ((head ++ rest).map BitVec.toNat)
  head ++ leBytes 1 (256 - sum % 256) ++ rest

/-- A doubleword that the manual does not give: a free value. -/
def Core.freeWord (c : Core) : Nat × Core :=
  let f := c.fresh
  (f.1 % 2 ^ 32, f.2)

/-- A configuration read of a doubleword; until BOOT has finished DRAM zeroing it is answered with Request Retry
Status (13 R387). The command register shows Bus Master Enable in its bit 2. -/
def Core.cfgRead (off : Nat) (c : Core) : Out × Core :=
  if !c.cxl.memActive then (.cfgRetry, c)
  else if off = 0x04 then
    let f := c.freeWord
    (.bar (some (withBit f.1 2 c.cxl.master)), f.2)
  else match c.cfgKnown off with
    | some v => (.bar (some v), c)
    | none =>
      let f := c.freeWord
      (.bar (some f.1), f.2)

/-- A doubleword of the CDAT as DOE's table access gives it. -/
def Core.cdatRead (off : Nat) (c : Core) : Out × Core :=
  if !c.cxl.memActive then (.cfgRetry, c) else (.bar (some (leAt cdat off 4)), c)

/-- A doubleword of configuration space written: Bus Master Enable, D3hot and D0, and the bits held as written
(13 R382, R386, R417). -/
def Core.cfgWrite (now off v : Nat) (c : Core) : Core :=
  if !c.cxl.memActive then c
  else if off = 0x04 then
    if v.testBit 2 then c.mapCxl (fun x => { x with master := true }) else c.hostLinkDown now .busMasterOff
  else if off = 0x44 then
    if v % 4 = 3 then c.hostLinkDown now .d3hot else c.mapCxl (fun x => { x with d0 := true, d3Want := false })
  else if cfgMask off = 0 then c
  else c.mapCxl (fun x => { x with cfg := aput x.cfg off (v &&& cfgMask off) })

/-! ### Component registers (13 R388, R392, R397) -/

/-- A component register whose contents the manual gives: the capability headers, the RAS capability, whose status
shows memory-data errors and whose header log the address of the first, and the HDM decoder capability of one decoder,
with what host software has written, its Committed and its error bit. -/
def Core.compKnown (c : Core) (off : Nat) : Option Nat :=
  let held := (alook c.cxl.comp off).getD 0
  if off = 0x1000 then some (0x0001 + 2 ^ 16 + 2 ^ 20 + 2 ^ 24 * 3)
  else if off = 0x1004 then some (0x0002 + 2 ^ 16 + 2 ^ 20 * 0x100)
  else if off = 0x1008 then some (0x0004 + 2 ^ 16 + 2 ^ 20 * 0x180)
  else if off = 0x100C then some (0x0005 + 2 ^ 16 + 2 ^ 20 * 0x200)
  else if off = 0x1100 then some (128 * b2n (!c.cxl.ras.isEmpty))
  else if off = 0x1114 then some (if c.cxl.ras.isEmpty then 0 else 7)
  else if off = 0x1118 then some (c.cxl.ras.headD 0 % 2 ^ 32)
  else if off = 0x111C then some (c.cxl.ras.headD 0 / 2 ^ 32)
  else if off = 0x1200 then some 0
  else if off = 0x1210 || off = 0x1214 || off = 0x1218 || off = 0x121C then some held
  else if off = 0x1220 then some (held % 512 + 1024 * b2n c.cxl.hdmOk + 2048 * b2n c.cxl.hdmErr)
  else none

/-- A doubleword of BAR4: the component registers at 1000h to 1FFFh, where one the manual does not give is a free value;
its other offsets are reserved (13 R388). -/
def Core.bar4Read (off : Nat) (c : Core) : Out × Core :=
  if 0x1000 ≤ off && off < 0x2000 then match c.compKnown off with
    | some v => (.bar (some v), c)
    | none =>
      let f := c.freeWord
      (.bar (some f.1), f.2)
  else (.bar (some 0), c)

/-- A doubleword of BAR4 written: a 1 clears the RAS status; the decoder takes its base and size while it is not
committed, and its control commits it, with the ways it names, or takes it out (13 R388, R392). -/
def Core.bar4Write (off v : Nat) (c : Core) : Core :=
  let set := fun (w : Nat) (c : Core) => c.mapCxl (fun x => { x with comp := aput x.comp off w })
  if off = 0x1100 then c.when (v.testBit 7) (Core.mapCxl (fun x => { x with ras := [] }))
  else if off = 0x1210 || off = 0x1218 then c.when (!c.cxl.hdmOk) (set (v / 2 ^ 28 * 2 ^ 28))
  else if off = 0x1214 || off = 0x121C then c.when (!c.cxl.hdmOk) (set v)
  else if off = 0x1220 then
    let c := set (v % 512) c
    if v.testBit 9 then
      c.when (!c.cxl.hdmOk) (Core.hdmCommit
        ((alook c.cxl.comp 0x1218).getD 0 + 2 ^ 32 * (alook c.cxl.comp 0x121C).getD 0) (2 ^ (v / 16 % 16)))
    else c.mapCxl (fun x => { x with hdmOk := false, hdmErr := false })
  else c

end Sys2Proof.Machine
end

