-- ==== Sys2Proof/Machine/Thermal.lean ====
section
/-!
DEFINITION. Temperatures, thermal bands, throttling and the throughput margins (16 R486 to R490, 15
R457).
-/

namespace Sys2Proof.Machine

/-- T_S and Tj, 0.01 °C (16 R486). -/
def Core.ts (c : Core) : Int := maxInt c.sensorTemps
def Core.tj (c : Core) : Int := maxInt c.logicTemps

/-- Where a band is entered from below, and left downwards, 0.01 °C (16 R487). -/
def bandRise (b : Nat) : Int := if b = 0 then -32768 else 1500 + 1000 * (b : Int)
def bandFall (b : Nat) : Int := if b = 0 then -32768 else 1350 + 1000 * (b : Int)

/-- The band that contains a temperature. -/
def bandOf (x : Int) : Nat := ([1, 2, 3, 4].filter (fun b => bandRise b ≤ x)).length

/-- The candidate band (16 R487). -/
def Core.candidate (c : Core) : Nat :=
  let d := c.pw.decided
  if (d < 4 && bandRise (d + 1) ≤ c.ts) || c.ts < bandFall d then bandOf c.ts else d

/-- The sensor die's sensors are read, and its bands judged: not in DUSK, COMPLINE or before firmware
runs (16 R472, R477). -/
def Core.sensing (c : Core) (sensor : Nat) : Bool :=
  c.pw.fwRuns && c.mode != .compline && (c.mode != .dusk || 16 ≤ sensor)

/-- A sensor's reading taken (16 R486 to R489, 15 R457). -/
def Core.tempSample (now sensor : Nat) (centi : Int) (c : Core) : Core :=
  if !c.sensing sensor then c
  else
    let v := clampInt (-32768) 32767 centi
    let c := c.put 0x3330 (sensor + 1) (ofSigned 16 v)
    if sensor < 16 then
      let c := if 6000 < v then c.condOn now 0x4210 (sensor / 2) sensor (leBytes 1 sensor)
        else c.condOff 0x4210 sensor
      let k := c.candidate
      c.mapPw (fun p => { p with
        candAt := if k = p.decided then none else some (p.candAt.getD now) })
    else
      let cool := decide (c.tj < 9850)
      (c.mapEv (fun v => { v with coolFrom := if cool then some (v.coolFrom.getD now) else none })).mapPw
        (fun p => { p with hot := p.hot && decide (10500 ≤ c.tj) })

def execThermalSample (t : Nat) (sensor : Fin 24) (centi : Int) (s : State) :
    Host.Outcome State Fault Refusal :=
  State.run t (fun now c => c.tempSample now sensor.val centi) s

/-- A band decided: in force at once outside a job, else at a start instant (16 R487, R488). -/
def Core.bandDecide (now b : Nat) (c : Core) : Core :=
  let c := (c.mapPw (fun p => { p with decided := b, lastDec := now, candAt := none })).put 0x3330 0x1C b
  if c.commitWaits then (c.darkCopy b).mapPw (fun p => { p with bandPend := some (b, now) }) else c.bandSet now b

def Core.bandDecided (now : Nat) (c : Core) : Core :=
  match c.pw.candAt with
  | some a =>
    if c.sensing 0 && a + 200000000 ≤ now && c.pw.lastDec + 200000000 ≤ now && c.candidate != c.pw.decided
    then c.bandDecide now c.candidate else c
  | none => c

def execBandDecided (t : Nat) (s : State) : Host.Outcome State Fault Refusal :=
  State.run t (fun now c => c.bandDecided now) s

/-- A throttle level in force, with its condition and what it reports (15 R447, R457). -/
def Core.throttleSet (now lvl : Nat) (c : Core) : Core :=
  let down := lvl < c.throttle
  let c := (c.put 0x3330 0x1D lvl).mapEv (fun v => { v with hotAt := now })
  let c := if lvl = 0 then c.condOff 0x4220 0 else c.condOn now 0x4220 0xFF 0 (leBytes 1 lvl)
  c.when down (Core.lossReports now)

/-- One level up, 50 ms after the last while Tj stands at 100 °C; one down, 50 ms after Tj fell below
98.5 °C and after the last (15 R457). -/
def Core.throttleStep (now : Nat) (c : Core) : Core :=
  let l := c.throttle
  let rested := l = 0 || c.ev.hotAt + 50000000 ≤ now
  if !c.sensing 16 then c
  else if 10000 ≤ c.tj && l < 4 && rested then c.throttleSet now (l + 1)
  else match c.ev.coolFrom with
    | some a => if 0 < l && a + 50000000 ≤ now && rested then c.throttleSet now (l - 1) else c
    | none => c

def execThrottleLevelStep (t : Nat) (s : State) : Host.Outcome State Fault Refusal :=
  State.run t (fun now c => c.throttleStep now) s

/-- The lowest margin of a block since its count began: since BOOT for 3350h, since job start for the
segments of 2A86h (16 R490, 08 R252). -/
def Core.replica (block margin : Nat) (c : Core) : Core :=
  let k := if block < 6 then (0x3350, block + 1) else (0x2A86, block - 5)
  let m := min margin 65535
  if !c.blocksOn || (6 ≤ block && !c.job.running) then c
  else
    let seen := c.pw.replica.contains block
    (c.put k.1 k.2 (if seen then min m (c.obj k.1 k.2) else m)).mapPw (fun p => { p with
      replica := if seen then p.replica else p.replica ++ [block] })

def execThroughputReplicaMeasure (t : Nat) (block : Fin 14) (margin : Nat) (s : State) :
    Host.Outcome State Fault Refusal :=
  State.run t (fun _ c => c.replica block.val margin) s

end Sys2Proof.Machine
end

