-- ==== Sys2Proof/Machine/Links.lean ====
section
/-!
DEFINITION. The segment links (14 R422 to R439): adequacy, bring-up, eye scans, sparing, retrain, lost
commands, status blocks, sleep and the tests of SERVICE.
-/

namespace Sys2Proof.Machine

/-! ### Configuration and adequacy (14 R422 to R424, R429) -/

/-- Gb/s of a rate code. -/
def rateGbs (r : Nat) : Nat := [2, 8, 16, 32].getD r 2

/-- Logical lanes in use. -/
def Link.lanes (l : Link) : Nat := (l.map.filter (·.isSome)).length

/-- 3100h of a segment (14 R439). -/
def Link.word (l : Link) : Nat :=
  l.st + 8 * l.rate + 32 * (if l.rate = 0 then 0 else l.lanes) + 512 * b2n (l.map.contains (some 8)) +
  1024 * b2n l.dataSleep + 2048 * b2n l.bcSleep

/-- 3101h of a segment. -/
def Link.mapWord (l : Link) : Nat :=
  sumNat (l.map.zipIdx.map (fun p => (p.1.getD 15) * 16 ^ p.2))

/-- The row rate per bank that a mode's settings need, rows per ns (14 R423). -/
def Core.rowRate (c : Core) (m : Mode) : Rat :=
  let top : Rat := 1 / (rowPeriod c.depth : Rat)
  if m == .web || m == .sheet then
    min top (((3 * c.tdi * (if c.dual then 2 else 1) : Nat) : Rat) *
      c.lineRate (m == .sheet && c.timedSheet))
  else top

/-- The share of full rows in a bank's load: charge binning lowers that of the clear stripe's rows, a third of
them (03 R102; log entry 134). -/
def Core.binShare (c : Core) (m : Mode) (south : Bool) : Rat :=
  if m == .calibrate then 1 else (2 + 1 / (c.chargeBin (clearOf south) : Rat)) / 3

/-- 98 % of the payload covers the segment's load in Gb/s: 2 × r_b × 4 096 × depth, less what charge binning spares
(14 R423, 03 R102). -/
def Core.linkAdequate (c : Core) (m : Mode) (seg : Nat) : Bool :=
  let l := c.link seg
  let pay : Rat := ((l.lanes * rateGbs l.rate * 64 : Nat) : Rat) / 66
  let share := c.binShare m false + c.binShare m true
  decide (share * c.rowRate m * 4096 * (c.depth : Rat) ≤ 98 / 100 * pay) && l.rate != 0

/-- Refusals of 14 R424 for a requested mode. -/
def Core.linkCodes (c : Core) (m : Mode) : List Nat :=
  reason (c.segsOn.any (fun s => !c.linkAdequate m s)) 0x08000028 ++
  reason (c.segsOn.any (fun s => (c.link s).st == 5)) 0x08000030

/-- Columns of a segment stand BLIND to the end of the job. -/
def Core.linkBlind (seg : Nat) (c : Core) : Core :=
  c.when c.job.running (Core.mapLink seg (fun l => { l with blindJob := true }))

/-- A segment enters FAULT (14 R429, R432, R433). -/
def Core.linkFault (now seg : Nat) (c : Core) : Core :=
  ((c.mapLink seg (fun l => { l with st := 5 })).linkBlind seg).event now 0x5031 seg []

/-- The retired lanes of a segment (3104h). -/
def Core.laneRetired (c : Core) (seg lane : Nat) : Bool := (c.obj 0x3104 (seg + 1)).testBit lane

/-- A lane passes at a rate: its eye is at least 24/64 UI wide and 40 mV high (14 R428). -/
def lanePasses (r : Nat) (l : LaneResult) : Bool :=
  match if r = 3 then l.eye32 else if r = 2 then l.eye16 else l.eye8 with
  | some (h, v) => decide (24 ≤ h) && decide (40 ≤ v)
  | none => false

/-- The lanes that pass at a rate and are not retired. -/
def Core.passing (c : Core) (seg r : Nat) (ls : List LaneResult) : List Nat :=
  ((ls.take 9).zipIdx.filter (fun p => lanePasses r p.1 && !c.laneRetired seg p.2)).map (·.2)

/-- Lanes and rate in the order of payload (14 R423, R429). -/
def linkConfigs : List (Nat × Nat) := [(8, 3), (7, 3), (8, 2), (7, 2), (8, 1), (7, 1)]

/-- The lanes of the map and the spare, which hold block lock on a link that is up. -/
def Link.used (l : Link) : BitVec 9 :=
  BitVec.ofNat 9 ((List.range 9).foldl
    (fun n i => if l.map.contains (some i) || l.spare == some i then n + 2 ^ i else n) 0)

/-- Up, with every direction awake and no failure counted. -/
def Link.up (l : Link) : Link := { l with
  st := 2, dataSleep := false, bcSleep := false, fails := List.replicate 9 0, failed := List.replicate 9 false,
  lock := l.used, keep := false }

/-- A Dawn is under way (16 R473). -/
def Core.dawning (c : Core) : Bool := match c.trans with
  | some tr => tr.source == .dusk
  | none => false

/-- A segment's link is brought up and settles (14 R428, R429); one whose map and rate were in force before a restart
of PLL-T keeps them. -/
def Core.bringUp (now seg : Nat) (ls : List LaneResult) (c : Core) : Core :=
  if !c.segOn seg || (c.link seg).st ≠ 1 || (c.clk.tHeld && !c.dawning) then c
  else if (c.link seg).keep then c.mapLink seg Link.up
  else match linkConfigs.find? (fun k => decide (k.1 ≤ (c.passing seg k.2 ls).length)) with
    | none => c.linkFault now seg
    | some k =>
      let ps := c.passing seg k.2 ls
      let map := (ps.take k.1).map some ++ List.replicate (8 - k.1) none
      c.mapLink seg (fun l => { l with
        rate := k.2, map := map, spare := if k.1 = 8 then ps[8]? else none }.up)

def execLinkBringUp (t : Nat) (seg : Fin 8) (lanes : List LaneResult) (s : State) :
    Host.Outcome State Fault Refusal :=
  State.run t (fun now c => c.bringUp now seg.val lanes) s

/-! ### Retrain (14 R431, R432) -/

/-- The journeyman steps of a segment's banks restart (04 R125). -/
def Core.segWalksRestart (seg : Nat) (c : Core) : Core := (c.walkRestart (2 * seg)).walkRestart (2 * seg + 1)

/-- A retrain begins: cause 0 sparing, 1 back-channel, 2 block lock. -/
def Core.retrain (now seg cause : Nat) (c : Core) : Core :=
  if (c.link seg).st ≠ 2 then c
  else
    let c := (c.mapLink seg (fun l => { l with
      st := 3, since := now, attempts := 0, lock := if cause = 2 then 0 else l.lock })).bump 0x3105 (seg + 1)
    (c.segWalksRestart seg).event now 0x012B seg (leBytes 1 cause)

def RetrainCause.code : RetrainCause → Nat
  | .sparing => 0 | .backChannel => 1 | .blockLock => 2

def execLinkRetrain (t : Nat) (seg : Fin 8) (cause : RetrainCause) (s : State) :
    Host.Outcome State Fault Refusal :=
  State.run t (fun now c => c.retrain now seg.val (RetrainCause.code cause)) s

/-- A retrain not complete within 1 ms is repeated; the third failure is a FAULT. -/
def Core.retrainLate (now seg : Nat) (c : Core) : Core :=
  let l := c.link seg
  if l.st ≠ 3 || now < l.since + 1000000 then c
  else if 2 ≤ l.attempts then c.linkFault now seg
  else ((c.mapLink seg (fun l => { l with since := now, attempts := l.attempts + 1 })).bump
    0x3105 (seg + 1)).segWalksRestart seg

def execRetrainTimeout (t : Nat) (seg : Fin 8) (s : State) : Host.Outcome State Fault Refusal :=
  State.run t (fun now c => c.retrainLate now seg.val) s

def Core.retrainEnds (seg : Nat) (c : Core) : Core :=
  c.when ((c.link seg).st == 3) (Core.mapLink seg (fun l => { l with
    st := 2, fails := List.replicate 9 0, failed := List.replicate 9 false, lock := l.used }))

def execRetrainComplete (t : Nat) (seg : Fin 8) (s : State) : Host.Outcome State Fault Refusal :=
  State.run t (fun _ c => c.retrainEnds seg.val) s

/-! ### Margin and sparing (14 R430 to R434) -/

/-- A lane that carries data or stands as spare, on a link that is up; in STANDBY lane 0 alone is awake (14 R435). -/
def Core.laneUsed (c : Core) (seg lane : Nat) : Bool :=
  let l := c.link seg
  decide (l.st = 2) && !l.dataSleep && (lane == 0 || c.mode != .standby) && (l.map.contains (some lane) || l.spare == some lane)

/-- BIP-8 errors of a lane's alignment markers: counted in 3103h and in the fixed window of 1 s, beyond
whose limit the lane fails margin. -/
def Core.countBip (now seg lane n : Nat) (c : Core) : Core :=
  let l := c.link seg
  let p := (l.bip[lane]?).getD (0, 0)
  let e := (if p.1 = now / 1000000000 then p.2 else 0) + n
  (c.bumpBy 0x3103 (9 * seg + lane + 1) n).mapLink seg (fun l => { l with
    bip := modAt l.bip lane (fun _ => (now / 1000000000, e))
    failed := modAt l.failed lane (fun f => f || decide (c.obj 0x3110 3 < e)) })

/-- One scan of a lane while 3110h.05 is 1; two in a row below the limits fail margin. -/
def Core.scanLane (seg lane h v : Nat) (c : Core) : Core :=
  let l := c.link seg
  if !c.flag 0x3110 5 then c
  else
    let k := 9 * seg + lane + 1
    let n := min 65535 (c.obj 0x3102 k / 65536 + 1)
    let bad := decide (h < c.obj 0x3110 1) || decide (v < c.obj 0x3110 2)
    let again := bad && decide (1 ≤ (l.fails[lane]?).getD 0)
    (c.put 0x3102 k (min 255 h + 256 * min 255 v + 65536 * n)).mapLink seg (fun l => { l with
      fails := modAt l.fails lane (fun f => if bad then f + 1 else 0)
      failed := modAt l.failed lane (fun f => f || again) })

/-- The command reports a lane's scan and the marker errors found on the lane since its last report. -/
def execEyeScan (t : Nat) (seg : Fin 8) (lane : Fin 9) (horiz vert bip8 : Nat) (s : State) :
    Host.Outcome State Fault Refusal :=
  State.run t (fun now c => c.when (c.laneUsed seg.val lane.val)
    (fun c => (c.countBip now seg.val lane.val bip8).scanLane seg.val lane.val horiz vert)) s

/-- A lane retired: its bit in 3104h and the event. -/
def Core.retireLane (now seg lane : Nat) (c : Core) : Core :=
  (c.store 0x3104 (seg + 1) (c.obj 0x3104 (seg + 1) ||| 2 ^ lane)).event now 0x5030 seg (leBytes 1 lane)

/-- A data lane replaced by the spare, given up for seven lanes, or the segment's FAULT; or the spare
itself retired. -/
def Core.spareLane (now seg lane : Nat) (c : Core) : Core :=
  let l := c.link seg
  if c.laneRetired seg lane then c
  else if !l.map.contains (some lane) then
    if l.spare == some lane then (c.mapLink seg (fun l => { l with spare := none })).retireLane now seg lane
    else c
  else match l.spare with
    | some p =>
      ((c.mapLink seg (fun l => { l with
        map := l.map.map (fun x => if x == some lane then some p else x), spare := none })).retrain now seg
        0).retireLane now seg lane
    | none =>
      if l.lanes ≤ 7 then c.linkFault now seg
      else
        let c := c.mapLink seg (fun l => { l with map := l.map.filter (· != some lane) ++ [none] })
        let c := (c.retrain now seg 0).retireLane now seg lane
        c.when (!c.linkAdequate c.mode seg) (Core.linkBlind seg)

/-- Refusals of 3111h.00's own (14 R434, R439). -/
def Core.spareCodes (c : Core) (v : Nat) : List Nat :=
  let seg := field v 6 4
  let lane := v % 16
  let l := c.link seg
  reason (7 < lane) 0x06090030 ++
  reason (l.st == 3 || c.laneRetired seg lane || !l.map.contains (some lane)) 0x08000031

def Core.spareWrite (now v : Nat) (c : Core) : Core := c.spareLane now (field v 6 4) (v % 16)

/-- A lane that has lost its block lock fails margin. -/
def Core.lockLoss (seg lane : Nat) (c : Core) : Core :=
  c.mapLink seg (fun l => { l with
    lock := l.lock &&& ~~~ BitVec.ofNat 9 (2 ^ lane), failed := modAt l.failed lane (fun _ => true) })

/-- The module's own answer to a lane that fails margin: sparing, where 3110h.04 is 1; a spare that fails is retired,
and with no spare left R433 acts, which names no object (14 R431, R433; log entry 153). -/
def Core.spareFailed (now seg lane : Nat) (lockLost : Bool) (c : Core) : Core :=
  let c := c.when lockLost (Core.lockLoss seg lane)
  c.when (((c.link seg).failed[lane]?).getD false && (c.flag 0x3110 4 || (c.link seg).spare == some lane || (c.link seg).spare.isNone))
    (Core.spareLane now seg lane)

def execLaneSpare (t : Nat) (orig : Option Orig) (lockLost : Bool) (seg : Fin 8) (lane : Fin 9) (s : State) :
    Host.Outcome State Fault Refusal :=
  State.run t (fun now c => match orig with
    | some o =>
      let v := seg.val * 16 + lane.val
      c.command now o 0x3111 0 1 v (c.spareCodes v) (Core.spareWrite now v)
    | none => c.when ((c.link seg.val).st == 2 || (c.link seg.val).st == 3)
        (Core.spareFailed now seg.val lane.val lockLost)) s

/-! ### Back-channel and status blocks (14 R425, R427) -/

/-- A row that a lost command would have produced, with its bank (true south), BLIND in its place. -/
def Core.lostRow (now seg : Nat) (c : Core) (r : Bool × RowKind) : Core :=
  let c := match r.2 with
    | .active m b s row => match c.findExpo m b with
      | some x => c.markConv seg s.val row x
      | none => c
    | .black _ => c.mapWalk (2 * seg + b2n r.1) blackTurn
    | .velo _ _ => c
  let coasted := match r.2 with
    | .active m b _ _ => ((c.findExpo m b).map (·.coasted)).getD false
    | _ => false
  c.deliverRow now { seg := seg, south := r.1, kind := r.2, coord := 0, frac := 0, centre := 0, hold := 0,
                     flags := { coasted, dcFree := c.dcFree }, phys := none, pong := false, due := now, blind := true } true

def Core.commandLost (now seg : Nat) (rows : List (Bool × RowKind)) (c : Core) : Core :=
  if !c.segOn seg then c
  else rows.foldl (Core.lostRow now seg) (((c.bump 0x3108 (seg + 1)).mapLink seg
    (fun l => { l with missed := true })).event now 0x5032 seg [])

def execBcCommandLost (t : Nat) (seg : Fin 8) (rows : List (Bool × RowKind)) (s : State) :
    Host.Outcome State Fault Refusal :=
  State.run t (fun now c => c.commandLost now seg.val rows) s

/-- A status block: the segment's two temperatures, and the acknowledgement of the last command, or the report of one that
the sensor end has missed since the block before. -/
def Core.statusTaken (now seg : Nat) (west east : Int) (c : Core) : Core :=
  if (c.link seg).st ≠ 2 || (c.link seg).dataSleep then c
  else ((c.tempSample now (2 * seg) west).tempSample now (2 * seg + 1) east).mapLink seg
    (fun l => { l with ackOk := !l.missed, missed := false })

def execStatusBlock (t : Nat) (seg : Fin 8) (west east : Int) (s : State) :
    Host.Outcome State Fault Refusal :=
  State.run t (fun now c => c.statusTaken now seg.val west east) s

/-! ### Test and sleep in SERVICE (14 R435 to R437) -/

def Core.testSeg (c : Core) : Nat := c.obj 0x3120 1

/-- Writes of 3120h to 3122h outside SERVICE. -/
def Core.serviceCodes (c : Core) : List Nat := reason (c.mode != .service) 0x08000021

/-- The segment on which a test runs. -/
def Core.testing (c : Core) : Option Nat := (List.range 8).find? (fun s => (c.link s).st == 4)

/-- How many of the nine physical lanes a mask names. -/
def laneCount (mask : Nat) : Nat := ((List.range 9).filter mask.testBit).length

/-- The counts of a running test brought to `now`: every bit of its lanes is checked, at the lane rate; of the far-end
loop, which returns back-channel bytes between idle blocks, how many is not stated. The errors among them are the
wire's: free values (14 R436; log entry 170). -/
def Core.testCounts (now seg : Nat) (c : Core) : Core :=
  match (c.link seg).test with
  | none => c
  | some k =>
    let a := c.fresh
    let b := a.2.fresh
    let sent := laneCount k.lanes * rateGbs (c.link seg).rate * (now - k.at_)
    let bits := if k.loop = 3 then b.1 % (sent + 1) else sent
    ((b.2.bumpBy 0x3120 6 (a.1 % (bits + 1))).bumpBy 0x3120 7 bits).mapLink seg
      (fun l => { l with test := some { k with at_ := now } })

/-- The test ends, its counts stand, and its segment returns to what it was in. -/
def Core.testStop (now : Nat) (c : Core) : Core :=
  match c.testing with
  | none => c
  | some seg => (c.testCounts now seg).mapLink seg (fun l => { l with st := l.before, test := none })

/-- A test starts, one that runs having ended, with the loop, pattern and lanes that the objects then hold. -/
def Core.testStart (now : Nat) (c : Core) : Core :=
  let c := c.testStop now
  let k : LinkTest := { at_ := now, loop := c.obj 0x3120 2, pattern := c.obj 0x3120 3, lanes := c.obj 0x3120 4 }
  ((c.mapLink c.testSeg (fun l => { l with before := l.st, st := 4, test := some k })).put 0x3120 6 0).put 0x3120 7 0

def Core.testCommand (now v : Nat) (c : Core) : Core := if v = 1 then c.testStart now else c.testStop now

def execLinkTestStart (t : Nat) (orig : Orig) (s : State) : Host.Outcome State Fault Refusal :=
  State.run t (fun now c => c.command now orig 0x3120 5 1 1 c.serviceCodes (Core.testCommand now 1)) s

def execLinkTestStop (t : Nat) (orig : Orig) (s : State) : Host.Outcome State Fault Refusal :=
  State.run t (fun now c => c.command now orig 0x3120 5 1 2 c.serviceCodes (Core.testCommand now 2)) s

/-- A lane's word boundary shifted by one bit while alignment is manual; whether the lane then locks is
the wire's to say. -/
def Core.slip (lane : Nat) (c : Core) : Core :=
  if !c.flag 0x3121 1 then c
  else
    let r := c.fresh
    let seg := c.testSeg
    r.2.mapLink seg (fun l => { l with
      slips := modAt l.slips lane (fun k => (k + 1) % 66),
      lock := BitVec.ofNat 9 (withBit l.lock.toNat lane (r.1 % 2 == 1)) })

def execBitSlip (t : Nat) (orig : Orig) (lane : Byte) (s : State) : Host.Outcome State Fault Refusal :=
  State.run t (fun now c => c.command now orig 0x3121 2 1 lane.toNat c.serviceCodes (Core.slip lane.toNat)) s

/-- A link that sleeps is awake again, without stepping; one that was never brought up, that a hold of PLL-T has stopped,
or that the hold still keeps from running, is brought up (14 R428, R434, R435). -/
def Core.linkWake (c : Core) (l : Link) : Link :=
  if l.st ≠ 0 then l
  else if l.rate = 0 || l.keep || c.clk.tHeld then { l with st := 1, keep := l.rate != 0 } else { l with st := 2 }

/-- The test segment's directions sleep or wake; a disabled segment's sleep (14 R435). -/
def Core.linkSleep (v : Nat) (c : Core) : Core :=
  c.when (c.segOn c.testSeg) (Core.mapLink c.testSeg (fun l =>
    let l := if v % 4 = 3 then { l with st := if l.st = 2 then 0 else l.st } else c.linkWake l
    { l with dataSleep := v.testBit 0, bcSleep := v.testBit 1 }))

def execSleepCommand (t : Nat) (orig : Orig) (v : Byte) (s : State) : Host.Outcome State Fault Refusal :=
  State.run t (fun now c => c.command now orig 0x3122 1 1 v.toNat c.serviceCodes (Core.linkSleep (v.toNat % 4))) s

/-- Automatic lock is restored and the test segment, its test ended, retrains (14 R437). The event's cause is not
stated: block lock, as what it restores. -/
def Core.autoLock (now : Nat) (c : Core) : Core :=
  if !c.flag 0x3121 1 then c
  else ((c.testStop now).put 0x3121 1 0).retrain now c.testSeg 2

/-- SERVICE is left: a running test stops and its segment retrains, and automatic lock is restored (14 R437,
16 R463). -/
def Core.serviceEnds (now : Nat) (c : Core) : Core :=
  (match c.testing with
    | some seg => (c.testStop now).retrain now seg 2
    | none => c).autoLock now

/-- Links follow the mode and the enabled segments (14 R435): a direction that sleeps keeps its lock, and a FAULT
stands until the next bring-up. -/
def Core.linksFollow (c : Core) : Core :=
  let awake := c.mode != .dusk && c.mode != .compline
  { c with links := c.links.zipIdx.map (fun p =>
      let l := p.1
      if c.segOn p.2 && awake then
        (if l.st = 0 then { c.linkWake l with dataSleep := false, bcSleep := false }
         else { l with dataSleep := l.dataSleep && c.mode == .service, bcSleep := l.bcSleep && c.mode == .service })
      else { l with st := if l.st = 5 then 5 else 0, dataSleep := true, bcSleep := true }) }

/-- A hold of PLL-T stops every link, a test with it; bring-up follows its restart, with the map and rate that were
in force (14 R428, R434). -/
def Core.linksStop (now : Nat) (c : Core) : Core :=
  let c := c.testStop now
  { c with links := c.links.zipIdx.map (fun p =>
      let l := p.1
      if l.st = 0 || !c.segOn p.2 then { l with keep := l.keep || l.rate != 0 }
      else { l with st := 1, keep := l.keep || l.st == 2 || l.st == 3 }) }

/-- Dawn powers the links: every enabled segment brings up its own anew (14 R428, 16 R473). -/
def Core.linksDawn (c : Core) : Core :=
  { c with links := c.links.zipIdx.map (fun p =>
      if c.segOn p.2 then { p.1 with st := 1, dataSleep := false, bcSleep := false, keep := false } else p.1) }

/-- The links at the end of Dawn: those that no bring-up has reported are up as they were, or failed where Dawn's
link step has (16 R473; log entry 154). -/
def Core.linksWoken (now : Nat) (ok : Bool) (c : Core) : Core :=
  c.segsOn.foldl (fun c s =>
    if (c.link s).st ≠ 1 then c
    else if !ok then c.linkFault now s
    else if (c.link s).rate = 0 then c else c.mapLink s Link.up) c

/-- A job begins: segments whose links are up take part. -/
def Core.linksJobStart (c : Core) : Core :=
  { c with links := c.links.map (fun l => { l with blindJob := false }) }

end Sys2Proof.Machine
end

