-- ==== Sys2Proof/Machine/Job.lean ====
section
/-!
DEFINITION. The job (00 R16, 02 R59, 06 R183): the control word 6000h.01, the start of a job with all
that returns to 0 there, its end, the flush of its remaining lines, and JOB_ENDED.
-/

namespace Sys2Proof.Machine

/-! ### Start (02 R59, 05 R137, R145, 05 R175) -/

/-- Counters and values that return to 0 at job start (03 R105, 04 R132, 05 R175, 06 R213, 09 R310, 02
R58). -/
def Core.jobCounters (c : Core) : Core :=
  let c := ((c.unputs 0x2240 [1, 2, 3, 4]).unputs 0x2350 [1, 2, 3]).unputs 0x2415 [1, 2, 3, 4, 5, 6, 7, 8]
  let c := ((c.unput 0x2416 1).unputs 0x2421 [1, 2, 3, 4, 5, 6]).unputs 0x2440 [2, 7, 8]
  let c := ((c.unputs 0x2460 [8, 9]).unputs 0x2620 [3, 4, 5, 6, 7]).unput 0x2640 1
  let c := (List.range 16).foldl (fun c n => c.unput (0x2C10 + n) 9) c
  let c := ((c.unputs 0x2680 [1, 2, 3]).unput 0x2651 0).unput 0x2414 3
  (c.unput 0x6100 2).mapPw (fun p => { p with replica := p.replica.filter (· < 6) })

/-- The web position at the job start instant: the coordinate under the entry row is -0.5 (05 R137). -/
def Core.startPos (c : Core) : Rat := -(1 / 2) - c.rowOffset (c.entryRow c.genLast)

/-- The sequencer at the job start instant; with timed operation the loop stays IDLE (05 R137, R139,
R140, R145, R171). The number of the job's first exposure, the first whose target lies beyond x0, and x0 as the
high-water mark before it are the model's choices (DESIGN CHOICE, log entries 149, 150). -/
def Core.motionStart (now : Nat) (c : Core) : Core :=
  let x0 := c.startPos
  let encs := c.mot.encs.zipIdx.map (fun p => { p.1 with off := x0 - c.rawPos p.2 })
  let use := if c.obj 0x2402 0 = 1 then 1 else 0
  let timed := c.timedJob
  { c with mot := {
      encs := encs, encInUse := use, loop := if timed then .idle else .seeding, xHat := x0,
      vHat := if timed then 0 else c.ofSpeed (c.objF 0x6000 2), tPrev := now,
      startRef := (c.rawPos use, now), highWater := x0,
      nextM := if timed then 0 else (x0 - c.phase false).floor + 1 } }

/-- The converter walks at a job start: the schedule of rows begins anew, with the row-timing sets of the band in
force (03 R96, R97, 04 R115). -/
def Core.walksJobStart (c : Core) : Core :=
  { c with walks := c.walks.map (fun w => { w with
      lastRow := 0, blackNext := 0, darkFirst := false, slotUsed := true,
      timing := List.replicate 6 (c.obj 0x3330 0x1B) }) }

/-- What the holding store keeps of earlier jobs. -/
def Core.heldOld (c : Core) : Core :=
  c.mapCxl (fun x => { x with rings := x.rings.map (fun r => { r with old := r.held.length }) })

/-- A job starts at `now`. The start instant of its first epoch is its own, or the job start itself where that
comes later (06 R179). -/
def Core.startJob (now : Nat) (c : Core) : Core :=
  let sheet := c.mode == .sheet
  let c := c.streamsEnd now
  let c := { c with job := {
    running := true, startAt := now, epochLen := c.obj 0x2650 0, sheet := sheet, timed := sheet && c.timedSheet } }
  let c := ((c.mapEc (fun e => { e with waitSync1 := none })).mapPipe (fun _ => {})).jobCounters
  let c := ((c.motionStart now).ctxJobStart).engJobStart.linksJobStart.walksJobStart.heldOld
  let c := c.when (!c.timedJob) Core.putSpeed
  let c := c.event now 0x0102 0xFF []
  c.when (!sheet && c.unitDue now) (Core.beginUnit now)

/-- JOB_START on its own terms, with START_AT_SYNC1 or without (02 R59). -/
def Core.jobStart (now : Nat) (atSync1 : Bool) (c : Core) : Core :=
  if c.job.running then c.controlIgnored now 0 0x0800002C
  else if !c.inspecting || c.trans.isSome then c.controlIgnored now 0 0x08000021
  else if !atSync1 then c.startJob now
  else if !c.ec.dcRunning || !c.ec.sync1On then c.controlIgnored now 0 0x08000032
  else c.mapEc (fun e => { e with waitSync1 := some now })

/-! ### End (06 R183) -/

/-- What a job leaves behind: its loop IDLE, its conditions ended, no slice BLIND for want of a spare (04 R128), and
commits that waited for one of its boundaries in force. -/
def Core.jobCleared (c : Core) : Core :=
  let c := { c with
    job := { c.job with running := false, ending := none, again := none }
    walks := c.walks.map (fun (w : ConvWalk) => { w with blind := [] }) }
  let c := c.mapMot (fun m => { m with loop := .idle, expos := [], burstLeft := 0, slewLeft := 0, noExpose := false })
  let c := (c.condOff 0x7311 0).condOff 0x7312 0
  let c := [0, 1, 4].foldl (fun c b => c.applyBank b) c
  [2, 3].foldl (fun c b => c.when (!c.carries b) (Core.applyBank b)) c

/-- The decided band takes effect at once where no job runs (16 R488). -/
def Core.bandNow (now : Nat) (c : Core) : Core :=
  match c.pw.bandPend with
  | some (b, _) => if c.commitWaits then c else c.bandSet now b
  | none => c

/-- JOB_ENDED with the last web line of the job; a JOB_START that rose with the JOB_END starts the next
job (02 R59). -/
def Core.jobOver (now last : Nat) (c : Core) : Core :=
  let again := c.job.again
  let c := (((c.endLoss now).event now 0x0103 0xFF (leBytes 6 last)).jobCleared).bandNow now
  match again with
  | some w => c.jobStart now w
  | none => c

/-- The last web line of a job that ends now; none where it has none. -/
def Core.endLine (c : Core) (now : Nat) : Option Nat :=
  if !c.inSheet then
    let u := (c.entryAt (c.xAt now)).floor
    if u < 0 then none else some u.toNat
  else if c.timedJob then c.mot.sheets.getLast?.map (fun s => s.first + s.len - 1)
  else
    let u := (c.entryAt (c.xAt now)).floor
    match c.sheetAt u with
    | some s => some (s.first + (u - s.coord).toNat)
    | none => ((c.mot.sheets.filter (fun s => s.coord ≤ u)).getLast?).map (fun s => s.first + s.len - 1)

/-- Sheets that the job's end comes before. -/
def Core.dropSheets (now : Nat) (c : Core) : Core :=
  if c.timedJob then c
  else
    let u := (c.entryAt (c.xAt now)).floor
    c.mapMot (fun m => { m with sheets := m.sheets.filter (fun s => s.coord ≤ u) })

/-- The running job ends: its last web line is fixed; a job without a web line is over at once. -/
def Core.endJob (now : Nat) (c : Core) : Core :=
  if !c.job.running || c.job.ending.isSome then c
  else match c.endLine now with
    | none => c.jobOver now 0
    | some l => (c.dropSheets now).mapJob (fun j => { j with ending := some (l, now), lineLast := some l })

/-- A rising edge of JOB_END (02 R59). -/
def Core.jobEnd (now : Nat) (c : Core) : Core :=
  if c.job.running then c.endJob now else c.controlIgnored now 1 0

/-- Exposures stop at once and the job ends: a mode change, or THERMAL_SHUTDOWN (06 R183, 15 R457). -/
def Core.stopJob (now : Nat) (c : Core) : Core :=
  if !c.job.running then c
  else
    let c := (c.endJob now).mapMot (fun m => { m with noExpose := true, burstLeft := 0 })
    c.when c.job.running (Core.flushLines now)

/-- All that JOB_ENDED waits for has been issued (15 R441, 06 R183). -/
def Core.jobFinished (c : Core) : Bool :=
  match c.job.lineLast with
  | none => false
  | some l =>
    c.job.running && c.job.ending.isSome && decide (l < c.pipe.nextRes) && c.engDone &&
    c.eng.recs.isEmpty && c.eng.blobs.isEmpty && c.eng.runs.isEmpty && c.eng.opens.isEmpty &&
    c.eng.heldAl.isEmpty && c.pages.all (fun p => p.done || !c.pageReached p)

def Core.jobEnded (now : Nat) (c : Core) : Core :=
  if c.jobFinished then c.jobOver now (c.job.lineLast.getD 0) else c

def execJobEnded (t : Nat) (s : State) : Host.Outcome State Fault Refusal :=
  State.run t (fun now c => c.jobEnded now) s

/-! ### The control word (02 R59) -/

/-- Bits that belong to MODE. -/
def modeBits : List Nat := [0, 1, 4]

/-- What a control word that is taken does, by its edges against the word stored before (02 R59). -/
def Core.controlEdges (now : Nat) (o : Orig) (old v : Nat) (c : Core) : Core :=
  let rise := fun (i : Nat) => v.testBit i && !old.testBit i
  let c := if c.owns o 0 then
      let c := c.when (rise 1) (Core.jobEnd now)
      if rise 0 && rise 1 && c.job.running then
        c.mapJob (fun j => { j with again := some (v.testBit 4) })
      else c.when (rise 0) (Core.jobStart now (v.testBit 4))
    else modeBits.foldl (fun c i =>
      c.when (v.testBit i != old.testBit i) (fun c => c.controlIgnored now i 0x08000020)) c
  c.when (rise 2) Core.acknowledge

/-- A control word stored, its reserved bits ignored, and acted on. -/
def Core.controlStore (now : Nat) (o : Orig) (v : Nat) (c : Core) : Core :=
  let old := c.obj 0x6000 1
  let v := v % 32
  (c.put 0x6000 1 v).controlEdges now o old v

/-- A write of the control word, judged (02 R46, R59). -/
def Core.controlWrite (now : Nat) (o : Orig) (data : List Byte) (c : Core) : Nat × Core :=
  c.judged now o 0x6000 1 data [] (Core.controlStore now o (leNat data))

/-- A rising edge of the bits `mask` of the control word: the write that sets them, on a word in which
they were clear. -/
def Core.controlEdge (now : Nat) (o : Orig) (mask : Nat) (c : Core) : Core :=
  let low := c.obj 0x6000 1 &&& (31 - mask)
  Core.answered o 0x6000 1 (c.judged now o 0x6000 1 (leBytes 2 (low ||| mask)) [] (fun c =>
    (c.put 0x6000 1 low).controlStore now o (low ||| mask)))

def execJobStart (t : Nat) (orig : Orig) (s : State) : Host.Outcome State Fault Refusal :=
  State.run t (fun now c => c.controlEdge now orig 1) s

def execJobEnd (t : Nat) (orig : Orig) (s : State) : Host.Outcome State Fault Refusal :=
  State.run t (fun now c => c.controlEdge now orig 2) s

def execFaultAck (t : Nat) (orig : Orig) (s : State) : Host.Outcome State Fault Refusal :=
  State.run t (fun now c => c.controlEdge now orig 4) s

def execStartAtSync1 (t : Nat) (orig : Orig) (s : State) : Host.Outcome State Fault Refusal :=
  State.run t (fun now c => c.controlEdge now orig 17) s

/-- A change of control-word bit [3] (02 R72). -/
def execSafeControl (t : Nat) (orig : Orig) (v : Bool) (s : State) : Host.Outcome State Fault Refusal :=
  State.run t (fun now c =>
    let w := withBit (c.obj 0x6000 1) 3 v
    Core.answered orig 0x6000 1 (c.controlWrite now orig (leBytes 2 w))) s

/-- A SYNC1 event shows that SYNC1 is activated, and starts the job that waits for it (02 R54, R59). -/
def Core.sync1Event (now : Nat) (c : Core) : Core :=
  let waits := c.ec.waitSync1.isSome
  let c := c.mapEc (fun e => { e with sync1On := true, waitSync1 := none })
  c.when waits (Core.jobStart now false)

def execSync1Event (t : Nat) (s : State) : Host.Outcome State Fault Refusal :=
  State.run t (fun now c => c.sync1Event now) s

/-- No SYNC1 event within 100 ms of the edge (02 R59). -/
def Core.sync1Timeout (now : Nat) (c : Core) : Core :=
  match c.ec.waitSync1 with
  | some a => if a + 100000000 ≤ now then
      (c.mapEc (fun e => { e with waitSync1 := none })).controlIgnored now 0 0x08000032 else c
  | none => c

def execSync1WaitTimeout (t : Nat) (s : State) : Host.Outcome State Fault Refusal :=
  State.run t (fun now c => c.sync1Timeout now) s

end Sys2Proof.Machine
end

