-- ==== Sys2Proof/Machine/Events.lean ====
section
/-!
DEFINITION. Events from the module's own parts (15 R445 to R448), their acknowledgement (15 R447), the
error history (02 R36) and the heartbeat (15 R456).
-/

namespace Sys2Proof.Machine

/-- The codes of 15 R446. -/
def evCodes : List Nat :=
  [0x0101, 0x0102, 0x0103, 0x0104, 0x0110, 0x0111, 0x0112, 0x0113, 0x0114, 0x0115, 0x0116, 0x0120, 0x0121,
   0x0122, 0x0123, 0x0124, 0x0125, 0x0126, 0x0127, 0x0128, 0x0129, 0x012A, 0x012B, 0x0130] ++
  [0x3110, 0x3120, 0x4210, 0x4220, 0x4230, 0x5010, 0x5011, 0x5012, 0x5020, 0x5021, 0x5022, 0x5030, 0x5031,
   0x5032, 0x5040, 0x5041, 0x5042, 0x5043, 0x5044, 0x5045, 0x5050, 0x5051, 0x5052] ++
  [0x5060, 0x5061, 0x5062, 0x5063, 0x5070, 0x5071, 0x5080, 0x6010, 0x7310, 0x7311, 0x7312, 0x8110, 0x8111,
   0x8120]

/-- The unit that a condition kept per unit is kept for (15 R447). -/
def evUnit (code : Nat) (data : List Byte) : Nat :=
  if code = 0x5060 || code = 0x4210 || code = 0x7310 || code = 0x5071 then leAt data 7 1 else 0

/-- An event issued: its 14 data bytes are bytes 16 to 29 of the entry (13 R413). A condition that is
active already is not issued again. -/
def Core.eventIssue (now code seg : Nat) (data : List Byte) (c : Core) : Core :=
  let u := evUnit code data
  if !c.pw.fwRuns || !evCodes.contains code || (evCondition code && c.active code u) then c
  else c.eventRaw now code (c.stamp now) seg u (slice data 0 14)

def execEventIssue (t : Nat) (code : Nat) (seg : Nat) (data : List Byte) (s : State) :
    Host.Outcome State Fault Refusal :=
  State.run t (fun now c => c.eventIssue now code (seg % 256) data) s

def execEventAcknowledge (t : Nat) (orig : Orig) (v : Byte) (s : State) : Host.Outcome State Fault Refusal :=
  State.run t (fun now c => c.command now orig 0x3200 6 1 v.toNat [] Core.acknowledge) s

/-- The error history emptied (02 R36). -/
def Core.historyClear (c : Core) : Core := c.mapEv (fun v => { v with hist := [] })

def execErrorHistoryClear (t : Nat) (orig : Orig) (v : Byte) (s : State) : Host.Outcome State Fault Refusal :=
  State.run t (fun now c => c.command now orig 0x1003 0 1 v.toNat [] Core.historyClear) s

/-- A missed feed or handshake (15 R456, 16 R491): LIVE, INSPECT_VALID and FAULT_N follow, and the record
of FIRMWARE_RESET is kept. -/
def Core.heartbeatFails (now : Nat) (c : Core) : Core :=
  if !c.healthy then c
  else (c.mapEv (fun v => { v with hbFailed := some now })).mapNv (fun n => { n with hbRecord := some 0 })

def execHeartbeatFailure (t : Nat) (s : State) : Host.Outcome State Fault Refusal :=
  State.run t (fun now c => c.heartbeatFails now) s

end Sys2Proof.Machine
end

