-- ==== Sys2Proof/Machine/Clocks.lean ====
section
/-!
DEFINITION. Clock synthesis (10 R311 to R334): apply, search and lock of PLL-C (number 0) and PLL-T (number
1), what a hold of either does to the rest (04 R114, 09 R297, 15 R455), loss and return of REFIN, and
the fine delays.
-/

namespace Sys2Proof.Machine

def Core.pll (c : Core) (p : Nat) : Pll := if p = 1 then c.clk.pllT else c.clk.pllC

def Core.mapPll (p : Nat) (f : Pll → Pll) (c : Core) : Core :=
  c.mapClk (fun k => if p = 1 then { k with pllT := f k.pllT } else { k with pllC := f k.pllC })

/-! ### Outputs held and running (10 R319, R328) -/

/-- Every counting clock is held low: steps of the journeyman walk restart (04 R114, R125). -/
def Core.holdC (c : Core) : Core :=
  ((c.mapClk (fun k => { k with segs := k.segs.map (fun s => { s with held := true }) })).put
    0x2D13 0 0).walksRestart

/-- The timebase is held: rows that await their test are released and no exposure follows (15 R455). -/
def Core.holdT (now : Nat) (c : Core) : Core :=
  if c.clk.tHeld then c
  else
    let c := ((c.markCoasted now).skipUnmade now).releaseAll.linksStop now
    (c.mapMot (fun m => { m with noExpose := true, afterHold := true })).mapClk
      (fun k => { k with tHeld := true, heldAt := now })

def Core.holdPll (now p : Nat) (c : Core) : Core := if p = 1 then c.holdT now else c.holdC

/-- The first moment after `now` on the grid that has `edge` and the period `p`. -/
def nextEdge (edge p now : Nat) : Nat := if now < edge then edge - (edge - now - 1) / p * p else edge + ((now - edge) / p + 1) * p

/-- The REFIN rising edge at which outputs start after `now`: the next one, or with the divider by 2 the next at which it
rises (10 R319). -/
def Core.startEdge (c : Core) (now : Nat) : Nat :=
  if c.obj 0x2D02 1 = 2 then nextEdge c.clk.divRise 80 now else nextEdge c.clk.refEdge 40 now

/-- The index of the tick of `now`, counted from the restart of PLL-T's outputs: a multiple of 10 at a REFIN edge
(10 R321). -/
def Core.tickIndex (c : Core) (now : Nat) : Nat := (now - c.clk.tickEdge) / 4

/-- REFIN's edges are seen: where they lie is not stated, a free value, and so is which of two the divider by 2 rises at
where the edges have been missing in between (10 R313, R321, R325). At boot time zero it rises at the first edge. -/
def Core.refPhase (now : Nat) (boot : Bool) (c : Core) : Core :=
  let r := c.fresh
  let edge := tickUp now + r.1 % 10 * 4
  r.2.mapClk (fun k => { k with refEdge := edge, divRise := edge + (if boot then 0 else r.1 / 10 % 2 * 40) })

/-- The outputs of the enabled segments start together; a foreground calibration restarts its phases
(10 R315, R319, R328). -/
def Core.startC (now : Nat) (c : Core) : Core :=
  let edge := c.startEdge now
  let c := c.mapClk (fun k => { k with segs := k.segs.zipIdx.map (fun s =>
    if c.segOn s.2 then { s.1 with held := false, lastEnd := some edge } else s.1) })
  let c := c.put 0x2D13 0 (c.obj 0x2201 0)
  if c.calRun then { c with calAt := now } else c

/-- The segment outputs follow the enabled segments; one newly enabled starts on a REFIN edge, so it waits while
REFIN is lost (10 R328). -/
def Core.outputsFollow (now : Nat) (c : Core) : Core :=
  if !c.clk.pllC.lockedFor30 then c
  else
    let edge := c.startEdge now
    let c := c.mapClk (fun k => { k with segs := k.segs.zipIdx.map (fun s =>
      if !c.segOn s.2 then { s.1 with held := true }
      else if s.1.held && k.refOn then { s.1 with held := false, lastEnd := some edge } else s.1) })
    c.put 0x2D13 0 (sumNat ((c.clk.segs.zipIdx.map (fun s => if s.1.held then 0 else 2 ^ s.2))))

/-- Exposures of a timed burst whose reset time has passed in the hold are skipped (15 R455). -/
def Core.skipTimed (now : Nat) : Nat → Core → Core
  | 0, c => c
  | k + 1, c =>
    let p := 4 * c.obj 0x2460 6
    let base : Rat := ((c.mot.burstAt + 150 + c.mot.burstNext * p : Nat) : Rat) +
      (if c.mot.nextB then (c.phase true - c.phase false) * (p : Rat) else 0)
    if c.mot.burstLeft = 0 || (now : Rat) < base then c
    else
      let last := !c.dual || c.mot.nextB
      let c := (c.mapMot (fun m => { m with
        skipped := m.skipped ++ [(ofSigned 32 m.nextM, m.nextB)] })).advance
      (c.when last (Core.mapMot (fun m => { m with
        burstLeft := m.burstLeft - 1, burstNext := m.burstNext + 1 }))).skipTimed now k

/-- A tinker engine at the first tick after a hold: what came in the hold acts at that tick, and a running engine's
remaining ticks count on from it (09 R297, R298, R300). -/
def Tk.resume (held first : Nat) (e : Tk) : Tk :=
  let d := e.div + 1
  let left := if tickOf held < tickOf e.next then tickOf e.next - tickOf held
    else d - (tickOf held - tickOf e.next) % d
  let next := if e.running then first + (left - 1) * 4 else e.next
  { e with
    starts := e.starts.map (fun t => max t first), stopAt := e.stopAt.map (fun t => max t first),
    dbg := e.dbg.map (fun x => (max x.1 first, x.2)), next := next, t0 := e.t0 + (next - e.next) }

/-- Ticks occur again: tinker engines resume with their remaining delays, DC time is loaded anew, the web loop seeds
anew, and alarms whose deadline has passed are retracted (09 R297, 10 R327, 05 R145, 15 R455). -/
def Core.tickResume (now : Nat) (c : Core) : Core :=
  if !c.clk.tHeld || c.clk.pllT.st ≠ 3 then c
  else
    let first := max (tickUp now) c.clk.tickEdge
    let c := ((c.tkSync now).mapTk (fun t => { t with
      engs := t.engs.map (Tk.resume c.clk.heldAt first) })).mapClk (fun k => { k with tHeld := false })
    let c := c.when c.ec.dcRunning (Core.dcLoad first)
    let c := if c.timedJob then
        (c.skipTimed now (2 * c.mot.burstLeft)).mapMot (fun m => { m with noExpose := false, afterHold := false })
      else if c.loopRuns then
        ((c.condOff 0x7312 0).condOff 0x7311 0).mapMot (fun m => { m with
          loop := .seeding, seedEdge := none, slewLeft := 0, overspace := false, noExpose := true })
      else c.mapMot (fun m => { m with noExpose := false, afterHold := false })
    c.alarmsFollow now

def execPllTRestart (t : Nat) (s : State) : Host.Outcome State Fault Refusal :=
  State.run t (fun now c => c.tickResume now) s

/-! ### Apply (10 R314 to R316) -/

def Core.relockFlag (c : Core) : Core := c.put 0x2D01 5 (b2n (c.clk.relock.contains true))

/-- The segment dividers of the shadow as 2D02h.04 shows them. -/
def Core.shadowDividers (c : Core) : Nat :=
  sumNat ((List.range 8).map (fun s => c.obj 0x2D12 (s + 1) % 2 * 2 ^ s))

/-- What an apply changes: PLL-C's and PLL-T's share. -/
def Core.applyChanges (c : Core) (p : Nat) : Bool :=
  c.obj 0x2D01 1 != c.obj 0x2D02 1 || c.obj 0x2D01 (2 + p) != c.obj 0x2D02 (2 + p) ||
    (p == 0 && c.shadowDividers != c.obj 0x2D02 4)

/-- The PLLs that an apply relocks. -/
def Core.applyRelocks (c : Core) : List Nat :=
  [0, 1].filter (fun p => c.applyChanges p || (c.pll p).st == 6)

def Core.applyCodes (c : Core) : List Nat :=
  reason (!c.applyRelocks.isEmpty && c.mode != .standby && c.mode != .calibrate) 0x08000021 ++
  reason (c.flag 0x2D01 5) 0x08000031

/-- A frequency within ±500 ppm of its target. -/
def ppmOk (ppm : Int) : Bool := -500 ≤ ppm && ppm ≤ 500

/-- The middle one of the 64 VCO bands, where a binary search begins (10 R317). -/
def midBand : Nat := 32

/-- The band after a step of the six: a lower half where the output ran too fast, else the upper one; the sixth step
decides the last bit (10 R317; that a higher band is faster is PRESUMED, log entry 71). -/
def bandNext (step : Nat) (ppm : Int) (band : Nat) : Nat :=
  (if 0 < ppm then band - 2 ^ (5 - step) else band) + (if step < 5 then 2 ^ (4 - step) else 0)

/-- The longest coast in µs. -/
def Core.coastEnds (now : Nat) (c : Core) : Core :=
  match c.clk.coastAt with
  | some a => (c.raiseTo 0x2D03 4 ((now - a) / 1000 % 2 ^ 32)).mapClk (fun k => { k with coastAt := none })
  | none => c

/-- One of the six steps again from the first (10 R317). -/
def Pll.search (x : Pll) : Pll := { x with st := 1, band := midBand, step := 0, good := 0, okBand := none, guess := false }

/-- A band search begins with the outputs held; a coast ends where neither PLL coasts any more. -/
def Core.searchStart (now p : Nat) (c : Core) : Core :=
  let c := (c.holdPll now p).mapPll p (fun x => { x.search with fails := 0, locked := false })
  c.when (c.clk.pllC.st != 4 && c.clk.pllT.st != 4) (Core.coastEnds now)

/-- Every shadow into force. -/
def Core.shadowsLoad (c : Core) : Core :=
  ([1, 2, 3].foldl (fun c s => c.put 0x2D02 s (c.obj 0x2D01 s)) c).put 0x2D02 4 c.shadowDividers

def Core.pllApply (now : Nat) (c : Core) : Core :=
  let ps := c.applyRelocks
  let c := c.shadowsLoad
  let c := ps.foldl (fun c p => (c.searchStart now p).mapClk (fun k => { k with
    relock := modAt k.relock p (fun _ => true) })) c
  c.relockFlag

def execPllApply (t : Nat) (orig : Orig) (v : Byte) (s : State) : Host.Outcome State Fault Refusal :=
  State.run t (fun now c => c.command now orig 0x2D01 4 1 v.toNat c.applyCodes (Core.pllApply now)) s

/-! ### Search, lock and restart (10 R317 to R319) -/

def Core.relockOver (p : Nat) (c : Core) : Core :=
  (c.mapClk (fun k => { k with relock := modAt k.relock p (fun _ => false) })).relockFlag

/-- A window of the search: its step moves the band, and the sixth leaves the band found: the one the steps end on, or
one that a window found right, or where the output ran too fast in the sixth the band below, which no window has
measured (10 R317, R318; DEDUCED, log entry 71). -/
def Pll.searchStep (ppm : Int) (x : Pll) : Pll :=
  let ok := if ppmOk ppm then some x.band else x.okBand
  let next := bandNext x.step ppm x.band
  if x.step < 5 then { x with step := x.step + 1, band := next, okBand := ok }
  else match ok with
    | some b => { x with st := 2, step := 0, band := b, good := 0, okBand := none }
    | none => if 0 < ppm then { x with st := 2, step := 0, band := next, good := 0, guess := true } else x

/-- No band is right: the search is repeated twice, then the PLL is in FAULT (10 R318). -/
def Core.searchFails (now p : Nat) (c : Core) : Core :=
  if (c.pll p).fails < 2 then c.mapPll p (fun x => { x.search with fails := x.fails + 1 })
  else ((c.mapPll p (fun x => { x with st := 6, step := 0, fails := 0, guess := false })).event now 0x5063 0xFF
    (leBytes 1 p)).relockOver p

/-- A counter window ends: a step of the search, or a lock window; the first of these measures a band that none has
measured yet. -/
def Core.pllWindow (now p : Nat) (ppm : Int) (phaseOk : Bool) (c : Core) : Core :=
  let x := c.pll p
  if !c.clk.refOn || x.locked then c
  else if x.st = 1 then
    if x.step = 5 && x.okBand.isNone && ppm < -500 then c.searchFails now p else c.mapPll p (Pll.searchStep ppm)
  else if x.st = 2 then
    if x.guess then
      if ppmOk ppm then c.mapPll p (fun x => { x with guess := false, good := 1 }) else c.searchFails now p
    else if !ppmOk ppm then c.mapPll p (fun x => { x with good := 0 })
    else if x.good = 0 || !phaseOk then c.mapPll p (fun x => { x with good := 1 })
    else c.mapPll p (fun x => { x with good := 2, locked := true })
  else c

def execPllSearchWindow (t : Nat) (pllT : Bool) (ppm : Int) (phaseOk : Bool) (s : State) :
    Host.Outcome State Fault Refusal :=
  State.run t (fun now c => c.pllWindow now (b2n pllT) ppm phaseOk) s

/-- The outputs of a PLL that has declared lock start together. -/
def Core.outputStart (now p : Nat) (c : Core) : Core :=
  let c := ((c.mapPll p (fun x => { x with st := 3, good := 0, locked := false })).bump 0x2D03 6).condOff 0x5060 p
  let c := c.relockOver p
  if p = 1 then
    let r := c.fresh
    (r.2.put 0x2D20 3 (650 + r.1 % 501)).mapClk (fun k => { k with tickEdge := c.startEdge now })
  else c.startC now

def Core.outputRestart (now p : Nat) (c : Core) : Core :=
  c.when ((c.pll p).st == 2 && (c.pll p).locked && c.clk.refOn) (Core.outputStart now p)

def execOutputRestart (t : Nat) (pllT : Bool) (s : State) : Host.Outcome State Fault Refusal :=
  State.run t (fun now c => c.outputRestart now (b2n pllT)) s

/-- A locked PLL leaves its window (10 R320). -/
def Core.pllUnlock (now p : Nat) (c : Core) : Core :=
  if (c.pll p).st ≠ 3 ∧ (c.pll p).st ≠ 5 then c
  else ((c.bump 0x2D03 2).condOn now 0x5060 0xFF p (leBytes 1 p)).searchStart now p

def execPllUnlock (t : Nat) (pllT : Bool) (s : State) : Host.Outcome State Fault Refusal :=
  State.run t (fun now c => c.pllUnlock now (b2n pllT)) s

/-! ### REFIN lost and returned (10 R323 to R326) -/

/-- The EtherCAT slave controller stops with REFIN: the module reports DC in sync no longer; its copy of DC time goes on
(02 R54, 10 R323, R324; DEDUCED, log entry 169). -/
def Core.ecatStops (now : Nat) (c : Core) : Core :=
  c.when c.ec.dcInSync (fun c => (c.mapEc (fun e => { e with dcInSync := false })).event now 0x0126 0xFF [])

/-- Both PLLs freeze and coast. -/
def Core.refinLost (now : Nat) (c : Core) : Core :=
  let c := c.mapClk (fun k => { k with refLost := true })
  if !c.clk.refOn then c
  else
    let coast := fun (x : Pll) => if x.st = 3 ∨ x.st = 5 then { x with st := 4 } else x
    let c := ((c.mapClk (fun k => { k with refOn := false })).mapPll 0 coast).mapPll 1 coast
    let c := c.mapClk (fun k => { k with
      coastAt := if k.pllC.st == 4 || k.pllT.st == 4 then some now else none })
    ((c.bump 0x2D03 1).condOn now 0x5061 0xFF 0 []).ecatStops now

def execRefinLost (t : Nat) (s : State) : Host.Outcome State Fault Refusal :=
  State.run t (fun now c => c.refinLost now) s

/-- Half a period of the phase detector in ps, by the reference mode in force (10 R313, R325). -/
def Core.halfPfd (c : Core) : Int :=
  if c.obj 0x2D02 1 = 1 then 10000 else if c.obj 0x2D02 1 = 2 then 40000 else 20000

/-- REFIN is back: within ±500 ppm each coasting PLL slews its error out and a PLL that is off for the
expiry relocks; otherwise it is ignored and counted as a loss. -/
def Core.refinReturn (now : Nat) (ppm errPs : Int) (c : Core) : Core :=
  if !c.clk.refLost then c
  else if !c.pw.fwRuns then c.mapClk (fun k => { k with refLost := false })
  else if !ppmOk ppm then c.bump 0x2D03 1
  else
    let c := (c.mapClk (fun k => { k with refLost := false })).refPhase now false
    let h := c.halfPfd
    let err := (errPs + h) % (2 * h) - h
    let coasts := c.clk.pllC.st == 4 || c.clk.pllT.st == 4
    let c := (c.mapClk (fun k => { k with refOn := true })).coastEnds now
    let c := c.when coasts (fun c => (c.put 0x2D03 5 (ofSigned 32 err)).mapClk (fun k => { k with
      phaseErr := err, slewAt := now }))
    let back := fun (x : Pll) => if x.st = 4 then { x with st := 5 } else x
    let c := (c.mapPll 0 back).mapPll 1 back
    let c := [0, 1].foldl (fun c p => c.when ((c.pll p).st == 0 && c.blocksOn) (Core.searchStart now p)) c
    (c.outputsFollow now).condOff 0x5061 0

def execRefinReturn (t : Nat) (ppm errPs : Int) (s : State) : Host.Outcome State Fault Refusal :=
  State.run t (fun now c => c.refinReturn now ppm errPs) s

/-- The slew of 10 µs per ns of error is over. -/
def Core.slewDone (now p : Nat) (c : Core) : Core :=
  c.when ((c.pll p).st == 5 && decide (c.clk.slewAt + 10 * c.clk.phaseErr.natAbs ≤ now))
    (fun c => (c.mapPll p (fun x => { x with st := 3 })).condOff 0x5060 p)

def execSlewComplete (t : Nat) (pllT : Bool) (s : State) : Host.Outcome State Fault Refusal :=
  State.run t (fun now c => c.slewDone now (b2n pllT)) s

/-- Coasting has reached the holdover limit (10 R326). -/
def Core.holdoverExpires (now : Nat) (c : Core) : Core :=
  match c.clk.coastAt with
  | none => c
  | some a =>
    if now < a + c.obj 0x2D04 1 * 1000 || (c.clk.pllC.st != 4 && c.clk.pllT.st != 4) then c
    else
      let c := ((c.coastEnds now).bump 0x2D03 3).event now 0x5062 0xFF []
      let c := (c.holdPll now 0).holdPll now 1
      let off := fun (x : Pll) => if x.st = 4 then { x with st := 0 } else x
      (c.mapPll 0 off).mapPll 1 off

def execHoldoverExpired (t : Nat) (s : State) : Host.Outcome State Fault Refusal :=
  State.run t (fun now c => c.holdoverExpires now) s

/-! ### Fine delay (10 R329) -/

/-- The delay in force moves one step towards its target. -/
def Core.fineStep (seg : Nat) (c : Core) : Core :=
  let a := c.obj 0x2D11 (seg + 1)
  let b := c.obj 0x2D10 (seg + 1)
  if !(c.obj 0x2D13 0).testBit seg then c
  else c.put 0x2D11 (seg + 1) (if a < b then a + 1 else if b < a then a - 1 else a)

def execFineDelayStep (t : Nat) (seg : Fin 8) (s : State) : Host.Outcome State Fault Refusal :=
  State.run t (fun _ c => c.fineStep seg.val) s

/-! ### DUSK and power (10 R331) -/

/-- Both PLLs stop with their outputs low. -/
def Core.pllsStop (now : Nat) (c : Core) : Core :=
  let off := fun (x : Pll) => ({ x with st := 0, step := 0, fails := 0, good := 0, locked := false } : Pll)
  let c := ((((c.holdPll now 0).holdPll now 1).mapPll 0 off).mapPll 1 off).coastEnds now
  (c.mapClk (fun k => { k with relock := [false, false] })).relockFlag

/-- Both PLLs have locked and their outputs run, at BOOT and in Dawn; or they stand in FAULT, which also
ends a lock that REFIN's absence keeps from coming. The bands found there are free values (log entry 71). -/
def Core.pllsLocked (now : Nat) (ok : Bool) (c : Core) : Core :=
  if ok then
    let found := fun (p : Nat) (c : Core) =>
      let r := c.fresh
      r.2.mapPll p (fun x => { x with band := r.1 % 64 })
    (((found 1 (found 0 c)).outputStart now 0).outputStart now 1).tickResume now
  else [0, 1].foldl (fun c p => (c.mapPll p (fun x => { x with st := 6 })).event now 0x5063 0xFF
    (leBytes 1 p)) c

end Sys2Proof.Machine
end

