-- ==== Sys2Proof/Machine/Modes.lean ====
section
/-!
DEFINITION. The mode machine (02 R37, R38, 16 R461 to R464): the checks of a mode request, entering and
leaving a mode, and THERMAL_SHUTDOWN (15 R457).
-/

namespace Sys2Proof.Machine

/-! ### The checks of R461 -/

/-- A source position of an enabled column lies outside the enabled run (06 R205). -/
def Core.remapBeyond (c : Core) : Bool :=
  let lo : Rat := (c.firstCol : Rat)
  let hi : Rat := ((c.firstCol + c.numCols : Nat) : Rat) - 1
  (List.range 6).any (fun s => (List.range (c.numCols / 64)).any (fun i =>
    let e := c.remap s (c.firstCol / 64 + i)
    [(0 : Rat), 63].any (fun k => e.1 + e.2.1 * k < lo || hi < e.1 + e.2.1 * k)))

/-- An alarm map that gives a channel above 63 for an enabled column (08 R275). -/
def Core.mapBeyond (c : Core) (v : Nat) : Bool :=
  let w := field v 23 8
  v % 256 != 0xFF && decide (63 < v % 256 + (if w = 0 then 0 else (c.firstCol + c.numCols - 1) / w))

def Core.mapsBeyond (c : Core) : Bool :=
  (List.range 15).any (fun i => c.mapBeyond (c.obj 0x2A70 (i + 1)))

/-- The encoders that the source decodes (05 R140). -/
def Core.encsUsed (c : Core) : List Nat :=
  match c.obj 0x2402 0 with
  | 0 => [0]
  | 1 => [1]
  | _ => [0, 1]

/-- The staging area holds the lead, in HDM (08 R266). -/
def Core.stagingOk (c : Core) : Bool :=
  decide ((c.obj 0x2A20 1 + 512) * 98304 ≤ c.stagingSize) && decide (c.stagingBase + c.stagingSize ≤ hdmEnd)

/-- What CALIBRATE, WEB and SHEET ask for (04 R120, 10 R316, R331, 11 R342, 14 R424, 06 R205). -/
def Core.runCodes (c : Core) (m : Mode) : List Nat :=
  reason (!c.flag 0x2301 0 || !c.refsSettled) 0x08000022 ++
  reason (c.obj 0x2D02 4 &&& c.obj 0x2201 0 != 0) 0x08000031 ++
  reason (c.obj 0x2E00 4 == 4) 0x08000030 ++
  c.linkCodes m ++
  reason (!(c.clk.pllC.lockedFor30 && c.clk.pllT.lockedFor30)) 0x08000021 ++
  reason c.remapBeyond 0x08000031

/-- What WEB and SHEET ask for besides (05 R135, R139, R146, R148, R171, 06 R196, 07 R242, 08 R266,
R275, 13 R409). -/
def Core.jobCodes (c : Core) (m : Mode) : List Nat :=
  let timed := m == .sheet && c.timedSheet
  reason (c.tdi == 1 && decide (c.obj 0x2404 2 < c.obj 0x2404 1)) 0x08000027 ++
  reason (decide (1 < c.maxSpeed * 1000 / c.pitch * (c.linePeriodMin : Rat))) 0x08000028 ++
  reason (!timed && c.encsUsed.any (fun i => decide (8 * c.pitch < (c.obj (0x2400 + i) 2 : Rat)))) 0x08000031 ++
  reason (decide (c.obj 0x2432 3 ≤ c.obj 0x2432 2)) 0x08000031 ++
  reason (!c.exposFit c.obj) 0x08000031 ++
  reason (timed && decide (4 * c.obj 0x2460 6 < c.linePeriodMin)) 0x08000028 ++
  reason (if timed then decide (c.pendingDepth < 0) else decide (c.pendingDepth < (c.neededDepth : Int)))
    0x08000031 ++
  reason (!needsFit (c.needs timed)) 0x08000026 ++
  reason ((c.obj 0x2A10 1).testBit 0 && !c.stagingOk) 0x08000031 ++
  reason c.mapsBeyond 0x08000031 ++ c.areaCodes

/-- The reasons to refuse a transition from the present mode (16 R461). -/
def Core.pathCodes (c : Core) (m : Mode) : List Nat :=
  match c.mode, m with
  | .standby, .dusk => reason (c.pw.running == 2) 0x08000021 ++ reason c.dram.mig.isSome 0x08000031
  | .standby, .service => reason (c.pw.running == 2) 0x08000021
  | .standby, .calibrate => reason (c.pw.running == 2) 0x08000021 ++ c.runCodes .calibrate
  | .standby, .web => reason (c.pw.running == 2) 0x08000021 ++ c.runCodes .web ++ c.jobCodes .web
  | .standby, .sheet => reason (c.pw.running == 2) 0x08000021 ++ c.runCodes .sheet ++ c.jobCodes .sheet
  | .calibrate, .standby | .web, .standby | .sheet, .standby | .service, .standby | .dusk, .standby => []
  | _, _ => [0x08000021]

/-- A mode code that can be requested (02 R38). -/
def modeAsked (code : Nat) : Option Mode :=
  match Mode.ofCode code with
  | some .boot | some .compline | none => none
  | some m => some m

/-- Every reason to refuse a mode request (02 R38, 16 R461, R462). -/
def Core.modeCodes (c : Core) (code : Nat) : List Nat :=
  let busy := c.mode == .boot || c.trans.isSome
  reason busy 0x0800002B ++
  match modeAsked code with
  | none => [0x06090030]
  | some m => if busy || m = c.mode then [] else c.pathCodes m

/-! ### Entering and leaving -/

/-- The transition status, with its vector at complete and refused (02 R37, 13 R415). -/
def Core.modeStatus (st code abort : Nat) (c : Core) : Core :=
  (c.put 0x2002 0 (st + code * 256 + abort % 256 * 65536)).when (2 ≤ st) (Core.msix 9)

/-- What ends when a mode is left for STANDBY (16 R463). -/
def Core.leaveMode (now : Nat) (c : Core) : Core :=
  match c.mode with
  | .web | .sheet => (c.endJob now).mapEc (fun e => { e with waitSync1 := none })
  | .calibrate => c.calStop
  | .service => c.serviceEnds now
  | _ => c

/-- Numbers of the auxiliary contexts start at 0 when SERVICE is entered (07 R228, R229, R236). -/
def Core.enterService (c : Core) : Core :=
  c.mapCtx Ctx.renumber

/-- The device enters a mode: the transition ends, MODE_CHANGED, and what follows the mode. -/
def Core.enterMode (now : Nat) (m : Mode) (c : Core) : Core :=
  let old := c.mode
  let asked := match c.trans with
    | some tr => tr.req && tr.target == m
    | none => false
  let c := { c with mode := m, trans := none }
  let c := c.mapPw (fun p => { p with stdbyAt := if m = .standby then some now else none })
  let c := c.when (m == .service) Core.enterService
  let c := c.linksFollow.walksFollow
  let c := c.when asked (Core.modeStatus 2 m.code 0)
  let c := c.when (old != m) (Core.event now 0x0101 0xFF (leBytes 1 old.code ++ leBytes 1 m.code))
  c.tkAutostart now

/-- A transition begins. -/
def Core.beginMode (now : Nat) (m : Mode) (req : Bool) (c : Core) : Core :=
  let c := { c with trans := some { source := c.mode, target := m, start := now, req := req } }
  let c := c.when req (Core.modeStatus 1 m.code 0)
  if m ≠ .standby then c else if c.mode = .dusk then c.linksDawn else c.leaveMode now

/-- An accepted request (02 R38). -/
def Core.modeAccept (now : Nat) (m : Mode) (c : Core) : Core :=
  let c := c.put 0x2000 0 m.code
  if m = c.mode then c.modeStatus 2 m.code 0
  else
    let c := c.when (m == .web || m == .sheet) (Core.putNeeds (m == .sheet && c.timedSheet))
    c.beginMode now m true

/-- A write of 2000h.00 (02 R38): a request that the mode machine refuses is recorded; one for a code
that cannot be requested, and a write that is no request of its owner, leave 2002h as it was. -/
def Core.modeWrite (now : Nat) (o : Orig) (data : List Byte) (c : Core) : Nat × Core :=
  let code := leNat data % 16
  let own := c.modeCodes code
  match firstCode (c.writeCodes o 0x2000 0 data own), modeAsked code with
  | some k, some _ => (k, c.when (own.contains k) (Core.modeStatus 3 code k))
  | some k, none => (k, c)
  | none, some m =>
    let r := c.storageWrite now 0x2000 0 data.length
    if r.1 then (0, r.2.modeAccept now m) else (0x08000024, r.2)
  | none, none => (0, c)

def execModeRequest (t : Nat) (orig : Orig) (v : Byte) (s : State) : Host.Outcome State Fault Refusal :=
  State.run t (fun now c => Core.answered orig 0x2000 0 (c.modeWrite now orig [v])) s

/-- The target mode is entered; the job has ended before STANDBY is. DUSK and Dawn end by their own
steps (16 R461, R471, R473). -/
def Core.modeComplete (now : Nat) (c : Core) : Core :=
  match c.trans with
  | none => c
  | some tr =>
    if tr.source = .dusk || tr.target = .dusk || c.job.running then c else c.enterMode now tr.target

def execModeTransitionComplete (t : Nat) (s : State) : Host.Outcome State Fault Refusal :=
  State.run t (fun now c => c.modeComplete now) s

/-- Tj reaches 105 °C (15 R457, 16 R464): exposures stop, the job ends, STANDBY is entered. A transition
that has not left STANDBY is cut short. In STANDBY, or on the way there, it is issued once until Tj falls below. -/
def Core.thermalShutdown (now : Nat) (c : Core) : Core :=
  let done := c.pw.hot && (c.mode == .standby || c.trans.isSome)
  if c.tj < 10500 || !c.sensing 16 || c.mode = .boot || c.mode = .dusk || done then c
  else
    let c := ((c.event now 0x4230 0xFF []).stopJob now).mapPw (fun p => { p with hot := true })
    if c.mode = .standby then { c with trans := none }
    else if c.trans.isSome then c
    else c.beginMode now .standby false

def execThermalShutdown (t : Nat) (s : State) : Host.Outcome State Fault Refusal :=
  State.run t (fun now c => c.thermalShutdown now) s

end Sys2Proof.Machine
end

