-- ==== Sys2Proof/Machine/Power.lean ====
section
/-!
DEFINITION. Reset and BOOT (16 R465 to R469), DUSK and Dawn (16 R471 to R473), hold-up and COMPLINE (16 R474 to
R481), and the scrivener's journal in configuration flash (16 R482 to R485).
-/

namespace Sys2Proof.Machine

/-! ### The journal (16 R482 to R485) -/

/-- Bytes of a value object in a journal entry. -/
def JEntry.value' (e : JEntry) : List Byte :=
  match findRow (e.key / 256) (e.key % 256) with
  | some r => if r.ty.bytes = 0 then e.bytes else leBytes r.ty.bytes e.value
  | none => leBytes 4 e.value

/-- A journal entry as it stands in flash (16 R482). -/
def JEntry.flash (e : JEntry) : List Byte :=
  let v := e.value'
  let h := leBytes 4 e.seqNo ++ leBytes 2 (e.key / 256) ++ leBytes 1 (e.key % 256) ++ leBytes 1 0 ++ leBytes 4 v.length
  h ++ leBytes 4 (crc32 (h ++ v)) ++ v ++ zeros ((8 - v.length % 8) % 8)

def JEntry.size (e : JEntry) : Nat := 16 + (e.value'.length + 7) / 8 * 8

/-- The key of a restore-defaults entry (16 R482). -/
def restoreKey : Nat := key 0x1011 1

/-- What is left of a log where a write to 1011h.01 makes every earlier value a default (02 R35); a retirement,
which host software cannot clear, stays (04 R127, DEDUCED: log entry 139). -/
def sinceRestore (l : List JEntry) : List JEntry :=
  l.foldl (fun acc e => if e.key = restoreKey then acc.filter (fun x => x.key / 256 == 0x2330)
    else acc ++ [e]) []

/-- The latest entry of every object. -/
def latest (l : List JEntry) : List JEntry :=
  l.foldl (fun acc e => acc.filter (fun x => x.key != e.key) ++ [e]) []

def JRegion.log (r : JRegion) : List JEntry := r.snap ++ r.entries

def Core.region (c : Core) (i : Nat) : JRegion := c.nv.regions.getD i {}

def Core.mapRegion (i : Nat) (f : JRegion → JRegion) (c : Core) : Core :=
  c.mapNv (fun n => { n with regions := modAt n.regions i f })

/-- The sealed region of the highest generation (16 R485). -/
def Core.activeRegion (c : Core) : Nat :=
  let a := c.region 0
  let b := c.region 1
  if b.sealed && (!a.sealed || decide (a.gen < b.gen)) then 1 else 0

def lastSeq (r : JRegion) : Nat := (r.entries.getLast?.map (·.seqNo)).getD r.snapSeq

/-- The regions of the configuration flash of 64 MiB (16 R470): no command writes the factory region, whose content is
Config's; what the two copies of the boot directory hold is not stated, and they hold nothing of the model's own. -/
inductive FlashRegion where
  | bootDirectory | complineArea | reserved0 | journal0 | journal1 | slotA | slotB | kernelPackage | calibration
  | factory | reserved1
  deriving DecidableEq, Repr

/-- Bytes of an erase sector (16 R470). -/
def flashSector : Nat := 65536

/-- The first byte of a region, and its bytes (16 R470). -/
def FlashRegion.base : FlashRegion → Nat
  | .bootDirectory => 0x00000000 | .complineArea => 0x00020000 | .reserved0 => 0x00030000
  | .journal0 => 0x00040000 | .journal1 => 0x00240000 | .slotA => 0x00440000 | .slotB => 0x01040000
  | .kernelPackage => 0x01C40000 | .calibration => 0x02040000 | .factory => 0x02840000 | .reserved1 => 0x03040000

def FlashRegion.size : FlashRegion → Nat
  | .bootDirectory => 2 * flashSector | .complineArea => flashSector | .reserved0 => flashSector
  | .journal0 => 32 * flashSector | .journal1 => 32 * flashSector | .slotA => 192 * flashSector
  | .slotB => 192 * flashSector | .kernelPackage => 64 * flashSector | .calibration => 128 * flashSector
  | .factory => 128 * flashSector | .reserved1 => 252 * flashSector

/-- Bytes of the last snapshot (16 R494). -/
def JRegion.live (r : JRegion) : Nat := sumNat (r.snap.map (fun e => Config.snapshotItem e.value'.length))

/-- How full a region is, in percent of 2 MiB (16 R470, R484). -/
def JRegion.fill (r : JRegion) : Nat :=
  (Config.regionFrame + r.live + sumNat (r.entries.map JEntry.size)) * 100 / FlashRegion.journal0.size

/-- The scrivener runs. -/
def Core.flashRuns (c : Core) : Bool := c.pw.fwRuns && c.mode != .compline

/-- Pending entries written to the active region (16 R482, R484). -/
def Core.flush (c : Core) : Core :=
  let l := c.pw.pendJ
  (c.mapRegion c.activeRegion (fun r => { r with entries := r.entries ++ l })).mapPw (fun p => { p with pendJ := [] })

def execScrivenerJournal (t : Nat) (flashOk : Bool) (s : State) : Host.Outcome State Fault Refusal :=
  State.run t (fun _ c => c.when (flashOk && c.flashRuns) Core.flush) s

/-- A compaction starts: S is the last entry of the active region (16 R484). -/
def Core.compactStart (c : Core) : Core :=
  c.mapPw (fun p => { p with compact := 1, compactS := lastSeq (c.region c.activeRegion) })

def execCompactionAuto (t : Nat) (s : State) : Host.Outcome State Fault Refusal :=
  State.run t (fun _ c =>
    c.when (c.flashRuns && c.mode != .dusk && c.pw.compact == 0 && decide (75 ≤ (c.region c.activeRegion).fill))
      Core.compactStart) s

/-- Reasons to refuse 3320h.06 (16 R484). -/
def Core.compactCodes (c : Core) : List Nat := reason (c.pw.compact != 0) 0x08000031

def execCompactionCommand (t : Nat) (orig : Orig) (v : Byte) (s : State) : Host.Outcome State Fault Refusal :=
  State.run t (fun now c => c.command now orig 0x3320 6 1 v.toNat c.compactCodes Core.compactStart) s

/-- The region that a compaction of `old` makes (16 R484). -/
def JRegion.compacted (old : JRegion) (s erases : Nat) : JRegion :=
  { gen := old.gen + 1, snapSeq := s, sealed := true, erases := erases,
    snap := latest (sinceRestore (old.log.filter (fun e => e.seqNo ≤ s))),
    entries := old.entries.filter (fun e => s < e.seqNo) }

/-- The new region is sealed, the old one erased (16 R484). -/
def Core.compactDone (c : Core) : Core :=
  let a := c.activeRegion
  let old := c.region a
  let c := (c.mapRegion (1 - a) (fun r => old.compacted c.pw.compactS r.erases)).mapRegion a
    (fun r => { erases := r.erases + 1 })
  let c := (c.mapPw (fun p => { p with compact := 0 })).bumpKept 0x3320 7
  let most := max (c.region 0).erases (c.region 1).erases
  if c.obj 0x3320 9 < most then c.store 0x3320 9 (most % 2 ^ 32) else c

def execCompactionComplete (t : Nat) (s : State) : Host.Outcome State Fault Refusal :=
  State.run t (fun _ c => c.when (c.flashRuns && c.pw.compact == 1) Core.compactDone) s

/-- A journal entry's value in force. -/
def Core.replayOne (c : Core) (e : JEntry) : Core :=
  match findRow (e.key / 256) (e.key % 256) with
  | some r => if r.ty == .dom then c.putBytes (e.key / 256) (e.key % 256) e.bytes
      else c.put (e.key / 256) (e.key % 256) e.value
  | none => c

/-- The entries that BOOT takes, in order (16 R485). -/
def Core.replayLog (c : Core) : List JEntry :=
  let a := c.activeRegion
  let r := c.region a
  let o := c.region (1 - a)
  r.log ++ (if o.sealed then o.entries.filter (fun e => lastSeq r < e.seqNo) else [])

def Core.replay (c : Core) : Core := (latest (sinceRestore c.replayLog)).foldl Core.replayOne c

/-! ### Reset (16 R465) -/

def resetCode : ResetCause → Nat
  | .powerOn => 0 | .resetN => 1 | .heartbeat => 2 | .command => 3 | .afterCompline => 4 | .unarmedTrip => 5

/-- The end of the internal reset pulse of a reset that the module makes itself. -/
def resetEnd (now : Nat) (cause : ResetCause) : Nat := match cause with
  | .powerOn | .resetN => now
  | .heartbeat | .command | .afterCompline | .unarmedTrip => now + 10000

/-- A TRIAL slot that runs as its heartbeat fails is BAD (16 R467). -/
def Core.slotBad (i : Nat) (c : Core) : Core :=
  c.mapNv (fun n => { n with slots := modAt n.slots i (fun k => if k.st = 3 then { k with st := 5 } else k) })

/-- The module after a reset: what flash holds, what stands on its pins and the model's own fields stay
(16 R465, R470); 2A01h and 2A52h lie in flash. -/
def Core.afterReset (c : Core) (start : Nat) (cause : Nat) (straps : BitVec 5) : Core :=
  let kept : Core := {
    dict := c.dict.filter (fun p => p.1 == key 0x2A01 0),
    doms := c.doms.filter (fun p => p.1 / 2 ^ 32 == 0x2A01 || p.1 / 2 ^ 32 == 0x2A52),
    nv := c.nv, free := c.free, out := c.out, pw := { bootZero := start, straps := straps },
    tk := { ext := c.tk.ext, trig := c.tk.trig }, pads := { pins := c.pads.pins, pinsAt := c.pads.pinsAt }, clk := { refLost := c.clk.refLost },
    cxl := { perst := c.cxl.perst, downAt := start }, ec := { alLowSince := start } }
  (kept.put 0x3310 6 cause).put 0x3400 1 (88 + straps.toNat % 8)

def Core.doReset (now : Nat) (cause : ResetCause) (straps : BitVec 5) (c : Core) : Core :=
  let c := c.when (cause == .heartbeat && c.pw.fwRuns) (Core.slotBad c.pw.running)
  c.afterReset (resetEnd now cause) (resetCode cause) straps

/-- A reset of the module's own: the straps are sampled anew, and their levels then are not given: a free value (16
R465). -/
def Core.ownReset (now : Nat) (cause : ResetCause) (c : Core) : Core :=
  let r := c.fresh
  r.2.doReset now cause (BitVec.ofNat 5 r.1)

/-- Until COMPLINE has written its seal no reset but that of a power-on acts: a RESET_N is held off, and one released by
then has reset nothing (17 R502, 15 R458). -/
def Core.resetHeldOff (c : Core) (cause : ResetCause) : Bool :=
  c.mode == .compline && cause != .powerOn && !c.nv.area.any (·.sealed)

def execReset (t : Nat) (cause : ResetCause) (straps : BitVec 5) (s : State) : Host.Outcome State Fault Refusal :=
  State.run t (fun now c => if c.resetHeldOff cause then c else c.doReset now cause straps) s

/-- 10 ms after a heartbeat failure (15 R456). -/
def Core.heartbeatReset (now : Nat) (c : Core) : Core :=
  match c.ev.hbFailed with
  | some a => if a + 10000000 ≤ now && c.mode != .compline then c.ownReset now .heartbeat else c
  | none => c

def execHeartbeatReset (t : Nat) (s : State) : Host.Outcome State Fault Refusal :=
  State.run t (fun now c => c.heartbeatReset now) s

/-- Reasons to refuse 3310h.08 (16 R469). -/
def Core.resetCodes (c : Core) : List Nat := reason (c.mode != .standby) 0x08000021

/-- A reset command accepted; the reset follows its answer (16 R469). -/
def Core.resetAsk (c : Core) : Core := c.mapPw (fun p => { p with resetDue := true })

def Core.resetIfDue (now : Nat) (c : Core) : Core :=
  c.when c.pw.resetDue (Core.ownReset now .command)

def execResetCommand (t : Nat) (orig : Orig) (sig : Word32) (s : State) : Host.Outcome State Fault Refusal :=
  State.run t (fun now c => (c.command now orig 0x3310 8 4 sig.toNat c.resetCodes Core.resetAsk).resetIfDue now) s

/-! ### BOOT (16 R466, R467) -/

/-- An image that runs: signed, and of family 2. -/
def FwSlot.runnable (k : FwSlot) : Bool := k.image.signed && k.image.family == 2

def Core.slot (c : Core) (i : Nat) : FwSlot := c.nv.slots.getD i {}

def Core.putSlot (i st : Nat) (c : Core) : Core :=
  c.mapNv (fun n => { n with slots := modAt n.slots i (fun k => { k with st := st }) })

def FwSlot.release (k : FwSlot) : Nat := k.image.m * 65536 + k.image.p

/-- The GOOD slot of the higher release, or the recovery image (16 R467, steps 3 and 4). -/
def Core.goodSlot (c : Core) : Nat :=
  let ok := fun i => (c.slot i).st == 4 && (c.slot i).runnable && (c.slot i).image.selfCheck
  if ok 0 && (!ok 1 || decide ((c.slot 1).release ≤ (c.slot 0).release)) then 0 else if ok 1 then 1 else 2

/-- The image that runs (16 R467). -/
def Core.bootSlot (c : Core) : Nat × Core :=
  let pick := fun st => [0, 1].find? (fun i => (c.slot i).st == st && (c.slot i).runnable)
  match (pick 2).or (pick 3) with
  | some i => if (c.slot i).image.selfCheck then (i, c.putSlot i 3) else
      let c := c.putSlot i 5
      (c.goodSlot, c)
  | none => (c.goodSlot, c)

/-- The tables and versions that flash keeps beside the journal (04 R131, 08 R282). -/
def Core.loadTables (c : Core) : Core :=
  let c := c.when c.nv.factory (Core.mapNv (fun n => { n with cal := [], factory := false }))
  let c := { c with doms := c.nv.cal.foldl (fun d (p : Nat × Nat) => sput domDflt d p.1 p.2) c.doms }
  c.nv.kernel.zipIdx.foldl (fun (c : Core) (v : Nat × Nat) => c.put 0x2A00 (v.2 + 1) v.1) c

/-- Retired slices and engines have J in their place from BOOT on (04 R127, 08 R278). -/
def Core.loadRetired (c : Core) : Core :=
  let c := (List.range 16).foldl (fun c q =>
    let n := c.obj 0x2330 (q + 1)
    if n < 64 then c.mapWalk q (fun w => { w with cur := n, serving := true, stopped := true, permanent := true })
    else if n = 64 then c.mapWalk q (fun w => { w with stopped := true, jRetired := true })
    else c) c
  (List.range 8).foldl (fun c s =>
    let n := c.obj 0x2A82 (s + 1)
    if n < 64 then c.mapEngWalk s (fun w => { w with cur := n, shown := n, jServes := some (64 * s + n), stopped := true, permanent := true })
    else if n = 64 then c.mapEngWalk s (fun w => { w with cur := 64, shown := 64, stopped := true })
    else c) c

/-- A migration that the power failed in has its rank mapped to the spare (11 R358). -/
def Core.migrationBoot (c : Core) : Core :=
  match c.nv.migSwap with
  | none => c
  | some (l, dst) =>
    let src := c.rankOf l
    (((c.store 0x2E41 (l + 1) dst).putRank src 4).putRank dst 0).mapNv (fun n => { n with migSwap := none })

/-- Channel 4 has failed training: both spares are unavailable (11 R342). -/
def Core.sparesLost (now : Nat) (c : Core) : Core :=
  ((c.put 0x2E44 9 4).put 0x2E44 0x0A 4).event now 0x5045 0xFF (leBytes 1 4 ++ leBytes 1 0)

/-- A logical rank whose channel failed training moved to a spare; the cause that RANK_RETIRED carries
then is not stated. -/
def Core.rankMoved (now l dst : Nat) (c : Core) : Core :=
  let src := c.rankOf l
  let r := (((c.store 0x2E41 (l + 1) dst).putRank src 4).putRank dst 0).fresh
  r.2.event now 0x5040 0xFF (leBytes 1 src ++ leBytes 1 (r.1 % 256))

/-- What training finds of a byte lane: its delays, and the windows, which pass where the channel trains (11 R341). -/
def Core.laneTrained (good : Bool) (seed : Nat) (c : Core) (l : Nat) : Core :=
  let v := Config.laneTraining l seed
  let rw := if good then max 22 (field v 23 16) else field v 23 16
  let ww := if good then max 19 (field v 31 24) else field v 31 24
  c.put 0x2E10 (l + 1) (v % 65536 + rw * 65536 + ww * 2 ^ 24)

/-- The channels' training (11 R341, R342): `trained` is whether each of the five trained. -/
def Core.dramBoot (now : Nat) (trained : List Bool) (c : Core) : Core :=
  let ok := fun i => trained.getD i false
  let boots := c.obj 0x3310 7
  let c := (List.range 20).foldl (fun c l => c.laneTrained (ok (l / 4)) boots l) c
  let c := (c.put 0x2E01 2 (c.obj 0x2E01 1)).put 0x2E00 4 2
  let c := c.when (!ok 4) (Core.sparesLost now)
  let bad := (List.range 8).filter (fun l => !ok (c.rankOf l / 2) && decide (c.rankOf l < 8))
  match bad with
  | [] => c
  | l0 :: ls =>
    if ok 4 && c.rankState 8 % 16 == 1 && c.rankState 9 % 16 == 1 && decide (ls.length ≤ 1) then
      ls.zipIdx.foldl (fun c p => c.rankMoved now p.1 (9 + p.2)) (c.rankMoved now l0 8)
    else (c.put 0x2E00 4 4).event now 0x5044 0xFF (leBytes 1 (c.rankOf l0 / 2))

/-- Pages that firmware has written by the end of BOOT: the privileged arrays and region 4. -/
def bootPages : List (Nat × Nat) :=
  let run := fun a n => (pageOf a, pageOf (a + n - 1))
  [run (sramAddr 2 Config.tableBase) tableBytes, run (sramAddr 3 Config.dictBase) dictBytes,
   run (sramAddr 3 Config.routeBase) routeBytes, run (sramAddr 4 0) 131072]

/-- The journal entries that COMPLINE saved, those not in flash already, added to the active region before the journal
is replayed (02 R35, 16 R481, R485). -/
def Core.savedEntries (c : Core) : Core := match c.nv.area with
  | none => c
  | some r =>
    let last := lastSeq (c.region c.activeRegion)
    c.mapRegion c.activeRegion (fun k => { k with
      entries := k.entries ++ r.journal.filter (fun e => last < e.seqNo) })

/-- The COMPLINE record taken up, its area erased (16 R481). -/
def Core.takeRecord (now : Nat) (c : Core) : Core :=
  let c := c.when (c.obj 0x3310 6 == 5) (Core.bumpKept 0x3300 9)
  match c.nv.area with
  | none => c
  | some r =>
    let c := (c.bumpKept 0x3300 9).when (c.flag 0x3340 1) (Core.bumpKept 0x3340 9)
    let c := ((c.store 0x3340 1 1).store 0x3340 2 (b2n r.sealed)).storeDom 0x3340 3 r.bytes
    let c := ((c.store 0x3340 4 (r.at_ % 2 ^ 64)).store 0x3340 5 (b2n r.byPin)).store 0x3340 6 (r.line % 2 ^ 48)
    let c := (c.store 0x3340 7 (r.left % 65536)).mapNv (fun n => { n with area := none, erased := true })
    c.eventRaw now 0x3110 r.at_ 0xFF 0 (leBytes 6 r.web ++ leBytes 1 0xFF ++ leBytes 1 (b2n r.byPin))

/-- The record that the scrivener kept of a heartbeat failure (15 R456). -/
def Core.firmwareReset (now : Nat) (c : Core) : Core :=
  match c.nv.hbRecord with
  | some k => (c.event now 0x6010 0xFF (leBytes 1 k)).mapNv (fun n => { n with hbRecord := none })
  | none => c

/-- Alarm routes and dividers as the journal left them (09 R295, R303). -/
def Core.tinkerBoot (c : Core) : Core :=
  c.mapTk (fun t => { t with
    routes := (List.range 32).map (fun r => BitVec.ofNat 32 (c.obj 0x2C40 (r + 1))),
    engs := t.engs.zipIdx.map (fun e => { e.1 with div := c.obj (0x2C10 + e.2) 3 }) })

/-- An enable of an AUX port that the journal restores takes effect as a write of it does (07 R214, R228). -/
def Core.portsBoot (c : Core) : Core :=
  c.mapCtx (fun x => { x with ports := x.ports.zipIdx.map (fun a =>
    if c.flag (auxIdx a.2) 1 then { a.1 with want := some true } else a.1) })

/-- The banks hold the settings in force: what is changed after BOOT is a change for the first rows too (04 R116). -/
def Core.settingsTaken (c : Core) : Core :=
  { c with walks := c.walks.map (fun w => { w with lastSet := (List.range 6).map (setCode (c.genNow 0)) }) }

/-- BOOT, to the report of STANDBY (16 R466). The PLLs lock to a REFIN within ±500 ppm only (10 R312, R318). -/
def Core.boot (now : Nat) (refPpm : Int) (trained : List Bool) (c : Core) : Core :=
  let r := c.bootSlot
  let c := r.2.mapPw (fun p => { p with running := r.1, fwRuns := true })
  let c := ((c.savedEntries.replay.loadTables.loadRetired).bumpKept 0x3310 7).migrationBoot
  let c := ((c.dramBoot now trained).pagesRestart).mapDram (fun d => { d with winAt := now })
  let c := (c.mapSram (fun m => { m with init := bootPages, own := [], fills := [], lampAt := now, sweepPos := [], sweepAt := [], sweepLaps := [], sweepFrom := now })).mapCxl
    (fun x => { x with memActive := true })
  let c := (c.mapClk (fun k => { k with refOn := !k.refLost })).refPhase c.pw.bootZero true
  let c := (c.shadowsLoad.pllsLocked now (c.clk.refOn && ppmOk refPpm))
  let c := ((c.takeRecord now).firmwareReset now).mapNv (fun n => { n with erased := true })
  let c := (c.put 0x2404 3 c.pitchFor).tinkerBoot.portsBoot
  let c := ((c.darkCopy (c.pw.band.getD 0)).mapTw (fun w => { w with latch := false })).settingsTaken
  c.enterMode now .standby

def Core.mayBoot (c : Core) (now : Nat) : Bool :=
  c.mode == .boot && !c.pw.fwRuns && !c.pw.heldReset && decide (c.pw.bootZero ≤ now)

def execBoot (t : Nat) (refPpm : Int) (trained : List Bool) (s : State) : Host.Outcome State Fault Refusal :=
  State.runMem t (fun now m c => if c.mayBoot now then ([], c.boot now refPpm trained) else (m, c)) s

/-- A TRIAL slot 60 s in STANDBY is GOOD (16 R467). -/
def Core.promote (now : Nat) (c : Core) : Core :=
  match c.pw.stdbyAt with
  | some a => c.when (c.mode == .standby && (c.slot c.pw.running).st == 3 && decide (a + 60000000000 ≤ now))
      (Core.putSlot c.pw.running 4)
  | none => c

def execTrialPromotion (t : Nat) (s : State) : Host.Outcome State Fault Refusal :=
  State.run t (fun now c => c.promote now) s

/-! ### DUSK and Dawn (16 R471 to R473) -/

/-- Regions 0 and 1 without power (12 R372). -/
def Core.sramDusk (c : Core) : Core :=
  (c.mapSram (fun m => { m with
    words := m.words.filter (fun p => 2 ≤ sramRegion (8 * p.1)), flips := m.flips.filter (fun p => 2 ≤ sramRegion p.1),
    init := m.init.filter (fun r => 2 ≤ r.1 / 65536), poison := m.poison.filter (fun a => 2 ≤ sramRegion a),
    merge := m.merge.filter (fun e => 2 ≤ sramRegion e.addr), own := m.own.filter (fun a => 2 ≤ sramRegion a),
    fills := m.fills.filter (fun p => 2 ≤ p / 65536) })).poisonCount

/-- Entry to DUSK (16 R471), once the DRAM's queues are drained (11 R359). -/
def Core.duskEntry (now : Nat) (c : Core) : Core :=
  match c.trans with
  | some tr =>
    if tr.target ≠ .dusk || !c.dram.queue.isEmpty then c
    else
      let c := (c.tkHalt now).flush
      let c := c.mapPw (fun p => { p with
        compact := if p.compact = 1 then 2 else p.compact, band := none, bandPend := none, candAt := none })
      let c := (c.refsDisable.put 0x2301 0 0).put 0x3330 0x1B 0xFF
      let c := (c.when c.dramReady (Core.put 0x2E00 4 3)).mapDram (fun d => { d with openRow := [], pred := [] })
      let c := ((c.pllsStop now).sramDusk).mapTk (fun k => { k with autoDone := false })
      c.enterMode now .dusk
  | none => c

def execDuskEntry (t : Nat) (s : State) : Host.Outcome State Fault Refusal :=
  State.run t (fun now c => c.duskEntry now) s

/-- A delay corrected by a measured drift, in 1/64 UI. -/
def drifted (d : Int) (v : Nat) : Nat := (clampInt 0 255 ((v : Int) + d)).toNat

/-- The delays of a lane kept from BOOT, corrected by the measurement (11 R360). -/
def Core.laneWakes (drift : List Int) (c : Core) (l : Nat) : Core :=
  let v := c.obj 0x2E10 (l + 1)
  let d := drift.getD l 0
  c.put 0x2E10 (l + 1) (v / 65536 * 65536 + drifted d (field v 15 8) * 256 + drifted d (field v 7 0))

/-- A channel in Dawn (11 R360): its four lanes corrected, or, with a lane that has drifted by more than 12/64 UI,
trained anew. One that fails is reported; channel 4 takes the spares with it, any other the DRAM (11 R342; log entry
160). -/
def Core.channelWakes (now : Nat) (drift : List Int) (trained : List Bool) (c : Core) (ch : Nat) : Core :=
  let lanes := (List.range 4).map (4 * ch + ·)
  if lanes.all (fun l => (drift.getD l 0).natAbs ≤ 12) then lanes.foldl (Core.laneWakes drift) c
  else
    let good := trained.getD ch false
    let r := c.fresh
    let c := lanes.foldl (Core.laneTrained good r.1) r.2
    if good then c
    else if ch = 4 then c.sparesLost now
    else (c.put 0x2E00 4 4).event now 0x5044 0xFF (leBytes 1 ch)

/-- The DRAM out of self-refresh (11 R360). -/
def Core.dramWakes (now : Nat) (drift : List Int) (trained : List Bool) (c : Core) : Core :=
  if c.obj 0x2E00 4 ≠ 3 then c
  else (List.range 5).foldl (Core.channelWakes now drift trained) (c.put 0x2E00 4 2)

/-- The writes of RW objects in DUSK reach their blocks (16 R472). -/
def Core.blockReached (now : Nat) (c : Core) (w : Nat × Nat) : Core :=
  let idx := w.1 / 256
  let sub := w.1 % 256
  let c' :=
    if idx = 0x2301 then (c.put 0x2301 0 0).refWrite now w.2
    else if idx = 0x2810 || idx = 0x2811 then c.auxEnable (idx - 0x2810) w.2
    else if 0x2C10 ≤ idx && idx ≤ 0x2C40 then c.tkAccept now idx sub w.2
    else if idx = 0x6000 then c.routeChanged now 32 w.2
    else c
  (c'.mapPw (fun p => { p with pendJ := c.pw.pendJ })).mapNv (fun n => { n with nextJ := c.nv.nextJ })

def Core.blocksReached (now : Nat) (c : Core) : Core :=
  (c.pw.duskWrites.foldl (Core.blockReached now) c).mapPw (fun p => { p with duskWrites := [] })

/-- The first sensor-die samples after Dawn, and the band they give (16 R473). -/
def Core.dawnBand (now : Nat) (temps : List Int) (c : Core) : Core :=
  let c := (temps.take 16).zipIdx.foldl (fun c p => c.tempSample now p.2 p.1) c
  let b := bandOf c.ts
  let c := (c.mapPw (fun p => { p with decided := b, lastDec := now, candAt := none })).put 0x3330 0x1C b
  c.bandSet now b

/-- Dawn, to the report of STANDBY (16 R473). -/
def Core.dawn (now : Nat) (pllOk : Bool) (drift : List Int) (trained : List Bool) (linksOk : Bool) (temps : List Int)
    (c : Core) : Core :=
  match c.trans with
  | some tr =>
    if tr.source ≠ .dusk || now < tr.start + 39900000 then c
    else
      let c := (c.pllsLocked now (pllOk && c.clk.refOn)).dramWakes now drift trained
      let c := c.mapPw (fun p => { p with compact := if p.compact = 2 then 1 else p.compact })
      let c := c.dawnLap now
      let c := ((c.enterMode now .standby).msixPending).linksWoken now linksOk
      (c.dawnBand now temps).blocksReached now
  | none => c

def execDawn (t : Nat) (pllOk : Bool) (drift : List Int) (trained : List Bool) (linksOk : Bool) (temps : List Int)
    (s : State) : Host.Outcome State Fault Refusal :=
  State.run t (fun now c => c.dawn now pllOk drift trained linksOk temps) s

/-! ### Hold-up (16 R474, R475) -/

/-- The usable energy is below 66 mJ (16 R475): ½ C (11.5² - 7.0²) is C times 41.625. -/
def energyLow (cap : Nat) : Bool := decide (cap * 41625 < 66000000)

/-- A measurement of the capacitor, and what follows for arming and HOLDUP_LOW (16 R475, R494). -/
def Core.holdup (now cap esr vhold : Nat) (c : Core) : Core :=
  if !c.flashRuns then c
  else
    let c := ((c.put 0x3300 5 (min cap (2 ^ 32 - 1))).put 0x3300 6 (min esr 65535)).put 0x3300 4 (min vhold 65535)
    let armed := c.nv.erased && decide (11500 ≤ vhold)
    let c := (c.put 0x3300 7 (min 65535 (divHalfUp (cap * 41625) 100000))).put 0x3300 8 (b2n armed)
    let low := energyLow cap || (!armed && decide (c.pw.bootZero + 1000000000 ≤ now))
    if low then c.condOn now 0x3120 0xFF 0 [] else c.condOff 0x3120 0

def execHoldupMeasure (t : Nat) (cap_uF esr_mohm vhold_mV : Nat) (s : State) : Host.Outcome State Fault Refusal :=
  State.run t (fun now c => c.holdup now cap_uF esr_mohm vhold_mV) s

/-! ### COMPLINE (16 R476 to R481) -/

/-- A block of the record: its header and its payload (16 R479). -/
def recBlock (ty items : Nat) (payload : List Byte) : List Byte :=
  let h := leBytes 4 ty ++ leBytes 4 (16 + payload.length) ++ leBytes 4 items
  h ++ leBytes 4 (crc32 (h ++ payload)) ++ payload

/-- The oldest entries that fit in `room` bytes, and the rest (16 R480). -/
def takeFit : Nat → List JEntry → List JEntry × List JEntry
  | _, [] => ([], [])
  | room, e :: l => if e.size ≤ room then
      let r := takeFit (room - e.size) l
      (e :: r.1, r.2) else ([], e :: l)

/-- The defect tail: the newest 512 records that are not visible in DFR (16 R480). -/
def Core.defectTail (c : Core) : List (List Byte) :=
  (c.ring 0).held.drop ((c.ring 0).held.length - 512)

/-- What block 1 holds (16 R479). -/
def Core.headVals (c : Core) (now : Nat) (byPin : Bool) (vin : Nat) : List Nat :=
  [1, b2n byPin, c.mode.code, c.stamp now, vin, (c.slot c.pw.running).release, c.obj 0x1018 4]

/-- What block 2 holds. -/
def Core.posVals (c : Core) (lowest : Nat) : List Nat :=
  let pg := c.eng.pages.find? (fun p => p.id == c.obj 0x2A20 4)
  [b2n c.job.running, c.obj 0x6100 2, c.obj 0x2414 3, c.obj 0x2A20 4,
   (match pg with | some p => c.obj 0x2414 3 - p.start | none => 0),
   (match pg with | some p => p.cookie | none => 0), c.obj 0x2460 9, c.obj 0x2491 0] ++
  (List.range 4).map (fun i => c.obj 0x2802 (i + 1)) ++ [c.eng.recSeq, c.obj 0x6100 4, lowest]

/-- What block 3 holds. -/
def Core.countVals (c : Core) : List Nat :=
  let run := fun idx n => (List.range n).map (fun i => c.obj idx (i + 1))
  run 0x3200 7 ++ [c.ev.active.length] ++ (c.cxl.rings.take 6).map (fun r => r.held.length) ++
    (List.range 4).map (fun i => c.obj 0x3210 (i + 7)) ++ run 0x2421 7 ++ (List.range 5).map (fun i => c.obj 0x2620 (i + 3)) ++
    run 0x2F00 3 ++ run 0x2E42 10 ++ run 0x2E43 10

/-- The record without its seal, and the journal entries in it and left out (16 R479, R480). -/
def Core.complineRec (c : Core) (now : Nat) (byPin : Bool) (vin : Nat) : ComplineRec :=
  let j := takeFit 8192 c.pw.pendJ
  let tail := c.defectTail
  let lowest := match tail with
    | e :: _ => leAt e 20 4
    | [] => 0
  { at_ := c.stamp now, byPin := byPin, line := c.obj 0x6100 2, web := c.lineNow, journal := j.1, left := j.2.length,
    sealed := false,
    bytes := recBlock 1 (Config.recordItems 1) (slice (Config.recordBlock 1 (c.headVals now byPin vin)) 0 48) ++
      recBlock 2 (Config.recordItems 2) (slice (Config.recordBlock 2 (c.posVals lowest)) 0 112) ++
      recBlock 3 (Config.recordItems 3) (slice (Config.recordBlock 3 c.countVals) 0 496) ++
      recBlock 4 j.1.length (j.1.flatMap JEntry.flash) ++ recBlock 5 tail.length tail.flatten }

/-- Every open alarm retracted by TIMEOUT, channel by channel, and delivered (16 R477). -/
def Core.alarmsRetract (now : Nat) (c : Core) : Core :=
  let l := (List.range 64).flatMap (fun ch => c.eng.opens.filter (fun a => a.ch == ch))
  let c := l.foldl (fun c a => c.outcome a .timeout) c
  (List.range c.eng.bus.length).foldl (fun c _ => c.deliver now) c

/-- The load shed: jobs, rows, engines, links, DRAM, host link and EtherCAT off (16 R477). -/
def Core.shed (c : Core) : Core :=
  let c := { c with
    job := {}, pipe := {}, ctx := {}, mot := { encs := c.mot.encs }, eng := { walks := c.eng.walks },
    trans := none, mode := .compline, ec := {}, mbx := {}, refs := List.replicate 16 {}, calRun := false,
    links := c.links.map (fun (l : Link) => { l with st := 0, dataSleep := true, bcSleep := true }),
    clk := { refLost := c.clk.refLost } }
  ((c.mapCxl (fun x => { x with
    hostUp := false, dlUp := false, cxlMode := x.cxlMode, training := false, flip := none })).pagesRestart).mapPw
    (fun p => { p with stdbyAt := none, bandPend := none, candAt := none, foeBusy := none, compact := 0 })

/-- A trip (16 R476, R477): COMPLINE where it is armed, which asks for running firmware (16 R475), else a reset that
saves nothing. -/
def Core.trip (now : Nat) (byPin : Bool) (vin : Nat) (c : Core) : Core :=
  if c.mode = .compline || c.pw.heldReset then c
  else if !c.healthy || !c.flag 0x3300 8 then c.ownReset now .unarmedTrip
  else
    let c := (c.alarmsRetract now).tkHalt now
    let r := c.complineRec now byPin vin
    (c.mapNv (fun n => { n with area := some r, erased := false })).shed

def execPowerFail (t : Nat) (byPin : Bool) (vin_mV : Nat) (s : State) : Host.Outcome State Fault Refusal :=
  State.run t (fun now c => c.trip now byPin vin_mV) s

/-- The seal block: a CRC-32 over every earlier byte (16 R479). -/
def sealBlock (bytes : List Byte) : List Byte :=
  let h := leBytes 4 6 ++ leBytes 4 16 ++ leBytes 4 (Config.recordItems 6)
  h ++ leBytes 4 (crc32 (bytes ++ h))

def Core.complineSeal (c : Core) : Core :=
  if c.mode ≠ .compline then c
  else c.mapNv (fun n => { n with area := n.area.map (fun r =>
    if r.sealed then r else { r with sealed := true, bytes := r.bytes ++ sealBlock r.bytes }) })

def execComplineSeal (t : Nat) (s : State) : Host.Outcome State Fault Refusal :=
  State.run t (fun _ c => c.complineSeal) s

/-- After the seal: a reset as the supply is good again, or the module off (16 R477). -/
def Core.complineEnds (now : Nat) (good : Bool) (c : Core) : Core :=
  if c.mode ≠ .compline || !(c.nv.area.any (·.sealed)) then c
  else if good then c.ownReset now .afterCompline
  else (c.ownReset now .powerOn).mapPw (fun p => { p with heldReset := true })

def execComplineRestart (t : Nat) (supplyGood : Bool) (s : State) : Host.Outcome State Fault Refusal :=
  State.run t (fun now c => c.complineEnds now supplyGood) s

/-- The record acknowledged (16 R481). -/
def Core.complineAck (c : Core) : Core := c.store 0x3340 1 0

def execComplineAcknowledge (t : Nat) (orig : Orig) (v : Byte) (s : State) : Host.Outcome State Fault Refusal :=
  State.run t (fun now c => c.command now orig 0x3340 8 1 v.toNat [] Core.complineAck) s

end Sys2Proof.Machine
end

