-- ==== Sys2Proof/Machine/Dict.lean ====
section
/-!
DEFINITION. Every object's write and read (02 R33 to R51, R57, R514, R515): the reasons that an object of its
own has to refuse a value, the effect of a value taken, values that are computed at a read, and accesses
to a whole record. `new` is the state in which the values of the access stand already, for checks that
compare values; `c` is the state before it.
-/

namespace Sys2Proof.Machine

/-! ### Process-data maps (02 R57, R515) -/

def isMap (idx : Nat) : Bool := (0x1600 ≤ idx && idx ≤ 0x1603) || (0x1A00 ≤ idx && idx ≤ 0x1A07)
def isAssign (idx : Nat) : Bool := idx = 0x1C12 || idx = 0x1C13
def isRx (idx : Nat) : Bool := idx < 0x1A00 || idx = 0x1C12

/-- A map entry can be mapped: padding, or an object of 6000h to 6FFFh at its own size; an RxPDO writes, so
it takes no RO object. -/
def entryOk (rx : Bool) (v : Nat) : Bool :=
  let idx := field v 31 16
  let sub := field v 15 8
  let len := field v 7 0
  if idx = 0 && sub = 0 then 1 ≤ len && len ≤ 16
  else 0x6000 ≤ idx && idx ≤ 0x6FFF && match rowOf idx sub with
    | some r => r.ty.pdoBits == len && len != 0 && !(rx && r.acc == .ro)
    | none => false

/-- The maps assigned in a direction, in order. -/
def Core.assigned (c : Core) (assign : Nat) : List Nat :=
  (List.range (c.obj assign 0)).map (fun i => c.obj assign (i + 1))

/-- The entries of the maps assigned in a direction: index, sub, bits. -/
def Core.pdoEntries (c : Core) (assign : Nat) : List (Nat × Nat × Nat) :=
  (c.assigned assign).flatMap (fun m => (List.range (c.obj m 0)).map (fun j =>
    let v := c.obj m (j + 1)
    (field v 31 16, field v 15 8, field v 7 0)))

def Core.pdoBytes (c : Core) (assign : Nat) : Nat :=
  (sumNat ((c.pdoEntries assign).map (·.2.2)) + 7) / 8

/-- Reasons to refuse a map's or an assignment's value. -/
def Core.mapCodes (c new : Core) (idx sub v : Nat) : List Nat :=
  let assign := if isRx idx then 0x1C12 else 0x1C13
  let top := if isMap idx then 32 else if idx = 0x1C12 then 4 else 8
  reason (c.ec.al != .preop) 0x08000021 ++
  if sub = 0 then
    reason (decide (top < v)) 0x06090030 ++
    reason (v != 0 && (isAssign idx || (c.assigned assign).contains idx) && decide (1024 < new.pdoBytes assign))
      0x06040042
  else
    reason (c.obj idx 0 != 0) 0x08000031 ++
    (if isMap idx then reason (!entryOk (isRx idx) v) 0x06040041
     else reason (!(isMap v && isRx v == isRx idx)) 0x06090030)

/-! ### Reasons of their own (02 R514) -/

/-- The mask names one run of adjacent segments (03 R99). -/
def oneRun (m : Nat) : Bool :=
  (List.range 8).any (fun a => (List.range 8).any (fun n => m == 2 ^ a * (2 ^ (n + 1) - 1)))

/-- The value that a bank's object will have: pending, else awaiting, else in force. -/
def Core.coming (c : Core) (idx sub : Nat) : Nat := (c.pendingView idx sub).1

/-- Every window fits k rows (03 R93), in force and to come. -/
def Core.windowsFit (c : Core) : Bool :=
  (List.range 6).all (fun s => decide (c.obj 0x2211 (s + 1) + c.tdi ≤ 48) &&
    decide (c.committed 0x2211 (s + 1) + c.tdi ≤ 48) && decide (c.coming 0x2211 (s + 1) + c.tdi ≤ 48))

/-- REDUCED bandwidth only at 12 bits (04 R112). -/
def Core.bandwidthFits (c : Core) : Bool :=
  c.depth == 12 || (List.range 6).all (fun s =>
    c.obj 0x2304 (s + 1) == 0 && c.committed 0x2304 (s + 1) == 0 && c.coming 0x2304 (s + 1) == 0)

/-- Charge binning within the output binning of the contexts that take array data (03 R104). -/
def Core.binningFits (c : Core) : Bool :=
  [1, 2].all (fun s => c.obj 0x2220 s ≤ c.binning 0 && (!c.splitOn || decide (c.obj 0x2220 s ≤ c.binning 1)))

/-- C1 is inspected only in SPLIT (08 R246). -/
def Core.inspectedFits (c : Core) : Bool := c.obj 0x2A10 2 != 1 || (c.obj 0x2212 0 == 1 && c.obj 0x2630 1 == 1)

/-- A field defect map leaves no more than three defects that touch in a row (06 R189). -/
def Core.defectsFit (c : Core) (data : List Byte) : Bool :=
  let e1 := (List.range 256).map (fun i => leAt data (4 * i) 4)
  let e0 := (List.range 256).map (fun i => c.domWord 0x5100 (4 * i) 4)
  let l := (e0 ++ e1).filter (fun v => v.testBit 31)
  let at_ := fun (s r k : Nat) => l.any (fun v => field v 24 22 == s && field v 21 16 == r && field v 14 0 == k)
  l.all (fun v => let s := field v 24 22
    let r := field v 21 16
    let k := field v 14 0
    !(at_ s r (k + 1) && at_ s r (k + 2) && at_ s r (k + 3)))

/-- Entries of a defect map name a stripe and a row that exist (06 R189). -/
def defectsOk (data : List Byte) : Bool :=
  (List.range 256).all (fun i => let v := leAt data (4 * i) 4
    !v.testBit 31 || (decide (field v 24 22 ≤ 5) && decide (field v 21 16 ≤ 47)))

/-- A remap table within the limits of 06 R205. -/
def remapOk (data : List Byte) : Bool :=
  (List.range 512).all (fun n =>
    let a : Rat := (leAt data (16 * n) 4 : Rat) / 65536
    let b : Rat := (toSigned 32 (leAt data (16 * n + 4) 4) : Rat) / 2 ^ 30
    let d : Rat := (toSigned 16 (leAt data (16 * n + 8) 2) : Rat) / 32768
    let e : Rat := (toSigned 16 (leAt data (16 * n + 10) 2) : Rat) / 2 ^ 20
    decide (98 / 100 ≤ b) && decide (b ≤ 102 / 100) &&
    [(0 : Rat), 63].all (fun k =>
      let off := a + b * k - ((64 * n : Nat) : Rat) - k
      decide (-16 ≤ off) && decide (off ≤ 16) && decide (-(1 / 2) ≤ d + e * k) && decide (d + e * k ≤ 1 / 2)))

/-- Objects of the communication area, modes and ownership (02 R35, R40, R42, R43, R48, R53). -/
def Core.commCodes (c new : Core) (now : Nat) (o : Orig) (idx sub v : Nat) : List Nat :=
  if idx = 0x1010 then reason (v != 0x65766173) 0x08000000
  else if idx = 0x1011 then reason (v != 0x64616F6C) 0x08000000
  else if isMap idx || isAssign idx then c.mapCodes new idx sub v
  else if idx = 0x1C33 then reason (v != c.obj idx sub) 0x08000031
  else if idx = 0x2100 then
    reason (!c.owns o (sub - 1)) 0x08000020 ++
    reason (sub == 2 && c.job.running && (v == 1 || v == 2) && (v == 1) != (c.owner 1 == .press)) 0x0800002C
  else if idx = 0x2101 then
    let away := match Orig.party o with
      | some .host => (c.ec.al != .safeop && c.ec.al != .op) && decide (c.ec.alLowSince + 1000000000 ≤ now)
      | some .press => !c.cxl.hostUp && decide (c.cxl.downAt + 1000000000 ≤ now)
      | none => false
    reason (!away) 0x0800002E ++ reason (c.job.running && !c.owns o 1) 0x0800002C
  else if idx = 0x2102 then
    let i := v % 65536
    let s := field v 23 16
    if c.absent i then [0x06020000] else match topSub i, rowOf i s with
    | none, _ => [0x06020000]
    | some _, none => [0x06090011]
    | some _, some r => reason (r.acc != .rwc) 0x06010000
  else []

/-- Objects of the array, the converters, motion and the pipeline. -/
def Core.imageCodes (c new : Core) (idx sub v : Nat) (data : List Byte) : List Nat :=
  if idx = 0x2201 then reason (!oneRun v || !new.mvWindowsFit) 0x08000031
  else if idx = 0x2210 || idx = 0x2211 then reason (!new.windowsFit) 0x08000031
  else if idx = 0x2212 || (idx = 0x2630 && sub = 1) || (idx = 0x2A10 && sub = 2) then
    reason (!new.inspectedFits) 0x08000031
  else if idx = 0x2220 || idx = 0x2670 || idx = 0x2770 then
    reason (!new.binningFits || (idx != 0x2220 && !new.mvWindowsFit)) 0x08000031
  else if idx = 0x2300 || idx = 0x2304 then reason (!new.bandwidthFits) 0x08000031
  else if idx = 0x2301 then c.refCodes v
  else if idx = 0x2340 then c.calCodes v
  else if idx = 0x2412 then reason (decide (new.obj 0x2412 1 < new.obj 0x2412 2)) 0x08000031
  else if idx = 0x2490 then c.motionCodes
  else if idx = 0x2630 && sub = 3 then reason (decide (v ≤ new.coming 0x2630 2)) 0x08000031
  else if idx = 0x5101 then reason (!defectsOk data) 0x06090030 ++ reason (!c.defectsFit data) 0x08000031
  else if 0x5210 ≤ idx && idx ≤ 0x5215 then reason (!remapOk data) 0x06090030
  else if 0x5300 ≤ idx && idx ≤ 0x530F then reason (!gainsOk data) 0x06090030
  else []

/-- Objects of the outputs, the kernels, the tinker engines, clocks, memories, CXL, links and power. -/
def Core.unitCodes (c new : Core) (now idx sub v : Nat) (data : List Byte) : List Nat :=
  if idx = 0x2801 then c.contextCodes (sub - 1) v
  else if 0x2810 ≤ idx && idx ≤ 0x2851 then new.outputCodes idx sub
  else if idx = 0x2A01 then c.packageCodes (Config.packageSigned data)
  else if idx = 0x2A70 then reason (new.mapBeyond v) 0x08000031
  else if 0x2C80 ≤ idx && idx ≤ 0x2C8F then
    reason (c.tkAt now (idx - 0x2C80)).running 0x08000023 ++ reason (!lutOk data) 0x06090030
  else if idx = 0x2C00 && sub = 2 then c.tkStartCodes now
  else if 0x2C10 ≤ idx && idx ≤ 0x2C40 then c.tkCodes now idx sub v
  else if idx = 0x2D01 && sub = 4 then c.applyCodes
  else if idx = 0x2E45 then c.rankCodes v
  else if idx = 0x2F12 || (idx = 0x2F20 && sub = 1) then reason (v == 0 && c.mode != .service) 0x08000021
  else if idx = 0x2F30 && sub = 5 then c.injectCodes v
  else if idx = 0x3010 && sub = 3 then c.flipCodes
  else if idx = 0x3104 then reason (v &&& c.obj idx sub != v) 0x06090030
  else if idx = 0x3111 then c.spareCodes v
  else if 0x3120 ≤ idx && idx ≤ 0x3122 then c.serviceCodes
  else if idx = 0x3310 then c.resetCodes
  else if idx = 0x3320 then c.compactCodes
  else []

/-- The reasons that an object has of its own. -/
def Core.ownCodes (c new : Core) (now : Nat) (o : Orig) (idx sub : Nat) (data : List Byte) : List Nat :=
  let v := writeValue idx sub data
  c.commCodes new now o idx sub v ++ c.imageCodes new idx sub v data ++ c.unitCodes new now idx sub v data

/-! ### Effects -/

/-- Every domain that the writer's counterpart holds goes to the writer (02 R42). -/
def Core.takeAll (o : Orig) (c : Core) : Core := match Orig.party o with
  | some p => { c with owners := c.owners.map (fun _ => p) }
  | none => c

/-- A domain's owner written (02 R40). -/
def Core.giveDomain (d v : Nat) (c : Core) : Core :=
  { c with owners := modAt c.owners d (fun _ => if v = 1 then .press else .host) }

/-- Alarm-route enables (09 R303, R305). -/
def Core.routesEnable (now v : Nat) (c : Core) : Core := (c.put 0x6000 3 v).routeChanged now 32 v

/-- The enabled segments change: reference buffers, clock outputs, links and walks follow. -/
def Core.segsWrite (now v : Nat) (c : Core) : Core :=
  ((((c.store 0x2201 0 v).refsFollow now (c.obj 0x2201 0)).outputsFollow now).linksFollow).walksFollow

/-- A tinker LUT written whole: 1 024 words of region 4, reserved bits ignored (09 R286, 12 R366). -/
def Core.lutWrite (n : Nat) (data : List Byte) (c : Core) : Core :=
  let d := lutStrip data
  ((List.range 1024).foldl (fun (c : Core) (i : Nat) => c.sramWord (lutAddr n i) (leAt d (8 * i) 8)) c).journal
    (0x2C80 + n) 0 0 d

/-- Bytes masked by a pattern that repeats. -/
def maskBytes (pat : List Byte) : List Byte → List Byte → List Byte
  | _, [] => []
  | [], b :: l => (b &&& pat.headD 0xFF) :: maskBytes pat pat.tail l
  | m :: ms, b :: l => (b &&& m) :: maskBytes pat ms l

/-- The bits of a table's entry that are not reserved (06 R189, R204; 2A52h of 08 R284). -/
def tablePattern (idx : Nat) : List Byte :=
  if idx = 0x5101 then defectMask
  else if 0x5210 ≤ idx && idx ≤ 0x5215 then List.replicate 12 0xFF ++ List.replicate 4 0
  else if idx = 0x2A52 then List.replicate 6 0xFF ++ [0, 0]
  else [0xFF]

/-- A table written whole: its reserved bits are ignored and read 0 (00 R5), and it has no poisoned word left
(12 R366). -/
def Core.tableWrite (idx sub : Nat) (data : List Byte) (c : Core) : Core :=
  let c := c.storeDom idx sub (maskBytes (tablePattern idx) [] data)
  match c.storageOf idx sub with
  | some (a, n) => c.wordsWritten (inSpan a n)
  | none => c

/-- Effects in the communication area and of ownership. -/
def Core.commEffect (o : Orig) (idx sub v : Nat) (c : Core) : Core :=
  if idx = 0x1003 then c.historyClear
  else if idx = 0x1010 then c.flush
  else if idx = 0x1011 then c.journal 0x1011 1 v []
  else if idx = 0x1C32 then (c.put 0x1C32 sub v).put 0x1C33 sub v
  else if idx = 0x1C33 then c
  else if idx = 0x2100 then c.giveDomain (sub - 1) v
  else if idx = 0x2101 then c.takeAll o
  else c.put idx sub v

/-- Effects of array, converter and motion objects. -/
def Core.imageEffect (now idx sub v : Nat) (c : Core) : Core :=
  if idx = 0x2201 then c.segsWrite now v
  else if idx = 0x2210 || (idx = 0x2404 && sub ≤ 2) then
    let c := c.store idx sub v
    c.put 0x2404 3 c.pitchFor
  else if idx = 0x2301 then c.refWrite now v
  else if idx = 0x2310 then (c.store idx sub v).walksFollow
  else if idx = 0x2340 then c.calWrite now v
  else if idx = 0x2490 then c.motionCommit now
  else c.accept idx sub v

/-- The needs that a check of the output configuration found (07 R242). -/
def Core.outputStore (idx sub v : Nat) (c : Core) : Core :=
  let c := c.accept idx sub v
  c.when (outputChecked idx sub) (Core.putNeeds c.timedJob)

/-- Effects of the other units' objects. -/
def Core.unitEffect (now idx sub v : Nat) (data : List Byte) (c : Core) : Core :=
  if idx = 0x2801 then (if v = 1 then c.contextCommit now (sub - 1) else c.contextDiscard (sub - 1))
  else if (idx = 0x2810 || idx = 0x2811) && sub = 1 then c.auxEnable (idx - 0x2810) v
  else if 0x2810 ≤ idx && idx ≤ 0x2851 then c.outputStore idx sub v
  else if idx = 0x2A01 then c.packageTake data
  else if 0x2C80 ≤ idx && idx ≤ 0x2C8F then c.lutWrite (idx - 0x2C80) data
  else if 0x2C00 ≤ idx && idx ≤ 0x2C40 then c.tkAccept now idx sub v
  else if idx = 0x2D01 && sub = 4 then c.pllApply now
  else if idx = 0x2E45 then c.rankCommand now v
  else if idx = 0x2F30 && sub = 5 then c.injectWrite v
  else if idx = 0x3010 && sub = 3 then c.flipStart v
  else if idx = 0x3111 then c.spareWrite now v
  else if idx = 0x3120 && sub = 5 then c.testCommand now v
  else if idx = 0x3121 && sub = 1 then (if v = 0 then c.autoLock now else c.put idx sub v)
  else if idx = 0x3121 && sub = 2 then c.slip v
  else if idx = 0x3122 then c.linkSleep v
  else if idx = 0x3200 && sub = 6 then c.acknowledge
  else if idx = 0x3310 then c.resetAsk
  else if idx = 0x3320 then c.compactStart
  else if idx = 0x3340 then c.complineAck
  else if idx = 0x3400 && sub = 2 then c.mapTw (fun w => { w with latch := v == 1 })
  else if idx = 0x6000 && sub = 3 then c.routesEnable now v
  else c.accept idx sub v

/-- What a value that is taken does. -/
def Core.ownEffect (now : Nat) (o : Orig) (idx sub : Nat) (data : List Byte) (c : Core) : Core :=
  let v := writeValue idx sub data
  if c.waitsDawn idx sub then c.duskWrite idx sub v
  else if idx = 0x6000 && sub = 1 then c.controlStore now o v
  else if idx < 0x2200 then c.commEffect o idx sub v
  else if 0x5000 ≤ idx && idx ≤ 0x5FFF || idx = 0x2A52 then c.tableWrite idx sub data
  else if idx < 0x2800 then c.imageEffect now idx sub v
  else c.unitEffect now idx sub v data

/-- The value stands: in its bank, or in force. -/
def Core.stand (idx sub : Nat) (data : List Byte) (c : Core) : Core :=
  let v := writeValue idx sub data
  match bankOf idx sub with
  | some b => c.buffer b idx sub v
  | none => c.put idx sub v

/-- A write of one value (02 R45, R51): a code, 0 where it was taken. -/
def Core.writeOne (now : Nat) (o : Orig) (idx sub : Nat) (data : List Byte) (c : Core) : Nat × Core :=
  if idx = 0x2000 && sub = 0 then c.modeWrite now o data
  else if idx = 0x3010 && sub = 3 then c.flipWrite now o data
  else c.judged now o idx sub data (c.ownCodes (c.stand idx sub data) now o idx sub data)
    (Core.ownEffect now o idx sub data)

/-- The reasons that refuse a write whatever its bytes are: existence, access, ownership and state (02 R51). -/
def Core.preCodes (c : Core) (now : Nat) (o : Orig) (idx sub : Nat) : List Nat :=
  (c.writeCodes o idx sub [] (c.ownCodes c now o idx sub [])).filter (fun k => (codeOrder.take 13).contains k)

/-! ### Whole records (02 R49, R51, R64) -/

/-- The subs of a record that exist, in order. -/
def recordSubs (idx : Nat) : List Nat := match topSub idx with
  | some top => (List.range (top + 1)).filter (fun s => (rowOf idx s).isSome)
  | none => []

def isDomain (idx sub : Nat) : Bool := match rowOf idx sub with
  | some r => r.ty == .dom
  | none => false

/-- Bytes of a sub in the layout of complete access: sub 00 takes two. -/
def subBytes (idx sub : Nat) : Nat := if sub = 0 then 2 else match rowOf idx sub with
  | some r => r.bytes
  | none => 0

/-- The values of a whole record as complete access lays them out. -/
def splitRecord (idx : Nat) (data : List Byte) : List Nat → List (Nat × List Byte)
  | [] => []
  | s :: l => (s, data.take (if s = 0 then 1 else subBytes idx s)) :: splitRecord idx (data.drop (subBytes idx s)) l

/-- A write of every sub, checked whole before any value takes effect, the words behind it last (12 R368); sub 00 that is
RO is passed over. -/
def Core.writeAll (now : Nat) (o : Orig) (idx : Nat) (data : List Byte) (c : Core) : Nat × Core :=
  let subs := recordSubs idx
  if c.absent idx || (topSub idx).isNone then (0x06020000, c)
  else if isSimple idx then (0x06010000, c)
  else
    let fixed := match rowOf idx 0 with
      | some r => r.acc == .ro
      | none => true
    let vals := (splitRecord idx data subs).filter (fun p => !(p.1 == 0 && fixed))
    let new := vals.foldl (fun (c : Core) (p : Nat × List Byte) => c.stand idx p.1 p.2) c
    let codes := vals.flatMap (fun p => c.writeCodes o idx p.1 p.2 (c.ownCodes new now o idx p.1 p.2))
    let codes := codes ++ reason (data.length != sumNat (subs.map (subBytes idx))) 0x06070010
    match firstCode codes with
    | some k => (k, c)
    | none => match vals.find? (fun p => !(c.storageWrite now idx p.1 p.2.length).1) with
      | some p => (0x08000024, (c.storageWrite now idx p.1 p.2.length).2)
      | none => (0, vals.foldl (fun (c : Core) (p : Nat × List Byte) =>
          (c.storageWrite now idx p.1 p.2.length).2.ownEffect now o idx p.1 p.2) c)

/-! ### Reads -/

/-- Reasons to refuse a read (02 R33, R48, R51, 12 R378). -/
def Core.readCodes (c : Core) (o : Orig) (idx sub : Nat) : List Nat :=
  if c.absent idx then [0x06020000]
  else match topSub idx, rowOf idx sub with
    | none, _ => [0x06020000]
    | some _, none => [0x06090011]
    | some _, some r =>
      reason (idx == 0x2102 && o == .mbx) 0x06010000 ++ reason (r.acc == .wo) 0x06010001 ++
      reason (c.storagePoisoned idx sub) 0x08000024 ++ reason (c.storageUninit idx sub) 0x08000025

/-- A read refused: one that meets words never written is counted and logged (12 R370, R378, R381). -/
def Core.readRefused (now k idx sub : Nat) (c : Core) : Core :=
  c.when (k == 0x08000025) (fun c => (c.bump 0x2F00 3).busLogged now (((c.storageOf idx sub).map (·.1)).getD 0))

/-- A read that is not refused before it comes to the object's words reads them (12 R365, R366). -/
def Core.storageLook (now : Nat) (o : Orig) (idx sub : Nat) (c : Core) : Core :=
  c.when ((c.readCodes o idx sub).all (· == 0x08000024)) (Core.storageRead now idx sub)

/-- The selection of 2102h.01: the buffered or committed value, whether one is pending, and its length
(02 R48). -/
def Core.selected (c : Core) : Nat × Bool × Nat :=
  let v := c.obj 0x2102 1
  let i := v % 65536
  let s := field v 23 16
  if v = 0 then (0, false, 0)
  else ((c.pendingView i s).1, (c.pendingView i s).2, objBits i s / 8)

/-- A position in the encoding of 2414h: 1/65536 web line, 0 while negative. -/
def posCode (x : Rat) : Nat := ((max 0 (x * 65536)).floor.toNat) % 2 ^ 64

/-- The latest enable among the reference buffers, in µs before `now` (04 R134). -/
def Core.sinceEnable (c : Core) (now : Nat) : Nat :=
  if !c.flag 0x2301 0 then 0
  else min (2 ^ 32 - 1) ((now - maxNat (c.refs.filterMap (·.enabledAt))) / 1000)

/-- Bytes held in the holding store. -/
def Core.heldBytes (c : Core) : Nat := sumNat (c.cxl.rings.map (fun r => sumNat (r.held.map List.length)))

/-- The value of a state object of a context (07 R214). -/
def Core.ctxState (c : Core) (n : Nat) : Nat :=
  let off := (n == 1 && !c.splitOn) || (2 ≤ n && !c.flag (auxIdx (n - 2)) 1)
  if off then 2 else b2n (c.carries n)

/-- Values of the communication area to 28FFh that are computed. -/
def Core.valueLow (c : Core) (now idx sub : Nat) : Nat :=
  if idx = 0x1001 then c.errorRegister
  else if idx = 0x1003 then (if sub = 0 then c.ev.hist.length else c.ev.hist.getD (sub - 1) 0)
  else if idx = 0x2001 then c.modeState
  else if idx = 0x2100 && 0 < sub then (if c.owner (sub - 1) == .press then 1 else 2)
  else if idx = 0x2102 && sub = 3 then b2n c.selected.2.1
  else if idx = 0x2102 && sub = 4 then c.selected.2.2
  else if idx = 0x2302 && sub = 2 then c.sinceEnable now
  else if idx = 0x2320 && 0 < sub then (c.walk (sub - 1)).word
  else if idx = 0x2410 then c.mot.loop.code
  else if idx = 0x2414 && sub = 1 then posCode (c.xAt now)
  else if idx = 0x2414 && sub = 2 then posCode c.mot.highWater
  else if idx = 0x2620 && sub = 1 then ofSigned 16 (clampInt (-32768) 32767 c.pendingDepth)
  else if idx = 0x2620 && sub = 2 then min 65535 c.neededDepth
  else if idx = 0x2800 && 0 < sub then c.ctxState (sub - 1)
  else c.committed idx sub

/-- Values of the other units that are computed. -/
def Core.valueHigh (c : Core) (now idx sub : Nat) : Nat :=
  if idx = 0x2C00 && sub = 1 then c.tkMask now (·.running)
  else if idx = 0x2C00 && sub = 6 then c.tk.irq.toNat
  else if 0x2C10 ≤ idx && idx ≤ 0x2C1F && sub = 6 then c.tkStatus now (idx - 0x2C10)
  else if 0x2C10 ≤ idx && idx ≤ 0x2C1F && sub = 7 then (c.eng1 (idx - 0x2C10)).sr.toNat
  else if 0x2C10 ≤ idx && idx ≤ 0x2C1F && sub = 8 then (c.eng1 (idx - 0x2C10)).cnt
  else if idx = 0x2C31 then c.pinLevels now
  else if idx = 0x2D00 && (sub = 1 || sub = 2) then (c.pll (sub - 1)).st
  else if idx = 0x2D00 && sub = 3 then b2n c.clk.refOn
  else if idx = 0x3000 && sub = 1 then c.linkState
  else if idx = 0x3000 && sub = 5 then b2n c.cxl.hostUp
  else if idx = 0x3000 && sub = 6 then (if c.cxl.d0 then 0 else 3)
  else if idx = 0x3010 && sub = 5 then c.cxl.devBias.length
  else if idx = 0x3021 && sub = 1 then (c.heldBytes + 1023) / 1024
  else if idx = 0x3021 && sub = 2 then sumNat (c.cxl.rings.map (fun r => r.held.length))
  else if idx = 0x3100 && 0 < sub then (c.link (sub - 1)).word
  else if idx = 0x3101 && 0 < sub then (c.link (sub - 1)).mapWord
  else if idx = 0x3121 && sub = 3 then (c.link c.testSeg).lock.toNat
  else if idx = 0x3200 && sub = 8 then c.ev.active.length % 65536
  else if idx = 0x3210 && 1 ≤ sub && sub ≤ 6 then (c.ring (sub - 1)).held.length
  else if idx = 0x3310 && sub = 1 then c.pw.running
  else if idx = 0x3310 && (sub = 2 || sub = 3) then (c.slot (sub - 2)).st
  else if idx = 0x3310 && (sub = 4 || sub = 5) then (c.slot (sub - 4)).release % 2 ^ 32
  else if idx = 0x3320 && sub = 1 then c.activeRegion
  else if idx = 0x3320 && sub = 2 then (c.region c.activeRegion).gen % 2 ^ 32
  else if idx = 0x3320 && sub = 3 then min 255 (c.region c.activeRegion).fill
  else if idx = 0x3320 && sub = 4 then c.pw.pendJ.length % 65536
  else if idx = 0x3320 && sub = 5 then (c.region c.activeRegion).live % 2 ^ 32
  else if idx = 0x3320 && sub = 8 then c.pw.compact
  else if idx = 0x3330 && sub = 0x19 then ofSigned 16 c.ts
  else if idx = 0x3330 && sub = 0x1A then ofSigned 16 c.tj
  else if idx = 0x3400 && sub = 2 then b2n c.tw.latch
  else if idx = 0x6100 && sub = 1 then c.statusWord
  else if idx = 0x6100 && sub = 3 then c.obj 0x2411 0
  else if idx = 0x6100 && sub = 5 then c.ec.alarmBits.toNat
  else c.committed idx sub

/-- The value of an object that is no string and no domain, as a read gives it. -/
def Core.value (c : Core) (now idx sub : Nat) : Nat :=
  if idx < 0x2900 then c.valueLow now idx sub else c.valueHigh now idx sub

/-- "Brynwyn PE-3206" and "B1" (02 R36). -/
def deviceName : List Byte := [0x42, 0x72, 0x79, 0x6E, 0x77, 0x79, 0x6E, 0x20, 0x50, 0x45, 0x2D, 0x33, 0x32, 0x30, 0x36]
def hardwareVersion : List Byte := [0x42, 0x31]

/-- The running release as "2.m.p" (02 R36, 00 R2); the recovery image's is the factory's. -/
def Core.softwareVersion (c : Core) : List Byte :=
  let r := if c.pw.running = 2 then Config.recoveryRelease % 2 ^ 32 else (c.slot c.pw.running).release % 2 ^ 32
  [0x32, 0x2E] ++ decDigits 6 (r / 65536) ++ [0x2E] ++ decDigits 6 (r % 65536)

/-- Readings that the module measures afresh at each read (14 R436, 16 R494). -/
def Core.measure (now idx sub : Nat) (c : Core) : Core :=
  if idx = 0x3120 && (sub = 6 || sub = 7) then match c.testing with
    | some seg => c.testCounts now seg
    | none => c
  else if idx = 0x3300 && 1 ≤ sub && sub ≤ 3 then
    let r := c.fresh
    r.2.put idx sub (r.1 % 65536)
  else c

/-- The bytes of an object as a read gives them; a read of a TX word removes it (09 R302). -/
def Core.readBytes (now idx sub : Nat) (c : Core) : List Byte × Core :=
  let c := (c.when (idx / 0x100 == 0x2C) (Core.tkSync now)).measure now idx sub
  if 0x2C10 ≤ idx && idx ≤ 0x2C1F && sub = 0x0B then
    let r := c.tkTxPop now (idx - 0x2C10)
    (leBytes 4 r.1, r.2)
  else match rowOf idx sub with
    | none => ([], c)
    | some r => match r.ty with
      | .str => (if idx = 0x1008 then deviceName else if idx = 0x1009 then hardwareVersion else c.softwareVersion, c)
      | .oct => (leBytes 8 c.selected.1, c)
      | .dom => ((List.range (if r.vari then c.obj idx sub else r.len)).map (fun i => c.domByte idx i), c)
      | t => (leBytes t.bytes (c.value now idx sub), c)

/-- A read of one object: a code, 0 where it is answered, and its bytes. -/
def Core.readOne (now : Nat) (o : Orig) (idx sub : Nat) (c : Core) : Nat × List Byte × Core :=
  let c' := c.storageLook now o idx sub
  match firstCode (c.readCodes o idx sub) with
  | some k => (k, [], c'.readRefused now k idx sub)
  | none => (0, c'.readBytes now idx sub)

/-- A read of every sub in the layout of complete access. -/
def Core.readAll (now : Nat) (o : Orig) (idx : Nat) (c : Core) : Nat × List Byte × Core :=
  if c.absent idx || (topSub idx).isNone then (0x06020000, [], c)
  else if isSimple idx then (0x06010000, [], c)
  else
    let subs := recordSubs idx
    let codes := subs.flatMap (fun s => c.readCodes o idx s)
    let c := subs.foldl (fun (c : Core) (s : Nat) => c.storageLook now o idx s) c
    match firstCode codes with
    | some k => (k, [], c.readRefused now k idx 0)
    | none =>
      let r := subs.foldl (fun (q : List Byte × Core) (s : Nat) =>
        let a := q.2.readBytes now idx s
        (q.1 ++ a.1 ++ zeros (subBytes idx s - a.1.length), a.2)) ([], c)
      (0, r.1, r.2)

/-! ### Descriptions (02 R33, R52, R64); the bytes' layout and codes are CoE's own (PRESUMED, log entry 125) -/

/-- The object tables, in the order of 02 R33. -/
def allRows : List ObjRow :=
  tabComm ++ tabSystem ++ tabArray1 ++ tabArray2 ++ tabMotion1 ++ tabMotion2 ++ tabPipeline ++ tabOutputs1 ++
  tabOutputs2 ++ tabKernels1 ++ tabKernels2 ++ tabTinker ++ tabClocks ++ tabMemory1 ++ tabMemory2 ++ tabRings ++
  tabLinks ++ tabEvents ++ tabPower ++ tabTwoWire ++ tabDomains ++ tabProcess

/-- An index put in its place in a rising list without repeats. -/
def insertIdx (i : Nat) : List Nat → List Nat
  | [] => [i]
  | a :: l => if i < a then i :: a :: l else if i = a then a :: l else a :: insertIdx i l

/-- Every index that has an object, rising. -/
def implemented : List Nat :=
  (allRows.flatMap (fun r => (List.range (r.hi + 1 - r.lo)).map (r.lo + ·))).foldr insertIdx []

/-- The list of the objects that the running image implements. -/
def Core.objectList (c : Core) : List Byte :=
  (implemented.filter (fun i => !c.absent i)).flatMap (fun i => leBytes 2 i)

/-- The CoE code of a data type. -/
def Ty.coe : Ty → Nat
  | .bool => 1 | .i16 => 3 | .i32 => 4 | .u8 => 5 | .u16 => 6 | .u32 => 7 | .f32 => 8 | .str => 9
  | .oct => 10 | .dom => 15 | .u64 => 27

/-- An object's description: index, data type (0 for a record), highest sub, object code 7 variable or 9 record,
and name. -/
def objectDesc (idx : Nat) : List Byte :=
  let ty := match isSimple idx, rowOf idx 0 with
    | true, some r => r.ty.coe
    | _, _ => 0
  leBytes 2 idx ++ leBytes 2 ty ++ leBytes 1 ((topSub idx).getD 0) ++ leBytes 1 (if isSimple idx then 7 else 9) ++
    Config.describedName idx 256

/-- The access word of an entry: bits 0 to 2 read in PREOP, SAFEOP and OP, bits 3 to 5 write, bits 6 and 7 mapped to
an RxPDO and to a TxPDO; an RWS object is also written in each AL state. -/
def accessWord (idx : Nat) (r : ObjRow) : Nat :=
  let fits := decide (0x6000 ≤ idx) && decide (idx ≤ 0x6FFF) && r.ty.pdoBits != 0
  (if r.acc == .wo then 0 else 7) + (if r.acc == .ro then 0 else 56) + 64 * b2n (fits && r.acc != .ro) +
    128 * b2n fits

/-- An entry's description: index, sub, value information 0, data type, bit length, access and name. The release string
100Ah, whose length is not fixed, is described with 13 characters (02 R52; DESIGN CHOICE, log entry 171). -/
def entryDesc (idx sub : Nat) : List Byte := match rowOf idx sub with
  | none => []
  | some r => leBytes 2 idx ++ leBytes 1 sub ++ leBytes 1 0 ++ leBytes 2 r.ty.coe ++
      leBytes 2 (if r.ty == .bool then 1 else 8 * r.bytes) ++ leBytes 2 (accessWord idx r) ++
      Config.describedName idx sub

/-! ### The commands -/

def execObjectWrite (t : Nat) (orig : Orig) (idx sub : Nat) (data : List Byte) (s : State) :
    Host.Outcome State Fault Refusal :=
  State.run t (fun now c => (Core.answered orig idx sub (c.writeOne now orig idx sub data)).resetIfDue now) s

def execOwnershipTransfer (t : Nat) (orig : Orig) (dom : Nat) (v : Byte) (s : State) :
    Host.Outcome State Fault Refusal :=
  State.run t (fun now c => Core.answered orig 0x2100 dom (c.writeOne now orig 0x2100 dom [v])) s

def execTakeover (t : Nat) (orig : Orig) (sig : Word32) (s : State) : Host.Outcome State Fault Refusal :=
  State.run t (fun now c => Core.answered orig 0x2101 0 (c.writeOne now orig 0x2101 0 (leBytes 4 sig.toNat))) s

def execPendingViewSelect (t : Nat) (orig : Orig) (v : Word32) (s : State) : Host.Outcome State Fault Refusal :=
  State.run t (fun now c => Core.answered orig 0x2102 1 (c.writeOne now orig 0x2102 1 (leBytes 4 v.toNat))) s

/-- Every pending entry forced into flash before the answer, or 0800 0034h (02 R35, R50). -/
def Core.storeAll (now : Nat) (o : Orig) (sig : Nat) (flashOk : Bool) (c : Core) : Core :=
  c.command now o 0x1010 1 4 sig (reason (sig != 0x65766173) 0x08000000 ++ reason (!flashOk) 0x08000034) Core.flush

def execStoreAll (t : Nat) (orig : Orig) (sig : Word32) (flashOk : Bool) (s : State) :
    Host.Outcome State Fault Refusal :=
  State.run t (fun now c => c.storeAll now orig sig.toNat flashOk) s

def execRestoreDefaults (t : Nat) (orig : Orig) (sig : Word32) (s : State) : Host.Outcome State Fault Refusal :=
  State.run t (fun now c => Core.answered orig 0x1011 1 (c.writeOne now orig 0x1011 1 (leBytes 4 sig.toNat))) s

end Sys2Proof.Machine
end

