-- ==== Sys2Proof/Machine/Mailbox.lean ====
section
/-!
DEFINITION. The host mailbox (02 R62 to R68): GO and ABORT, its opcodes, and domain transfers in parts.
-/

namespace Sys2Proof.Machine

/-- GO: BUSY sets and the request is read, or OVERRUN (02 R66). -/
def Core.mbxStart (c : Core) : Core :=
  if c.mbx.busy then c.mapMbx (fun m => { m with overrun := true })
  else c.mapMbx (fun m => { m with busy := true, taken := m.req })

def execMbxGo (t : Nat) (s : State) : Host.Outcome State Fault Refusal :=
  State.run t (fun _ c => c.mbxStart) s

/-- Bits of MBX_STAT that a write of 1 clears (02 R62). -/
def Core.mbxClear (v : Nat) (c : Core) : Core :=
  c.mapMbx (fun m => { m with
    complete := m.complete && !v.testBit 1, aborted := m.aborted && !v.testBit 2,
    abortLate := m.abortLate && !v.testBit 3, overrun := m.overrun && !v.testBit 4 })

def execMbxStatClear (t : Nat) (v : Word32) (s : State) : Host.Outcome State Fault Refusal :=
  State.run t (fun _ c => c.mbxClear v.toNat) s

/-! ### The opcodes (02 R64, R65): a code, the response's flags, its payload -/

/-- What carrying out a request gives. -/
structure MbxAnswer where
  code  : Nat
  flags : Nat := 0
  data  : List Byte := []
  core  : Core

def Core.reqIdx (c : Core) : Nat := c.reqField 4 2
def Core.reqSub (c : Core) : Nat := c.reqField 6 1
def Core.reqOff (c : Core) : Nat := c.reqField 8 4
def Core.reqLen (c : Core) : Nat := c.reqField 12 4

/-- The payload of a request, one byte more than a request can carry where its length is not valid. -/
def Core.reqData (c : Core) : List Byte :=
  (sgets (fun _ => 0) c.mbx.taken 16 (min c.reqLen 4081)).map (BitVec.ofNat 8)

/-- The part of a value that a read asks for: a domain at any offset, with MORE; anything else whole. -/
def Core.mbxPart (dom : Bool) (flags : Nat) (data : List Byte) (c c' : Core) : MbxAnswer :=
  let n := if c.reqLen = 0 then 4080 else min c.reqLen 4080
  if dom then ⟨0, flags + b2n (c.reqOff + n < data.length), (data.drop c.reqOff).take n, c'⟩
  else if c.reqLen ≠ 0 ∧ c.reqLen < data.length then ⟨0x06070010, 0, [], c⟩
  else if c.reqOff ≠ 0 then ⟨0x08000033, 0, [], c⟩
  else ⟨0, flags, data, c'⟩

/-- READ. -/
def Core.mbxReadOp (now : Nat) (c : Core) : MbxAnswer :=
  let r := c.readOne now .mbx c.reqIdx c.reqSub
  if r.1 ≠ 0 then ⟨r.1, 0, [], r.2.2⟩
  else c.mbxPart (isDomain c.reqIdx c.reqSub) 0 r.2.1 r.2.2

/-- READ_PENDING: PENDING set with a buffered value; an object that is not RWC is read. -/
def Core.mbxPendingOp (now : Nat) (c : Core) : MbxAnswer :=
  let c' := c.storageLook now .mbx c.reqIdx c.reqSub
  match firstCode (c.readCodes .mbx c.reqIdx c.reqSub) with
  | some k => ⟨k, 0, [], c'.readRefused now k c.reqIdx c.reqSub⟩
  | none =>
    if (bankOf c.reqIdx c.reqSub).isNone then c.mbxReadOp now
    else
      let v := c.pendingView c.reqIdx c.reqSub
      c.mbxPart false (2 * b2n v.2) (leBytes (objBits c.reqIdx c.reqSub / 8) v.1) c'

def Core.dropMbxXfer (c : Core) : Core := c.mapMbx (fun m => { m with xfer := none })

/-- A write to another object discards a partial transfer (02 R65). -/
def Core.mbxOther (c : Core) : Core := match c.mbx.xfer with
  | some x => c.when (!(x.idx == c.reqIdx && x.sub == c.reqSub)) Core.dropMbxXfer
  | none => c

/-- What a partial transfer holds already; nothing at offset 0, which starts one. -/
def Core.mbxHeld (c : Core) : Option (List Byte) :=
  if c.reqOff = 0 then some []
  else c.mbx.xfer.bind (fun x => if x.data.length = c.reqOff then some x.data else none)

/-- A part whose header is not valid or that does not continue the transfer (02 R65), or that would carry it beyond
the object's length (02 R514). -/
def Core.partCodes (len : Nat) (c : Core) : List Nat :=
  reason (c.mbxHeld.isNone || decide (4080 < c.reqLen)) 0x08000033 ++
  reason (decide (len < c.reqOff + c.reqData.length)) 0x06070010

/-- One part of a domain transfer; the object takes its value at LAST (02 R65, R514), which is the access that 02 R51
judges whole. -/
def Core.mbxDomain (now : Nat) (len : Nat) (c : Core) : MbxAnswer :=
  let bad := c.partCodes len
  let last := c.reqField 1 1 % 2 = 1
  let data := c.mbxHeld.getD [] ++ c.reqData
  if !bad.isEmpty then
    ⟨(firstCode (bad ++ if last then c.preCodes now .mbx c.reqIdx c.reqSub else [])).getD 0, 0, [], c.dropMbxXfer⟩
  else if last then
    let r := c.dropMbxXfer.writeOne now .mbx c.reqIdx c.reqSub data
    ⟨r.1, 0, [], r.2⟩
  else ⟨0, 0, [], c.mapMbx (fun m => { m with xfer := some ⟨c.reqIdx, c.reqSub, data⟩ })⟩

/-- WRITE. -/
def Core.mbxWriteOp (now : Nat) (c : Core) : MbxAnswer :=
  let c := c.mbxOther
  let one :=
    let r := c.writeOne now .mbx c.reqIdx c.reqSub c.reqData
    if r.1 = 0 ∧ c.reqOff ≠ 0 then (⟨0x08000033, 0, [], c⟩ : MbxAnswer) else ⟨r.1, 0, [], r.2⟩
  match rowOf c.reqIdx c.reqSub with
  | some r => if r.ty == .dom && !c.absent c.reqIdx then c.mbxDomain now (if r.vari then r.len else r.bytes) else one
  | none => one

/-- READ_ALL. -/
def Core.mbxReadAllOp (now : Nat) (c : Core) : MbxAnswer :=
  let r := c.readAll now .mbx c.reqIdx
  if r.1 ≠ 0 then ⟨r.1, 0, [], c⟩ else c.mbxPart false 0 r.2.1 r.2.2

/-- WRITE_ALL. -/
def Core.mbxWriteAllOp (now : Nat) (c : Core) : MbxAnswer :=
  let c := c.mbxOther
  let r := c.writeAll now .mbx c.reqIdx c.reqData
  if r.1 = 0 ∧ c.reqOff ≠ 0 then ⟨0x08000033, 0, [], c⟩ else ⟨r.1, 0, [], r.2⟩

/-- DESCRIBE: the descriptions of the object and of its entries; 2102h too is described, for a description is no access
to its value (02 R48, R64; DEDUCED, log entry 172). -/
def Core.mbxDescribeOp (c : Core) : MbxAnswer :=
  let i := c.reqIdx
  if c.absent i || (topSub i).isNone then ⟨0x06020000, 0, [], c⟩
  else
    let subs := if isSimple i then [0] else recordSubs i
    c.mbxPart true 0 (objectDesc i ++ subs.flatMap (fun s => entryDesc i s)) c

/-- Any other opcode (02 R64). -/
def Core.mbxBadOp (c : Core) : MbxAnswer := ⟨0x05040001, 0, [], c⟩

/-- The response written, BUSY cleared, COMPLETE set, the interrupt raised (02 R66); a RESET command then
acts (16 R470). -/
def MbxAnswer.done (a : MbxAnswer) (now : Nat) : Core :=
  ((a.core.mbxResponse (if a.code = 0 then 0 else 1) a.flags a.code a.data).mbxFinish false).resetIfDue now

/-- The request that was taken carries the opcode and firmware runs. -/
def Core.mbxAt (c : Core) (op : Nat) : Bool := c.mbx.busy && c.pw.fwRuns && c.reqField 0 1 == op

def execMbxRead (t : Nat) (s : State) : Host.Outcome State Fault Refusal :=
  State.run t (fun now c => c.when (c.mbxAt 1) (fun c => (c.mbxReadOp now).done now)) s

def execMbxWrite (t : Nat) (s : State) : Host.Outcome State Fault Refusal :=
  State.run t (fun now c => c.when (c.mbxAt 2) (fun c => (c.mbxWriteOp now).done now)) s

def execMbxReadPending (t : Nat) (s : State) : Host.Outcome State Fault Refusal :=
  State.run t (fun now c => c.when (c.mbxAt 3) (fun c => (c.mbxPendingOp now).done now)) s

def execMbxReadAll (t : Nat) (s : State) : Host.Outcome State Fault Refusal :=
  State.run t (fun now c => c.when (c.mbxAt 4) (fun c => (c.mbxReadAllOp now).done now)) s

def execMbxWriteAll (t : Nat) (s : State) : Host.Outcome State Fault Refusal :=
  State.run t (fun now c => c.when (c.mbxAt 5) (fun c => (c.mbxWriteAllOp now).done now)) s

def execMbxDescribe (t : Nat) (s : State) : Host.Outcome State Fault Refusal :=
  State.run t (fun now c => c.when (c.mbxAt 6) (fun c => c.mbxDescribeOp.done now)) s

def execMbxOpcodeInvalid (t : Nat) (s : State) : Host.Outcome State Fault Refusal :=
  State.run t (fun now c => c.when (c.mbx.busy && c.pw.fwRuns &&
    !(decide (1 ≤ c.reqField 0 1) && decide (c.reqField 0 1 ≤ 6))) (fun c => c.mbxBadOp.done now)) s

/-- The taken request carried out, whatever its opcode. -/
def Core.mbxCarry (now : Nat) (c : Core) : MbxAnswer := match c.reqField 0 1 with
  | 1 => c.mbxReadOp now
  | 2 => c.mbxWriteOp now
  | 3 => c.mbxPendingOp now
  | 4 => c.mbxReadAllOp now
  | 5 => c.mbxWriteAllOp now
  | 6 => c.mbxDescribeOp
  | _ => c.mbxBadOp

/-- ABORT (02 R67): ignored while BUSY is clear; `late` is a request that had been carried out. -/
def Core.mbxAbort (now : Nat) (late : Bool) (c : Core) : Core :=
  if !c.mbx.busy then c
  else if late then
    let a := c.mbxCarry now
    MbxAnswer.done { a with core := a.core.mapMbx (fun m => { m with abortLate := true }) } now
  else c.mbxStop

def execMbxAbort (t : Nat) (late : Bool) (s : State) : Host.Outcome State Fault Refusal :=
  State.run t (fun now c => c.mbxAbort now late) s

end Sys2Proof.Machine
end

