-- ==== Sys2Proof/Machine/Bar.lean ====
section
/-!
DEFINITION. Register accesses through BAR0 and BAR2 (13 R388 to R391, R403 to R405, 02 R62, 09 R299, R307,
R308): the size and alignment rule, halves of 64-bit registers with their read shadow, and each
register's own behaviour.
-/

namespace Sys2Proof.Machine

/-- The key of a register's held half or read shadow. -/
def halfKey (bar2 : Bool) (off : Nat) : Nat := b2n bar2 * 2 ^ 20 + off

def Core.dropHalf (k : Nat) (c : Core) : Core := c.mapCxl (fun x => { x with half := adel x.half k })

/-- The ring whose block holds an offset of BAR0, and the offset in the block. -/
def ringAt (off : Nat) : Option (Nat × Nat) :=
  if 0x3000 ≤ off ∧ off < 0x3280 then some ((off - 0x3000) / 0x40, off % 0x40) else none

/-- The engine whose block holds an offset of BAR2, and the offset in the block. -/
def engAt (off : Nat) : Option (Nat × Nat) :=
  if 0x20000 ≤ off ∧ off < 0x20400 then some ((off - 0x20000) / 0x40, off % 0x40) else none

/-- The offset is the low half of a 64-bit register (13 R388, R403, 09 R307). -/
def isWide (bar2 : Bool) (off : Nat) : Bool :=
  if bar2 then (off % 8 == 0 && decide (off < 0x20000)) || off == 0x20410
  else off == 0x6000 || match ringAt off with
    | some (_, r) => r == 0 || r == 8
    | none => false

/-! ### RING_ blocks (13 R391, R403, R405) -/

/-- RING_BASE or RING_WB written whole. -/
def Core.ringAddr (i reg v : Nat) (c : Core) : Core :=
  if !c.ringOwned || (c.ring i).enable then c.ringRefused
  else c.mapRing i (fun r => if reg = 0 then { r with base := v } else { r with wb := v })

/-- RING_CTRL. -/
def Core.ringCtrl (now i v : Nat) (c : Core) : Core :=
  let c := c.mapRing i (fun r => { r with irqEn := v.testBit 1 })
  if v.testBit 0 then c.ringOn now i else c.ringStop i

/-- A 32-bit register of a RING_ block. -/
def Core.ringReg (now i reg v : Nat) (c : Core) : Core :=
  if !c.ringOwned then c.ringRefused
  else if reg = 0x10 then
    if (c.ring i).enable then c.ringRefused else c.mapRing i (fun r => { r with size := v % 64 })
  else if reg = 0x14 then c.ringCtrl now i v
  else if reg = 0x18 then c.mapRing i (fun r => { r with irqCnt := v % 65536, irqUs := v / 65536 })
  else c

/-- RING_STAT. -/
def Core.ringStat (c : Core) (i : Nat) : Nat :=
  let r := c.ring i
  b2n r.enable + 2 * b2n (r.enable && r.full) + 4 * b2n (!r.held.isEmpty) + 8 * b2n r.dbErr + 16 * b2n r.cfgErr

/-- A 32-bit register of a RING_ block as read. -/
def Core.ringWord (c : Core) (i reg : Nat) : Nat :=
  let r := c.ring i
  if reg = 0x10 then r.size
  else if reg = 0x14 then b2n r.enable + 2 * b2n r.irqEn
  else if reg = 0x18 then r.irqCnt + 65536 * r.irqUs
  else if reg = 0x1C then r.prod
  else if reg = 0x20 then r.cons
  else if reg = 0x24 then c.ringStat i
  else if reg = 0x28 then r.held.length
  else 0

/-! ### BAR0 -/

/-- MBX_CTRL: GO, then ABORT. -/
def Core.mbxCtrl (now v : Nat) (c : Core) : Core :=
  (c.when (v.testBit 0) Core.mbxStart).when (v.testBit 1) (Core.mbxAbort now false)

/-- A word of the MSI-X table; a vector no longer masked sends what is pending. Of the vector control only the
mask bit is held: its other bits are reserved (00 R5). -/
def Core.msixWord (k v : Nat) (c : Core) : Core :=
  let v := if k % 4 = 3 then v % 2 else v
  (c.mapCxl (fun x => { x with msix := aput x.msix k v })).msixPending

/-- A 32-bit register of BAR0 written. -/
def Core.bar0Write (now off v : Nat) (c : Core) : Core :=
  if off = 0 then c.mbxCtrl now v
  else if off = 4 then c.mbxClear v
  else if off = 8 then c.mapMbx (fun m => { m with irqEn := v.testBit 0 })
  else if 0x1000 ≤ off && off < 0x2000 then c.mapMbx (fun m => { m with
    req := sputs (fun _ => 0) m.req (off - 0x1000) ((leBytes 4 v).map BitVec.toNat) })
  else if 0x4000 ≤ off && off < 0x4028 then
    if c.ringOwned then c.doorbell now ((off - 0x4000) / 4) v else c.ringRefused
  else if off = 0x5000 then c.mapCxl (fun x => { x with summary := x.summary &&& ~~~(BitVec.ofNat 32 v) })
  else if off = 0x5004 then c.mapCxl (fun x => { x with evtMask := BitVec.ofNat 32 (v % 128) })
  else if 0x8000 ≤ off && off < 0x8400 then c.msixWord ((off - 0x8000) / 4) v
  else match ringAt off with
    | some (i, r) => c.ringReg now i r v
    | none => c

/-- MBX_STAT. -/
def Core.mbxStat (c : Core) : Nat :=
  let m := c.mbx
  b2n m.busy + 2 * b2n m.complete + 4 * b2n m.aborted + 8 * b2n m.abortLate + 16 * b2n m.overrun + 65536 * m.tag

/-- A 32-bit register of BAR0 read; reserved offsets and WO registers read 0. -/
def Core.bar0Word (c : Core) (off : Nat) : Nat :=
  if off = 4 then c.mbxStat
  else if off = 8 then b2n c.mbx.irqEn
  else if 0x1000 ≤ off && off < 0x2000 then
    leNat ((sgets (fun _ => 0) c.mbx.req (off - 0x1000) 4).map (BitVec.ofNat 8))
  else if 0x2000 ≤ off && off < 0x3000 then leAt c.mbx.rsp (off - 0x2000) 4
  else if off = 0x5000 then c.cxl.summary.toNat
  else if off = 0x5004 then c.cxl.evtMask.toNat
  else if off = 0x5008 then c.cxl.refused
  else if off = 0x6008 then b2n c.ec.dcInSync + 2 * b2n c.dcFree
  else if 0x8000 ≤ off && off < 0x8400 then
    (alook c.cxl.msix ((off - 0x8000) / 4)).getD (if off % 16 = 12 then 1 else 0)
  else if off = 0x9000 || off = 0x9004 then
    sumNat ((c.cxl.pba.filter (fun v => v / 32 == off % 8 / 4)).map (fun v => 2 ^ (v % 32)))
  else match ringAt off with
    | some (i, r) => c.ringWord i r
    | none => 0

/-! ### The tinker block in BAR2 (09 R299 to R302, R307, R308) -/

/-- A value for an engine's register that is an object too: taken under the object's rules. -/
def Core.tkRegister (now n sub v : Nat) (c : Core) : Core :=
  let idx := 0x2C10 + n
  let v := match rowOf idx sub with
    | some r => r.perm.strip v
    | none => v
  let ok := match rowOf idx sub with
    | some r => permits r.ty r.perm v
    | none => false
  if c.barOwns && ok && (c.tkCodes now idx sub v).isEmpty then c.tkAccept now idx sub v else c.tkRefused n

/-- TK_CTRL: its commands in the order of their bits; a write with a command that cannot be taken is refused whole. -/
def Core.tkCtrlWrite (now n v : Nat) (c : Core) : Core :=
  c.tkCtrl now n (v.testBit 0 || v.testBit 1) (fun c =>
    let c := c.when (v.testBit 0) (Core.tkDebugAt now n false)
    let c := c.when (v.testBit 1) (Core.tkDebugAt now n true)
    c.when (v.testBit 2) (Core.tkClearErr n))

/-- A 32-bit register of an engine's block written. -/
def Core.engWrite (now n reg v : Nat) (c : Core) : Core :=
  let map := c.obj (0x2C10 + n) 2
  if reg = 0 then c.tkCtrlWrite now n v
  else if reg = 0x08 then c.tkRegister now n 1 v
  else if reg = 0x0C then c.tkRegister now n 3 (v % 65536)
  else if reg = 0x10 then c.tkRegister now n 2 (map / 2 ^ 32 * 2 ^ 32 + v)
  else if reg = 0x14 then c.tkRegister now n 2 (v * 2 ^ 32 + map % 2 ^ 32)
  else if reg = 0x18 then c.tkRegister now n 4 (v % 256)
  else if reg = 0x1C then c.tkRegister now n 7 v
  else if reg = 0x20 then c.tkRxPush now n (BitVec.ofNat 32 v)
  else if reg = 0x28 then
    if field v 18 16 = 7 then c.tkRefused n
    else c.mapEng1 n (fun e => { e with
      inj := BitVec.ofNat 64 (e.inj.toNat / 2 ^ 32 * 2 ^ 32 + halfStrip false v) })
  else if reg = 0x2C then c.mapEng1 n (fun e => { e with
      inj := BitVec.ofNat 64 (halfStrip true v * 2 ^ 32 + e.inj.toNat % 2 ^ 32) })
  else if reg = 0x30 then c.tkRegister now n 5 (v % 2)
  else c

/-- A LUT entry written whole. -/
def Core.lutEntry (now off v : Nat) (c : Core) : Core :=
  let n := off / 0x2000
  let data := leBytes 8 v
  if c.barOwns && !(c.tkAt now n).running && lutOk data then
    let c := c.sramWord (sramAddr 4 (off / 8 * 8)) (leNat (lutStrip data))
    c.journal (0x2C80 + n) 0 0 ((List.range 8192).map (fun i => c.domByte (0x2C80 + n) i))
  else c.tkRefused n

/-- The diagnostic windows: a word whole, or a half of it through the merge buffer (12 R367, R378). -/
def Core.diagWrite (now off size v : Nat) (c : Core) : Core :=
  let a := Config.diagAddr (off / 8 * 8)
  if !inRegion a then c
  else if size = 8 then c.sramWrite now 0 a 0xFF#8 v
  else if off % 8 = 0 then c.sramWrite now 0 a 0x0F#8 v
  else c.sramWrite now 0 a 0xF0#8 (v * 2 ^ 32)

/-- A 32-bit register of BAR2 written, outside the LUTs. -/
def Core.bar2Write (now off v : Nat) (c : Core) : Core :=
  if off = 0x20400 then
    if c.barOwns && (c.startAt now).isSome then c.tkStart now (v % 65536) else c.tkRefused 0
  else if off = 0x20404 then (if c.barOwns then c.tkStop now (v % 65536) else c.tkRefused 0)
  else if off = 0x20408 then (if c.barOwns then c.store 0x2C00 4 (v % 65536) else c.tkRefused 0)
  else if off = 0x2041C then c.mapTk (fun k => { k with irq := k.irq &&& ~~~(BitVec.ofNat 16 v) })
  else if off = 0x20420 then c.mapTk (fun k => { k with irqEn := BitVec.ofNat 16 v })
  else if 0x20800 ≤ off then c.diagWrite now off 4 v
  else match engAt off with
    | some (n, r) => c.engWrite now n r v
    | none => c

/-- A 32-bit register of an engine's block read; TK_TX removes its word. -/
def Core.engWord (now n reg : Nat) (c : Core) : Nat × Core :=
  let idx := 0x2C10 + n
  if reg = 0x04 then (c.tkStatus now n, c)
  else if reg = 0x08 then (c.obj idx 1, c)
  else if reg = 0x0C then (c.obj idx 3, c)
  else if reg = 0x10 then (c.obj idx 2 % 2 ^ 32, c)
  else if reg = 0x14 then (c.obj idx 2 / 2 ^ 32, c)
  else if reg = 0x18 then (c.obj idx 4, c)
  else if reg = 0x1C then ((c.eng1 n).sr.toNat, c)
  else if reg = 0x24 then c.tkTxPop now n
  else if reg = 0x28 then ((c.eng1 n).inj.toNat % 2 ^ 32, c)
  else if reg = 0x2C then ((c.eng1 n).inj.toNat / 2 ^ 32, c)
  else if reg = 0x30 then (c.obj idx 5, c)
  else (0, c)

/-- A word of the on-die memory read by the host; none is a bus error. What the block itself keeps in a
word is not stated: a free value (12 R363). -/
def Core.hostWord (now a : Nat) (c : Core) : Option Nat × Core :=
  if !inRegion a then (some 0, c)
  else
    let r := c.sramRead now 0 a
    if r.1.isNone then r
    else
      let h := r.2.wordHeld a
      (some h.1, h.2)

/-- A 32-bit register of BAR2 read, outside the LUTs. -/
def Core.bar2Word (now off : Nat) (c : Core) : Option Nat × Core :=
  if off = 0x20408 then (some (c.obj 0x2C00 4), c)
  else if off = 0x20418 then (some (c.tkMask now (·.running)), c)
  else if off = 0x2041C then (some c.tk.irq.toNat, c)
  else if off = 0x20420 then (some c.tk.irqEn.toNat, c)
  else if off = 0x20424 then (some (c.tkMask now (·.flag)), c)
  else if off = 0x20428 then (some (c.pinLevels now), c)
  else if 0x20800 ≤ off then
    let r := c.hostWord now (Config.diagAddr (off / 8 * 8))
    (r.1.map (fun v => if off % 8 = 0 then v % 2 ^ 32 else v / 2 ^ 32), r.2)
  else match engAt off with
    | some (n, r) =>
      let w := c.engWord now n r
      (some w.1, w.2)
    | none => (some 0, c)

/-! ### 64-bit registers (13 R390) -/

/-- The value of a 64-bit register at this instant. -/
def Core.wideRead (now : Nat) (bar2 : Bool) (off : Nat) (c : Core) : Option Nat × Core :=
  if bar2 then
    if off = 0x20410 then (some (c.obj 0x2C00 5), c) else c.hostWord now (sramAddr 4 off)
  else if off = 0x6000 then (some (c.stamp now % 2 ^ 64), c)
  else match ringAt off with
    | some (i, r) => (some (if r = 0 then (c.ring i).base else (c.ring i).wb), c)
    | none => (some 0, c)

/-- A 64-bit register written whole. -/
def Core.wideWrite (now : Nat) (bar2 : Bool) (off v : Nat) (c : Core) : Core :=
  if bar2 then
    if off = 0x20410 then (if c.barOwns then c.put 0x2C00 5 v else c.tkRefused 0) else c.lutEntry now off v
  else match ringAt off with
    | some (i, r) => c.ringAddr i r v
    | none => c

/-- A low half that would not be taken is refused at once. -/
def Core.lowRefused (now : Nat) (bar2 : Bool) (off : Nat) (c : Core) : Option Core :=
  if bar2 then
    if off = 0x20410 then (if c.barOwns then none else some (c.tkRefused 0))
    else if c.barOwns && !(c.tkAt now (off / 0x2000)).running then none
    else some (c.tkRefused (off / 0x2000))
  else match ringAt off with
    | some (i, _) => if c.ringOwned && !(c.ring i).enable then none else some c.ringRefused
    | none => none

/-- A low half held until its high half comes. -/
def Core.holdLow (now : Nat) (bar2 : Bool) (off v : Nat) (c : Core) : Core :=
  match c.lowRefused now bar2 off with
  | some d => d
  | none => c.when (bar2 || off != 0x6000) (Core.mapCxl (fun x => { x with half := aput x.half (halfKey bar2 off) v }))

/-- A high half: both halves written as one value, with the low half held or in force. -/
def Core.highWrite (now : Nat) (bar2 : Bool) (low v : Nat) (c : Core) : Core :=
  let inForce := ((c.wideRead now bar2 low).1.getD 0) % 2 ^ 32
  let lo := (alook c.cxl.half (halfKey bar2 low)).getD inForce
  (c.dropHalf (halfKey bar2 low)).wideWrite now bar2 low (v * 2 ^ 32 + lo)

/-! ### The commands (13 R388 to R390) -/

/-- A naturally aligned access of 4 or 8 bytes (13 R389). -/
def barOk (off size : Nat) : Bool := (size == 4 || size == 8) && off % size == 0

def barBytes (bar2 : Bool) : Nat := if bar2 then 0x40000 else 0x10000

/-- A 4-byte write. -/
def Core.barWrite4 (now : Nat) (bar2 : Bool) (off v : Nat) (c : Core) : Core :=
  if isWide bar2 off then c.holdLow now bar2 off v
  else if off % 8 = 4 && isWide bar2 (off - 4) then c.highWrite now bar2 (off - 4) v
  else if bar2 then c.bar2Write now off v
  else c.bar0Write now off v

/-- An access written. -/
def Core.barWrite (now : Nat) (bar2 : Bool) (off size v : Nat) (c : Core) : Core :=
  if !barOk off size then c.barRefused
  else if barBytes bar2 ≤ off then c
  else
  let c := c.when bar2 (Core.tkSync now)
  if size = 4 then c.barWrite4 now bar2 off (v % 2 ^ 32)
  else if isWide bar2 off then (c.dropHalf (halfKey bar2 off)).wideWrite now bar2 off v
  else if bar2 && 0x20800 ≤ off then c.diagWrite now off 8 v
  else (c.barWrite4 now bar2 off (v % 2 ^ 32)).barWrite4 now bar2 (off + 4) (v / 2 ^ 32)

/-- A host write: to BAR0 or BAR2; to the doublewords of BAR4 and of configuration space, aligned and 4 bytes long; the
CDAT takes none. -/
def Core.hostWrite (now : Nat) (space : Space) (off size v : Nat) (c : Core) : Core :=
  let dword := fun (f : Core → Core) => c.when (size == 4 && off % 4 == 0) f
  match space with
  | .bar0 => c.barWrite now false off size v
  | .bar2 => c.barWrite now true off size v
  | .bar4 => dword (Core.bar4Write off (v % 2 ^ 32))
  | .config => dword (Core.cfgWrite now off (v % 2 ^ 32))
  | .cdat => c

def execBarWrite (t : Nat) (space : Space) (off size : Nat) (v : Word64) (s : State) :
    Host.Outcome State Fault Refusal :=
  State.run t (fun now c => c.hostWrite now space off size v.toNat) s

/-- A 32-bit register read. -/
def Core.word32 (now : Nat) (bar2 : Bool) (off : Nat) (c : Core) : Option Nat × Core :=
  if bar2 then c.bar2Word now off else (some (c.bar0Word off), c)

/-- A 4-byte read: a low half copies the high half into the shadow; a high half answers the shadow. -/
def Core.barRead4 (now : Nat) (bar2 : Bool) (off : Nat) (c : Core) : Option Nat × Core :=
  if isWide bar2 off then
    let r := c.wideRead now bar2 off
    (r.1.map (· % 2 ^ 32), match r.1 with
      | some v => r.2.mapCxl (fun x => { x with shadow := aput x.shadow (halfKey bar2 off) (v / 2 ^ 32) })
      | none => r.2)
  else if off % 8 = 4 && isWide bar2 (off - 4) then
    (some ((alook c.cxl.shadow (halfKey bar2 (off - 4))).getD 0), c)
  else c.word32 now bar2 off

/-- An access read; none completes with Completer Abort. -/
def Core.barRead (now : Nat) (bar2 : Bool) (off size : Nat) (c : Core) : Option Nat × Core :=
  if !barOk off size then (none, c)
  else if barBytes bar2 ≤ off then (some 0, c)
  else
  let c := c.when bar2 (Core.tkSync now)
  if size = 4 then c.barRead4 now bar2 off
  else if isWide bar2 off then c.wideRead now bar2 off
  else if bar2 && 0x20800 ≤ off then c.hostWord now (Config.diagAddr off)
  else
    let a := c.word32 now bar2 off
    let b := a.2.word32 now bar2 (off + 4)
    (a.1.bind (fun x => b.1.map (fun y => x + 2 ^ 32 * y)), b.2)

/-- A host read: of BAR0 or BAR2; of the doublewords of the other spaces, aligned and 4 bytes long. -/
def Core.hostRead (now : Nat) (space : Space) (off size : Nat) (c : Core) : Out × Core :=
  let dword := fun (f : Nat → Core → Out × Core) =>
    if size == 4 && off % 4 == 0 then f off c else (.bar none, c)
  match space with
  | .bar0 => let r := c.barRead now false off size; (.bar r.1, r.2)
  | .bar2 => let r := c.barRead now true off size; (.bar r.1, r.2)
  | .bar4 => dword Core.bar4Read
  | .config => dword Core.cfgRead
  | .cdat => dword Core.cdatRead

def execBarRead (t : Nat) (space : Space) (off size : Nat) (s : State) : Host.Outcome State Fault Refusal :=
  State.run t (fun now c =>
    let r := c.hostRead now space off size
    r.2.emit r.1) s

end Sys2Proof.Machine
end

