-- ==== Sys2Proof/Machine/Fieldbus.lean ====
section
/-!
DEFINITION. The EtherCAT side (02 R44 to R61, R514 to R516, 16 R468): CoE accesses, AL states, firmware
download, process data and Distributed Clocks.
-/

namespace Sys2Proof.Machine

/-- The slave controller forwards and its mailbox is served (02 R61, 16 R492). -/
def Core.coeOn (c : Core) : Bool := c.pw.fwRuns && c.mode != .compline && c.clk.refOn

/-! ### SDO (02 R44, R49, R514, R516) -/

/-- The transfer that a segment continues, or a new one; `toggle` is the next segment's. -/
def Core.xferFor (c : Core) (now idx sub : Nat) : SegXfer := match c.ec.xfer with
  | some x => if x.idx = idx ∧ x.sub = sub then x else ⟨idx, sub, false, [], now⟩
  | none => ⟨idx, sub, false, [], now⟩

def Core.dropXfer (c : Core) : Core := c.mapEc (fun e => { e with xfer := none })

/-- A segment's protocol errors: the gap of 02 R49, then the toggle bit. -/
def SegXfer.refused (x : SegXfer) (now : Nat) (toggle : Bool) : Option Nat :=
  if x.last + 1000000000 < now then some 0x05040000
  else if x.toggle != toggle then some 0x05030000
  else none

/-- Most bytes that a transfer to an object can carry, as one value or, from sub 00 or 01, as a whole
record. -/
def transferMax (idx sub : Nat) : Nat :=
  let one := match rowOf idx sub with
    | some r => if r.vari then r.len else r.bytes
    | none => 0
  if sub ≤ 1 then max one (sumNat ((recordSubs idx).map (subBytes idx))) else one

/-- A transfer given up for reason `k`, answered with the code that 02 R51 puts first. -/
def Core.sdoGiveUp (now idx sub k : Nat) (c : Core) : Nat × Core :=
  ((firstCode (k :: c.preCodes now .sdo idx sub)).getD k, c.dropXfer)

/-- A segment that is not the last: kept, or the transfer discarded. A domain's length is judged when the transfer
completes, any other value's as soon as it is exceeded (02 R514, log entry 17). -/
def Core.sdoSegment (now idx sub : Nat) (toggle : Bool) (data : List Byte) (c : Core) : Nat × Core :=
  let x := c.xferFor now idx sub
  match x.refused now toggle with
  | some k => c.sdoGiveUp now idx sub k
  | none =>
    if c.absent idx || (topSub idx).isNone then (0x06020000, c.dropXfer)
    else if (rowOf idx sub).isNone then (0x06090011, c.dropXfer)
    else if !isDomain idx sub && decide (transferMax idx sub < x.data.length + data.length) then
      c.sdoGiveUp now idx sub 0x06070010
    else (0, c.mapEc (fun e => { e with
      xfer := some { x with toggle := !x.toggle, data := x.data ++ data, last := now } }))

/-- The refusal of complete access from a sub other than 00 and 01, or to a simple variable: existence comes first
(02 R51). -/
def Core.noComplete (c : Core) (idx sub : Nat) : Nat :=
  if c.absent idx || (topSub idx).isNone then 0x06020000
  else if (rowOf idx sub).isNone then 0x06090011
  else 0x06010000

/-- A write by SDO: one value, or by complete access a record from sub 00 or from sub 01 on. -/
def Core.sdoWrite (now idx sub : Nat) (complete : Bool) (data : List Byte) (c : Core) : Nat × Core :=
  if !complete then c.writeOne now .sdo idx sub data
  else if sub = 0 then c.writeAll now .sdo idx data
  else if sub = 1 && !isSimple idx then c.writeAll now .sdo idx (leBytes 2 (c.obj idx 0) ++ data)
  else (c.noComplete idx sub, c)

/-- An expedited or normal download, or the last segment of a segmented one. -/
def Core.sdoDownload (now idx sub : Nat) (complete final toggle : Bool) (data : List Byte) (c : Core) :
    Nat × Core :=
  let x := c.xferFor now idx sub
  if !final then c.dropXfer.sdoWrite now idx sub complete data
  else match x.refused now toggle with
    | some k => c.sdoGiveUp now idx sub k
    | none => c.dropXfer.sdoWrite now idx sub complete (x.data ++ data)

/-- An SDO response in the SM1 mailbox (02 R516); a RESET command then acts (16 R470). -/
def Core.sdoAnswer (now idx sub : Nat) (r : Nat × Core) : Core :=
  (r.2.emit (.sdo idx sub r.1 [])).resetIfDue now

def execSdoDownload (t : Nat) (idx sub : Nat) (complete final toggle : Bool) (data : List Byte) (s : State) :
    Host.Outcome State Fault Refusal :=
  State.run t (fun now c => c.when c.coeOn (fun c =>
    Core.sdoAnswer now idx sub (c.sdoDownload now idx sub complete final toggle data))) s

def execSdoDownloadSegment (t : Nat) (idx sub : Nat) (toggle : Bool) (data : List Byte) (s : State) :
    Host.Outcome State Fault Refusal :=
  State.run t (fun now c => c.when c.coeOn (fun c =>
    Core.sdoAnswer now idx sub (c.sdoSegment now idx sub toggle data))) s

/-- A read by SDO. -/
def Core.sdoRead (now idx sub : Nat) (complete : Bool) (c : Core) : Nat × List Byte × Core :=
  if !complete then c.readOne now .sdo idx sub
  else if sub = 0 then c.readAll now .sdo idx
  else if sub = 1 && !isSimple idx then
    let r := c.readAll now .sdo idx
    (r.1, r.2.1.drop 2, r.2.2)
  else (c.noComplete idx sub, [], c)

def execSdoUpload (t : Nat) (idx sub : Nat) (complete : Bool) (s : State) : Host.Outcome State Fault Refusal :=
  State.run t (fun now c => c.when c.coeOn (fun c =>
    let r := c.sdoRead now idx sub complete
    r.2.2.emit (.sdo idx sub r.1 r.2.1))) s

/-- SDO Information (02 R33, R52). -/
def Core.sdoInfo (req : SdoInfo) (c : Core) : Core := match req with
  | .objectList => c.emit (.info c.objectList)
  | .objectDesc idx => if c.absent idx || (topSub idx).isNone then c.emit (.sdo idx 0 0x06020000 [])
      else c.emit (.info (objectDesc idx))
  | .entryDesc idx sub => if c.absent idx || (topSub idx).isNone then c.emit (.sdo idx sub 0x06020000 [])
      else if (rowOf idx sub).isNone then c.emit (.sdo idx sub 0x06090011 [])
      else c.emit (.info (entryDesc idx sub))

def execSdoInformation (t : Nat) (req : SdoInfo) (s : State) : Host.Outcome State Fault Refusal :=
  State.run t (fun _ c => c.when c.coeOn (fun c => c.sdoInfo req)) s

/-- A segment gap over 1 s aborts the transfer (02 R49). -/
def Core.sdoTimeout (now : Nat) (c : Core) : Core := match c.ec.xfer with
  | some x => c.when (decide (x.last + 1000000000 < now) && c.coeOn) (fun c =>
      c.dropXfer.emit (.sdo x.idx x.sub 0x05040000 []))
  | none => c

def execSdoProtocolTimeout (t : Nat) (s : State) : Host.Outcome State Fault Refusal :=
  State.run t (fun now c => c.sdoTimeout now) s

def execMailboxServiceUnsupported (t : Nat) (svc : MbxService) (s : State) :
    Host.Outcome State Fault Refusal :=
  State.run t (fun _ c => c.when c.coeOn (Core.emit (.mailboxError svc))) s

/-! ### AL states, the SM2 watchdog and FoE (02 R55, R56, 15 R447, 16 R468) -/

def alLow (st : AlState) : Bool := st != .safeop && st != .op

/-- FIELDBUS_WATCHDOG: cause 0 the SM2 watchdog, 1 OP left (15 R446, R447). -/
def Core.fieldbusLost (now cause : Nat) (c : Core) : Core := c.condOn now 0x8120 0xFF 0 (leBytes 1 cause)

/-- An AL state change requested by the master, with SYNC1 activated in the slave controller or not. -/
def Core.alRequest (now : Nat) (want : AlState) (sync1 : Bool) (c : Core) : Core :=
  let old := c.ec.al
  if want = .bootstrap ∧ c.mode ≠ .standby then c.emit (.al old 0x11)
  else
    let c := c.mapEc (fun e => { e with
      al := want, sync1On := sync1, alLowSince := if alLow want && !alLow old then now else e.alLowSince })
    (c.when (old == .op && want != .op) (Core.fieldbusLost now 1)).emit (.al want 0)

def execAlStateRequest (t : Nat) (want : AlState) (sync1 : Bool) (s : State) : Host.Outcome State Fault Refusal :=
  State.run t (fun now c => c.when c.coeOn (fun c => c.alRequest now want sync1)) s

/-- The watchdog expires, or OP is left for SAFEOP by itself; the values stay in force. -/
def Core.sm2Expiry (now : Nat) (opLeft : Bool) (c : Core) : Core :=
  let c := c.when (opLeft && c.ec.al == .op) (Core.mapEc (fun e => { e with al := .safeop }))
  c.fieldbusLost now (b2n opLeft)

def execSm2WatchdogExpiry (t : Nat) (opLeft : Bool) (s : State) : Host.Outcome State Fault Refusal :=
  State.run t (fun now c => c.when c.coeOn (fun c => c.sm2Expiry now opLeft)) s

/-- The slot a download goes to (16 R468). -/
def Core.downloadSlot (c : Core) : Nat :=
  let open_ := fun (i : Nat) => (c.slot i).st == 0 || (c.slot i).st == 5
  if c.pw.running = 0 then 1
  else if c.pw.running = 1 then 0
  else if open_ 0 then 0
  else if open_ 1 then 1
  else if (c.slot 1).release < (c.slot 0).release then 1 else 0

/-- An FoE error whose code the manual does not state. -/
def Core.foeRefused (abort : Nat) (c : Core) : Core :=
  let r := c.fresh
  r.2.emit (.foe (r.1 % 2 ^ 16) abort)

/-- A download: refused outside BOOTSTRAP, under another name, or while an image is verified. -/
def Core.foeDownload (nameOk : Bool) (image : FwImage) (c : Core) : Core :=
  if c.ec.al ≠ .bootstrap ∨ nameOk = false then c.foeRefused 0
  else if c.pw.foeBusy.isSome then c.foeRefused 0x08000035
  else
    let i := c.downloadSlot
    (c.mapNv (fun n => { n with slots := modAt n.slots i (fun _ => { st := 1, image := image }) })).mapPw
      (fun p => { p with foeBusy := some i })

def execFoeDownload (t : Nat) (nameOk : Bool) (image : FwImage) (s : State) : Host.Outcome State Fault Refusal :=
  State.run t (fun _ c => c.when c.coeOn (fun c => c.foeDownload nameOk image)) s

/-- The signature check ends. -/
def Core.foeVerified (c : Core) : Core := match c.pw.foeBusy with
  | none => c
  | some i =>
    let ok := (c.slot i).image.signed
    let c := (c.putSlot i (if ok then 2 else 5)).mapPw (fun p => { p with foeBusy := none })
    c.emit (if ok then .foe 0 0 else .foe 0x8000 0x0800002A)

def execFoeVerifyComplete (t : Nat) (s : State) : Host.Outcome State Fault Refusal :=
  State.run t (fun _ c => c.when c.coeOn Core.foeVerified) s

/-! ### Process data (02 R46, R53, R55, R57 to R59) -/

/-- The values of mapped bits, the first entry at the least significant bit. -/
def unpack : List (Nat × Nat × Nat) → Nat → List (Nat × Nat × Nat × Nat)
  | [], _ => []
  | (i, s, n) :: l, v => (i, s, n, v % 2 ^ n) :: unpack l (v / 2 ^ n)

/-- One mapped value applied, as a write by process data. -/
def Core.pdoValue (now : Nat) (c : Core) (e : Nat × Nat × Nat × Nat) : Core :=
  (c.writeOne now .pdo e.1 e.2.1 (leBytes ((e.2.2.1 + 7) / 8) e.2.2.2)).2

/-- The RxPDO's values applied; they hold together, so the control word comes last. -/
def Core.rxApply (now : Nat) (data : List Byte) (c : Core) : Core :=
  let l := (unpack (c.pdoEntries 0x1C12) (leNat data)).filter (fun e => e.1 != 0)
  let cw := fun (e : Nat × Nat × Nat × Nat) => e.1 == 0x6000 && e.2.1 == 1
  let c := (l.filter (fun e => !cw e) ++ l.filter cw).foldl (Core.pdoValue now) c
  c.condOff 0x8120 0

/-- The event that applies RxPDO values under 1C32h.01. -/
def Core.rxEvent (c : Core) : SyncEvent → Bool
  | .sm2 => c.obj 0x1C32 1 == 1
  | .sync0 => c.obj 0x1C32 1 == 2
  | .sync1 => c.obj 0x1C32 1 == 3
  | .frameRead => false

/-- The event that latches TxPDO values. -/
def Core.txEvent (c : Core) : SyncEvent → Bool
  | .sm2 => false
  | .sync0 => c.obj 0x1C32 1 == 2
  | .sync1 => c.obj 0x1C32 1 == 3
  | .frameRead => c.obj 0x1C32 1 == 1

/-- A cycle begins at the event that applies: one that begins less than the minimum cycle time after the
last is too short to complete (1C32h.0C). -/
def Core.cycleBegins (now : Nat) (c : Core) : Core :=
  let short := match c.ec.cycleAt with | some p => decide (now < p + c.obj 0x1C32 5) | none => false
  (c.when short (fun c => (c.bump 0x1C32 12).bump 0x1C33 12)).mapEc (fun e => { e with cycleAt := some now })

/-- No frame came since the last SYNC event: a missed SM event (1C32h.0B). -/
def Core.smMissed (c : Core) : Core := (c.bump 0x1C32 11).bump 0x1C33 11

/-- RxPDO data at its event; no data at a SYNC event says that no frame came since the last one. -/
def Core.rxCycle (now : Nat) (ev : SyncEvent) (data : List Byte) (c : Core) : Core :=
  let c := c.cycleBegins now
  if data.length = c.pdoBytes 0x1C12 then c.rxApply now data
  else c.when (data.isEmpty && ev != .sm2) Core.smMissed

def execRxpdoApply (t : Nat) (ev : SyncEvent) (data : List Byte) (s : State) : Host.Outcome State Fault Refusal :=
  State.run t (fun now c => c.when (c.coeOn && c.ec.al == .op && c.rxEvent ev)
    (fun c => c.rxCycle now ev data)) s

/-- The mapped values as one number, the first entry at the least significant bit. -/
def Core.packed (c : Core) (now : Nat) : List (Nat × Nat × Nat) → Nat
  | [] => 0
  | (i, s, n) :: l => (if i = 0 then 0 else c.value now i s % 2 ^ n) + 2 ^ n * c.packed now l

/-- The TxPDO latched: channels confirmed count from this latch on. -/
def Core.txLatch (now : Nat) (c : Core) : Core :=
  let d := leBytes (c.pdoBytes 0x1C13) (c.packed now (c.pdoEntries 0x1C13))
  (c.mapEc (fun e => { e with txData := d, alarmBits := 0 })).emit (.txpdo d)

def execTxpdoLatch (t : Nat) (ev : SyncEvent) (s : State) : Host.Outcome State Fault Refusal :=
  State.run t (fun now c => c.when (c.coeOn && !alLow c.ec.al && c.txEvent ev) (fun c => c.txLatch now)) s

/-! ### Distributed Clocks (02 R54) -/

/-- The rate correction of 10 R327 in 0.001 ppm, reported by the slave controller: a free value within the
bounds of drift, and of drift and realignment together. -/
def Core.dcRate (running inSync : Bool) (c : Core) : Core :=
  let b := if inSync then 250000 else 350000
  let r := c.fresh
  r.2.put 0x2D20 1 (if running then ofSigned 32 ((r.1 % (2 * b + 1) : Nat) - (b : Int)) else 0)

/-- What the slave controller reports of Distributed Clocks, and whether SYNC1 is activated in it; one event for each change of being in sync. -/
def Core.dcReport (now : Nat) (running sync1 : Bool) (diff : Int) (c : Core) : Core :=
  let was := c.ec.dcInSync
  let is := running && decide (-100 ≤ diff) && decide (diff ≤ 100)
  let c := (if running && !c.ec.dcRunning then c.dcLoad now else c.dcBase now).dcRate running is
  let c := (c.mapEc (fun e => { e with
    dcRunning := running, dcDiff := diff, dcInSync := is, sync1On := sync1 })).put
    0x2D20 2 (if is then 0 else ofSigned 32 diff)
  if was && !is then c.event now 0x0126 0xFF []
  else if !was && is then c.event now 0x0127 0xFF []
  else c

def execDcSyncLost (t : Nat) (stopped sync1 : Bool) (diff : Int) (s : State) : Host.Outcome State Fault Refusal :=
  State.run t (fun now c => c.when c.coeOn (fun c => c.dcReport now (!stopped) sync1 diff)) s

def execDcSyncRegained (t : Nat) (sync1 : Bool) (diff : Int) (s : State) : Host.Outcome State Fault Refusal :=
  State.run t (fun now c => c.when c.coeOn (fun c => c.dcReport now true sync1 diff)) s

end Sys2Proof.Machine
end

