-- ==== Sys2Proof/Machine/TwoWireTarget.lean ====
section
/-!
DEFINITION. The two-wire target (02 R69 to R75). Each command is one data byte at its acknowledge slot.
-/

namespace Sys2Proof.Machine

/-- Data bytes are acted on: 3400h.03 is 1, firmware runs, not in COMPLINE (02 R71). -/
def Core.twOn (c : Core) : Bool := c.flag 0x3400 3 && c.pw.fwRuns && c.mode != .compline

/-- A new transfer's START: the bus state begins anew. -/
def Core.twIdle (c : Core) : Core := c.mapTw (fun w => { w with cut := none })

/-- A byte ACKed and acted on. -/
def Core.twAck (c : Core) : Core := (c.twIdle.bump 0x3400 4).emit (.twoWire true)

/-- A byte NACKed. -/
def Core.twNack (c : Core) : Core := (c.twIdle.bump 0x3400 5).emit (.twoWire false)

/-- A5h or 3Ch: the SAFE latch. -/
def Core.twLatch (v : Bool) (c : Core) : Core :=
  if c.twOn then (c.mapTw (fun w => { w with latch := v })).twAck else c.twNack

def execTwSafeSet (t : Nat) (s : State) : Host.Outcome State Fault Refusal :=
  State.run t (fun _ c => c.twLatch true) s

def execTwSafeClear (t : Nat) (s : State) : Host.Outcome State Fault Refusal :=
  State.run t (fun _ c => c.twLatch false) s

/-- 0Fh: LIVE stops for 1.0 ms, not while a job runs. -/
def Core.twTest (now : Nat) (c : Core) : Core :=
  if c.twOn && !c.job.running then (c.mapTw (fun w => { w with testUntil := some (now + 1000000) })).twAck
  else c.twNack

def execTwLiveTest (t : Nat) (s : State) : Host.Outcome State Fault Refusal :=
  State.run t (fun now c => c.twTest now) s

/-- The LIVE test ends: 1.0 ms ±0.1 ms after it began. -/
def Core.liveBack (now : Nat) (c : Core) : Core := match c.tw.testUntil with
  | some u => if u ≤ now + 100000 then c.mapTw (fun w => { w with testUntil := none }) else c
  | none => c

def execLiveResume (t : Nat) (s : State) : Host.Outcome State Fault Refusal :=
  State.run t (fun now c => c.liveBack now) s

/-- A byte that is NACKed: a later byte of a transfer, a value without an action, or any byte while bytes
are not acted on. A byte that has its action is none of these. -/
def Core.twRefuse (first : Bool) (v : Byte) (c : Core) : Core :=
  if first && c.twOn && (v == 0xA5 || v == 0x3C || (v == 0x0F && !c.job.running)) then c else c.twNack

def execTwByteRefused (t : Nat) (first : Bool) (v : Byte) (s : State) : Host.Outcome State Fault Refusal :=
  State.run t (fun _ c => c.twRefuse first v) s

/-- Reads are answered from 5 ms after boot time zero, while VHOLD stays above the cutoff (02 R75). -/
def Core.twAnswers (now : Nat) (c : Core) : Bool :=
  decide (c.pw.bootZero + 5000000 ≤ now) && !c.pw.heldReset

def TwRead.drivesLow (r : TwRead) : Bool := !r.byte.getLsbD (r.bits - 1)

/-- SCL pulses after a cut: the remaining bits are shifted out, and SDA is released at the acknowledge slot. -/
def Core.twClocks (now n : Nat) (c : Core) : Core := match c.tw.cut with
  | some r => if r.bits ≤ n then c.twIdle.emit .sdaReleased
      else c.mapTw (fun w => { w with cut := some { r with bits := r.bits - n, since := now } })
  | none => c

/-- SDA driven low for 25 ms (±2 ms) with neither line changing is released, the bus state is idle, and the release is
counted. -/
def Core.twStill (now : Nat) (c : Core) : Core := match c.tw.cut with
  | some r => if r.drivesLow && decide (r.since + 23000000 ≤ now) then
      (c.twIdle.emit .sdaReleased).bump 0x3400 6 else c
  | none => c

/-- Reads and the bus (02 R70, R74). Each byte of a read is a command and samples the register afresh; the target that
reads or is addressed finds the bus state idle. In an acknowledge slot SDA is low until the next pulse of SCL. -/
def Core.twBus (now : Nat) (ev : TwBus) (c : Core) : Core := match ev with
  | .read => c.when (c.twAnswers now) (fun c => c.twIdle.emit (.twRead [BitVec.ofNat 8 c.twRegister]))
  | .cut k => c.when (c.twAnswers now) (Core.mapTw (fun w => { w with
      cut := some ⟨now, k.val + 1, BitVec.ofNat 8 c.twRegister⟩ }))
  | .ackCut => c.when (c.twAnswers now) (Core.mapTw (fun w => { w with cut := some ⟨now, 1, 0⟩ }))
  | .clocks n => c.twClocks now n
  | .still => c.twStill now

def execTwBusRelease (t : Nat) (ev : TwBus) (s : State) : Host.Outcome State Fault Refusal :=
  State.run t (fun now c => c.twBus now ev) s

def execSafeLatchWrite (t : Nat) (orig : Orig) (v : Byte) (s : State) : Host.Outcome State Fault Refusal :=
  State.run t (fun now c => Core.answered orig 0x3400 2 (c.writeOne now orig 0x3400 2 [v])) s

end Sys2Proof.Machine
end

