-- ==== Sys2Proof/Machine/Dispatch.lean ====
section
/-!
DEFINITION. The one dispatch from a command to its meaning.
-/

namespace Sys2Proof.Machine

def exec (i : Instr) (s : State) : Host.Outcome State Fault Refusal :=
  match i with
  | .sdoDownload t idx sub complete final toggle data => Sys2Proof.Machine.execSdoDownload t idx sub complete final toggle data s
  | .sdoDownloadSegment t idx sub toggle data => Sys2Proof.Machine.execSdoDownloadSegment t idx sub toggle data s
  | .sdoUpload t idx sub complete => Sys2Proof.Machine.execSdoUpload t idx sub complete s
  | .sdoInformation t req => Sys2Proof.Machine.execSdoInformation t req s
  | .sdoProtocolTimeout t => Sys2Proof.Machine.execSdoProtocolTimeout t s
  | .mailboxServiceUnsupported t svc => Sys2Proof.Machine.execMailboxServiceUnsupported t svc s
  | .alStateRequest t want sync1 => Sys2Proof.Machine.execAlStateRequest t want sync1 s
  | .foeDownload t nameOk image => Sys2Proof.Machine.execFoeDownload t nameOk image s
  | .foeVerifyComplete t => Sys2Proof.Machine.execFoeVerifyComplete t s
  | .rxpdoApply t ev data => Sys2Proof.Machine.execRxpdoApply t ev data s
  | .txpdoLatch t ev => Sys2Proof.Machine.execTxpdoLatch t ev s
  | .jobStart t orig => Sys2Proof.Machine.execJobStart t orig s
  | .jobEnd t orig => Sys2Proof.Machine.execJobEnd t orig s
  | .faultAck t orig => Sys2Proof.Machine.execFaultAck t orig s
  | .safeControl t orig v => Sys2Proof.Machine.execSafeControl t orig v s
  | .startAtSync1 t orig => Sys2Proof.Machine.execStartAtSync1 t orig s
  | .sync1Event t => Sys2Proof.Machine.execSync1Event t s
  | .sync1WaitTimeout t => Sys2Proof.Machine.execSync1WaitTimeout t s
  | .sm2WatchdogExpiry t opLeft => Sys2Proof.Machine.execSm2WatchdogExpiry t opLeft s
  | .dcSyncLost t stopped sync1 diff => Sys2Proof.Machine.execDcSyncLost t stopped sync1 diff s
  | .dcSyncRegained t sync1 diff => Sys2Proof.Machine.execDcSyncRegained t sync1 diff s
  | .objectWrite t orig idx sub data => Sys2Proof.Machine.execObjectWrite t orig idx sub data s
  | .modeRequest t orig v => Sys2Proof.Machine.execModeRequest t orig v s
  | .modeTransitionComplete t => Sys2Proof.Machine.execModeTransitionComplete t s
  | .ownershipTransfer t orig dom v => Sys2Proof.Machine.execOwnershipTransfer t orig dom v s
  | .takeover t orig sig => Sys2Proof.Machine.execTakeover t orig sig s
  | .pendingViewSelect t orig v => Sys2Proof.Machine.execPendingViewSelect t orig v s
  | .storeAll t orig sig flashOk => Sys2Proof.Machine.execStoreAll t orig sig flashOk s
  | .restoreDefaults t orig sig => Sys2Proof.Machine.execRestoreDefaults t orig sig s
  | .errorHistoryClear t orig v => Sys2Proof.Machine.execErrorHistoryClear t orig v s
  | .eventAcknowledge t orig v => Sys2Proof.Machine.execEventAcknowledge t orig v s
  | .mbxGo t => Sys2Proof.Machine.execMbxGo t s
  | .mbxAbort t late => Sys2Proof.Machine.execMbxAbort t late s
  | .mbxStatClear t v => Sys2Proof.Machine.execMbxStatClear t v s
  | .mbxRead t => Sys2Proof.Machine.execMbxRead t s
  | .mbxWrite t => Sys2Proof.Machine.execMbxWrite t s
  | .mbxReadPending t => Sys2Proof.Machine.execMbxReadPending t s
  | .mbxReadAll t => Sys2Proof.Machine.execMbxReadAll t s
  | .mbxWriteAll t => Sys2Proof.Machine.execMbxWriteAll t s
  | .mbxDescribe t => Sys2Proof.Machine.execMbxDescribe t s
  | .mbxOpcodeInvalid t => Sys2Proof.Machine.execMbxOpcodeInvalid t s
  | .twSafeSet t => Sys2Proof.Machine.execTwSafeSet t s
  | .twSafeClear t => Sys2Proof.Machine.execTwSafeClear t s
  | .twLiveTest t => Sys2Proof.Machine.execTwLiveTest t s
  | .liveResume t => Sys2Proof.Machine.execLiveResume t s
  | .twByteRefused t first v => Sys2Proof.Machine.execTwByteRefused t first v s
  | .twBusRelease t ev => Sys2Proof.Machine.execTwBusRelease t ev s
  | .safeLatchWrite t orig v => Sys2Proof.Machine.execSafeLatchWrite t orig v s
  | .refBufferEnable t orig => Sys2Proof.Machine.execRefBufferEnable t orig s
  | .refBufferDisable t orig => Sys2Proof.Machine.execRefBufferDisable t orig s
  | .refBufferSettled t q => Sys2Proof.Machine.execRefBufferSettled t q s
  | .refBufferWindow t q => Sys2Proof.Machine.execRefBufferWindow t q s
  | .refBufferWindowReturn t q => Sys2Proof.Machine.execRefBufferWindowReturn t q s
  | .exposureCommitPoint t => Sys2Proof.Machine.execExposureCommitPoint t s
  | .exposureReset t m b stripe => Sys2Proof.Machine.execExposureReset t m b stripe s
  | .exposureTransfer t m b stripe => Sys2Proof.Machine.execExposureTransfer t m b stripe s
  | .rowConversion t seg south kind start cols => Sys2Proof.Machine.execRowConversion t seg south kind start cols s
  | .freeRowSlot t south fits => Sys2Proof.Machine.execFreeRowSlot t south fits s
  | .convStepTakeover t q => Sys2Proof.Machine.execConvStepTakeover t q s
  | .convSettleEnd t q => Sys2Proof.Machine.execConvSettleEnd t q s
  | .convMeasureEnd t q res => Sys2Proof.Machine.execConvMeasureEnd t q res s
  | .convVerifyEnd t q mids => Sys2Proof.Machine.execConvVerifyEnd t q mids s
  | .convStepHandback t q => Sys2Proof.Machine.execConvStepHandback t q s
  | .fgCalStart t orig => Sys2Proof.Machine.execFgCalStart t orig s
  | .fgCalComplete t res defects => Sys2Proof.Machine.execFgCalComplete t res defects s
  | .fgCalSave t orig => Sys2Proof.Machine.execFgCalSave t orig s
  | .fgCalSaveComplete t ok => Sys2Proof.Machine.execFgCalSaveComplete t ok s
  | .fgCalAbort t orig late => Sys2Proof.Machine.execFgCalAbort t orig late s
  | .fgCalRestoreFactory t orig => Sys2Proof.Machine.execFgCalRestoreFactory t orig s
  | .encoderEdge t enc kind => Sys2Proof.Machine.execEncoderEdge t enc kind s
  | .encoderZ t enc => Sys2Proof.Machine.execEncoderZ t enc s
  | .encoderLost t => Sys2Proof.Machine.execEncoderLost t s
  | .stopDeclared t => Sys2Proof.Machine.execStopDeclared t s
  | .coastingLimit t => Sys2Proof.Machine.execCoastingLimit t s
  | .velocimetrySample t south m => Sys2Proof.Machine.execVelocimetrySample t south m s
  | .velocimetryValidityLapse t => Sys2Proof.Machine.execVelocimetryValidityLapse t s
  | .alarmDeadline t ch => Sys2Proof.Machine.execAlarmDeadline t ch s
  | .sheetTrigger t input rising => Sys2Proof.Machine.execSheetTrigger t input rising s
  | .sheetLimitReached t => Sys2Proof.Machine.execSheetLimitReached t s
  | .trigEdge t input rising => Sys2Proof.Machine.execTrigEdge t input rising s
  | .motionCommit t orig v => Sys2Proof.Machine.execMotionCommit t orig v s
  | .epochStart t => Sys2Proof.Machine.execEpochStart t s
  | .rowPacketArrival t seg crcOk lockOk => Sys2Proof.Machine.execRowPacketArrival t seg crcOk lockOk s
  | .rowPacketTimeout t seg => Sys2Proof.Machine.execRowPacketTimeout t seg s
  | .lineComplete t => Sys2Proof.Machine.execLineComplete t s
  | .lineResolved t => Sys2Proof.Machine.execLineResolved t s
  | .jobEndTimeout t => Sys2Proof.Machine.execJobEndTimeout t s
  | .jobEnded t => Sys2Proof.Machine.execJobEnded t s
  | .contextCommit t orig c => Sys2Proof.Machine.execContextCommit t orig c s
  | .contextDiscard t orig c => Sys2Proof.Machine.execContextDiscard t orig c s
  | .auxEnable t orig p v => Sys2Proof.Machine.execAuxEnable t orig p v s
  | .auxStartOfFrame t p vs => Sys2Proof.Machine.execAuxStartOfFrame t p vs s
  | .auxLine t p samples => Sys2Proof.Machine.execAuxLine t p samples s
  | .auxEndOfFrame t p vs => Sys2Proof.Machine.execAuxEndOfFrame t p vs s
  | .sidePathFrameStart t => Sys2Proof.Machine.execSidePathFrameStart t s
  | .sidePathFrameEnd t => Sys2Proof.Machine.execSidePathFrameEnd t s
  | .statsBlockWrite t c => Sys2Proof.Machine.execStatsBlockWrite t c s
  | .displayTileRow t => Sys2Proof.Machine.execDisplayTileRow t s
  | .archivePicture t => Sys2Proof.Machine.execArchivePicture t s
  | .archiveSuspend t => Sys2Proof.Machine.execArchiveSuspend t s
  | .archiveResume t => Sys2Proof.Machine.execArchiveResume t s
  | .mvFrameStart t c => Sys2Proof.Machine.execMvFrameStart t c s
  | .engineEarlyStage t slice line => Sys2Proof.Machine.execEngineEarlyStage t slice line s
  | .verdictStage t slice => Sys2Proof.Machine.execVerdictStage t slice s
  | .neighbourMessage t msg => Sys2Proof.Machine.execNeighbourMessage t msg s
  | .recordCollectorWrite t => Sys2Proof.Machine.execRecordCollectorWrite t s
  | .pglDescriptorRead t ok desc regions => Sys2Proof.Machine.execPglDescriptorRead t ok desc regions s
  | .refLineRequest t => Sys2Proof.Machine.execRefLineRequest t s
  | .refLineArrival t ok data => Sys2Proof.Machine.execRefLineArrival t ok data s
  | .refLinePlace t => Sys2Proof.Machine.execRefLinePlace t s
  | .pageDone t => Sys2Proof.Machine.execPageDone t s
  | .engineStepStart t seg => Sys2Proof.Machine.execEngineStepStart t seg s
  | .engineTakeover t seg => Sys2Proof.Machine.execEngineTakeover t seg s
  | .engineSelfTestEnd t seg pass => Sys2Proof.Machine.execEngineSelfTestEnd t seg pass s
  | .engineHandback t seg => Sys2Proof.Machine.execEngineHandback t seg s
  | .engineStall t seg engine last firstOpen => Sys2Proof.Machine.execEngineStall t seg engine last firstOpen s
  | .kernelPackageWrite t orig signed data => Sys2Proof.Machine.execKernelPackageWrite t orig signed data s
  | .tinkerStep t n ext => Sys2Proof.Machine.execTinkerStep t n ext s
  | .tinkerStallRetry t n => Sys2Proof.Machine.execTinkerStallRetry t n s
  | .tkStart t viaBar orig mask => Sys2Proof.Machine.execTkStart t viaBar orig mask s
  | .tkStop t viaBar orig mask => Sys2Proof.Machine.execTkStop t viaBar orig mask s
  | .tkAutostart t => Sys2Proof.Machine.execTkAutostart t s
  | .tkDoStep t n ext => Sys2Proof.Machine.execTkDoStep t n ext s
  | .tkInject t n ext => Sys2Proof.Machine.execTkInject t n ext s
  | .tkClearErr t n => Sys2Proof.Machine.execTkClearErr t n s
  | .tkRxWrite t viaBar orig n w => Sys2Proof.Machine.execTkRxWrite t viaBar orig n w s
  | .tkTxRead t viaBar orig n => Sys2Proof.Machine.execTkTxRead t viaBar orig n s
  | .tkIrqClear t mask => Sys2Proof.Machine.execTkIrqClear t mask s
  | .alarmDelivery t => Sys2Proof.Machine.execAlarmDelivery t s
  | .routeChange t => Sys2Proof.Machine.execRouteChange t s
  | .barWrite t bar2 off size v => Sys2Proof.Machine.execBarWrite t bar2 off size v s
  | .pllApply t orig v => Sys2Proof.Machine.execPllApply t orig v s
  | .pllSearchWindow t pllT ppm phaseOk => Sys2Proof.Machine.execPllSearchWindow t pllT ppm phaseOk s
  | .outputRestart t pllT => Sys2Proof.Machine.execOutputRestart t pllT s
  | .pllUnlock t pllT => Sys2Proof.Machine.execPllUnlock t pllT s
  | .refinLost t => Sys2Proof.Machine.execRefinLost t s
  | .refinReturn t ppm errPs => Sys2Proof.Machine.execRefinReturn t ppm errPs s
  | .slewComplete t pllT => Sys2Proof.Machine.execSlewComplete t pllT s
  | .holdoverExpired t => Sys2Proof.Machine.execHoldoverExpired t s
  | .pllTRestart t => Sys2Proof.Machine.execPllTRestart t s
  | .fineDelayStep t seg => Sys2Proof.Machine.execFineDelayStep t seg s
  | .dramRequest t port dpa op => Sys2Proof.Machine.execDramRequest t port dpa op s
  | .dramCommand t chan res => Sys2Proof.Machine.execDramCommand t chan res s
  | .perBankRefresh t rank scrubErrors => Sys2Proof.Machine.execPerBankRefresh t rank scrubErrors s
  | .rowIdleClose t rank bank => Sys2Proof.Machine.execRowIdleClose t rank bank s
  | .wckDqMeasure t drift => Sys2Proof.Machine.execWckDqMeasure t drift s
  | .mr4Read t need => Sys2Proof.Machine.execMr4Read t need s
  | .errorWindowRestart t => Sys2Proof.Machine.execErrorWindowRestart t s
  | .retireLogicalRank t orig v => Sys2Proof.Machine.execRetireLogicalRank t orig v s
  | .migrationAbort t orig => Sys2Proof.Machine.execMigrationAbort t orig s
  | .migrationDone t => Sys2Proof.Machine.execMigrationDone t s
  | .mergeIdleRetire t addr port found => Sys2Proof.Machine.execMergeIdleRetire t addr port found s
  | .sweepRead t region bank found => Sys2Proof.Machine.execSweepRead t region bank found s
  | .lamplighterRead t found => Sys2Proof.Machine.execLamplighterRead t found s
  | .shadowRewrite t addr => Sys2Proof.Machine.execShadowRewrite t addr s
  | .injectionArm t orig => Sys2Proof.Machine.execInjectionArm t orig s
  | .injectionDisarm t orig => Sys2Proof.Machine.execInjectionDisarm t orig s
  | .perstNAssert t kind => Sys2Proof.Machine.execPerstNAssert t kind s
  | .flr t => Sys2Proof.Machine.execFlr t s
  | .hostLinkDown t cause => Sys2Proof.Machine.execHostLinkDown t cause s
  | .hostLinkUp t => Sys2Proof.Machine.execHostLinkUp t s
  | .linkTrained t width rate10 cxl => Sys2Proof.Machine.execLinkTrained t width rate10 cxl s
  | .doorbell t ring v => Sys2Proof.Machine.execDoorbell t ring v s
  | .ringEnable t ring => Sys2Proof.Machine.execRingEnable t ring s
  | .ringDisable t ring => Sys2Proof.Machine.execRingDisable t ring s
  | .ringEntryIssue t ring => Sys2Proof.Machine.execRingEntryIssue t ring s
  | .holdDrain t ring found => Sys2Proof.Machine.execHoldDrain t ring found s
  | .holdEmptied t => Sys2Proof.Machine.execHoldEmptied t s
  | .holdOverflow t ring => Sys2Proof.Machine.execHoldOverflow t ring s
  | .irqTimeThreshold t ring => Sys2Proof.Machine.execIrqTimeThreshold t ring s
  | .evtSummaryClear t v => Sys2Proof.Machine.execEvtSummaryClear t v s
  | .biasFlipDevice t orig => Sys2Proof.Machine.execBiasFlipDevice t orig s
  | .biasFlipHost t orig => Sys2Proof.Machine.execBiasFlipHost t orig s
  | .biasDone t => Sys2Proof.Machine.execBiasDone t s
  | .cxlMemRequest t off op => Sys2Proof.Machine.execCxlMemRequest t off op s
  | .snoop t addr invalidate => Sys2Proof.Machine.execSnoop t addr invalidate s
  | .linkBringUp t seg lanes => Sys2Proof.Machine.execLinkBringUp t seg lanes s
  | .eyeScan t seg lane horiz vert bip8 => Sys2Proof.Machine.execEyeScan t seg lane horiz vert bip8 s
  | .laneSpare t orig lockLost seg lane => Sys2Proof.Machine.execLaneSpare t orig lockLost seg lane s
  | .linkRetrain t seg cause => Sys2Proof.Machine.execLinkRetrain t seg cause s
  | .retrainTimeout t seg => Sys2Proof.Machine.execRetrainTimeout t seg s
  | .bcCommandLost t seg rows => Sys2Proof.Machine.execBcCommandLost t seg rows s
  | .statusBlock t seg west east => Sys2Proof.Machine.execStatusBlock t seg west east s
  | .linkTestStart t orig => Sys2Proof.Machine.execLinkTestStart t orig s
  | .linkTestStop t orig => Sys2Proof.Machine.execLinkTestStop t orig s
  | .bitSlip t orig lane => Sys2Proof.Machine.execBitSlip t orig lane s
  | .sleepCommand t orig v => Sys2Proof.Machine.execSleepCommand t orig v s
  | .eventIssue t code seg data => Sys2Proof.Machine.execEventIssue t code seg data s
  | .heartbeatFailure t => Sys2Proof.Machine.execHeartbeatFailure t s
  | .heartbeatReset t => Sys2Proof.Machine.execHeartbeatReset t s
  | .throttleLevelStep t => Sys2Proof.Machine.execThrottleLevelStep t s
  | .thermalShutdown t => Sys2Proof.Machine.execThermalShutdown t s
  | .reset t cause straps => Sys2Proof.Machine.execReset t cause straps s
  | .boot t refPpm trained => Sys2Proof.Machine.execBoot t refPpm trained s
  | .trialPromotion t => Sys2Proof.Machine.execTrialPromotion t s
  | .resetCommand t orig sig => Sys2Proof.Machine.execResetCommand t orig sig s
  | .duskEntry t => Sys2Proof.Machine.execDuskEntry t s
  | .dawn t pllOk drift trained linksOk temps => Sys2Proof.Machine.execDawn t pllOk drift trained linksOk temps s
  | .holdupMeasure t cap_uF esr_mohm vhold_mV => Sys2Proof.Machine.execHoldupMeasure t cap_uF esr_mohm vhold_mV s
  | .powerFail t byPin vin_mV => Sys2Proof.Machine.execPowerFail t byPin vin_mV s
  | .complineSeal t => Sys2Proof.Machine.execComplineSeal t s
  | .complineRestart t supplyGood => Sys2Proof.Machine.execComplineRestart t supplyGood s
  | .complineAcknowledge t orig v => Sys2Proof.Machine.execComplineAcknowledge t orig v s
  | .scrivenerJournal t flashOk => Sys2Proof.Machine.execScrivenerJournal t flashOk s
  | .compactionAuto t => Sys2Proof.Machine.execCompactionAuto t s
  | .compactionCommand t orig v => Sys2Proof.Machine.execCompactionCommand t orig v s
  | .compactionComplete t => Sys2Proof.Machine.execCompactionComplete t s
  | .thermalSample t sensor centi => Sys2Proof.Machine.execThermalSample t sensor centi s
  | .bandDecided t => Sys2Proof.Machine.execBandDecided t s
  | .throughputReplicaMeasure t block margin => Sys2Proof.Machine.execThroughputReplicaMeasure t block margin s
  | .retrainComplete t seg => Sys2Proof.Machine.execRetrainComplete t seg s
  | .linkRecovery t => Sys2Proof.Machine.execLinkRecovery t s
  | .perstNRelease t => Sys2Proof.Machine.execPerstNRelease t s
  | .hdmDecoderCommit t size ways => Sys2Proof.Machine.execHdmDecoderCommit t size ways s
  | .barRead t space off size => Sys2Proof.Machine.execBarRead t space off size s

end Sys2Proof.Machine
end

