-- ==== Sys2Proof/Safety.lean ====
section
/-!
DEFINITION. The terms that claims are stated in: what a state has put out since another, a core that differs
from another only in what every command may touch, objects left alone, and writes that nothing refuses.
-/

namespace Sys2Proof.Machine

/-- The moment of a command: time never moves back. -/
def State.at_ (s : State) (t : Nat) : Nat := max s.now t

/-- What `u` has put out since `s` begins with `l`. -/
def State.puts (s u : State) (l : List Out) : Prop := s.core.out ++ l <+: u.core.out

/-- `c`, with what the frame of every command may change taken from `d`: the outputs, the watched pads and
the pending interrupt vectors. -/
def Core.under (c d : Core) : Core :=
  { c with out := d.out, pads := d.pads, cxl := { c.cxl with pba := d.cxl.pba } }

/-- Every object keeps its value but those listed. -/
def Core.keeps (c d : Core) (but : List (Nat × Nat)) : Prop :=
  ∀ i s, s < 256 → (i, s) ∉ but → d.obj i s = c.obj i s

/-- Nothing refuses a write of `data` to an object by `o`; `own` are the object's own reasons. -/
abbrev Core.admits (c : Core) (o : Orig) (idx sub : Nat) (data : List Byte) (own : List Nat) : Prop :=
  firstCode (c.writeCodes o idx sub data own) = none

/-- The word behind an object holds no error, and no armed injection waits for it (12 R364, R366, R379). -/
def Core.wordOk (c : Core) (idx sub : Nat) : Bool := match c.storageOf idx sub with
  | some (a, _) => c.faulty.all (· != a) && !(c.flag 0x2F30 4 && c.obj 0x2F30 1 == a)
  | none => true

/-- Nothing but the object's own reasons stands against a write by `o`: it owns domain `d`, the device is not in
COMPLINE and does not run the recovery image, process data alone writes what is mapped, and the object's word holds no
error (02 R41, R46, R51, 12 R368). -/
abbrev Core.mayWrite (c : Core) (o : Orig) (idx sub d : Nat) : Prop :=
  c.owns o d = true ∧ c.mode ≠ .compline ∧ c.pw.running ≠ 2 ∧ (o = .pdo ∨ c.isMapped idx sub = false) ∧
    c.wordOk idx sub = true

/-- No tinker engine's debugging command waits for its tick (09 R300). -/
def Core.noDebug (c : Core) : Bool := c.tk.engs.all (·.dbg.isEmpty)

/-- The dictionary's canonical form. -/
def Core.dictWf (c : Core) : Bool := swf dfltOf none c.dict

end Sys2Proof.Machine
end

