-- ==== Sys2Proof/Certificates/Slice0/Obligations.lean ====
section
/-!
DEFINITION. The statements for the provers: what the commands, the queue and the whole block do, from the
numbered rules of the specification. Each docstring names the rules; the index is OBLIGATIONS.json.
-/

open Sys2Proof Sys2Proof.Machine

/-- For every command c, queue rest and state s: step of s with c at the front of its queue is exec of c on
s with the queue's rest. A step on an empty queue answers the state as it is: the model's choice, log entry
2. (R44, 02_object_dictionary.md, Order of effect) -/
def Obligations.StepTakesFront : Prop :=
  (∀ (c : Instr) (rest : List Instr) (s : State),
    step { s with pending := c :: rest } = exec c { s with pending := rest }) ∧
  (∀ s : State, s.pending = [] → step s = .next s)

/-- Every one of the 215 commands, on every state and with every operand, answers a next state, a DRAM
request and a CXL.mem request on the one condition that their address exists (below the end of the device
address space; below the end of the host-managed memory); the queue's rest and the clock go into that state
as they were given, the clock at least what it was. A DRAM request and a CXL.mem request to an address that
does not exist fault by that name. Whatever command answers a next state, the queue is as it was given to
exec, and the clock never moves back: it is at least what it was. Open points follow the model's choices of
log entries 1, 8. (R337, R392, R44, R13) -/
def Obligations.EveryCommandAnswers : Prop :=
  (∀ (i : Instr) (s : State), (∀ t p a op, i = .dramRequest t p a op → a < dpaEnd) →
    (∀ t a op, i = .cxlMemRequest t a op → a < hdmEnd) →
    ∃ u, exec i s = .next u ∧ u.pending = s.pending ∧ s.now ≤ u.now) ∧
  (∀ (t a : Nat) (p : Fin 6) (op : DramOp) (s : State), dpaEnd ≤ a →
    exec (.dramRequest t p a op) s = .fault (.noSuchAddress a)) ∧
  (∀ (t a : Nat) (op : DramOp) (s : State), hdmEnd ≤ a →
    exec (.cxlMemRequest t a op) s = .fault (.noSuchAddress a)) ∧
  (∀ (i : Instr) (s u : State), exec i s = .next u → u.pending = s.pending ∧ s.now ≤ u.now)

/-- Right after reset the module is in BOOT with no command waiting, no transition, no job, the SAFE latch
clear, DRAM with nothing listed, every object at its default, the first four domains with the press
controller and the other six with the host, INSPECT_VALID released, FAULT_N asserted and LIVE not toggling.
Open points follow the model's choices of log entry 3. (R34, R39, R461, R465) -/
def Obligations.ResetState : Prop :=
  State.reset.pending = [] ∧ State.reset.mem = [] ∧ State.reset.core.mode = .boot ∧
  State.reset.core.trans = none ∧ State.reset.core.job.running = false ∧ State.reset.core.tw.latch = false ∧
  (∀ i s, State.reset.core.obj i s = dfltOf (key i s)) ∧
  ((List.range 10).map State.reset.core.owner =
    [.press, .press, .press, .press, .host, .host, .host, .host, .host, .host]) ∧
  State.reset.core.inspectValid = false ∧ State.reset.core.faultN = true ∧ State.reset.core.liveOn = false

/-- At reset the list that holds the DRAM's contents is in its canonical form. Open points follow the
model's choices of log entry 113. (11_dram.md) -/
def Obligations.DramFormAtReset : Prop :=
  Memory.wf State.reset.mem = true

/-- From every state whose DRAM list is in canonical form (addresses strictly rising, no byte equal to what
an unlisted address reads as), every step that answers a next state gives one in canonical form: no command,
whatever its operands, leaves two bytes for one address or a byte that equality of memories would miss. Open
points follow the model's choices of log entry 113. (R337, R338, R348, R266) -/
def Obligations.DramFormKept : Prop :=
  ∀ s u : State, Memory.wf s.mem = true → step s = .next u → Memory.wf u.mem = true

/-- Every command but DRAM_COMMAND, PGL_DESCRIPTOR_READ, REF_LINE_ARRIVAL and BOOT leaves every byte of the
module DRAM as it was. (R266, R338, R344, R394) -/
def Obligations.DramOnlyByItsCommands : Prop :=
  ∀ (i : Instr) (s u : State), exec i s = .next u →
    (∀ t ch r, i ≠ .dramCommand t ch r) → (∀ t ok d, i ≠ .refLineArrival t ok d) →
    (∀ t ok d l, i ≠ .pglDescriptorRead t ok d l) → (∀ t p l, i ≠ .boot t p l) →
    ∀ a, Memory.byte u.mem a = Memory.byte s.mem a

/-- A write by any originator to an object that exists, is not read-only and belongs to a domain that the
writer does not own changes nothing, in every mode and for every length and value, and is answered with 0800
0020h (process data has no answer). (R41) -/
def Obligations.NonOwnerRefused : Prop :=
  ∀ (t : Nat) (o : Orig) (idx sub d : Nat) (data : List Byte) (r : ObjRow) (s : State),
    s.core.absent idx = false → s.core.pw.resetDue = false → rowOf idx sub = some r → r.acc ≠ .ro →
    domainOf idx sub = some d → s.core.owns o d = false →
    ∃ u, exec (.objectWrite t o idx sub data) s = .next u ∧ u.core = s.core.under u.core ∧ u.mem = s.mem ∧
      (o ≠ .pdo → s.puts u [.answer o idx sub 0x08000020])

/-- A write to an object whose word holds no error that an abort code refuses is answered with that code
(process data has no answer), changes no byte of the DRAM, and changes nothing else of the module either,
but that 2000h.00 may change 2002h.00 and 3010h.03 may change 3010h.04, the status objects that report a
refused mode request and a refused bias flip. Open points follow the model's choices of log entries 26, 91.
(R51) -/
def Obligations.RefusedWriteChangesNothing : Prop :=
  ∀ (t : Nat) (o : Orig) (idx sub k : Nat) (data : List Byte) (s : State),
    s.core.pw.resetDue = false → s.core.wordOk idx sub = true →
    (s.core.writeOne (s.at_ t) o idx sub data).1 = k → k ≠ 0 →
    ∃ u, exec (.objectWrite t o idx sub data) s = .next u ∧ u.mem = s.mem ∧
      (o ≠ .pdo → ∃ l, s.puts u (l ++ [.answer o idx sub k])) ∧
      (idx ≠ 0x2000 → idx ≠ 0x3010 → u.core = s.core.under u.core) ∧
      (idx = 0x2000 → u.core = ({ s.core with dict := u.core.dict } : Core).under u.core ∧
        s.core.keeps u.core [(0x2002, 0)]) ∧
      (idx = 0x3010 → u.core = ({ s.core with dict := u.core.dict } : Core).under u.core ∧
        s.core.keeps u.core [(0x3010, 4)])

/-- Of several reasons to refuse one access, the code answered is one of them. It is 0602 0000h wherever
that is among them; it is 0800 0021h only where none of 0800 002Bh, 0800 002Fh, 0800 0020h, 0601 0002h and
0609 0011h is; 0800 0022h only where neither 0800 0021h nor 0800 002Ch is; 0800 0031h only where none of
0609 0030h, 0607 0010h and 0800 0026h is; and a code outside the order of R51 only where none of that order
is, and then the lowest. Open points follow the model's choices of log entry 14. (R51) -/
def Obligations.CodePrecedence : Prop :=
  ∀ (l : List Nat) (k : Nat), firstCode l = some k →
    k ∈ l ∧ (0x06020000 ∈ l → k = 0x06020000) ∧
    (k = 0x08000021 → 0x0800002B ∉ l ∧ 0x0800002F ∉ l ∧ 0x08000020 ∉ l ∧ 0x06010002 ∉ l ∧ 0x06090011 ∉ l) ∧
    (k = 0x08000022 → 0x08000021 ∉ l ∧ 0x0800002C ∉ l) ∧
    (k = 0x08000031 → 0x06090030 ∉ l ∧ 0x06070010 ∉ l ∧ 0x08000026 ∉ l) ∧
    (k ∉ codeOrder → (∀ j ∈ codeOrder, j ∉ l) ∧ ∀ j ∈ l, k ≤ j)

/-- An accepted OBJECT_WRITE of an object from 2400h to 27FFh, other than 2404h and 2490h, that no parameter
bank holds and whose word holds no error puts the value written in force, is answered 0 (process data has no
answer), and leaves every other object, the DRAM and the rest of the machine alone, but for the scrivener's
own record of it. An accepted OBJECT_WRITE of an object of a parameter bank joins the pending values of that
bank and no other bank changes; the object's value in force and its committed value stay as they are. (R45,
R35, R216, R174) -/
def Obligations.AcceptedWrites : Prop :=
  (∀ (t : Nat) (o : Orig) (idx sub : Nat) (data : List Byte) (s : State),
    s.core.pw.resetDue = false → 0x2400 ≤ idx → idx ≤ 0x27FF → idx ≠ 0x2404 → idx ≠ 0x2490 → sub < 256 →
    bankOf idx sub = none → s.core.wordOk idx sub = true → (s.core.writeOne (s.at_ t) o idx sub data).1 = 0 →
    ∃ u, exec (.objectWrite t o idx sub data) s = .next u ∧ u.mem = s.mem ∧
      u.core.obj idx sub = writeValue idx sub data ∧ s.core.keeps u.core [(idx, sub)] ∧
      u.core = ({ s.core with dict := u.core.dict, pw := u.core.pw, nv := u.core.nv } : Core).under u.core ∧
      (o ≠ .pdo → s.puts u [.answer o idx sub 0])) ∧
  (∀ (t : Nat) (o : Orig) (idx sub b : Nat) (data : List Byte) (s : State),
    s.core.pw.resetDue = false → bankOf idx sub = some b → (s.core.writeOne (s.at_ t) o idx sub data).1 = 0 →
    ∃ u, exec (.objectWrite t o idx sub data) s = .next u ∧
      u.core.banks = modAt s.core.banks b (fun k =>
        { k with pend := aput k.pend (key idx sub) (writeValue idx sub data) }) ∧
      u.core.obj idx sub = s.core.obj idx sub ∧ u.core.committed idx sub = s.core.committed idx sub)

/-- OWNERSHIP_TRANSFER by the owner of a domain, with 1 or 2, and for MOTION with no job running, gives the
domain to PRESS or HOST and changes nothing else. TAKEOVER with its signature by a party whose counterpart
has been unreachable for 1.0 s gives it every domain, where no job runs or it owns MOTION already. The
takeover signature written while its counterpart can be reached, or has been away for less than 1.0 s, is
refused with 0800 002Eh and changes nothing: by host software while the AL state is SAFEOP or OP or has been
below SAFEOP for less than 1.0 s, by the press controller while the host link (13 R386) is up or has been
down for less than 1.0 s. Open points follow the model's choices of log entries 15, 112. (R40, R42, R43) -/
def Obligations.OwnershipMoves : Prop :=
  (∀ (t : Nat) (o : Orig) (dom : Nat) (v : Byte) (s : State), 1 ≤ dom → dom ≤ 10 → (v = 1 ∨ v = 2) → o ≠ .pdo →
    s.core.owns o (dom - 1) = true → s.core.mode ≠ .compline → (dom ≠ 2 ∨ s.core.job.running = false) →
    s.core.isMapped 0x2100 dom = false → s.core.wordOk 0x2100 dom = true →
    ∃ u, exec (.ownershipTransfer t o dom v) s = .next u ∧ u.mem = s.mem ∧ s.puts u [.answer o 0x2100 dom 0] ∧
      u.core = ({ s.core with
        owners := modAt s.core.owners (dom - 1) (fun _ => if v = 1 then .press else .host) } : Core).under u.core) ∧
  (∀ (t : Nat) (s : State), s.core.ec.al ≠ .safeop → s.core.ec.al ≠ .op →
    s.core.ec.alLowSince + 1000000000 ≤ s.at_ t → s.core.mode ≠ .compline → s.core.wordOk 0x2101 0 = true →
    (s.core.job.running = false ∨ s.core.owner 1 = .host) →
    ∃ u, exec (.takeover t .mbx 0x54414B45) s = .next u ∧ u.mem = s.mem ∧ s.puts u [.answer .mbx 0x2101 0 0] ∧
      u.core = ({ s.core with owners := s.core.owners.map (fun _ => .host) } : Core).under u.core) ∧
  (∀ (t : Nat) (s : State), s.core.cxl.hostUp = false → s.core.cxl.downAt + 1000000000 ≤ s.at_ t →
    s.core.mode ≠ .compline → (s.core.job.running = false ∨ s.core.owner 1 = .press) →
    s.core.isMapped 0x2101 0 = false → s.core.wordOk 0x2101 0 = true →
    ∃ u, exec (.takeover t .sdo 0x54414B45) s = .next u ∧ u.mem = s.mem ∧ s.puts u [.answer .sdo 0x2101 0 0] ∧
      u.core = ({ s.core with owners := s.core.owners.map (fun _ => .press) } : Core).under u.core) ∧
  (∀ (t : Nat) (s : State), s.core.mode ≠ .compline → (s.core.job.running = false ∨ s.core.owner 1 = .host) →
    s.core.isMapped 0x2101 0 = false →
    (s.core.ec.al = .safeop ∨ s.core.ec.al = .op ∨ s.at_ t < s.core.ec.alLowSince + 1000000000) →
    ∃ u, exec (.takeover t .mbx 0x54414B45) s = .next u ∧ s.puts u [.answer .mbx 0x2101 0 0x0800002E] ∧
      u.core = s.core.under u.core) ∧
  (∀ (t : Nat) (s : State), s.core.mode ≠ .compline → (s.core.job.running = false ∨ s.core.owner 1 = .press) →
    s.core.isMapped 0x2101 0 = false →
    (s.core.cxl.hostUp = true ∨ s.at_ t < s.core.cxl.downAt + 1000000000) →
    ∃ u, exec (.takeover t .sdo 0x54414B45) s = .next u ∧ s.puts u [.answer .sdo 0x2101 0 0x0800002E] ∧
      u.core = s.core.under u.core)

/-- Outside COMPLINE, where process data does not map the object: PENDING_VIEW_SELECT of an RWC object of
the running image puts it in 2102h.01 and changes no other object, and through the host mailbox, which has
READ_PENDING, it is answered 0601 0000h and changes nothing; STORE_ALL with its signature, flash writing
well, leaves no journal entry pending, all of them appended to the active region, and changes no object's
value, and where flash does not write it is answered 0800 0034h and changes nothing; RESTORE_DEFAULTS with
its signature journals the mark of 1011h.01 and changes no object's value; ERROR_HISTORY_CLEAR with 0
empties the history and leaves the active events; EVENT_ACKNOWLEDGE with 1 ends exactly the active events
that are no condition and no ALARM_LOST of an engine that still shows it. Each is answered 0 but where this
says otherwise (process data has no answer). Open points follow the model's choices of log entry 103. (R35,
R36, R48, R447) -/
def Obligations.DictionaryCommands : Prop :=
  (∀ (t idx sub : Nat) (o : Orig) (r : ObjRow) (s : State), rowOf idx sub = some r → s.core.absent idx = false → r.acc = .rwc → idx < 65536 → sub < 256 →
    s.core.mode ≠ .compline → s.core.isMapped 0x2102 1 = false → s.core.wordOk 0x2102 1 = true → o ≠ .mbx →
    ∃ u, exec (.pendingViewSelect t o (BitVec.ofNat 32 (idx + 65536 * sub))) s = .next u ∧
      u.core.obj 0x2102 1 = idx + 65536 * sub ∧ s.core.keeps u.core [(0x2102, 1)] ∧
      (o ≠ .pdo → s.puts u [.answer o 0x2102 1 0])) ∧
  (∀ (t : Nat) (o : Orig) (s : State), s.core.mode ≠ .compline → s.core.isMapped 0x1010 1 = false → s.core.wordOk 0x1010 1 = true →
    ∃ u, exec (.storeAll t o 0x65766173 true) s = .next u ∧ u.core.pw.pendJ = [] ∧
      u.core.nv.regions = modAt s.core.nv.regions s.core.activeRegion
        (fun r => { r with entries := r.entries ++ s.core.pw.pendJ }) ∧
      u.core.dict = s.core.dict ∧ (o ≠ .pdo → s.puts u [.answer o 0x1010 1 0])) ∧
  (∀ (t : Nat) (o : Orig) (s : State), s.core.mode ≠ .compline → s.core.isMapped 0x1010 1 = false →
    ∃ u, exec (.storeAll t o 0x65766173 false) s = .next u ∧ u.core = s.core.under u.core ∧
      (o ≠ .pdo → s.puts u [.answer o 0x1010 1 0x08000034])) ∧
  (∀ (t : Nat) (o : Orig) (s : State), s.core.mode ≠ .compline → s.core.isMapped 0x1011 1 = false → s.core.wordOk 0x1011 1 = true →
    ∃ u e, exec (.restoreDefaults t o 0x64616F6C) s = .next u ∧ u.core.pw.pendJ = s.core.pw.pendJ ++ [e] ∧
      e.key = restoreKey ∧ u.core.dict = s.core.dict ∧ (o ≠ .pdo → s.puts u [.answer o 0x1011 1 0])) ∧
  (∀ (t : Nat) (o : Orig) (s : State), s.core.mode ≠ .compline → s.core.isMapped 0x1003 0 = false → s.core.wordOk 0x1003 0 = true →
    ∃ u, exec (.errorHistoryClear t o 0) s = .next u ∧ u.core.ev.hist = [] ∧
      u.core.ev.active = s.core.ev.active ∧ (o ≠ .pdo → s.puts u [.answer o 0x1003 0 0])) ∧
  (∀ (t : Nat) (o : Orig) (s : State), s.core.mode ≠ .compline → s.core.isMapped 0x3200 6 = false → s.core.wordOk 0x3200 6 = true →
    ∃ u, exec (.eventAcknowledge t o 1) s = .next u ∧
      (o ≠ .pdo → ∃ l, s.puts u (l ++ [.answer o 0x3200 6 0])) ∧
      u.core.ev.active = s.core.ev.active.filter (fun p =>
        evCondition p.1 || (p.1 == 0x5071 && (s.core.eng1 p.2).alarmLost))) ∧
  (∀ (t idx sub : Nat) (r : ObjRow) (s : State), rowOf idx sub = some r → s.core.absent idx = false → r.acc = .rwc → idx < 65536 → sub < 256 →
    ∃ u, exec (.pendingViewSelect t .mbx (BitVec.ofNat 32 (idx + 65536 * sub))) s = .next u ∧ u.core = s.core.under u.core ∧
      s.puts u [.answer .mbx 0x2102 1 0x06010000])

/-- While the CoE mailbox is served: an expedited or normal download, or by complete access of sub 00 a
record, is the write by SDO of its data, and so is the last segment of a transfer, of the data of all its
segments; the write is answered with its code (0 where it is accepted), here where it commands no reset. A
first segment that is not the last, of an object that exists and within its length, is kept and answered 0.
An upload, or by complete access of sub 00 of a record, is the read by SDO, answered with its code and the
value read. The object list, the descriptions of objects and of entries are answered, 0602 0000h where there
is no such object and 0609 0011h where the object has no such entry. SDO_PROTOCOL_TIMEOUT over 1 s after the
last segment ends the transfer with 0504 0000h. EoE, SoE, AoE and VoE requests are rejected and change
nothing. A segment that is not the last, within 1 s of the one before, is answered with 0503 0000h where its
toggle bit does not alternate, and with 0607 0010h where it alternates and carries the transfer of an object
that is no domain beyond its length, or with the code of 02 R51 that comes before it; either way the
transfer is discarded and no object changes. Open points follow the model's choices of log entries 16, 17,
20. (R44, R49, R52, R514, R516) -/
def Obligations.SdoAccess : Prop :=
  (∀ (t idx sub k : Nat) (tg : Bool) (data : List Byte) (s : State) (d : Core), s.core.coeOn = true →
    s.core.dropXfer.writeOne (s.at_ t) .sdo idx sub data = (k, d) → d.pw.resetDue = false →
    ∃ u, exec (.sdoDownload t idx sub false false tg data) s = .next u ∧ u.mem = s.mem ∧
      u.core = d.under u.core ∧ d.out ++ [.sdo idx sub k []] <+: u.core.out) ∧
  (∀ (t idx k : Nat) (tg : Bool) (data : List Byte) (s : State) (d : Core), s.core.coeOn = true →
    s.core.dropXfer.writeAll (s.at_ t) .sdo idx data = (k, d) → d.pw.resetDue = false →
    ∃ u, exec (.sdoDownload t idx 0 true false tg data) s = .next u ∧ u.mem = s.mem ∧
      u.core = d.under u.core ∧ d.out ++ [.sdo idx 0 k []] <+: u.core.out) ∧
  (∀ (t k : Nat) (x : SegXfer) (data : List Byte) (s : State) (d : Core), s.core.coeOn = true →
    s.core.ec.xfer = some x → s.at_ t ≤ x.last + 1000000000 →
    s.core.dropXfer.writeOne (s.at_ t) .sdo x.idx x.sub (x.data ++ data) = (k, d) → d.pw.resetDue = false →
    ∃ u, exec (.sdoDownload t x.idx x.sub false true x.toggle data) s = .next u ∧ u.mem = s.mem ∧
      u.core = d.under u.core ∧ d.out ++ [.sdo x.idx x.sub k []] <+: u.core.out) ∧
  (∀ (t idx sub : Nat) (data : List Byte) (r : ObjRow) (s : State), s.core.coeOn = true → s.core.ec.xfer = none →
    s.core.absent idx = false → s.core.pw.resetDue = false → rowOf idx sub = some r →
    (r.ty = .dom ∨ data.length ≤ transferMax idx sub) →
    ∃ u, exec (.sdoDownloadSegment t idx sub false data) s = .next u ∧
      u.core.ec.xfer = some ⟨idx, sub, true, data, s.at_ t⟩ ∧ s.puts u [.sdo idx sub 0 []]) ∧
  (∀ (t idx sub k : Nat) (data : List Byte) (s : State) (d : Core), s.core.coeOn = true →
    s.core.readOne (s.at_ t) .sdo idx sub = (k, data, d) →
    ∃ u, exec (.sdoUpload t idx sub false) s = .next u ∧ u.mem = s.mem ∧
      u.core = d.under u.core ∧ d.out ++ [.sdo idx sub k data] <+: u.core.out) ∧
  (∀ (t idx k : Nat) (data : List Byte) (s : State) (d : Core), s.core.coeOn = true →
    s.core.readAll (s.at_ t) .sdo idx = (k, data, d) →
    ∃ u, exec (.sdoUpload t idx 0 true) s = .next u ∧ u.mem = s.mem ∧
      u.core = d.under u.core ∧ d.out ++ [.sdo idx 0 k data] <+: u.core.out) ∧
  (∀ (t : Nat) (r : SdoInfo) (s : State), s.core.coeOn = true →
    ∃ u, exec (.sdoInformation t r) s = .next u ∧ u.core = s.core.under u.core ∧
      (r = .objectList → s.puts u [.info s.core.objectList]) ∧
      (∀ i, r = .objectDesc i → s.core.absent i = false → (topSub i).isSome = true →
        s.puts u [.info (objectDesc i)]) ∧
      (∀ i k, r = .entryDesc i k → s.core.absent i = false → (topSub i).isSome = true →
        s.puts u [if (rowOf i k).isNone then .sdo i k 0x06090011 [] else .info (entryDesc i k)]) ∧
      (∀ i k, r = .objectDesc i ∨ r = .entryDesc i k → s.core.absent i = true ∨ topSub i = none →
        s.puts u [.sdo i (if r = .objectDesc i then 0 else k) 0x06020000 []])) ∧
  (∀ (t : Nat) (x : SegXfer) (s : State), s.core.coeOn = true → s.core.ec.xfer = some x →
    x.last + 1000000000 < s.at_ t →
    ∃ u, exec (.sdoProtocolTimeout t) s = .next u ∧ u.core.ec = { s.core.ec with xfer := none } ∧
      s.puts u [.sdo x.idx x.sub 0x05040000 []]) ∧
  (∀ (t : Nat) (svc : MbxService) (s : State), s.core.coeOn = true →
    ∃ u, exec (.mailboxServiceUnsupported t svc) s = .next u ∧ s.puts u [.mailboxError svc] ∧
      u.core = s.core.under u.core) ∧
  (∀ (t : Nat) (x : SegXfer) (data : List Byte) (s : State), s.core.coeOn = true → s.core.pw.resetDue = false →
    s.core.ec.xfer = some x → s.at_ t ≤ x.last + 1000000000 →
    ∃ u, exec (.sdoDownloadSegment t x.idx x.sub (!x.toggle) data) s = .next u ∧ u.core.ec.xfer = none ∧
      s.puts u [.sdo x.idx x.sub
        ((firstCode (0x05030000 :: s.core.preCodes (s.at_ t) .sdo x.idx x.sub)).getD 0) []] ∧ u.core.dict = s.core.dict ∧ u.core.doms = s.core.doms) ∧
  (∀ (t : Nat) (x : SegXfer) (r : ObjRow) (data : List Byte) (s : State), s.core.coeOn = true →
    s.core.pw.resetDue = false → s.core.ec.xfer = some x → s.at_ t ≤ x.last + 1000000000 →
    s.core.absent x.idx = false → rowOf x.idx x.sub = some r → r.ty ≠ .dom →
    transferMax x.idx x.sub < x.data.length + data.length →
    ∃ u, exec (.sdoDownloadSegment t x.idx x.sub x.toggle data) s = .next u ∧ u.core.ec.xfer = none ∧
      s.puts u [.sdo x.idx x.sub
        ((firstCode (0x06070010 :: s.core.preCodes (s.at_ t) .sdo x.idx x.sub)).getD 0) []] ∧ u.core.dict = s.core.dict ∧ u.core.doms = s.core.doms)

/-- While the CoE mailbox is served: an AL state requested, BOOTSTRAP only where the mode is STANDBY, is
entered and answered with status 0 and leaves the device's mode, transition and job alone, and leaving OP
raises FIELDBUS_WATCHDOG. SM2_WATCHDOG_EXPIRY raises FIELDBUS_WATCHDOG, takes the device from OP to SAFEOP
where OP is left, and leaves every value of 6000h, the mode and the job. Distributed Clocks stopped, or over
100 ns apart, are out of sync: status-word bit [12] reads 0 and 2D20h.02 the difference; running and within
100 ns they are in sync: bit [12] reads 1, 2D20h.02 reads 0 and 2D20h.01 lies within ±250000. Whether SYNC1
is activated is what the slave controller reports with each AL state and each change of Distributed Clocks.
Open points follow the model's choices of log entries 9, 19, 123. (R54, R55, R327, R447) -/
def Obligations.AlStates : Prop :=
  (∀ (t : Nat) (w : AlState) (on : Bool) (s : State), s.core.coeOn = true → (w ≠ .bootstrap ∨ s.core.mode = .standby) →
    ∃ u, exec (.alStateRequest t w on) s = .next u ∧ u.core.ec.al = w ∧ u.core.ec.sync1On = on ∧
      u.core.mode = s.core.mode ∧ u.core.trans = s.core.trans ∧ u.core.job = s.core.job ∧
      (s.core.ec.al = .op → w ≠ .op → u.core.active 0x8120 0 = true) ∧ ∃ l, s.puts u (l ++ [.al w 0])) ∧
  (∀ (t : Nat) (left : Bool) (s : State), s.core.coeOn = true →
    ∃ u, exec (.sm2WatchdogExpiry t left) s = .next u ∧ u.core.active 0x8120 0 = true ∧
      u.core.ec.al = (if left = true ∧ s.core.ec.al = .op then .safeop else s.core.ec.al) ∧
      (∀ n, n < 256 → u.core.obj 0x6000 n = s.core.obj 0x6000 n) ∧ u.core.mode = s.core.mode ∧
      u.core.job = s.core.job) ∧
  (∀ (t : Nat) (stopped on : Bool) (diff : Int) (s : State), s.core.coeOn = true →
    (stopped = true ∨ diff < -100 ∨ 100 < diff) →
    ∃ u, exec (.dcSyncLost t stopped on diff) s = .next u ∧ u.core.ec.dcInSync = false ∧
      u.core.statusWord.testBit 12 = false ∧ u.core.ec.dcRunning = !stopped ∧ u.core.ec.sync1On = on ∧
      u.core.obj 0x2D20 2 = ofSigned 32 diff) ∧
  (∀ (t : Nat) (on : Bool) (diff : Int) (s : State), s.core.coeOn = true → -100 ≤ diff → diff ≤ 100 →
    ∃ u, exec (.dcSyncRegained t on diff) s = .next u ∧ u.core.ec.dcInSync = true ∧
      u.core.statusWord.testBit 12 = true ∧
      u.core.obj 0x2D20 2 = 0 ∧ u.core.ec.dcRunning = true ∧ u.core.ec.sync1On = on ∧
      -250000 ≤ toSigned 32 (u.core.obj 0x2D20 1) ∧ toSigned 32 (u.core.obj 0x2D20 1) ≤ 250000)

/-- While the CoE mailbox is served, in BOOTSTRAP and with no image under verification, a download under the
right name goes to slot 1 where slot 0 runs and to slot 0 where slot 1 runs, which then holds the image and
is VERIFYING; when the check ends the slot is NEW, answered without an error, or BAD with FoE error 8000h
and 0800 002Ah. While the CoE mailbox is served, a request for BOOTSTRAP in any mode but STANDBY is answered
with AL status 0011h and changes nothing; an FoE download in any AL state but BOOTSTRAP changes neither a
slot nor the power side. Open points follow the model's choices of log entries 19, 21. (R56, R468) -/
def Obligations.FirmwareDownload : Prop :=
  (∀ (t : Nat) (img : FwImage) (s : State), s.core.coeOn = true → s.core.ec.al = .bootstrap →
    s.core.pw.foeBusy = none →
    ∃ u, exec (.foeDownload t true img) s = .next u ∧ u.core.pw.foeBusy = some s.core.downloadSlot ∧
      (s.core.pw.running ≤ 1 → s.core.downloadSlot = 1 - s.core.pw.running) ∧
      u.core.nv.slots = modAt s.core.nv.slots s.core.downloadSlot (fun _ => { st := 1, image := img })) ∧
  (∀ (t i : Nat) (s : State), s.core.coeOn = true → s.core.pw.foeBusy = some i →
    ∃ u, exec (.foeVerifyComplete t) s = .next u ∧ u.core.pw.foeBusy = none ∧
      u.core.nv.slots = modAt s.core.nv.slots i
        (fun k => { k with st := if (s.core.slot i).image.signed then 2 else 5 }) ∧
      s.puts u [if (s.core.slot i).image.signed then .foe 0 0 else .foe 0x8000 0x0800002A]) ∧
  (∀ (t : Nat) (on : Bool) (s : State), s.core.coeOn = true → s.core.mode ≠ .standby →
    ∃ u, exec (.alStateRequest t .bootstrap on) s = .next u ∧ u.core = s.core.under u.core ∧
      s.puts u [.al s.core.ec.al 0x11]) ∧
  (∀ (t : Nat) (ok : Bool) (img : FwImage) (s : State), s.core.ec.al ≠ .bootstrap →
    ∃ u, exec (.foeDownload t ok img) s = .next u ∧ u.core.nv = s.core.nv ∧ u.core.pw = s.core.pw)

/-- While the CoE mailbox is served, in OP: RxPDO data of the mapped length at the event that 1C32h.01
selects is applied as the operation rxApply of the model does (each mapped value a write by process data), a
cycle begins and FIELDBUS_WATCHDOG ends. Where the mapped length is not 0, that event without data counts 1
in 1C32h.0B unless it is the SM2 event, and 1 in 1C32h.0C where the cycle before it began less than 1C32h.05
ago (both counters below their end), and no object but these two of 1C32h and 1C33h changes. With 6000h.02
alone mapped at the SM2 event, a finite value of a press that owns domain 3 is in force at once, outside the
recovery image and where its word holds no error; where the host owns domain 3 no object changes but by the
end of FIELDBUS_WATCHDOG and the cycle. In SAFEOP and OP the TxPDO latched at its event is the packed mapped
values, confirmed channels count from that latch on, and no object changes. Open points follow the model's
choices of log entry 18. (R46, R53, R55, R57, R447) -/
def Obligations.ProcessData : Prop :=
  (∀ (t : Nat) (ev : SyncEvent) (data : List Byte) (s : State), s.core.coeOn = true → s.core.ec.al = .op →
    s.core.rxEvent ev = true → data.length = s.core.pdoBytes 0x1C12 →
    ∃ u, exec (.rxpdoApply t ev data) s = .next u ∧ u.core.active 0x8120 0 = false ∧
      u.core.dict = ((s.core.cycleBegins (s.at_ t)).rxApply (s.at_ t) data).dict ∧
      u.core.job = ((s.core.cycleBegins (s.at_ t)).rxApply (s.at_ t) data).job ∧
      u.core.ec.cycleAt = some (s.at_ t)) ∧
  (∀ (t p : Nat) (ev : SyncEvent) (s : State), s.core.coeOn = true → s.core.ec.al = .op →
    s.core.rxEvent ev = true → s.core.ec.cycleAt = some p → 0 < s.core.pdoBytes 0x1C12 →
    s.core.obj 0x1C32 11 < 65535 → s.core.obj 0x1C32 12 < 65535 →
    ∃ u, exec (.rxpdoApply t ev []) s = .next u ∧
      s.core.keeps u.core [(0x1C32, 11), (0x1C32, 12), (0x1C33, 11), (0x1C33, 12)] ∧
      u.core.obj 0x1C32 11 = s.core.obj 0x1C32 11 + (if ev = .sm2 then 0 else 1) ∧
      u.core.obj 0x1C32 12 = s.core.obj 0x1C32 12 + (if s.at_ t < p + s.core.obj 0x1C32 5 then 1 else 0)) ∧
  (∀ (t : Nat) (data : List Byte) (s : State), s.core.coeOn = true → s.core.ec.al = .op →
    s.core.obj 0x1C32 1 = 1 → s.core.pdoEntries 0x1C12 = [(0x6000, 2, 32)] → data.length = 4 →
    f32Finite (leNat data) = true → s.core.owner 3 = .press → s.core.pw.running ≠ 2 → s.core.wordOk 0x6000 2 = true →
    ∃ u, exec (.rxpdoApply t .sm2 data) s = .next u ∧ u.core.obj 0x6000 2 = leNat data) ∧
  (∀ (t : Nat) (data : List Byte) (s : State), s.core.coeOn = true → s.core.ec.al = .op →
    s.core.obj 0x1C32 1 = 1 → s.core.pdoEntries 0x1C12 = [(0x6000, 2, 32)] → data.length = 4 →
    s.core.owner 3 = .host →
    ∃ u, exec (.rxpdoApply t .sm2 data) s = .next u ∧
      u.core.dict = ((s.core.cycleBegins (s.at_ t)).condOff 0x8120 0).dict) ∧
  (∀ (t : Nat) (ev : SyncEvent) (s : State), s.core.coeOn = true → (s.core.ec.al = .safeop ∨ s.core.ec.al = .op) →
    s.core.txEvent ev = true →
    ∃ u, exec (.txpdoLatch t ev) s = .next u ∧ u.core.ec.alarmBits = 0 ∧
      u.core.ec.txData = leBytes (s.core.pdoBytes 0x1C13) (s.core.packed (s.at_ t) (s.core.pdoEntries 0x1C13)) ∧
      s.puts u [.txpdo u.core.ec.txData] ∧ u.core.dict = s.core.dict)

/-- SDO information, rejected services, a protocol timeout, an AL request, the watchdog, DC reports, a TxPDO
latch, a firmware download and the end of its check, where they answer, change no domain's owner, no mode,
no job, no byte of the DRAM, no on-die memory, no parameter bank, none of the states of motion, DRAM
controller, tinker engines, row processing, slice engines, contexts and links, none of the clocks but the DC
time accumulator, no domain object, and no object but those of 2D20h, 3200h and 6100h. (R52, R54, R55, R56,
R57) -/
def Obligations.BusFrame : Prop :=
  ∀ (i : Instr) (s u : State), exec i s = .next u →
    ((∃ t r, i = .sdoInformation t r) ∨ (∃ t v, i = .mailboxServiceUnsupported t v) ∨
      (∃ t, i = .sdoProtocolTimeout t) ∨ (∃ t w a, i = .alStateRequest t w a) ∨
      (∃ t l, i = .sm2WatchdogExpiry t l) ∨ (∃ t p a d, i = .dcSyncLost t p a d) ∨
      (∃ t a d, i = .dcSyncRegained t a d) ∨ (∃ t e, i = .txpdoLatch t e) ∨
      (∃ t n m, i = .foeDownload t n m) ∨ (∃ t, i = .foeVerifyComplete t)) →
    u.mem = s.mem ∧ u.core.owners = s.core.owners ∧ u.core.mode = s.core.mode ∧ u.core.trans = s.core.trans ∧
    u.core.job = s.core.job ∧ u.core.mot = s.core.mot ∧ u.core.banks = s.core.banks ∧ u.core.sram = s.core.sram ∧
    u.core.dram = s.core.dram ∧ u.core.tk = s.core.tk ∧ u.core.pipe = s.core.pipe ∧ u.core.eng = s.core.eng ∧
    u.core.ctx = s.core.ctx ∧
    u.core.clk = { s.core.clk with dcAcc := u.core.clk.dcAcc, dcAt := u.core.clk.dcAt } ∧ u.core.links = s.core.links ∧ u.core.doms = s.core.doms ∧
    (∀ a b, b < 256 → a ≠ 0x2D20 → a ≠ 0x3200 → a ≠ 0x6100 → u.core.obj a b = s.core.obj a b)

/-- GO with BUSY clear sets BUSY and takes the request. Each opcode's command, at its request and where it
commands no reset, clears BUSY, sets COMPLETE and the request's tag, puts the objects, domain objects and
owners where the opcode's operation puts them, and the response carries status 00h or 01h, flags, tag,
index, sub, the abort code, the payload's length and the payload; an unknown opcode is refused with 0504
0001h and status 01h and changes no object. GO while BUSY is set only sets OVERRUN. ABORT of a request that
has not been carried out stops it before any value changes: BUSY clears, ABORTED sets, COMPLETE stays, the
response is status 02h and a partial domain transfer is discarded. ABORT while BUSY is clear is ignored.
ABORT that comes too late (a request that commands no reset) lets the request complete and sets ABORT_LATE.
Writing 1 to COMPLETE, ABORTED, ABORT_LATE or OVERRUN in MBX_STAT clears it, and nothing else changes. READ
and READ_PENDING of a whole value that nothing refuses, READ_ALL, an accepted WRITE or WRITE_ALL and a
DESCRIBE of an object that exists complete with abort code 0: the value, the buffered value with PENDING,
the record, or the descriptions as payload, the value written in force, the record written. Open points
follow the model's choices of log entries 106, 107. (R63, R64, R65, R66, R514, R67) -/
def Obligations.MailboxRequests : Prop :=
  (∀ (t : Nat) (s : State), s.core.mbx.busy = false →
    ∃ u, exec (.mbxGo t) s = .next u ∧
      u.core = ({ s.core with mbx := { s.core.mbx with busy := true, taken := s.core.mbx.req } } : Core).under u.core) ∧
  (∀ (t op : Nat) (i : Instr) (a : MbxAnswer) (s : State), s.core.mbxAt op = true →
    ((i = .mbxRead t ∧ op = 1 ∧ a = s.core.mbxReadOp (s.at_ t)) ∨
      (i = .mbxWrite t ∧ op = 2 ∧ a = s.core.mbxWriteOp (s.at_ t)) ∨
      (i = .mbxReadPending t ∧ op = 3 ∧ a = s.core.mbxPendingOp (s.at_ t)) ∨
      (i = .mbxReadAll t ∧ op = 4 ∧ a = s.core.mbxReadAllOp (s.at_ t)) ∨
      (i = .mbxWriteAll t ∧ op = 5 ∧ a = s.core.mbxWriteAllOp (s.at_ t)) ∨
      (i = .mbxDescribe t ∧ op = 6 ∧ a = s.core.mbxDescribeOp)) →
    a.core.pw.resetDue = false →
    ∃ u, exec i s = .next u ∧ u.core.mbx.busy = false ∧ u.core.mbx.complete = true ∧
      u.core.dict = a.core.dict ∧ u.core.doms = a.core.doms ∧ u.core.owners = a.core.owners ∧
      u.core.mbx.tag = a.core.reqField 2 2 ∧
      u.core.mbx.rsp = leBytes 1 (if a.code = 0 then 0 else 1) ++ leBytes 1 a.flags ++
        leBytes 2 (a.core.reqField 2 2) ++ leBytes 2 (a.core.reqField 4 2) ++ leBytes 1 (a.core.reqField 6 1) ++
        leBytes 1 0 ++ leBytes 4 a.code ++ leBytes 4 a.data.length ++ a.data) ∧
  (∀ (t op : Nat) (s : State), s.core.mbxAt op = true → op = 0 ∨ 6 < op → s.core.pw.resetDue = false →
    ∃ u, exec (.mbxOpcodeInvalid t) s = .next u ∧ u.core.mbx.busy = false ∧ u.core.mbx.complete = true ∧
      leAt u.core.mbx.rsp 8 4 = 0x05040001 ∧ leAt u.core.mbx.rsp 0 1 = 1 ∧ u.core.dict = s.core.dict) ∧
  (∀ (t : Nat) (s : State), s.core.mbx.busy = true →
    ∃ u, exec (.mbxGo t) s = .next u ∧
      u.core = ({ s.core with mbx := { s.core.mbx with overrun := true } } : Core).under u.core) ∧
  (∀ (t : Nat) (s : State), s.core.mbx.busy = true →
    ∃ u, exec (.mbxAbort t false) s = .next u ∧ u.core.mbx.busy = false ∧ u.core.mbx.aborted = true ∧
      u.core.mbx.complete = s.core.mbx.complete ∧ u.core.mbx.xfer = none ∧ leAt u.core.mbx.rsp 0 1 = 2 ∧
      u.core = ({ s.core with mbx := u.core.mbx } : Core).under u.core) ∧
  (∀ (t : Nat) (late : Bool) (s : State), s.core.mbx.busy = false →
    ∃ u, exec (.mbxAbort t late) s = .next u ∧ u.core = s.core.under u.core) ∧
  (∀ (t : Nat) (s : State), s.core.mbx.busy = true → (s.core.mbxCarry (s.at_ t)).core.pw.resetDue = false →
    ∃ u, exec (.mbxAbort t true) s = .next u ∧ u.core.mbx.busy = false ∧ u.core.mbx.complete = true ∧
      u.core.mbx.abortLate = true ∧ u.core.dict = (s.core.mbxCarry (s.at_ t)).core.dict) ∧
  (∀ (t : Nat) (v : Word32) (s : State),
    ∃ u, exec (.mbxStatClear t v) s = .next u ∧
      u.core = ({ s.core with mbx := { s.core.mbx with
        complete := s.core.mbx.complete && !v.getLsbD 1, aborted := s.core.mbx.aborted && !v.getLsbD 2,
        abortLate := s.core.mbx.abortLate && !v.getLsbD 3,
        overrun := s.core.mbx.overrun && !v.getLsbD 4 } } : Core).under u.core) ∧
  (∀ (t idx sub : Nat) (s : State), s.core.pw.resetDue = false → s.core.faulty = [] → s.core.reqIdx = idx →
    s.core.reqSub = sub → s.core.reqOff = 0 → s.core.reqLen = 0 → isDomain idx sub = false →
    s.core.readCodes .mbx idx sub = [] →
    (s.core.mbxAt 1 = true → ∃ u, exec (.mbxRead t) s = .next u ∧ u.core.mbx.busy = false ∧
      u.core.mbx.complete = true ∧ leAt u.core.mbx.rsp 0 1 = 0 ∧ leAt u.core.mbx.rsp 8 4 = 0 ∧
      u.core.mbx.rsp.drop 16 = (s.core.readBytes (s.at_ t) idx sub).1) ∧
    (s.core.mbxAt 3 = true → (bankOf idx sub).isSome = true → ∃ u, exec (.mbxReadPending t) s = .next u ∧
      u.core.mbx.busy = false ∧ u.core.mbx.complete = true ∧ leAt u.core.mbx.rsp 8 4 = 0 ∧
      leAt u.core.mbx.rsp 1 1 = 2 * b2n (s.core.pendingView idx sub).2 ∧
      u.core.mbx.rsp.drop 16 = leBytes (objBits idx sub / 8) (s.core.pendingView idx sub).1)) ∧
  (∀ (t idx : Nat) (data : List Byte) (c : Core) (s : State), s.core.pw.resetDue = false → s.core.reqIdx = idx →
    s.core.reqOff = 0 → s.core.reqLen = 0 → s.core.mbxAt 4 = true →
    s.core.readAll (s.at_ t) .mbx idx = (0, data, c) → c.pw.resetDue = false →
    ∃ u, exec (.mbxReadAll t) s = .next u ∧ u.core.mbx.busy = false ∧ u.core.mbx.complete = true ∧
      leAt u.core.mbx.rsp 8 4 = 0 ∧ u.core.mbx.rsp.drop 16 = data ∧ u.core.dict = c.dict) ∧
  (∀ (t idx sub : Nat) (s : State), s.core.pw.resetDue = false → s.core.reqIdx = idx → s.core.reqSub = sub →
    s.core.reqOff = 0 → s.core.mbx.xfer = none → 0x2400 ≤ idx → idx ≤ 0x27FF → idx ≠ 0x2404 → idx ≠ 0x2490 →
    bankOf idx sub = none → s.core.wordOk idx sub = true → s.core.mbxAt 2 = true →
    (s.core.writeOne (s.at_ t) .mbx idx sub s.core.reqData).1 = 0 →
    ∃ u, exec (.mbxWrite t) s = .next u ∧ u.core.mbx.busy = false ∧ u.core.mbx.complete = true ∧
      leAt u.core.mbx.rsp 8 4 = 0 ∧ u.core.obj idx sub = writeValue idx sub s.core.reqData ∧
      s.core.keeps u.core [(idx, sub)]) ∧
  (∀ (t idx : Nat) (c : Core) (s : State), s.core.reqIdx = idx → s.core.reqOff = 0 → s.core.mbx.xfer = none →
    s.core.mbxAt 5 = true → s.core.writeAll (s.at_ t) .mbx idx s.core.reqData = (0, c) → c.pw.resetDue = false →
    ∃ u, exec (.mbxWriteAll t) s = .next u ∧ u.core.mbx.busy = false ∧ u.core.mbx.complete = true ∧
      leAt u.core.mbx.rsp 8 4 = 0 ∧ u.core.dict = c.dict ∧ u.core.banks = c.banks) ∧
  (∀ (t idx : Nat) (s : State), s.core.pw.resetDue = false → s.core.reqIdx = idx → s.core.reqOff = 0 →
    s.core.reqLen = 0 → s.core.mbxAt 6 = true → s.core.absent idx = false → (topSub idx).isSome = true →
    ∃ u, exec (.mbxDescribe t) s = .next u ∧ u.core.mbx.busy = false ∧ u.core.mbx.complete = true ∧
      leAt u.core.mbx.rsp 8 4 = 0 ∧ u.core.dict = s.core.dict ∧
      u.core.mbx.rsp.drop 16 = (objectDesc idx ++ (if isSimple idx then [0] else recordSubs idx).flatMap
        (fun k => entryDesc idx k)).take 4080)

/-- While bytes are acted on, A5h sets the SAFE latch, and SAFE is in force at once, 3Ch clears the latch,
0Fh outside a job stops LIVE for 1.0 ms; each is ACKed, counted in 3400h.04 and changes no other object.
LIVE_RESUME once the test's time is over ends the test. From 5 ms after boot time zero, unless the module is
held in reset, each byte of a read is the register of R70 at its moment, and a read cut in mid-byte leaves
its remaining bits to come, a transfer cut in an acknowledge slot one bit 0: SCL pulses shift them out and
the last one releases SDA; where SDA stands low and neither line has changed for 23 ms or more, SDA is
released and counted in 3400h.06, else nothing changes. A write of 0 or 1 to 3400h.02 by SDO, the mailbox or
the two-wire target, outside COMPLINE, where process data does not map it and outside the recovery image, is
answered 0 and sets or clears the latch, and nothing else changes. TW_BYTE_REFUSED for a later byte of a
transfer, for a value without an action, for 0Fh while a job runs, and for any byte while 3400h.03 is 0,
before firmware runs or in COMPLINE is NACKed, counted in 3400h.05, and changes nothing else; so are A5h,
3Ch and 0Fh in the last three cases, and 0Fh while a job runs. Open points follow the model's choices of log
entry 108. (R71) -/
def Obligations.TwoWireBytes : Prop :=
  (∀ (t : Nat) (s : State), s.core.twOn = true →
    ∃ u, exec (.twSafeSet t) s = .next u ∧ u.core.tw = { s.core.tw with latch := true, cut := none } ∧ u.core.safe = true ∧
      u.core.dict = (s.core.bump 0x3400 4).dict ∧ s.puts u [.twoWire true]) ∧
  (∀ (t : Nat) (s : State), s.core.twOn = true →
    ∃ u, exec (.twSafeClear t) s = .next u ∧ u.core.tw = { s.core.tw with latch := false, cut := none } ∧
      u.core.dict = (s.core.bump 0x3400 4).dict ∧ s.puts u [.twoWire true]) ∧
  (∀ (t : Nat) (s : State), s.core.twOn = true → s.core.job.running = false →
    ∃ u, exec (.twLiveTest t) s = .next u ∧
      u.core.tw = { s.core.tw with testUntil := some (s.at_ t + 1000000), cut := none } ∧ u.core.liveOn = false ∧
      u.core.dict = (s.core.bump 0x3400 4).dict ∧ s.puts u [.twoWire true]) ∧
  (∀ (t e : Nat) (s : State), s.core.tw.testUntil = some e → e ≤ s.at_ t →
    ∃ u, exec (.liveResume t) s = .next u ∧
      u.core = ({ s.core with tw := { s.core.tw with testUntil := none } } : Core).under u.core) ∧
  (∀ (t : Nat) (s : State), s.core.pw.bootZero + 5000000 ≤ s.at_ t → s.core.pw.heldReset = false →
    ∃ u, exec (.twBusRelease t .read) s = .next u ∧
      s.puts u [.twRead [BitVec.ofNat 8 s.core.twRegister]] ∧
      u.core = ({ s.core with tw := { s.core.tw with cut := none } } : Core).under u.core) ∧
  (∀ (t : Nat) (k : Fin 8) (s : State), s.core.pw.bootZero + 5000000 ≤ s.at_ t → s.core.pw.heldReset = false →
    ∃ u, exec (.twBusRelease t (.cut k)) s = .next u ∧
      u.core = ({ s.core with tw := { s.core.tw with
        cut := some ⟨s.at_ t, k.val + 1, BitVec.ofNat 8 s.core.twRegister⟩ } } : Core).under u.core) ∧
  (∀ (t n : Nat) (r : TwRead) (s : State), s.core.tw.cut = some r →
    ∃ u, exec (.twBusRelease t (.clocks n)) s = .next u ∧ (r.bits ≤ n → s.puts u [.sdaReleased]) ∧
      u.core = ({ s.core with tw := { s.core.tw with
        cut := if r.bits ≤ n then none else some { r with bits := r.bits - n, since := s.at_ t } } } : Core).under u.core) ∧
  (∀ (t : Nat) (r : TwRead) (s : State), s.core.tw.cut = some r →
    ∃ u, exec (.twBusRelease t .still) s = .next u ∧
      (r.drivesLow = true → r.since + 23000000 ≤ s.at_ t → s.puts u [.sdaReleased] ∧
        u.core = ({ s.core with
          dict := (s.core.bump 0x3400 6).dict, tw := { s.core.tw with cut := none } } : Core).under u.core) ∧
      (r.drivesLow = false ∨ s.at_ t < r.since + 23000000 → u.core = s.core.under u.core)) ∧
  (∀ (t : Nat) (o : Orig) (v : Byte) (s : State), (v = 0 ∨ v = 1) → o ≠ .pdo → s.core.mode ≠ .compline →
    s.core.isMapped 0x3400 2 = false → s.core.wordOk 0x3400 2 = true → s.core.pw.running ≠ 2 →
    ∃ u, exec (.safeLatchWrite t o v) s = .next u ∧ s.puts u [.answer o 0x3400 2 0] ∧
      u.core = ({ s.core with tw := { s.core.tw with latch := v == 1 } } : Core).under u.core) ∧
  (∀ (t : Nat) (first : Bool) (v : Byte) (s : State),
    (first = false ∨ s.core.twOn = false ∨ (v ≠ 0xA5 ∧ v ≠ 0x3C ∧ v ≠ 0x0F) ∨
      (v = 0x0F ∧ s.core.job.running = true)) →
    ∃ u, exec (.twByteRefused t first v) s = .next u ∧ s.puts u [.twoWire false] ∧
      u.core = ({ s.core with
        dict := (s.core.bump 0x3400 5).dict, tw := { s.core.tw with cut := none } } : Core).under u.core) ∧
  (∀ (t : Nat) (i : Instr) (s : State), (i = .twSafeSet t ∨ i = .twSafeClear t ∨ i = .twLiveTest t) →
    (s.core.flag 0x3400 3 = false ∨ s.core.pw.fwRuns = false ∨ s.core.mode = .compline) →
    ∃ u, exec i s = .next u ∧ s.puts u [.twoWire false] ∧
      u.core = ({ s.core with
        dict := (s.core.bump 0x3400 5).dict, tw := { s.core.tw with cut := none } } : Core).under u.core) ∧
  (∀ (t : Nat) (s : State), s.core.job.running = true →
    ∃ u, exec (.twLiveTest t) s = .next u ∧ s.puts u [.twoWire false] ∧
      u.core = ({ s.core with
        dict := (s.core.bump 0x3400 5).dict, tw := { s.core.tw with cut := none } } : Core).under u.core) ∧
  (∀ (t : Nat) (s : State), s.core.pw.bootZero + 5000000 ≤ s.at_ t → s.core.pw.heldReset = false →
    ∃ u, exec (.twBusRelease t .ackCut) s = .next u ∧
      u.core = ({ s.core with tw := { s.core.tw with cut := some ⟨s.at_ t, 1, 0⟩ } } : Core).under u.core)

/-- A write of a size other than 4 and 8 bytes, or not naturally aligned, is discarded and counted. While
the host owns domain 7 and the ring is disabled, a 4-byte write of the low half of RING_BASE is held, and
the high half then writes both as one value. A 4-byte read of the low half of CLK_DC answers it and keeps
the high half of the same instant, which a 4-byte read of the high half answers. A read of BAR0 or BAR2 of
another size or alignment completes with Completer Abort. The doublewords of the other spaces: configuration
space answers Request Retry Status until BOOT has finished DRAM zeroing, then the vendor and device
identity, and the serial number of 1018h.04; the CDAT is answered as it stands; BAR4 reads 0 outside 1000h
to 1FFFh, shows memory-data errors in its RAS status, which a 1 clears, and the decoder's Committed and
error bits in its control. Open points follow the model's choices of log entries 90, 148. (R389, R390, R383,
R387, R393) -/
def Obligations.BarAccess : Prop :=
  (∀ (t off size : Nat) (sp : Space) (v : Word64) (s : State), sp = .bar0 ∨ sp = .bar2 → barOk off size = false →
    ∃ u, exec (.barWrite t sp off size v) s = .next u ∧
      u.core = ({ s.core with cxl := { s.core.cxl with
        refused := (s.core.cxl.refused + 1) % 2 ^ 32 } } : Core).under u.core) ∧
  (∀ (t i : Nat) (v : Word32) (s : State), i < 10 → s.core.owner 7 = .host → (s.core.ring i).enable = false →
    ∃ u, exec (.barWrite t .bar0 (0x3000 + 0x40 * i) 4 (v.setWidth 64)) s = .next u ∧
      u.core = ({ s.core with cxl := { s.core.cxl with
        half := aput s.core.cxl.half (0x3000 + 0x40 * i) v.toNat } } : Core).under u.core) ∧
  (∀ (t i lo : Nat) (v : Word32) (s : State), i < 10 → s.core.owner 7 = .host → (s.core.ring i).enable = false →
    alook s.core.cxl.half (0x3000 + 0x40 * i) = some lo →
    ∃ u, exec (.barWrite t .bar0 (0x3004 + 0x40 * i) 4 (v.setWidth 64)) s = .next u ∧
      u.core.cxl.rings = modAt s.core.cxl.rings i (fun r => { r with base := v.toNat * 2 ^ 32 + lo }) ∧
      u.core.cxl.half = adel s.core.cxl.half (0x3000 + 0x40 * i)) ∧
  (∀ (t : Nat) (s : State),
    ∃ u, exec (.barRead t .bar0 0x6000 4) s = .next u ∧
      s.puts u [.bar (some (s.core.stamp (s.at_ t) % 2 ^ 32))] ∧
      alook u.core.cxl.shadow 0x6000 = some (s.core.stamp (s.at_ t) % 2 ^ 64 / 2 ^ 32)) ∧
  (∀ (t x : Nat) (s : State), alook s.core.cxl.shadow 0x6000 = some x →
    ∃ u, exec (.barRead t .bar0 0x6004 4) s = .next u ∧ s.puts u [.bar (some x)] ∧ u.core = s.core.under u.core) ∧
  (∀ (t off size : Nat) (sp : Space) (s : State), sp = .bar0 ∨ sp = .bar2 → barOk off size = false →
    ∃ u, exec (.barRead t sp off size) s = .next u ∧ s.puts u [.bar none] ∧ u.core = s.core.under u.core) ∧
  (∀ (t off : Nat) (sp : Space) (s : State), sp = .config ∨ sp = .cdat → off % 4 = 0 → s.core.cxl.memActive = false →
    ∃ u, exec (.barRead t sp off 4) s = .next u ∧ s.puts u [.cfgRetry] ∧ u.core = s.core.under u.core) ∧
  (∀ (t off : Nat) (s : State), off % 4 = 0 → s.core.cxl.memActive = true →
    ∃ u v, exec (.barRead t .config off 4) s = .next u ∧ s.puts u [.bar (some v)] ∧
      (off = 0 → v = 0x32061F3D) ∧ (off = 0x104 → v = s.core.obj 0x1018 4)) ∧
  (∀ (t off : Nat) (s : State), off % 4 = 0 → s.core.cxl.memActive = true →
    ∃ u, exec (.barRead t .cdat off 4) s = .next u ∧ s.puts u [.bar (some (leAt cdat off 4))] ∧
      u.core = s.core.under u.core) ∧
  (∀ (t off : Nat) (s : State), off % 4 = 0 → off < 0x1000 ∨ 0x2000 ≤ off →
    ∃ u, exec (.barRead t .bar4 off 4) s = .next u ∧ s.puts u [.bar (some 0)] ∧ u.core = s.core.under u.core) ∧
  (∀ (t : Nat) (s : State),
    (∃ u, exec (.barRead t .bar4 0x1100 4) s = .next u ∧
      s.puts u [.bar (some (128 * b2n (!s.core.cxl.ras.isEmpty)))] ∧ u.core = s.core.under u.core) ∧
    (∃ u, exec (.barRead t .bar4 0x1220 4) s = .next u ∧
      s.puts u [.bar (some ((alook s.core.cxl.comp 0x1220).getD 0 % 512 + 1024 * b2n s.core.cxl.hdmOk +
        2048 * b2n s.core.cxl.hdmErr))] ∧ u.core = s.core.under u.core)) ∧
  (∀ (t : Nat) (v : Word64) (s : State), v.toNat % 2 ^ 32 = 128 →
    ∃ u, exec (.barWrite t .bar4 0x1100 4 v) s = .next u ∧
      u.core = ({ s.core with cxl := { s.core.cxl with ras := [] } } : Core).under u.core)

/-- In WEB or SHEET, in no transition and with no job running, a JOB_START by the owner of MODE,
START_AT_SYNC1 clear in the control word, starts a job at that moment, the mode unchanged and in WEB the
loop SEEDING; a START_AT_SYNC1, Distributed Clocks running and SYNC1 activated, waits, job and sequencer
left as they are. There the next SYNC1 event starts the job that waits; where none waits it only shows SYNC1
activated. SYNC1_WAIT_TIMEOUT 100 ms or more after the edge ends the wait, leaving job and sequencer. The
control word takes a write of the owner of PROCDATA, by process data alone where mapped, outside COMPLINE
and outside the recovery image. Where the control word is taken: JOB_END by the owner of MODE, with no end
and no restart pending, fixes the last web line of the running job at that moment, or ends a job that has
none and leaves the loop IDLE; the coasting limit after it, with lines of the job unresolved, stops
exposures and leaves no exposure awaiting its test; JOB_ENDED of a finished job that no restart follows
leaves no job running, no exposure, the loop IDLE and the mode unchanged. FAULT_ACK ends exactly the active
events that are no condition and no ALARM_LOST of an engine that still shows it, and leaves job and mode;
bit [3] of the control word puts SAFE in force and takes it back, SAFE being then in force by it or by the
two-wire latch, and nothing but the control word changes. Where also EVR is open with nothing held:
JOB_START while a job runs, JOB_START with no job in a mode that is neither WEB nor SHEET, and JOB_END with
no job, each by the owner of MODE, leave the job, the sequencer, the mode, the transition and the DRAM as
they were, and log CONTROL_IGNORED with the bit and with 0800 002Ch, 0800 0021h and 0; a writer that does
not own MODE sees its JOB_START ignored with 0800 0020h. The event's entry is the last one of EVR, with its
code and data in the bytes of 13 R413. Open points follow the model's choices of log entries 22, 24. (R59,
R16, R72, R183, R447, R413) -/
def Obligations.JobControl : Prop :=
  (∀ (t : Nat) (o : Orig) (s : State), s.core.owns o 0 = true → s.core.mayWrite o 0x6000 1 3 →
    s.core.inspecting = true → s.core.trans = none → s.core.job.running = false →
    (s.core.obj 0x6000 1).testBit 4 = false →
    ∃ u, exec (.jobStart t o) s = .next u ∧ u.core.job.running = true ∧ u.core.job.startAt = s.at_ t ∧
      u.core.job.ending = none ∧ u.core.mode = s.core.mode ∧
      (s.core.mode = .web → u.core.mot.loop = .seeding)) ∧
  (∀ (t : Nat) (o : Orig) (s : State), s.core.owns o 0 = true → s.core.mayWrite o 0x6000 1 3 →
    s.core.inspecting = true → s.core.trans = none → s.core.job.running = false →
    s.core.ec.dcRunning = true → s.core.ec.sync1On = true →
    ∃ u, exec (.startAtSync1 t o) s = .next u ∧ u.core.ec.waitSync1 = some (s.at_ t) ∧
      u.core.job = s.core.job ∧ u.core.mot = s.core.mot) ∧
  (∀ (t a : Nat) (s : State), s.core.ec.waitSync1 = some a → s.core.inspecting = true → s.core.trans = none →
    s.core.job.running = false →
    ∃ u, exec (.sync1Event t) s = .next u ∧ u.core.job.running = true ∧ u.core.job.startAt = s.at_ t ∧
      u.core.ec.waitSync1 = none ∧ u.core.ec.sync1On = true) ∧
  (∀ (t : Nat) (s : State), s.core.ec.waitSync1 = none →
    ∃ u, exec (.sync1Event t) s = .next u ∧
      u.core = ({ s.core with ec := { s.core.ec with sync1On := true } } : Core).under u.core) ∧
  (∀ (t a : Nat) (s : State), s.core.ec.waitSync1 = some a → a + 100000000 ≤ s.at_ t →
    ∃ u, exec (.sync1WaitTimeout t) s = .next u ∧ u.core.ec.waitSync1 = none ∧ u.core.job = s.core.job ∧
      u.core.mot = s.core.mot) ∧
  (∀ (t : Nat) (o : Orig) (s : State), s.core.owns o 0 = true → s.core.mayWrite o 0x6000 1 3 →
    s.core.job.running = true → s.core.job.ending = none → s.core.job.again = none →
    ∃ u, exec (.jobEnd t o) s = .next u ∧
      ((∃ l, u.core.job.ending = some (l, s.at_ t) ∧ u.core.job.lineLast = some l ∧ u.core.job.running = true) ∨
        (u.core.job.running = false ∧ u.core.mot.loop = .idle))) ∧
  (∀ (t l a : Nat) (s : State), s.core.job.ending = some (l, a) → s.core.job.lineLast = some l →
    a + s.core.obj 0x2413 2 * 1000 ≤ s.at_ t → s.core.pipe.nextRes ≤ l →
    ∃ u, exec (.jobEndTimeout t) s = .next u ∧ u.core.job = s.core.job ∧ u.core.mot.noExpose = true ∧
      u.core.mot.burstLeft = 0 ∧ (∀ x ∈ u.core.mot.expos, x.state ≠ .pending)) ∧
  (∀ (t : Nat) (s : State), s.core.jobFinished = true → s.core.job.again = none →
    ∃ u, exec (.jobEnded t) s = .next u ∧ u.core.job.running = false ∧ u.core.job.ending = none ∧
      u.core.mot.loop = .idle ∧ u.core.mot.expos = [] ∧ u.core.mode = s.core.mode) ∧
  (∀ (t : Nat) (o : Orig) (s : State), s.core.mayWrite o 0x6000 1 3 →
    ∃ u, exec (.faultAck t o) s = .next u ∧ u.core.job = s.core.job ∧ u.core.mode = s.core.mode ∧
      u.core.ev.active = s.core.ev.active.filter (fun p =>
        evCondition p.1 || (p.1 == 0x5071 && (s.core.eng1 p.2).alarmLost))) ∧
  (∀ (t : Nat) (o : Orig) (v : Bool) (s : State), s.core.mayWrite o 0x6000 1 3 →
    ∃ u, exec (.safeControl t o v) s = .next u ∧ u.core.safe = (s.core.tw.latch || v) ∧
      s.core.keeps u.core [(0x6000, 1)] ∧
      u.core = ({ s.core with dict := u.core.dict } : Core).under u.core) ∧
  (∀ (t b k : Nat) (i : Instr) (o : Orig) (s : State), s.core.mayWrite o 0x6000 1 3 →
    s.core.ringOpen 4 = true → (s.core.ring 4).held = [] →
    ((i = .jobStart t o ∧ b = 0 ∧ s.core.owns o 0 = true ∧ s.core.job.running = true ∧ k = 0x0800002C) ∨
      (i = .jobStart t o ∧ b = 0 ∧ s.core.owns o 0 = true ∧ s.core.job.running = false ∧
        s.core.inspecting = false ∧ k = 0x08000021) ∨
      (i = .jobEnd t o ∧ b = 1 ∧ s.core.owns o 0 = true ∧ s.core.job.running = false ∧ k = 0) ∨
      (i = .jobStart t o ∧ b = 0 ∧ s.core.owns o 0 = false ∧ k = 0x08000020)) →
    ∃ u, exec i s = .next u ∧ u.core.job = s.core.job ∧ u.core.mot = s.core.mot ∧ u.core.mode = s.core.mode ∧
      u.core.trans = s.core.trans ∧ u.mem = s.mem ∧
      leAt (u.core.ring 4).lastOut 0 2 = 0x0104 ∧ leAt (u.core.ring 4).lastOut 23 1 = b ∧
      leAt (u.core.ring 4).lastOut 24 4 = k ∧ (u.core.ring 4).prod = ((s.core.ring 4).prod + 1) % 2 ^ 32)

/-- Outside COMPLINE, a request by the owner of MODE, by process data alone where that maps 2000h.00: one
for the present mode, outside BOOT and in no transition, completes at once, keeps mode and job and changes
no object but 2000h.00 and 2002h.00; one for another mode that nothing stands against starts the transition
at that moment, the mode as it was, and is answered 0, 2002h.00 in progress unless STANDBY is asked for
(where the job's end may already complete it); one for a mode that the mode machine refuses is answered with
the code that comes first and recorded in 2002h.00, the one object that changes, and keeps mode, transition
and job; one for a code that is no mode to ask for, outside BOOT and in no transition, is answered 0609
0030h and changes nothing. From STANDBY, outside the recovery image, SERVICE asked for through the mailbox
begins its transition. Process data has no answer. Outside BOOT, COMPLINE and a transition, a request by the
owner of MODE, not by process data, from a mode other than STANDBY for any mode but STANDBY and the present
one is answered with 0800 0021h, recorded so in 2002h.00, and changes neither the mode nor the job and
begins no transition. Open points follow the model's choices of log entries 26, 30. (R37, R38, R461, R462)
-/
def Obligations.ModeRequests : Prop :=
  (∀ (t : Nat) (o : Orig) (v : Byte) (s : State), s.core.owns o 0 = true → s.core.trans = none →
    (o = .pdo ∨ s.core.isMapped 0x2000 0 = false) → s.core.wordOk 0x2000 0 = true → s.core.mode ≠ .boot → s.core.mode ≠ .compline →
    v.toNat % 16 = s.core.mode.code →
    ∃ u, exec (.modeRequest t o v) s = .next u ∧ u.core.mode = s.core.mode ∧ u.core.trans = none ∧
      u.core.obj 0x2002 0 = 2 + s.core.mode.code * 256 ∧ u.core.job = s.core.job ∧
      s.core.keeps u.core [(0x2000, 0), (0x2002, 0)]) ∧
  (∀ (t : Nat) (o : Orig) (v : Byte) (m : Mode) (s : State), s.core.owns o 0 = true → s.core.mode ≠ .compline →
    (o = .pdo ∨ s.core.isMapped 0x2000 0 = false) → s.core.wordOk 0x2000 0 = true → modeAsked (v.toNat % 16) = some m → m ≠ s.core.mode →
    firstCode (s.core.modeCodes (v.toNat % 16)) = none →
    ∃ u, exec (.modeRequest t o v) s = .next u ∧ u.core.mode = s.core.mode ∧
      u.core.trans = some { source := s.core.mode, target := m, start := s.at_ t, req := true } ∧
      (m ≠ .standby → u.core.obj 0x2002 0 = 1 + m.code * 256) ∧
      (o ≠ .pdo → ∃ l, s.puts u (l ++ [.answer o 0x2000 0 0]))) ∧
  (∀ (t k : Nat) (o : Orig) (v : Byte) (m : Mode) (s : State), s.core.owns o 0 = true →
    s.core.mode ≠ .compline → (o = .pdo ∨ s.core.isMapped 0x2000 0 = false) →
    modeAsked (v.toNat % 16) = some m → firstCode (s.core.modeCodes (v.toNat % 16)) = some k →
    ∃ u, exec (.modeRequest t o v) s = .next u ∧ u.core.mode = s.core.mode ∧ u.core.trans = s.core.trans ∧
      u.core.obj 0x2002 0 = 3 + v.toNat % 16 * 256 + k % 256 * 65536 ∧ s.core.keeps u.core [(0x2002, 0)] ∧
      u.core.job = s.core.job ∧ (o ≠ .pdo → ∃ l, s.puts u (l ++ [.answer o 0x2000 0 k]))) ∧
  (∀ (t : Nat) (o : Orig) (v : Byte) (s : State), s.core.owns o 0 = true → s.core.mode ≠ .compline →
    s.core.mode ≠ .boot → s.core.trans = none → o ≠ .pdo → s.core.isMapped 0x2000 0 = false →
    modeAsked (v.toNat % 16) = none →
    ∃ u, exec (.modeRequest t o v) s = .next u ∧ u.core = s.core.under u.core ∧
      s.puts u [.answer o 0x2000 0 0x06090030]) ∧
  (∀ (t : Nat) (v : Byte) (s : State), s.core.owns .mbx 0 = true → s.core.mode = .standby → s.core.trans = none →
    s.core.pw.running ≠ 2 → s.core.isMapped 0x2000 0 = false → s.core.wordOk 0x2000 0 = true → v.toNat % 16 = 6 →
    ∃ u, exec (.modeRequest t .mbx v) s = .next u ∧
      u.core.trans = some { source := .standby, target := .service, start := s.at_ t, req := true }) ∧
  (∀ (t : Nat) (o : Orig) (v : Byte) (m : Mode) (s : State), s.core.owns o 0 = true → s.core.trans = none →
    o ≠ .pdo → s.core.isMapped 0x2000 0 = false →
    s.core.mode ≠ .boot → s.core.mode ≠ .compline → s.core.mode ≠ .standby →
    modeAsked (v.toNat % 16) = some m → m ≠ .standby → m ≠ s.core.mode →
    ∃ u, exec (.modeRequest t o v) s = .next u ∧ u.core.mode = s.core.mode ∧ u.core.trans = none ∧
      u.core.job = s.core.job ∧ u.core.obj 0x2002 0 = 3 + m.code * 256 + 0x21 * 65536 ∧
      ∃ l, s.puts u (l ++ [.answer o 0x2000 0 0x08000021]))

/-- MODE_TRANSITION_COMPLETE of a transition neither from nor to DUSK, with no job left, enters the target
mode, ends the transition, shows 2002h.00 complete for a request, and leaves job, owners and the DRAM; while
the job runs it changes nothing. THERMAL_SHUTDOWN at Tj 105 °C or above, sensed, outside BOOT and DUSK, not
yet active and with no restart pending: the event is active and FAULT_N asserted, the mode stays, a job
still running is ending, and from any mode but STANDBY, in no transition, the transition to STANDBY begins
without a request. Open points follow the model's choices of log entry 27. (R38, R457, R461, R464) -/
def Obligations.ModeEntered : Prop :=
  (∀ (t : Nat) (tr : Transition) (s : State), s.core.trans = some tr → tr.source ≠ .dusk → tr.target ≠ .dusk →
    s.core.job.running = false →
    ∃ u, exec (.modeTransitionComplete t) s = .next u ∧ u.core.mode = tr.target ∧ u.core.trans = none ∧
      (tr.req = true → u.core.obj 0x2002 0 = 2 + tr.target.code * 256) ∧ u.core.job = s.core.job ∧
      u.core.owners = s.core.owners ∧ u.mem = s.mem) ∧
  (∀ (t : Nat) (s : State), s.core.job.running = true →
    ∃ u, exec (.modeTransitionComplete t) s = .next u ∧ u.core = s.core.under u.core) ∧
  (∀ (t : Nat) (s : State), 10500 ≤ s.core.tj → s.core.sensing 16 = true → s.core.mode ≠ .boot →
    s.core.mode ≠ .dusk → s.core.active 0x4230 0 = false → s.core.job.again = none →
    ∃ u, exec (.thermalShutdown t) s = .next u ∧ u.core.mode = s.core.mode ∧ u.core.active 0x4230 0 = true ∧
      u.core.faultN = true ∧ (u.core.job.running = true → u.core.job.ending.isSome = true) ∧
      (s.core.mode ≠ .standby → s.core.trans = none →
        u.core.trans = some { source := s.core.mode, target := .standby, start := s.at_ t, req := false }))

/-- Where 2301h.00 may be written (in DUSK it takes the value and the buffers wait for Dawn): 1 while it
reads 0 enables the buffers of every enabled segment bank and starts their counts, and does nothing while it
reads 1; 0 disables all sixteen and clears 2302h.01 in any mode but CALIBRATE, WEB and SHEET, where it is
answered with 0800 0021h (process data has no answer) and changes nothing. At REF_BUFFER_SETTLED an enabled
buffer is settled from 25.000 ms after its enable, and before that nothing changes. One that leaves its
window is out of it, releases INSPECT_VALID where its segment is enabled, and keeps mode and job; one that
returns is within it again. Nothing else changes at the writes and at the return but 2301h.00, 2302h.01 and
the buffers. Open points follow the model's choices of log entry 5. (R118, R119, R121, R30, R472) -/
def Obligations.ReferenceBuffers : Prop :=
  (∀ (t : Nat) (o : Orig) (s : State), s.core.mayWrite o 0x2301 0 4 → s.core.mode ≠ .dusk → s.core.flag 0x2301 0 = false →
    ∃ u, exec (.refBufferEnable t o) s = .next u ∧ u.core.obj 0x2301 0 = 1 ∧
      u.core.refs = s.core.banksOn.foldl (fun l q => modAt l q (fun _ => { enabledAt := some (s.at_ t) }))
        s.core.refs ∧
      s.core.keeps u.core [(0x2301, 0), (0x2302, 1)] ∧
      u.core = ({ s.core with dict := u.core.dict, refs := u.core.refs } : Core).under u.core) ∧
  (∀ (t : Nat) (o : Orig) (s : State), s.core.mayWrite o 0x2301 0 4 → s.core.mode ≠ .dusk → s.core.flag 0x2301 0 = true →
    ∃ u, exec (.refBufferEnable t o) s = .next u ∧ u.core = s.core.under u.core) ∧
  (∀ (t : Nat) (o : Orig) (s : State), s.core.mayWrite o 0x2301 0 4 → s.core.mode ≠ .calibrate →
    s.core.mode ≠ .dusk → s.core.inspecting = false →
    ∃ u, exec (.refBufferDisable t o) s = .next u ∧ u.core.obj 0x2301 0 = 0 ∧ u.core.obj 0x2302 1 = 0 ∧
      u.core.refs = List.replicate 16 {} ∧ s.core.keeps u.core [(0x2301, 0), (0x2302, 1)] ∧
      u.core = ({ s.core with dict := u.core.dict, refs := u.core.refs } : Core).under u.core) ∧
  (∀ (t : Nat) (o : Orig) (s : State), s.core.mayWrite o 0x2301 0 4 → o ≠ .pdo →
    (s.core.mode = .calibrate ∨ s.core.inspecting = true) →
    ∃ u, exec (.refBufferDisable t o) s = .next u ∧ s.puts u [.answer o 0x2301 0 0x08000021] ∧
      u.core = s.core.under u.core) ∧
  (∀ (t a : Nat) (q : Fin 16) (s : State), (s.core.refBuf q.val).enabledAt = some a →
    ∃ u, exec (.refBufferSettled t q) s = .next u ∧
      (a + 25000000 ≤ s.at_ t → u.core.refs = modAt s.core.refs q.val (fun r => { r with settled := true }) ∧
        s.core.keeps u.core [(0x2302, 1)]) ∧
      (s.at_ t < a + 25000000 → u.core = s.core.under u.core)) ∧
  (∀ (t a : Nat) (q : Fin 16) (s : State), (s.core.refBuf q.val).enabledAt = some a →
    (s.core.refBuf q.val).inWindow = true →
    ∃ u, exec (.refBufferWindow t q) s = .next u ∧
      u.core.refs = modAt s.core.refs q.val (fun r => { r with inWindow := false }) ∧
      (s.core.segOn (q.val / 2) = true → u.core.inspectValid = false) ∧ u.core.mode = s.core.mode ∧
      u.core.job = s.core.job) ∧
  (∀ (t : Nat) (q : Fin 16) (s : State),
    ∃ u, exec (.refBufferWindowReturn t q) s = .next u ∧
      u.core.refs = modAt s.core.refs q.val (fun r => { r with inWindow := true }) ∧
      s.core.keeps u.core [(0x2302, 1)] ∧
      u.core = ({ s.core with dict := u.core.dict, refs := u.core.refs } : Core).under u.core) ∧
  (∀ (t : Nat) (o : Orig) (s : State), s.core.mayWrite o 0x2301 0 4 → s.core.mode = .dusk →
    (∃ u, exec (.refBufferEnable t o) s = .next u ∧ u.core.obj 0x2301 0 = 1 ∧ u.core.refs = s.core.refs ∧
      u.core.pw.duskWrites.contains (key 0x2301 0, 1) = true) ∧
    (∃ u, exec (.refBufferDisable t o) s = .next u ∧ u.core.obj 0x2301 0 = 0 ∧ u.core.refs = s.core.refs ∧
      u.core.pw.duskWrites.contains (key 0x2301 0, 0) = true))

/-- Between steps, where the walk runs, a takeover lets J serve the slice in turn (in the self step none)
and settling begins; where the bank's next row is flagged SETTLE the takeover, and so a handback, waits.
Settling ends after 4 096 ramp cycles, and the measure phase, with the entries computed, after 28 672;
before that nothing changes. After 36 864 cycles a slice whose every converter passes has its entries loaded
and waits for its handback; one that fails is repeated once and loads nothing; one that fails again is
retired in 2330h, J serving it for good, or, where J itself is retired, is BLIND for want of a spare, and
where it is J, J serves no more. A handback that nothing defers ends the service: the next slice is in turn,
or after the self step the first, where the lap is counted in 2322h and 2321h shows 2 396 160 mean ramp-
cycle periods in µs. Open points follow the model's choices of log entries 135, 136. (R123, R124, R127,
R132) -/
def Obligations.JourneymanStep : Prop :=
  (∀ (t : Nat) (q : Fin 16) (s : State), s.core.walkRuns q.val = true → (s.core.walk q.val).phase = .idle →
    ∃ u, exec (.convStepTakeover t q) s = .next u ∧
      (s.core.nextSettles q.val = false →
        u.core = ({ s.core with walks := modAt s.core.walks q.val (fun w => { w with
          waits := false, serving := w.cur != 64, phase := .settle, cycles := 0, found := [], fresh := [],
          passed := false }) } : Core).under u.core) ∧
      (s.core.nextSettles q.val = true →
        u.core = ({ s.core with walks := modAt s.core.walks q.val (fun w => { w with
          waits := true }) } : Core).under u.core)) ∧
  (∀ (t : Nat) (q : Fin 16) (s : State), (s.core.walk q.val).phase = .settle →
    ∃ u, exec (.convSettleEnd t q) s = .next u ∧
      (4096 ≤ (s.core.walk q.val).cycles → u.core = ({ s.core with
        walks := modAt s.core.walks q.val (fun w => { w with phase := .measure }) } : Core).under u.core) ∧
      ((s.core.walk q.val).cycles < 4096 → u.core = s.core.under u.core)) ∧
  (∀ (t : Nat) (q : Fin 16) (res : List ConvResult) (s : State), (s.core.walk q.val).phase = .measure →
    ∃ u, exec (.convMeasureEnd t q res) s = .next u ∧
      (28672 ≤ (s.core.walk q.val).cycles → u.core = ({ s.core with
        walks := modAt s.core.walks q.val (fun w => { w with
          phase := .verify, found := res, fresh := res.map entryOf }) } : Core).under u.core) ∧
      ((s.core.walk q.val).cycles < 28672 → u.core = s.core.under u.core)) ∧
  (∀ (t : Nat) (q : Fin 16) (w : ConvWalk) (mids : List MidResult) (s : State), s.core.walk q.val = w →
    w.phase = .verify → 36864 ≤ w.cycles →
    ∃ u, exec (.convVerifyEnd t q mids) s = .next u ∧
      (slicePasses w.found mids = true → u.core.doms = (s.core.loadSlice q.val w.cur w.fresh).doms ∧
        u.core.walk q.val = { w with phase := .handback, passed := true, failed := false } ∧
        u.core.dict = s.core.dict) ∧
      (slicePasses w.found mids = false → w.failed = false →
        u.core.walk q.val = { w with phase := .settle, cycles := 0, failed := true, found := [], fresh := [] } ∧
        u.core.doms = s.core.doms ∧ u.core.dict = s.core.dict) ∧
      (slicePasses w.found mids = false → w.failed = true → w.cur < 64 → w.jRetired = false → w.permanent = false →
        u.core.obj 0x2330 (q.val + 1) = w.cur ∧ (u.core.walk q.val).stopped = true ∧
        (u.core.walk q.val).permanent = true ∧ (u.core.walk q.val).cur = w.cur ∧ u.core.doms = s.core.doms) ∧
      (slicePasses w.found mids = false → w.failed = true → w.cur < 64 → w.jRetired = true → w.permanent = false →
        (u.core.walk q.val).noSpare = true ∧ w.cur ∈ (u.core.walk q.val).blind ∧ u.core.doms = s.core.doms) ∧
      (slicePasses w.found mids = false → w.failed = true → w.cur = 64 →
        u.core.obj 0x2330 (q.val + 1) = 64 ∧ (u.core.walk q.val).stopped = true ∧
        (u.core.walk q.val).serving = false ∧ u.core.doms = s.core.doms)) ∧
  (∀ (t : Nat) (q : Fin 16) (w : ConvWalk) (s : State), s.core.walk q.val = w → w.phase = .handback →
    ∃ u, exec (.convStepHandback t q) s = .next u ∧
      (s.core.nextSettles q.val = true → u.core.walk q.val = { w with waits := true } ∧
        u.core.dict = s.core.dict) ∧
      (s.core.nextSettles q.val = false → w.cur ≠ 64 → u.core.walk q.val = { w with
        cur := w.cur + 1, serving := false, phase := .idle, passed := false, waits := false } ∧
        u.core.dict = s.core.dict) ∧
      (s.core.nextSettles q.val = false → w.cur = 64 → u.core.walk q.val = { w with
          cur := 0, serving := false, phase := .idle, passed := false, waits := false, lapNs := 0, lapN := 0 } ∧
        u.core.obj 0x2321 (q.val + 1) = 2396160 * w.lapNs / max 1 w.lapN / 1000 % 2 ^ 32 ∧
        (s.core.obj 0x2322 (q.val + 1) + 1 < 2 ^ 32 →
          u.core.obj 0x2322 (q.val + 1) = s.core.obj 0x2322 (q.val + 1) + 1)))

/-- Where 2340h.01 may be written: 01h in CALIBRATE with none running starts a calibration, 2340h.02
RUNNING, and leaves every walk between steps; in any other mode it is answered with 0800 0021h, while one
runs with 0800 0031h (process data has no answer), and changes nothing. 02h in STANDBY or CALIBRATE begins
to save the tables in force, SAVING; the save's end shows SAVED or SAVE_FAILED where 2340h.02 still reads
SAVING, and where it ends well the tables are in flash and a 04h from before the save is lifted. 03h stops a
running calibration, ABORTED, with the tables as they are; it changes nothing where none runs and none
finished first, and adds ABORT_LATE to one that finished first. 04h asks for the factory tables at the next
BOOT and changes nothing else. FG_CAL_COMPLETE before the settle, measure and verify cycles of the pass are
over changes nothing; with the results of every slice judged: where all pass, their entries are loaded, the
defects found join the field map, and 2340h.02 reads COMPLETE; where some fail in the first pass those are
repeated; where some fail in the second it reads COMPLETE with slices retired. Open points follow the
model's choices of log entries 42, 137, 138. (R129, R130, R131, R134) -/
def Obligations.ForegroundCalibration : Prop :=
  (∀ (t : Nat) (o : Orig) (s : State), s.core.mayWrite o 0x2340 1 4 → s.core.mode = .calibrate →
    s.core.calRun = false →
    ∃ u, exec (.fgCalStart t o) s = .next u ∧ u.core.calRun = true ∧ u.core.calAt = s.at_ t ∧
      u.core.obj 0x2340 2 = 1 ∧ s.core.keeps u.core [(0x2340, 2)] ∧ u.core.doms = s.core.doms ∧
      (∀ q, q < 16 → (u.core.walk q).phase = .idle)) ∧
  (∀ (t : Nat) (o : Orig) (s : State), s.core.mayWrite o 0x2340 1 4 → o ≠ .pdo →
    (s.core.mode ≠ .calibrate ∨ s.core.calRun = true) →
    ∃ u, exec (.fgCalStart t o) s = .next u ∧ u.core = s.core.under u.core ∧
      s.puts u [.answer o 0x2340 1 (if s.core.mode = .calibrate then 0x08000031 else 0x08000021)]) ∧
  (∀ (t : Nat) (res : List (Nat × Nat × List (ConvResult × MidResult))) (ds : List Defect) (s : State),
    s.core.calRun = true → s.core.calPassOver (s.at_ t) = true → s.core.calSlices.all (calPasses res) = true →
    ∃ u, exec (.fgCalComplete t res ds) s = .next u ∧ u.core.calRun = false ∧ u.core.obj 0x2340 2 = 2 ∧
      u.core.doms = (ds.foldl Core.addDefect (s.core.calSlices.foldl (Core.calLoad res) s.core)).doms ∧
      u.core.walks = s.core.walks ∧ s.core.keeps u.core [(0x2340, 2)]) ∧
  (∀ (t : Nat) (res : List (Nat × Nat × List (ConvResult × MidResult))) (ds : List Defect) (s : State),
    s.core.calRun = true → s.core.calPassOver (s.at_ t) = true →
    s.core.calSlices.all (fun k => (calFound res k).isSome) = true → s.core.calSlices.all (calPasses res) = false →
    ∃ u, exec (.fgCalComplete t res ds) s = .next u ∧
      (s.core.calFailed = none → u.core.calRun = true ∧ u.core.calAt = s.at_ t ∧ u.core.dict = s.core.dict ∧
        u.core.calFailed = some (s.core.calSlices.filter (fun k => !calPasses res k))) ∧
      (s.core.calFailed ≠ none → u.core.calRun = false ∧ u.core.obj 0x2340 2 = 34)) ∧
  (∀ (t : Nat) (res : List (Nat × Nat × List (ConvResult × MidResult))) (ds : List Defect) (s : State),
    s.core.calPassOver (s.at_ t) = false →
    ∃ u, exec (.fgCalComplete t res ds) s = .next u ∧ u.core = s.core.under u.core) ∧
  (∀ (t : Nat) (o : Orig) (s : State), s.core.mayWrite o 0x2340 1 4 →
    (s.core.mode = .standby ∨ s.core.mode = .calibrate) →
    ∃ u, exec (.fgCalSave t o) s = .next u ∧ u.core.calPend = s.core.calTables ∧ u.core.obj 0x2340 2 = 4 ∧
      u.core.calSaving = true ∧
      s.core.keeps u.core [(0x2340, 2)] ∧ u.core.nv = s.core.nv) ∧
  (∀ (t : Nat) (ok : Bool) (s : State), s.core.calSaving = true → s.core.calStatus = 4 →
    ∃ u, exec (.fgCalSaveComplete t ok) s = .next u ∧ u.core.obj 0x2340 2 = (if ok then 5 else 6) ∧
      u.core.nv = (if ok then { s.core.nv with
        cal := s.core.calPend, factory := s.core.nv.factory && s.core.calKeep } else s.core.nv) ∧
      u.core.calSaving = false ∧
      s.core.keeps u.core [(0x2340, 2)]) ∧
  (∀ (t : Nat) (o : Orig) (s : State), s.core.mayWrite o 0x2340 1 4 → s.core.calRun = true →
    ∃ u, exec (.fgCalAbort t o false) s = .next u ∧ u.core.calRun = false ∧ u.core.obj 0x2340 2 = 3 ∧
      u.core.doms = s.core.doms ∧ u.core.walks = s.core.walks ∧ s.core.keeps u.core [(0x2340, 2)]) ∧
  (∀ (t : Nat) (o : Orig) (s : State), s.core.mayWrite o 0x2340 1 4 → s.core.calRun = false →
    s.core.calFinished (s.at_ t) false = false →
    ∃ u, exec (.fgCalAbort t o false) s = .next u ∧ u.core = s.core.under u.core) ∧
  (∀ (t : Nat) (o : Orig) (s : State), s.core.mayWrite o 0x2340 1 4 → s.core.calRun = false →
    s.core.obj 0x2340 2 = 2 →
    ∃ u, exec (.fgCalAbort t o true) s = .next u ∧ u.core.obj 0x2340 2 = 18 ∧
      s.core.keeps u.core [(0x2340, 2)] ∧ u.core.doms = s.core.doms) ∧
  (∀ (t : Nat) (o : Orig) (s : State), s.core.mayWrite o 0x2340 1 4 →
    ∃ u, exec (.fgCalRestoreFactory t o) s = .next u ∧
      u.core = ({ s.core with
        calKeep := s.core.calSaving, nv := { s.core.nv with factory := true } } : Core).under u.core)

/-- A change of both lines, where the encoder decodes direction, turns both recorded levels and counts in
2415h.02; an overrun, and a count less than 40 ns after the one before, counts in 2415h.03; none of them
moves anything else. While PLL-T's outputs are held, a decoded count moves its encoder's count one up or
down by its direction and 240xh.03 (with 240xh.01 = 0 always forward), counts in 2415h.01 where 2402h.00 has
the encoder decoded, and does nothing else. A change of a line that has not stood for the filter time
changes nothing; with 240xh.01 = 4 every other change is recorded and is one decoded count, forward where A
leads B. An edge of the encoder in use, without fallback, blocks clocked and the loop running: the first of
SEEDING places the loop at the edge and keeps it as edge a; one in TRACKING updates position and velocity by
the alpha-beta rule with 2412h. A Z edge keeps the count, and with 240xh.05 not 0 a count since the last Z
edge that differs from it counts in 2415h.04. Open points follow the model's choices of log entries 32, 128.
(R138, R139, R141, R142, R145) -/
def Obligations.EncoderEdges : Prop :=
  (∀ (t : Nat) (i : Fin 2) (s : State),
    (∃ u, exec (.encoderEdge t i .quadError) s = .next u ∧
      (s.core.obj (0x2400 + i.val) 1 ≠ 0 → u.core = ({ s.core.encBoth i.val with
        dict := (s.core.bump 0x2415 2).dict } : Core).under u.core)) ∧
    (∃ u, exec (.encoderEdge t i .overrun) s = .next u ∧
      u.core = ({ s.core with dict := (s.core.bump 0x2415 3).dict } : Core).under u.core)) ∧
  (∀ (t : Nat) (i : Fin 2) (k : EdgeKind) (s : State), (k = .forward ∨ k = .backward) →
    s.core.clk.tHeld = true → s.core.tooFast (s.at_ t) i.val = false →
    ∃ u, exec (.encoderEdge t i k) s = .next u ∧
      u.core = ({ s.core with
        dict := if s.core.decoded i.val then (s.core.bump 0x2415 1).dict else s.core.dict,
        mot := { s.core.mot with encs := modAt s.core.mot.encs i.val (fun e => { e with
        decodedAt := some (s.at_ t), count := e.count + (if (s.core.obj (0x2400 + i.val) 1 == 0 || k == .forward) !=
          s.core.flag (0x2400 + i.val) 3 then 1 else -1) }) } } : Core).under u.core) ∧
  (∀ (t stood : Nat) (i : Fin 2) (lineA level : Bool) (s : State),
    ∃ u, exec (.encoderEdge t i (.change lineA level stood)) s = .next u ∧
      (stood < 4 * s.core.obj (0x2400 + i.val) 4 → u.core = s.core.under u.core) ∧
      (4 * s.core.obj (0x2400 + i.val) 4 ≤ stood → s.core.obj (0x2400 + i.val) 1 = 4 →
        level ≠ (if lineA then (s.core.enc i.val).a else (s.core.enc i.val).b) →
        exec (.encoderEdge t i (if (if lineA then level != (s.core.enc i.val).b
            else level == (s.core.enc i.val).a) then .forward else .backward))
          { s with core := s.core.mapEnc i.val (fun e =>
            if lineA then { e with a := level } else { e with b := level }) } = .next u)) ∧
  (∀ (t : Nat) (i : Fin 2) (k : EdgeKind) (e : Rat) (s : State), (k = .forward ∨ k = .backward) →
    s.core.tooFast (s.at_ t) i.val = false →
    s.core.clk.tHeld = false → s.core.blocksOn = true → i.val = s.core.mot.encInUse → s.core.loopRuns = true →
    s.core.obj 0x2402 0 ≠ 2 → s.core.mot.loop = .seeding → s.core.mot.seedEdge = none →
    e = (s.core.encCount i.val (k == .forward)).rawPos i.val →
    ∃ u, exec (.encoderEdge t i k) s = .next u ∧ u.core.mot.loop = .seeding ∧
      u.core.mot.xHat = e + (s.core.enc i.val).off ∧ u.core.mot.tPrev = s.at_ t ∧
      u.core.mot.seedEdge = some (e, s.at_ t) ∧ u.core.mot.lastEdge = some (e, s.at_ t)) ∧
  (∀ (t : Nat) (i : Fin 2) (k : EdgeKind) (e dt xp : Rat) (s : State), (k = .forward ∨ k = .backward) →
    s.core.tooFast (s.at_ t) i.val = false →
    s.core.clk.tHeld = false → s.core.blocksOn = true → i.val = s.core.mot.encInUse → s.core.loopRuns = true →
    s.core.obj 0x2402 0 ≠ 2 → s.core.mot.loop = .tracking → s.core.mot.tPrev < s.at_ t →
    e = (s.core.encCount i.val (k == .forward)).rawPos i.val + (s.core.enc i.val).off →
    dt = (s.at_ t : Rat) - (s.core.mot.tPrev : Rat) → xp = s.core.mot.xHat + s.core.mot.vHat * dt →
    ∃ u, exec (.encoderEdge t i k) s = .next u ∧
      u.core.mot.xHat = xp + (s.core.obj 0x2412 1 : Rat) / 65536 * (e - xp) ∧
      u.core.mot.vHat = s.core.mot.vHat + (s.core.obj 0x2412 2 : Rat) / 65536 * (e - xp) / dt ∧
      u.core.mot.tPrev = s.at_ t) ∧
  (∀ (t : Nat) (i : Fin 2) (s : State),
    ∃ u, exec (.encoderZ t i) s = .next u ∧
      u.core.mot = { s.core.mot with encs := modAt s.core.mot.encs i.val (fun e => { e with
        zCount := some (s.core.enc i.val).count }) } ∧
      ((s.core.enc i.val).zCount = none → u.core.dict = s.core.dict) ∧
      (∀ z : Int, (s.core.enc i.val).zCount = some z → s.core.obj (0x2400 + i.val) 5 ≠ 0 →
        ((s.core.enc i.val).count - z).natAbs ≠ s.core.obj (0x2400 + i.val) 5 →
        u.core.dict = (s.core.bump 0x2415 4).dict)) ∧
  (∀ (t : Nat) (i : Fin 2) (k : EdgeKind) (s : State), (k = .forward ∨ k = .backward) →
    s.core.tooFast (s.at_ t) i.val = true →
    ∃ u, exec (.encoderEdge t i k) s = .next u ∧
      u.core = ({ s.core with dict := (s.core.bump 0x2415 3).dict } : Core).under u.core)

/-- In a job whose loop runs, where no edge of the encoder in use has come for the loss time of its own
count pitch, at the stop speed or above it, ENCODER_LOST makes the loop COASTING from that moment with 7310h
active, position extrapolated and velocity kept; with fallback, ENC0 in use and an edge of ENC1 within the
loss time, ENC1 takes over instead and the loop goes on. Below the stop speed STOP_DECLARED makes the loop
STOPPED and exposures cease, position kept. COASTING past 2413h.02, outside COMPLINE, COASTING_LIMIT makes
it LOST with 7311h active. In a job, with velocimetry on and the loop not coasting, a sample whose four rows
give a speed is kept and counted in 2440h.08, one that is not valid is neither, and its rows leave the
velocimeter; with velocimetry off a sample changes nothing. A lapse, the loop not coasting, decides 2440h.02
by the samples of the last 2.0 ms and changes nothing else but the record of that. Open points follow the
model's choices of log entries 34, 152. (R140, R159, R161, R164, R167) -/
def Obligations.LossStopAndVelocimetry : Prop :=
  (∀ (t last : Nat) (s : State), s.core.loopRuns = true →
    [LoopState.seeding, .tracking, .slewing, .overspeed, .reversed].contains s.core.mot.loop = true →
    last = max (max s.core.edgeA.2 s.core.mot.tPrev) ((s.core.enc s.core.mot.encInUse).lastAt.getD 0) →
    s.core.lossTime s.core.mot.encInUse ≤ (s.at_ t : Rat) - (last : Rat) →
    s.core.stopSpeed ≤ absR (s.core.speed s.core.mot.vHat) → s.core.obj 0x2402 0 ≠ 2 →
    ∃ u, exec (.encoderLost t) s = .next u ∧ u.core.mot.loop = .coasting ∧ u.core.mot.coastFrom = s.at_ t ∧
      u.core.active 0x7310 s.core.mot.encInUse = true ∧ u.core.mot.tPrev = s.at_ t ∧
      u.core.mot.xHat = s.core.mot.xHat +
        s.core.mot.vHat * ((s.at_ t : Rat) - (s.core.mot.tPrev : Rat))) ∧
  (∀ (t a last : Nat) (s : State), s.core.loopRuns = true →
    [LoopState.seeding, .tracking, .slewing, .overspeed, .reversed].contains s.core.mot.loop = true →
    last = max (max s.core.edgeA.2 s.core.mot.tPrev) ((s.core.enc s.core.mot.encInUse).lastAt.getD 0) →
    s.core.lossTime s.core.mot.encInUse ≤ (s.at_ t : Rat) - (last : Rat) →
    s.core.stopSpeed ≤ absR (s.core.speed s.core.mot.vHat) → s.core.obj 0x2402 0 = 2 →
    s.core.mot.encInUse = 0 → (s.core.enc 1).lastAt = some a →
    (s.at_ t : Rat) - (a : Rat) < s.core.lossTime 1 →
    ∃ u, exec (.encoderLost t) s = .next u ∧ u.core.mot.encInUse = 1 ∧ u.core.mot.loop = s.core.mot.loop ∧
      u.core.mot.xHat = s.core.mot.xHat ∧ u.core.active 0x7310 0 = true) ∧
  (∀ (t last : Nat) (s : State), s.core.loopRuns = true →
    [LoopState.seeding, .tracking, .slewing, .overspeed, .reversed].contains s.core.mot.loop = true →
    last = max (max s.core.edgeA.2 s.core.mot.tPrev) ((s.core.enc s.core.mot.encInUse).lastAt.getD 0) →
    s.core.lossTime s.core.mot.encInUse ≤ (s.at_ t : Rat) - (last : Rat) →
    absR (s.core.speed s.core.mot.vHat) < s.core.stopSpeed →
    ∃ u, exec (.stopDeclared t) s = .next u ∧ u.core.mot.loop = .stopped ∧ u.core.mot.noExpose = true ∧
      u.core.mot.xHat = s.core.mot.xHat) ∧
  (∀ (t : Nat) (s : State), s.core.mot.loop = .coasting → s.core.mode ≠ .compline →
    s.core.mot.coastFrom + s.core.obj 0x2413 2 * 1000 < s.at_ t →
    ∃ u, exec (.coastingLimit t) s = .next u ∧ u.core.mot.loop = .lost ∧ u.core.active 0x7311 0 = true ∧
      u.core.mot.xHat = s.core.mot.xHat) ∧
  (∀ (t m : Nat) (south : Bool) (s : State), s.core.job.running = true →
    s.core.inspecting = true → s.core.flag 0x2440 1 = true → s.core.coasting = false →
    ∃ u, exec (.velocimetrySample t south m) s = .next u ∧
      u.core.mot.samples = s.core.mot.samples ++ ((s.core.sampleOf south m).map (fun x => (s.at_ t, x))).toList ∧
      u.core.obj 0x2440 8 = (if (s.core.sampleOf south m).isSome then s.core.bump 0x2440 8 else s.core).obj 0x2440 8 ∧
      u.core.pipe = (s.core.veloTake south m).pipe ∧ u.core.mot.loop = s.core.mot.loop) ∧
  (∀ (t m : Nat) (south : Bool) (s : State), s.core.flag 0x2440 1 = false →
    ∃ u, exec (.velocimetrySample t south m) s = .next u ∧ u.core = s.core.under u.core) ∧
  (∀ (t : Nat) (s : State), s.core.coasting = false →
    ∃ u, exec (.velocimetryValidityLapse t) s = .next u ∧
      u.core.obj 0x2440 2 =
        (if 8 ≤ (s.core.mot.samples.filter (fun p => s.at_ t ≤ p.1 + 2000000)).length then 1 else 0) ∧
      s.core.keeps u.core [(0x2440, 2)] ∧
      u.core = ({ s.core with
        dict := u.core.dict, mot := { s.core.mot with veloLog := u.core.mot.veloLog } } : Core).under u.core)

/-- In a SHEET job that is not ending, PLL-T's outputs not held, an edge of the selected input in the
selected direction: with encoder timing, as the job's first trigger, starts an open sheet of 2460h.04 lines
at the first coordinate at or beyond the trigger's position plus 2460h.05; within 2460h.07 of the last
trigger it counts in 2460h.08 and starts none; with timed operation, the exposures of any burst all made, it
starts a burst of 2460h.04 + 259 + N exposures, delayed by 2460h.05 periods, and a sheet.
SHEET_LIMIT_REACHED with encoder timing leaves no sheet open whose lines the entry row has passed, and
changes nothing but which sheets are open. A TRIG edge sets the level of its pin; in WEB, where the loop
runs, it is placed on the web at the web's position; outside WEB, with no tinker engine's debugging command
waiting for its tick, it changes nothing else of the sequencer and no object. Open points follow the model's
choices of log entry 37. (R169, R170, R171, R172) -/
def Obligations.SheetsAndTriggers : Prop :=
  (∀ (t : Nat) (i : Fin 4) (rising : Bool) (s : State), s.core.mode = .sheet → s.core.job.running = true →
    s.core.job.ending = none → s.core.clk.tHeld = false → s.core.obj 0x2460 2 = i.val →
    (s.core.obj 0x2460 3 == 0) = rising → s.core.timedJob = false → s.core.mot.lastTrig = none →
    ∃ u sh, exec (.sheetTrigger t i rising) s = .next u ∧ u.core.mot.sheets.getLast? = some sh ∧
      u.core.mot.sheets.length = s.core.mot.sheets.length + 1 ∧
      sh.coord = (s.core.xAt (s.at_ t) + (s.core.obj 0x2460 5 : Rat)).ceil ∧ sh.len = s.core.obj 0x2460 4 ∧
      sh.open_ = true ∧ u.core.mot.lastTrig = some (s.core.xAt (s.at_ t))) ∧
  (∀ (t : Nat) (i : Fin 4) (rising : Bool) (y : Rat) (s : State), s.core.mode = .sheet →
    s.core.job.running = true → s.core.job.ending = none → s.core.clk.tHeld = false →
    s.core.obj 0x2460 2 = i.val → (s.core.obj 0x2460 3 == 0) = rising → s.core.timedJob = false →
    s.core.noDebug = true → s.core.mot.lastTrig = some y → s.core.xAt (s.at_ t) - y < (s.core.obj 0x2460 7 : Rat) →
    ∃ u, exec (.sheetTrigger t i rising) s = .next u ∧ u.core.mot = s.core.mot ∧
      u.core.dict = (s.core.bump 0x2460 8).dict) ∧
  (∀ (t : Nat) (i : Fin 4) (rising : Bool) (s : State), s.core.mode = .sheet → s.core.job.running = true →
    s.core.job.ending = none → s.core.clk.tHeld = false → s.core.obj 0x2460 2 = i.val →
    (s.core.obj 0x2460 3 == 0) = rising → s.core.timedJob = true → s.core.mot.burstLeft = 0 →
    s.core.mot.burstEnd ≤ s.at_ t →
    ∃ u, exec (.sheetTrigger t i rising) s = .next u ∧
      u.core.mot.burstLeft = s.core.obj 0x2460 4 + 259 + s.core.tdi ∧
      u.core.mot.burstAt = s.at_ t + s.core.obj 0x2460 5 * (4 * s.core.obj 0x2460 6) ∧
      u.core.mot.burstNext = 0 ∧ u.core.mot.sheets.length = s.core.mot.sheets.length + 1) ∧
  (∀ (t : Nat) (s : State),
    ∃ u, exec (.sheetLimitReached t) s = .next u ∧
      u.core.mot.sheets.length = s.core.mot.sheets.length ∧
      (s.core.timedJob = false → ∀ sh ∈ u.core.mot.sheets, sh.open_ = true →
        (s.core.entryAt (s.core.xAt (s.at_ t))).floor < sh.coord + (sh.len : Int)) ∧
      u.core = ({ s.core with mot := { s.core.mot with sheets := u.core.mot.sheets } } : Core).under u.core) ∧
  (∀ (t : Nat) (i : Fin 4) (rising : Bool) (s : State),
    ∃ u, exec (.trigEdge t i rising) s = .next u ∧ u.core.tk.trig.getLsbD i.val = rising ∧
      (s.core.mode = .web → s.core.loopRuns = true →
        u.core.mot = { s.core.mot with cuts := s.core.mot.cuts ++ [(i.val, s.core.xAt (s.at_ t))] }) ∧
      (s.core.mode ≠ .web → s.core.noDebug = true → u.core.mot = s.core.mot ∧ u.core.dict = s.core.dict))

/-- Where the loop runs, exposes and is not coasting, at the commit point of the exposure in turn, with no
unit due and no slew under way, the exposure is scheduled at its target: its centre is the time at which the
web reaches it, or as late as 10 ticks after each stripe's last transfer demand, on the nearest nanosecond;
each stripe resets half its exposure time before, at the nearest tick, and transfers its exposure time
later; and the next target is in turn. With a burst under way its next exposure is made at its commit point;
with one exposure a period, that is counted off the burst. A reset edge is kept once, at its tick and not
before; a transfer edge likewise, after its reset and where no charge waits in its storage node, else
nothing changes. At the start instant of an epoch or sheet the next unit begins, with a generation of its
own from its first web line on. A row slot that nothing else needs, in a job, goes to a row of a velocimetry
sample where velocimetry is on, can use it and is in turn, or the clear stripe holds no charge; else to
black rows where the stripe holds charge, else to neither; and the turn passes. Open points follow the
model's choices of log entries 36, 39, 47, 129, 130. (R146, R147, R166, R171, R179) -/
def Obligations.Exposures : Prop :=
  (∀ (t : Nat) (c : Rat) (held : Bool) (e : Nat → Nat) (s : State), s.core.timedJob = false → s.core.exposes = true →
    s.core.exposDone = false → s.core.coasting = false → s.core.centreFor = some (c, held) →
    c - s.core.commitLead s.core.nextTarget s.core.mot.nextB ≤ (s.at_ t : Rat) →
    s.core.unitDue (s.at_ t) = false → s.core.mot.slewLeft = 0 →
    (∀ k, e k = (s.core.expoTicks s.core.nextTarget s.core.mot.nextB).getD k 0) →
    ∃ u x, exec (.exposureCommitPoint t) s = .next u ∧ u.core.mot.expos = s.core.mot.expos ++ [x] ∧
      x.target = s.core.nextTarget ∧ x.b = s.core.mot.nextB ∧ x.m = ofSigned 32 s.core.mot.nextM ∧
      x.centre = (ratEven (max c (s.core.resetFloor (fun k => ((2 * e k : Nat) : Rat))))).toNat ∧
      x.resetAt = (List.range 6).map (fun k =>
        toTick (max c (s.core.resetFloor (fun j => ((2 * e j : Nat) : Rat))) - ((2 * e k : Nat) : Rat))) ∧
      (∀ k, k < 6 → x.xferAt.getD k 0 = x.resetAt.getD k 0 + 4 * e k) ∧ x.state = .pending ∧ u.core.mot.lastCentre = some x.centre ∧
      u.core.mot.nextM = (if s.core.dual && !s.core.mot.nextB then s.core.mot.nextM else s.core.mot.nextM + 1) ∧
      u.core.dict = s.core.dict) ∧
  (∀ (t : Nat) (s : State), s.core.timedJob = true → s.core.mot.burstLeft ≠ 0 → s.core.clk.tHeld = false →
    s.core.job.running = true → s.core.burstReset - ((4 * (s.core.obj 0x2450 0 + 16) : Nat) : Rat) ≤ (s.at_ t : Rat) →
    ∃ u x, exec (.exposureCommitPoint t) s = .next u ∧ u.core.mot.expos = s.core.mot.expos ++ [x] ∧
      x.target = s.core.nextTarget ∧ x.b = s.core.mot.nextB ∧
      (s.core.dual = false → s.core.mot.nextB = false →
        u.core.mot.burstLeft + 1 = s.core.mot.burstLeft ∧ u.core.mot.burstNext = s.core.mot.burstNext + 1)) ∧
  (∀ (t m : Nat) (b : Bool) (k : Fin 6) (s : State), s.core.clk.tHeld = false →
    ∃ u, exec (.exposureReset t m b k) s = .next u ∧
      u.core = ({ s.core with mot := { s.core.mot with expos := s.core.mot.expos.map (fun x =>
        if x.m == m && x.b == b && (x.resets.getD k.val none).isNone &&
            decide (x.resetAt.getD k.val 0 ≤ s.at_ t) then
          { x with resets := modAt x.resets k.val (fun _ => some (x.resetAt.getD k.val 0)) }
        else x) } } : Core).under u.core) ∧
  (∀ (t m a : Nat) (b : Bool) (k : Fin 6) (y : Expo) (s : State), s.core.clk.tHeld = false →
    s.core.findExpo m b = some y → y.xferAt.getD k.val 0 = a →
    ∃ u, exec (.exposureTransfer t m b k) s = .next u ∧
      ((y.resets.getD k.val none).isSome = true → y.xfers.getD k.val none = none → a ≤ s.at_ t →
        (∀ z ∈ s.core.mot.expos, z.sn2 = y.sn2 → s.core.chargeWaits k.val z = false) →
        u.core = ({ s.core with mot := { s.core.mot with expos := s.core.mot.expos.map (fun x =>
          if x.m == m && x.b == b then { x with xfers := modAt x.xfers k.val (fun _ => some a) }
          else x) } } : Core).under u.core) ∧
      ((y.resets.getD k.val none = none ∨ (y.xfers.getD k.val none).isSome = true ∨ s.at_ t < a ∨
        (∃ z ∈ s.core.mot.expos, z.sn2 = y.sn2 ∧ s.core.chargeWaits k.val z = true)) →
        u.core = s.core.under u.core)) ∧
  (∀ (t n : Nat) (s : State), s.core.loopRuns = true → s.core.unitDue (s.at_ t) = true →
    s.core.nextUnit = some n →
    ∃ u g, exec (.epochStart t) s = .next u ∧ u.core.pipe.curUnit = s.core.pipe.curUnit + 1 ∧
      u.core.pipe.gens = s.core.pipe.gens ++ [g] ∧ g.first = n ∧ g.start = s.core.stamp (s.at_ t)) ∧
  (∀ (t : Nat) (south fits : Bool) (s : State), s.core.job.running = true →
    s.core.slotFree3 (s.at_ t) south = true →
    ∃ u, exec (.freeRowSlot t south fits) s = .next u ∧
      (s.core.flag 0x2440 1 = false ∨ (s.core.mot.veloTurn.getD (b2n south) true = false ∧
          s.core.blackHeld south (s.at_ t) = true) ∨ s.core.veloUse (s.at_ t) south fits = none →
        u.core.mot.slotFor = modAt s.core.mot.slotFor (b2n south)
          (fun _ => if s.core.blackHeld south (s.at_ t) then 2 else 0) ∧
        u.core.mot.veloSamps = s.core.mot.veloSamps) ∧
      (∀ r l, s.core.flag 0x2440 1 = true → (s.core.mot.veloTurn.getD (b2n south) true = true ∨
          s.core.blackHeld south (s.at_ t) = false) → s.core.veloUse (s.at_ t) south fits = some (r, l) →
        u.core.mot.slotFor = modAt s.core.mot.slotFor (b2n south) (fun _ => 1) ∧
        u.core.mot.slotRow = modAt s.core.mot.slotRow (b2n south) (fun _ => r) ∧ u.core.mot.veloSamps = l) ∧
      u.core = ({ s.core with walks := u.core.walks, mot := { s.core.mot with
        veloTurn := modAt s.core.mot.veloTurn (b2n south) (fun v => !v), slotFor := u.core.mot.slotFor,
        slotFrom := modAt s.core.mot.slotFrom (b2n south) (fun _ => s.at_ t), slotRow := u.core.mot.slotRow,
        veloSamps := u.core.mot.veloSamps } } : Core).under u.core)

/-- While PLL-T's outputs are not held, ALARM_DEADLINE leaves no alarm of its channel open whose deadline
has passed and every alarm of the other channels as it was, and the one open alarm of its channel, its
deadline passed and its outcome unknown, is retracted with TIMEOUT under its number, on the bus and in
2421h.06. Where 2490h.00 may be written and the pending exposure times fit the shortest period: a motion
commit with none latched latches the pending values; while a job runs in WEB or SHEET they wait and no
object changes; else a pending value of 2420h, 2430h or 2431h is in force at once, 2491h.00 counts, no other
object changes and nothing stays pending. One while another is latched is answered with 0800 0029h (process
data has no answer) and changes nothing. Open points follow the model's choices of log entry 151. (R158,
R174, R274) -/
def Obligations.AlarmDeadlinesAndMotionCommit : Prop :=
  (∀ (t : Nat) (ch : Fin 64) (s : State), s.core.clk.tHeld = false →
    ∃ u, exec (.alarmDeadline t ch) s = .next u ∧
      (∀ a ∈ u.core.eng.opens, a.ch = ch.val → s.at_ t < a.deadline) ∧
      u.core.eng.opens.filter (fun a => a.ch != ch.val) = s.core.eng.opens.filter (fun a => a.ch != ch.val)) ∧
  (∀ (t : Nat) (ch : Fin 64) (a : OpenAlarm) (s : State), s.core.clk.tHeld = false →
    s.core.eng.opens.filter (fun x => x.ch == ch.val) = [a] → a.deadline ≤ s.at_ t → a.known = none →
    ∃ u, exec (.alarmDeadline t ch) s = .next u ∧
      u.core.eng.bus = s.core.eng.bus ++ [⟨alarmWord ch.val 2 2 a.num, ch.val, a.early⟩] ∧
      s.puts u [.alarm (alarmWord ch.val 2 2 a.num)] ∧ u.core.dict = (s.core.bump 0x2421 6).dict) ∧
  (∀ (t : Nat) (o : Orig) (s : State), s.core.mayWrite o 0x2490 0 1 → (s.core.bank 4).latch = none →
    s.core.exposFit (fun i k => (s.core.pendingView i k).1) = true → s.core.commitWaits = true →
    ∃ u, exec (.motionCommit t o 1) s = .next u ∧ u.core.dict = s.core.dict ∧
      u.core.banks = modAt s.core.banks 4 (fun k => { k with
        latch := some k.pend, pend := [], latchAt := s.at_ t })) ∧
  (∀ (t idx sub v : Nat) (o : Orig) (s : State), s.core.mayWrite o 0x2490 0 1 → (s.core.bank 4).latch = none →
    s.core.exposFit (fun i k => (s.core.pendingView i k).1) = true → s.core.commitWaits = false →
    (s.core.bank 4).pend = [(key idx sub, v)] → sub < 256 → idx ∈ [0x2420, 0x2430, 0x2431] →
    ∃ u, exec (.motionCommit t o 1) s = .next u ∧ u.core.obj idx sub = v ∧
      u.core.obj 0x2491 0 = (s.core.obj 0x2491 0 + 1) % 2 ^ 32 ∧
      s.core.keeps u.core [(idx, sub), (0x2491, 0)] ∧ (u.core.bank 4).pend = [] ∧ (u.core.bank 4).latch = none) ∧
  (∀ (t : Nat) (o : Orig) (s : State), s.core.mayWrite o 0x2490 0 1 → o ≠ .pdo →
    (s.core.bank 4).latch.isSome = true → s.core.exposFit (fun i k => (s.core.pendingView i k).1) = true →
    ∃ u, exec (.motionCommit t o 1) s = .next u ∧ u.core = s.core.under u.core ∧
      s.puts u [.answer o 0x2490 0 0x08000029])

/-- Encoder edges, loss, stop, coasting, velocimetry, sheets, triggers, commit points, exposure edges, row
conversions, free slots, epoch starts and alarm deadlines, where they answer, change no owner, no mode, no
job, no clock, no link, no reference buffer, no domain bytes, no on-die memory, no byte and no controller
state of the DRAM, no mailbox, no two-wire state, and neither a transition nor a running calibration
(triggers and TRIG edges while no tinker engine's debugging command waits for its tick). (R138, R146, R152,
R159, R170) -/
def Obligations.MotionFrame : Prop :=
  ∀ (i : Instr) (s u : State), exec i s = .next u →
    ((∃ t e k, i = .encoderEdge t e k) ∨ (∃ t e, i = .encoderZ t e) ∨ (∃ t, i = .encoderLost t) ∨
      (∃ t, i = .stopDeclared t) ∨ (∃ t, i = .coastingLimit t) ∨
      (∃ t w m, i = .velocimetrySample t w m) ∨ (∃ t, i = .velocimetryValidityLapse t) ∨
      (∃ t k r, i = .sheetTrigger t k r ∧ s.core.noDebug = true) ∨ (∃ t, i = .sheetLimitReached t) ∨
      (∃ t k r, i = .trigEdge t k r ∧ s.core.noDebug = true) ∨
      (∃ t, i = .exposureCommitPoint t) ∨ (∃ t m b k, i = .exposureReset t m b k) ∨
      (∃ t m b k, i = .exposureTransfer t m b k) ∨ (∃ t g w k a l, i = .rowConversion t g w k a l) ∨
      (∃ t w a, i = .freeRowSlot t w a) ∨ (∃ t, i = .epochStart t) ∨ (∃ t c, i = .alarmDeadline t c)) →
    u.mem = s.mem ∧ u.core.owners = s.core.owners ∧ u.core.mode = s.core.mode ∧ u.core.trans = s.core.trans ∧
    u.core.job = s.core.job ∧ u.core.clk = s.core.clk ∧ u.core.links = s.core.links ∧
    u.core.refs = s.core.refs ∧ u.core.doms = s.core.doms ∧ u.core.sram = s.core.sram ∧
    u.core.dram = s.core.dram ∧ u.core.mbx = s.core.mbx ∧ u.core.tw = s.core.tw ∧ u.core.calRun = s.core.calRun

/-- In a WEB or SHEET job that does not coast, on an enabled segment, at the end of its conversion time: an
active row that its bank has to convert is sent with the raw codes of its columns, full scale where the
comparator did not flip, its tag (the floor of its tag coordinate, PRE_JOB below 0, the low 32 bits of the
scheduled centre's DC time, PROVISIONAL, SETTLE, COASTED, CLOCK_INVALID and DC_FREE), its hold time, its
bank's ping or pong, and 2 µs to arrive; a black row, or a velocimetry row, that is due is sent with its raw
codes. The oldest packet in flight of a segment, at the head of its lane's schedule with no row delivered
before it and of a web line of the job, over a link that carries rows: arriving whole it joins its line;
with a CRC error it stands BLIND there and is counted in 3106h and 3107h; 2 µs late it stands BLIND, and
before that its timeout changes nothing. The line in turn, wanted and done in every context, completes with
one record per context, provisional and counted in 2620h.04 while a row of it is pending, resolved at once
where none is and every line before it is. The line whose resolution is in turn resolves once no row of it
is pending. Open points follow the model's choices of log entries 46, 48, 132, 133. (R106, R107, R108, R150,
R184, R202, R203, R426) -/
def Obligations.RowsToLines : Prop :=
  (∀ (t m row start tx : Nat) (seg : Fin 8) (south b : Bool) (k : Fin 6) (cols : List ColSample) (x : Expo)
      (s : State), s.core.segOn seg.val = true → s.core.inspecting = true → s.core.job.running = true →
    s.core.coasting = false → start + s.core.convTime seg.val ≤ s.at_ t →
    s.core.activeDue seg.val south m b k.val row start = some (x, tx) →
    ∃ u p, exec (.rowConversion t seg south (.active m b k row) start cols) s = .next u ∧
      u.core.pipe.inFlight = s.core.pipe.inFlight ++ [p] ∧ p.seg = seg.val ∧ p.south = south ∧
      p.kind = .active m b k row ∧ p.raw = cols.map (rawCode s.core.depth) ∧ p.hold = start - tx ∧
      p.centre = s.core.stamp x.centre % 2 ^ 32 ∧ p.coord = (s.core.tagCoord x (s.core.rowCoord x k.val row)).floor ∧
      p.due = s.at_ t + 2000 ∧ p.pong = (s.core.walk (2 * seg.val + b2n south)).pong ∧
      p.flags.preJob = decide (s.core.tagCoord x (s.core.rowCoord x k.val row) < 0) ∧
      p.flags.provisional = (x.state == .pending && !s.core.timedJob) ∧ p.flags.coasted = x.coasted ∧
      p.flags.settle = s.core.rowSettles (2 * seg.val + b2n south) x k.val row ∧
      p.flags.clockBad = s.core.clockBad seg.val (2 * seg.val + b2n south) start ∧
      p.flags.dcFree = s.core.dcFree) ∧
  (∀ (t start : Nat) (seg : Fin 8) (south : Bool) (kind : RowKind) (cols : List ColSample) (s : State),
    s.core.segOn seg.val = true → s.core.inspecting = true → s.core.job.running = true →
    s.core.coasting = false → start + s.core.convTime seg.val ≤ s.at_ t →
    ((∃ j : Fin 8, kind = .black j ∧ s.core.blackDue seg.val south j.val start = true) ∨
      (∃ m r47, kind = .velo m r47 ∧ s.core.veloDue seg.val south m r47 start = true)) →
    ∃ u p, exec (.rowConversion t seg south kind start cols) s = .next u ∧
      u.core.pipe.inFlight = s.core.pipe.inFlight ++ [p] ∧ p.kind = kind ∧
      p.raw = cols.map (rawCode s.core.depth)) ∧
  (∀ (t line : Nat) (seg : Fin 8) (k : Fin 6) (p : RowPkt) (x : Expo) (row : Nat) (l : List (Expo × Nat × Nat))
      (s : State), s.core.pipe.inFlight.find? (fun q => q.seg == seg.val) = some p →
    p.kind = .active x.m x.b k row → s.core.job.running = true →
    s.core.schedule p.south = (x, k.val, row) :: l → alook s.core.pipe.lastRow (2 * seg.val + b2n p.south) = none →
    0 ≤ s.core.tagCoord x (s.core.rowCoord x k.val row) →
    s.core.lineOf (s.core.rowCoord x k.val row).floor = some line → s.core.linkCarries seg.val = true →
    (∃ u r, exec (.rowPacketArrival t seg true true) s = .next u ∧
      u.core.pipe.inFlight = s.core.pipe.inFlight.erase p ∧ u.core.pipe.rows = s.core.pipe.rows ++ [r] ∧
      r.line = line ∧ r.m = x.m ∧ r.b = x.b ∧ r.stripe = k.val ∧ r.row = row ∧ r.seg = seg.val ∧
      r.blind = false) ∧
    (∃ u r, exec (.rowPacketArrival t seg false true) s = .next u ∧
      u.core.pipe.inFlight = s.core.pipe.inFlight.erase p ∧ u.core.pipe.rows = s.core.pipe.rows ++ [r] ∧
      r.line = line ∧ r.row = row ∧ r.seg = seg.val ∧ r.blind = true ∧ r.ys = [] ∧
      u.core.obj 0x3107 (seg.val + 1) = (s.core.bump 0x3107 (seg.val + 1)).obj 0x3107 (seg.val + 1) ∧
      u.core.obj 0x3106 (seg.val + 1) = (s.core.bump 0x3106 (seg.val + 1)).obj 0x3106 (seg.val + 1)) ∧
    (p.due ≤ s.at_ t → ∃ u r, exec (.rowPacketTimeout t seg) s = .next u ∧
      u.core.pipe.inFlight = s.core.pipe.inFlight.erase p ∧ u.core.pipe.rows = s.core.pipe.rows ++ [r] ∧
      r.line = line ∧ r.row = row ∧ r.blind = true) ∧
    (s.at_ t < p.due → ∃ u, exec (.rowPacketTimeout t seg) s = .next u ∧ u.core = s.core.under u.core)) ∧
  (∀ (t n : Nat) (s : State), s.core.pipe.nextLine = n → s.core.lineWanted n = true →
    (∀ x ∈ s.core.lineCtxs, s.core.lineDone x n = true) →
    ∃ u ls, exec (.lineComplete t) s = .next u ∧ u.core.pipe.lines = s.core.pipe.lines ++ ls ∧
      ls.map (·.ctx) = s.core.lineCtxs ∧ (∀ l ∈ ls, l.n = n) ∧ u.core.pipe.nextLine = n + 1 ∧
      ((∃ x ∈ s.core.lineCtxs, s.core.lineSettled x n = false) → u.core.pipe.nextRes = s.core.pipe.nextRes ∧
        (∀ l ∈ ls, l.res = none ∧ 128 ≤ l.status) ∧
        u.core.obj 0x2620 4 = (s.core.bump 0x2620 4).obj 0x2620 4) ∧
      (s.core.pipe.nextRes = n → (∀ x ∈ s.core.lineCtxs, s.core.lineSettled x n = true) →
        u.core.pipe.nextRes = n + 1 ∧ ∀ l ∈ ls, l.res.isSome = true)) ∧
  (∀ (t n : Nat) (s : State), s.core.pipe.nextRes = n →
    (∃ l ∈ s.core.pipe.lines, l.n = n ∧ l.res = none) →
    (∀ l ∈ s.core.pipe.lines, l.n = n → l.res = none → s.core.lineSettled l.ctx n = true) →
    ∃ u, exec (.lineResolved t) s = .next u ∧ u.core.pipe.nextRes = n + 1 ∧
      u.core.pipe.nextLine = s.core.pipe.nextLine ∧ u.core.pipe.lines.length = s.core.pipe.lines.length)

/-- Where 2801h may be written, a commit with none latched (of C0 with the pending merge limits in order)
latches the pending values: while a job runs in WEB or SHEET for C0 and C1, and while the context carries
data for C2 and C3, they wait, 2803h reads 1, and no other object changes; else a pending value is in force
at once, the generation in 2802h counts, 2803h reads 0, no other object changes and nothing stays pending or
latched. A discard drops the pending values and changes nothing else. Open points follow the model's choices
of log entry 52. (R216, R217, R218) -/
def Obligations.ContextCommits : Prop :=
  (∀ (t : Nat) (o : Orig) (n : Fin 4) (s : State), s.core.mayWrite o 0x2801 (n.val + 1) 5 →
    (s.core.bank n.val).latch = none →
    (n.val = 0 → (s.core.pendingView 0x2630 2).1 < (s.core.pendingView 0x2630 3).1) →
    (if n.val < 2 then s.core.commitWaits else s.core.carries n.val) = true →
    ∃ u, exec (.contextCommit t o n) s = .next u ∧ u.core.obj 0x2803 (n.val + 1) = 1 ∧
      s.core.keeps u.core [(0x2803, n.val + 1)] ∧
      u.core.banks = modAt s.core.banks n.val (fun k => { k with
        latch := some k.pend, pend := [], latchAt := s.at_ t })) ∧
  (∀ (t idx sub v : Nat) (o : Orig) (n : Fin 4) (s : State), s.core.mayWrite o 0x2801 (n.val + 1) 5 →
    (s.core.bank n.val).latch = none →
    (n.val = 0 → (s.core.pendingView 0x2630 2).1 < (s.core.pendingView 0x2630 3).1) →
    (if n.val < 2 then s.core.commitWaits else s.core.carries n.val) = false →
    (s.core.bank n.val).pend = [(key idx sub, v)] → sub < 256 → bankOf idx sub = some n.val →
    ∃ u, exec (.contextCommit t o n) s = .next u ∧ u.core.obj idx sub = v ∧
      u.core.obj 0x2802 (n.val + 1) = (s.core.obj 0x2802 (n.val + 1) + 1) % 2 ^ 32 ∧
      u.core.obj 0x2803 (n.val + 1) = 0 ∧
      s.core.keeps u.core [(idx, sub), (0x2802, n.val + 1), (0x2803, n.val + 1)] ∧
      (u.core.bank n.val).pend = [] ∧ (u.core.bank n.val).latch = none) ∧
  (∀ (t : Nat) (o : Orig) (n : Fin 4) (s : State), s.core.mayWrite o 0x2801 (n.val + 1) 5 →
    ∃ u, exec (.contextDiscard t o n) s = .next u ∧
      u.core = ({ s.core with banks := modAt s.core.banks n.val (fun k => { k with pend := [] }) } : Core).under
        u.core)

/-- Where 281xh.01 may be written outside DUSK: 1 asks for the port from its next frame on, 0 turns it off
at once outside a frame and with the frame's end inside one. The active edge of VS, as 281xh.05 has its
polarity, in a WEB or SHEET job that is not ending, on a port that is on, in no frame and with no commit
waiting, starts a frame with the next number, the numbering, tick and position of the moment, and a slot
while fewer than two are taken. A line received for the frame, neither truncated nor full: its pixels are
the samples at the edge that 281xh.05 selects with HS and VS active; as many as the width, with no word of
the on-die memory poisoned, they join it at the depth; of another number they are counted in 281xh.0B; where
the FIFO fills before the last of them the frame is truncated and 281xh.0A counts; where there are none
nothing changes. The inactive edge of VS ends the port's frame. A free side path takes the one frame that
waits, and is free again at the end of that frame's processing where it has ended. Open points follow the
model's choices of log entry 140. (R223, R224, R225, R226, R228) -/
def Obligations.AuxiliaryFrames : Prop :=
  (∀ (t : Nat) (o : Orig) (p : Fin 2) (s : State), s.core.mayWrite o (0x2810 + p.val) 1 5 →
    s.core.mode ≠ .dusk →
    (∃ u, exec (.auxEnable t o p 1) s = .next u ∧ u.core.obj (0x2810 + p.val) 1 = 1 ∧
      s.core.keeps u.core [(0x2810 + p.val, 1)] ∧
      u.core.ctx = { s.core.ctx with ports := modAt s.core.ctx.ports p.val (fun a => { a with
        want := some true }) }) ∧
    (∃ u, exec (.auxEnable t o p 0) s = .next u ∧ u.core.obj (0x2810 + p.val) 1 = 0 ∧
      s.core.keeps u.core [(0x2810 + p.val, 1)] ∧
      u.core.ctx = { s.core.ctx with ports := modAt s.core.ctx.ports p.val (fun a =>
        if a.inFrame then { a with want := some false } else { a with on := false, want := none }) })) ∧
  (∀ (t : Nat) (p : Fin 2) (vs : Bool) (a : AuxPort) (s : State), s.core.ctx.ports.getD p.val {} = a → a.on = true →
    a.want = none → a.inFrame = false → s.core.job.running = true → s.core.inspecting = true →
    s.core.job.ending = none → (s.core.bank (p.val + 2)).latch = none →
    s.core.auxActive p.val 2 vs = true →
    ∃ u r, exec (.auxStartOfFrame t p vs) s = .next u ∧ u.core.ctx.frames = s.core.ctx.frames ++ [r] ∧
      r.port = p.val ∧ r.seqNo = a.seqNo ∧ r.run = s.core.ctx.run ∧ r.start = s.at_ t / 4 * 4 ∧
      r.stamp = s.core.stamp (s.at_ t) / 4 * 4 ∧ r.dcFree = s.core.dcFree ∧ r.pos = s.core.framePos (s.at_ t) ∧
      r.slot = decide ((s.core.ctx.frames.filter (fun f => f.port == p.val && f.slot)).length < 2) ∧
      u.core.ctx.ports = modAt s.core.ctx.ports p.val (fun a => { a with
        inFrame := true, seqNo := (a.seqNo + 1) % 2 ^ 32 }) ∧
      u.core.obj (0x2810 + p.val) 8 = (s.core.bump (0x2810 + p.val) 8).obj (0x2810 + p.val) 8) ∧
  (∀ (t : Nat) (p : Fin 2) (r : AuxFrame) (smp px : List AuxSample) (s : State), s.core.openFrame p.val = some r →
    r.trunc = false → r.count < s.core.obj (0x2810 + p.val) 4 →
    px = smp.filter (fun q => q.falling == (s.core.obj (0x2810 + p.val) 5).testBit 0 &&
      s.core.auxActive p.val 1 q.hs && s.core.auxActive p.val 2 q.vs) →
    ∃ u, exec (.auxLine t p smp) s = .next u ∧
      (px = [] → u.core = s.core.under u.core) ∧
      (px ≠ [] → (∀ q ∈ px, q.full = false) → px.length = s.core.obj (0x2810 + p.val) 3 →
        s.core.sram.poison = [] → u.core.dict = s.core.dict ∧
        u.core.ctx = { s.core.ctx with frames := s.core.ctx.frames.map (fun q =>
          if q.same r then { q with
            count := q.count + 1, trunc := false,
            lines := if q.slot then
              q.lines ++ [px.map (fun x => x.data.toNat % 2 ^ s.core.obj (0x2810 + p.val) 2)] else q.lines }
          else q) }) ∧
      (px ≠ [] → (∀ q ∈ px, q.full = false) → px.length ≠ s.core.obj (0x2810 + p.val) 3 →
        u.core.dict = (s.core.bump (0x2810 + p.val) 11).dict) ∧
      ((∃ q ∈ px, q.full = true) → u.core.dict = (s.core.bump (0x2810 + p.val) 10).dict ∧
        (∀ f ∈ u.core.ctx.frames, f.same r = true → f.trunc = true))) ∧
  (∀ (t : Nat) (p : Fin 2) (vs : Bool) (r : AuxFrame) (s : State), s.core.openFrame p.val = some r →
    s.core.auxActive p.val 2 vs = false →
    ∃ u, exec (.auxEndOfFrame t p vs) s = .next u ∧ (u.core.ctx.ports.getD p.val {}).inFrame = false ∧
      (∀ f ∈ u.core.ctx.frames, f.same r = true → f.ended = true ∧ f.endT = s.core.stamp (s.at_ t)) ∧
      u.core.ctx.frames.length = s.core.ctx.frames.length ∧
      u.core = ({ s.core with ctx := u.core.ctx } : Core).under u.core) ∧
  (∀ (t : Nat) (r : AuxFrame) (s : State), s.core.ctx.sideBusy = none →
    s.core.ctx.frames.filter (fun f => !f.side) = [r] →
    ∃ u, exec (.sidePathFrameStart t) s = .next u ∧
      u.core = ({ s.core with ctx := { s.core.ctx with
        sideBusy := some (r.port, r.run, r.seqNo) } } : Core).under u.core) ∧
  (∀ (t p k n : Nat) (s : State), s.core.ctx.sideBusy = some (p, k, n) →
    (∃ f ∈ s.core.ctx.frames, f.port = p ∧ f.run = k ∧ f.seqNo = n ∧ f.ended = true) →
    ∃ u, exec (.sidePathFrameEnd t) s = .next u ∧ u.core.ctx.sideBusy = none)

/-- The first block due of an array context leaves the queue: with no slot of STR it is not formed, takes no
number and counts in 3210h.0A; with STR open and nothing held it is the 16 384 bytes of STR's next entry,
under its context and next number. The block of a processed auxiliary frame, a slot of STR free, takes the
next number and is no longer due. A tile row that stands first leaves the display, and takes no number from
throttle level 4 on. With no slot of ARC: the picture that stands first leaves the archive branch for
staging, last, with its lines and at most the maximum size, and takes no number yet; an archive suspended,
with the link up, room in staging for two pictures and a gap that ends with its sheet or job, resumes with a
GAP for the lines it missed. The archive suspends, counted in 2840h.08, where it is enabled and the link is
down; with no gap and nothing staged it resumes and nothing else changes. With no machine-vision frame under
way and one line queued: the frame, of more than one line, starts at it where the module does not throttle,
a slot of FDR is free and the line is not the last; while it throttles, the frame is not started, its line
is discarded and 3210h.0A counts. Open points follow the model's choices of log entries 56, 141. (R229,
R237, R238, R239, R240, R442, R452, R457) -/
def Obligations.OutputStreams : Prop :=
  (∀ (t : Nat) (n : Fin 4) (d : Nat × StatAcc) (s : State), n.val < 2 →
    s.core.ctx.due.find? (fun x => x.1 == n.val) = some d →
    ∃ u, exec (.statsBlockWrite t n) s = .next u ∧ u.core.ctx.due = s.core.ctx.due.erase d ∧
      (s.core.slotFree 2 false = false → u.core.ctx.blkSeq = s.core.ctx.blkSeq ∧
        u.core.dict = (s.core.bump 0x3210 10).dict) ∧
      (s.core.ringOpen 2 = true → (s.core.ring 2).held = [] →
        u.core.ctx.blkSeq = modAt s.core.ctx.blkSeq n.val (fun k => (k + 1) % 2 ^ 32) ∧
        (u.core.ring 2).prod = ((s.core.ring 2).prod + 1) % 2 ^ 32 ∧
        (u.core.ring 2).lastOut.length = 16384 ∧ leAt (u.core.ring 2).lastOut 0 1 = n.val ∧
        leAt (u.core.ring 2).lastOut 4 4 = s.core.ctx.blkSeq.getD n.val 0 % 2 ^ 32)) ∧
  (∀ (t : Nat) (p : Fin 2) (n : Fin 4) (r : AuxFrame) (s : State), n.val = p.val + 2 →
    s.core.ctx.frames.find? (fun f => f.port == p.val && f.statsDue) = some r → r.side = true →
    r.run = s.core.ctx.run → s.core.slotFree 2 false = true →
    ∃ u, exec (.statsBlockWrite t n) s = .next u ∧
      u.core.ctx.blkSeq = modAt s.core.ctx.blkSeq n.val (fun k => (k + 1) % 2 ^ 32) ∧
      (∀ f ∈ u.core.ctx.frames, f.same r = true → f.statsDue = false)) ∧
  (∀ (t : Nat) (ls : List LineRec) (s : State), s.core.tileRow = some ls →
    ∃ u, exec (.displayTileRow t) s = .next u ∧ u.core.ctx.disp = s.core.ctx.disp.drop ls.length ∧
      (4 ≤ s.core.throttle → u.core.ctx.tileSeq = s.core.ctx.tileSeq)) ∧
  (∀ (t : Nat) (ls : List LineRec) (s : State), s.core.pictureLines = some ls →
    s.core.slotFree 5 false = false →
    ∃ u p, exec (.archivePicture t) s = .next u ∧ u.core.ctx.arch = s.core.ctx.arch.drop ls.length ∧
      u.core.ctx.staged = s.core.ctx.staged ++ [p] ∧ p.gap = false ∧ p.lines = ls.length ∧
      p.bytes.length ≤ s.core.pictureMax ∧ u.core.ctx.picSeq = s.core.ctx.picSeq) ∧
  (∀ (t : Nat) (s : State), s.core.ctx.suspended = false → s.core.flag 0x2840 1 = true →
    s.core.cxl.hostUp = false →
    ∃ u, exec (.archiveSuspend t) s = .next u ∧ u.core.dict = (s.core.bump 0x2840 8).dict ∧
      u.core.ctx = { s.core.ctx with suspended := true, gapFrom := none }) ∧
  (∀ (t : Nat) (s : State), s.core.ctx.suspended = true → s.core.cxl.hostUp = true →
    s.core.stagingFits 2 = true → s.core.ctx.gapFrom = none → s.core.ctx.staged = [] →
    ∃ u, exec (.archiveResume t) s = .next u ∧
      u.core = ({ s.core with ctx := { s.core.ctx with suspended := false } } : Core).under u.core) ∧
  (∀ (t f : Nat) (s : State), s.core.ctx.suspended = true → s.core.cxl.hostUp = true →
    s.core.stagingFits 2 = true → s.core.ctx.gapFrom = some f → s.core.lastOf s.core.ctx.gapTo = true →
    s.core.slotFree 5 false = false →
    ∃ u g, exec (.archiveResume t) s = .next u ∧ u.core.ctx.suspended = false ∧ u.core.ctx.gapFrom = none ∧
      u.core.ctx.staged = s.core.ctx.staged ++ [g] ∧ g.gap = true ∧ g.first = f ∧
      g.last = s.core.ctx.gapTo) ∧
  (∀ (t : Nat) (n : Fin 2) (l : LineRec) (s : State), s.core.ctx.mv = [none, none] →
    s.core.ctx.mvQ.getD n.val [] = [l] → s.core.throttle = 0 → s.core.slotFree 3 false = true →
    s.core.lastOf l.n = false → 1 < s.core.obj (0x2850 + n.val) 6 →
    ∃ u f, exec (.mvFrameStart t n) s = .next u ∧ u.core.ctx.mv = modAt [none, none] n.val (fun _ => some f) ∧
      f.first = l.n ∧ f.dc = l.dc ∧ f.status = l.status ∧ u.core.ctx.mvQ.getD n.val [] = []) ∧
  (∀ (t : Nat) (n : Fin 2) (l : LineRec) (s : State), s.core.ctx.mv = [none, none] →
    s.core.ctx.mvQ.getD n.val [] = [l] → s.core.throttle ≠ 0 →
    ∃ u, exec (.mvFrameStart t n) s = .next u ∧ u.core.ctx.mv = [none, none] ∧
      u.core.ctx.mvQ.getD n.val [] = [] ∧ u.core.dict = (s.core.bump 0x3210 10).dict ∧
      u.core.ctx.mvSkip = modAt s.core.ctx.mvSkip n.val (fun _ => some (s.core.mvFirst n.val l.n)))

/-- Context commits and discards, auxiliary frames, the side path, statistics blocks, tiles, pictures, the
archive's suspension and machine-vision frames, where they answer, change no owner, no mode, no transition,
no job, no sequencer state, no row or line of the pipeline, no engine, no tinker engine, no clock, no link,
no reference buffer, no journeyman walk, no domain bytes, no on-die memory where the word of a command's own
object holds no error, no byte and no controller state of the DRAM, no mailbox and no two-wire state. (R214,
R221, R229, R236) -/
def Obligations.OutputFrame : Prop :=
  ∀ (i : Instr) (s u : State), exec i s = .next u →
    ((∃ t o n, i = .contextCommit t o n) ∨ (∃ t o n, i = .contextDiscard t o n) ∨
      (∃ t o p v, i = .auxEnable t o p v) ∨ (∃ t p v, i = .auxStartOfFrame t p v) ∨
      (∃ t p l, i = .auxLine t p l) ∨ (∃ t p v, i = .auxEndOfFrame t p v) ∨ (∃ t, i = .sidePathFrameStart t) ∨
      (∃ t, i = .sidePathFrameEnd t) ∨ (∃ t n, i = .statsBlockWrite t n) ∨ (∃ t, i = .displayTileRow t) ∨
      (∃ t, i = .archivePicture t) ∨ (∃ t, i = .archiveSuspend t) ∨ (∃ t, i = .archiveResume t) ∨
      (∃ t n, i = .mvFrameStart t n)) →
    u.mem = s.mem ∧ u.core.owners = s.core.owners ∧ u.core.mode = s.core.mode ∧ u.core.trans = s.core.trans ∧
    u.core.job = s.core.job ∧ u.core.mot = s.core.mot ∧ u.core.pipe = s.core.pipe ∧ u.core.eng = s.core.eng ∧
    u.core.tk = s.core.tk ∧ u.core.clk = s.core.clk ∧ u.core.links = s.core.links ∧ u.core.refs = s.core.refs ∧
    u.core.walks = s.core.walks ∧ u.core.doms = s.core.doms ∧
    ((∀ t o n, i = .contextCommit t o n ∨ i = .contextDiscard t o n → s.core.wordOk 0x2801 (n.val + 1) = true) →
      (∀ t o p v, i = .auxEnable t o p v → s.core.wordOk (auxIdx p.val) 1 = true) → u.core.sram = s.core.sram) ∧
    u.core.dram = s.core.dram ∧ u.core.mbx = s.core.mbx ∧ u.core.tw = s.core.tw

/-- In a job, on a slice of the enabled run: the line of the inspected context that is next in the slice's
early stage, its carry-over resolved, enters it; a line that is not next changes nothing; a resolved line
that is next in the verdict stage, through its early stage and its carry-over resolved, passes it, and no
other slice moves. A neighbour message under way is delivered and is no longer under way; no edge is cut
where its receiver's segment had no handover, and where the receiver's handover stands at that line or later
and its server is the one addressed, the edge is cut in that line. The record that stands first, final and
with no loss run open, goes out as DFR's next entry with the next sequence number, its 32 bytes as 08 R269
lays out first line, class and number, where DFR is open with nothing held, and 6100h.04 shows that number;
where not even the reserve has room it takes no number and counts in 3210h.07. Open points follow the
model's choices of log entries 60, 144. (R248, R269, R272, R273, R281, R451) -/
def Obligations.EngineStages : Prop :=
  (∀ (t k n : Nat) (l : LineRec) (s : State), s.core.inspLine n = some l → s.core.job.running = true →
    s.core.sliceOn k = true → s.core.earlyNext k = n → s.core.carryReady k n = true →
    ∃ u x, exec (.engineEarlyStage t k n) s = .next u ∧ u.core.eng.lines = s.core.eng.lines ++ [x] ∧
      x.slice = k ∧ x.line = n ∧ x.prov = l.res.isNone ∧ u.core.earlyNext k = n + 1) ∧
  (∀ (t k n : Nat) (s : State), s.core.earlyNext k ≠ n →
    ∃ u, exec (.engineEarlyStage t k n) s = .next u ∧ u.core = s.core.under u.core) ∧
  (∀ (t k n : Nat) (l : LineRec) (e : SliceLine) (s : State), s.core.verdictNext k = n →
    s.core.inspLine n = some l → s.core.sliceLine k n = some e → l.res.isSome = true →
    s.core.job.running = true → s.core.sliceOn k = true → s.core.carryReady k n = true →
    ∃ u, exec (.verdictStage t k) s = .next u ∧ u.core.verdictNext k = n + 1 ∧
      (∀ j, j ≠ k → u.core.verdictNext j = s.core.verdictNext j)) ∧
  (∀ (t : Nat) (q : NbrMsg) (m : Msg) (s : State),
    s.core.eng.msgs.find? (fun m => m.fromS == q.fromSlice && m.toS == q.toSlice && m.line == q.line &&
      m.label == q.label) = some m →
    ∃ u, exec (.neighbourMessage t q) s = .next u ∧ u.core.eng.msgs = s.core.eng.msgs.erase m ∧
      ((s.core.eng.walks.getD (m.toS / 64) {}).handover = none → u.core.eng.edgeCuts = s.core.eng.edgeCuts) ∧
      (∀ l, (s.core.eng.walks.getD (m.toS / 64) {}).handover = some (m.toS, l) → m.line ≤ l →
        m.toJ = ((s.core.eng.walks.getD (m.toS / 64) {}).jServes == some m.toS) →
        u.core.eng.edgeCuts = s.core.eng.edgeCuts ++ [(m.line, min m.fromS m.toS)])) ∧
  (∀ (t : Nat) (r : Rec) (s : State), s.core.firstRec = some r → s.core.settledTo r.first = true →
    s.core.ev.loss = none →
    ∃ u, exec (.recordCollectorWrite t) s = .next u ∧
      (s.core.ringOpen 0 = true → (s.core.ring 0).held = [] →
        u.core.eng.recs = s.core.eng.recs.erase r ∧ u.core.eng.recSeq = (s.core.eng.recSeq + 1) % 2 ^ 32 ∧
        (u.core.ring 0).prod = ((s.core.ring 0).prod + 1) % 2 ^ 32 ∧ (u.core.ring 0).lastOut.length = 32 ∧
        leAt (u.core.ring 0).lastOut 0 6 = r.first % 2 ^ 48 ∧
        leAt (u.core.ring 0).lastOut 12 1 = r.cls % 256 ∧
        leAt (u.core.ring 0).lastOut 20 4 = s.core.eng.recSeq % 2 ^ 32 ∧
        u.core.obj 0x6100 4 = s.core.eng.recSeq % 2 ^ 32) ∧
      (s.core.slotFree 0 true = false → u.core.eng.recs = s.core.eng.recs.erase r ∧
        u.core.eng.recSeq = s.core.eng.recSeq ∧
        u.core.obj 0x3210 7 = (s.core.bump 0x3210 7).obj 0x3210 7))

/-- A descriptor read where PGL has none to be read changes nothing. One that is ready is consumed: where
its read fails it counts in 2A20h.06 and makes no page; a valid one without regions becomes the last page,
under its identifier, length, raster and cookie; one whose region list lies in device-bias pages of the DRAM
waits for the reads of that list. In a job, the next raster line, its lead point reached, is requested and
is then awaited: with its page in host memory, the host link up, every earlier line's reads issued and reads
to spare, by reads in ascending address of the columns it needs, as many as may be outstanding; in device-
bias pages, by the reference port, with no read of the host. Of the first line with reads outstanding, one
that fails counts in 3030h.05, and the line is missing when the last of its reads is back; one that arrives
counts its bytes in 3030h.02. The next line to place, 80 lines ahead of the engines, is placed where it is
in, and is missing for good with 2A20h.08 at 0 where it was never requested. The first page not done,
reached, final and with none of its records left and no loss run open, outside COMPLINE, is done, and where
3200h.05 is 1 and EVR is open with nothing held its PAGE_DONE, with cookie and identifier, is the last entry
there. Open points follow the model's choices of log entries 62, 156. (R262, R265, R266, R267, R394, R399,
R400, R404, R441) -/
def Obligations.PagesAndReferences : Prop :=
  (∀ (t : Nat) (ok : Bool) (d l : List Byte) (s : State), s.core.pglReady (s.at_ t) = false →
    ∃ u, exec (.pglDescriptorRead t ok d l) s = .next u ∧ u.core = s.core.under u.core ∧ u.mem = s.mem) ∧
  (∀ (t : Nat) (d l : List Byte) (s : State), s.core.pglReady (s.at_ t) = true →
    ∃ u, exec (.pglDescriptorRead t false d l) s = .next u ∧ u.mem = s.mem ∧ u.core.eng.pages = s.core.eng.pages ∧
      u.core.eng.pglAnchor = true ∧ (u.core.ring 6).cons = ((s.core.ring 6).cons + 1) % 2 ^ 32 ∧
      u.core.obj 0x2A20 6 = (s.core.bump 0x2A20 6).obj 0x2A20 6) ∧
  (∀ (t : Nat) (d l : List Byte) (s : State), s.core.pglReady (s.at_ t) = true → leAt d 40 2 = 0 →
    s.core.descReason d (s.core.pageOfDesc (s.at_ t) d l) true = none →
    ∃ u p, exec (.pglDescriptorRead t true d l) s = .next u ∧ u.core.eng.pages = s.core.eng.pages ++ [p] ∧
      u.mem = s.mem ∧ p.id = leAt d 0 4 ∧ p.len = leAt d 4 4 ∧ p.raster = leAt d 8 8 ∧ p.cookie = leAt d 56 8 ∧
      u.core.eng.pglAnchor = false ∧ (u.core.ring 6).cons = ((s.core.ring 6).cons + 1) % 2 ^ 32) ∧
  (∀ (t i k : Nat) (p : Page) (s : State), s.core.nextRequest = some (p, i) → s.core.job.running = true →
    (p.start + p.nextReq : Nat) - (s.core.obj 0x2A20 1 : Int) ≤ s.core.entryLine (s.at_ t) →
    p.hostSrc = true → s.core.cxl.hostUp = true → s.core.cxl.d3Want = false → s.core.allAsked = true →
    s.core.outstanding < s.core.readLimit → s.core.refAt i p.nextReq = none → s.core.pages[i]? = some p →
    k = min ((s.core.readLimit - s.core.outstanding) * s.core.readUnit) (s.core.refSpan p).2 →
    ∃ u r, exec (.refLineRequest t) s = .next u ∧ u.core.eng.refs = s.core.eng.refs ++ [r] ∧ r.page = i ∧
      r.line = p.nextReq ∧ r.state = 1 ∧ r.asked = k ∧ r.got = 0 ∧
      u.core.eng.pages = modAt s.core.eng.pages i (fun q => { q with nextReq := p.nextReq + 1 }) ∧
      s.puts u [.hostRead (p.raster + p.nextReq * p.stride + (s.core.refSpan p).1) (min s.core.readUnit k)]) ∧
  (∀ (t : Nat) (data : List Byte) (r : RefLine) (p : Page) (s : State),
    s.core.eng.refs.find? (fun x => decide (x.got < x.asked)) = some r → s.core.pages[r.page]? = some p →
    s.core.cxl.d3Want = false →
    (∃ u x, exec (.refLineArrival t false data) s = .next u ∧ u.mem = s.mem ∧ x ∈ u.core.eng.refs ∧
      x.page = r.page ∧ x.line = r.line ∧ x.bad = true ∧ x.got = r.got + min (r.asked - r.got) s.core.readUnit ∧
      (x.got = r.asked → x.state = 4) ∧ u.core.obj 0x3030 5 = (s.core.bump 0x3030 5).obj 0x3030 5) ∧
    (data.length = min (r.asked - r.got) s.core.readUnit →
      ∃ u x, exec (.refLineArrival t true data) s = .next u ∧ u.mem = s.mem ∧ x ∈ u.core.eng.refs ∧
        x.page = r.page ∧ x.line = r.line ∧ x.got = r.got + data.length ∧
        u.core.obj 0x3030 2 = (s.core.bumpBy 0x3030 2 data.length).obj 0x3030 2)) ∧
  (∀ (t i : Nat) (p : Page) (s : State), s.core.nextPlacement = some (p, i) → s.core.job.running = true →
    ((p.start + p.nextPlace : Nat) : Int) - 80 ≤ s.core.engineLine (s.at_ t) →
    ∃ u, exec (.refLinePlace t) s = .next u ∧
      u.core.eng.pages = modAt s.core.eng.pages i (fun q => { q with
        nextPlace := p.nextPlace + 1, nextReq := max q.nextReq (p.nextPlace + 1) }) ∧
      (s.core.refAt i p.nextPlace = none → u.core.obj 0x2A20 8 = 0 ∧
        u.core.eng.refs = s.core.eng.refs ++ [{ page := i, line := p.nextPlace, state := 4 }]) ∧
      (∀ r, s.core.refAt i p.nextPlace = some r → r.state = 2 →
        u.core.eng.refs = s.core.eng.refs.map (fun x =>
          if x.page == i && x.line == p.nextPlace then { x with state := 3 } else x))) ∧
  (∀ (t i : Nat) (p : Page) (s : State), s.core.pages.zipIdx.find? (fun q => !q.1.done) = some (p, i) →
    s.core.pageReached p = true → s.core.settledTo (s.core.pageLast p) = true →
    (∀ r ∈ s.core.eng.recs, s.core.pageLast p < r.first) → s.core.ev.loss = none → s.core.mode ≠ .compline →
    ∃ u, exec (.pageDone t) s = .next u ∧
      u.core.eng.pages = modAt s.core.eng.pages i (fun q => { q with done := true }) ∧
      (s.core.flag 0x3200 5 = true → s.core.ringOpen 4 = true → (s.core.ring 4).held = [] →
        leAt (u.core.ring 4).lastOut 0 2 = 0x0111 ∧
        leAt (u.core.ring 4).lastOut 16 8 = p.cookie % 2 ^ 64 ∧
        leAt (u.core.ring 4).lastOut 24 4 = p.id % 2 ^ 32)) ∧
  (∀ (t i : Nat) (p : Page) (s : State), s.core.nextRequest = some (p, i) → s.core.job.running = true →
    (p.start + p.nextReq : Nat) - (s.core.obj 0x2A20 1 : Int) ≤ s.core.entryLine (s.at_ t) → p.hostSrc = false →
    s.core.runBias (p.raster + p.nextReq * p.stride + (s.core.refSpan p).1) (s.core.refSpan p).2 = true →
    ∃ u, exec (.refLineRequest t) s = .next u ∧ u.mem = s.mem ∧ u.core.cxl.ras = s.core.cxl.ras ∧
      u.core.eng.refs = s.core.eng.refs ++ [{ page := i, line := p.nextReq, state := 6 }]) ∧
  (∀ (t : Nat) (d l : List Byte) (s : State), s.core.pglReady (s.at_ t) = true → leAt d 40 2 ≠ 0 →
    leAt d 21 1 ≠ 0 → s.core.runBias (leAt d 32 8) (32 * leAt d 40 2) = true →
    ∃ u, exec (.pglDescriptorRead t true d l) s = .next u ∧ u.core.eng.pglWait = some d ∧
      u.core.eng.pages = s.core.eng.pages ∧ (u.core.ring 6).cons = ((s.core.ring 6).cons + 1) % 2 ^ 32)

/-- In a WEB or SHEET job with 2A80h.01 = 1, on an enabled segment whose walk is not stopped, the first step
of the job begins between steps: a warm-up, or for J the self-test. At the boundary that ends a warm-up J
serves the slice; a passed self-test begins the warm-up back, and in the self step ends the lap, counted in
2A83h and timed, at the next step's begin, in 2A84h in µs; a failed one stops the walk, shows the engine in
2A82h and lets J's place stand for good where it was not J's own; at the boundary that ends the warm-up back
the slice returns, the next engine in turn. No object but 2A81h changes where none is named. In a job, an
engine of E0 to E63 that stalls with the walk between steps and not stopped is shown in 2A82h, J serves its
slice for good, the walk stops, and the slice's lines from the first open one to 48 after the last are
unknown; J itself stalling while the walk is not stopped for good is shown there, serves no slice, and the
same lines of the slice are unknown. A signed kernel package in STANDBY, where 2A01h may be written, is in
place byte for byte with four kernel versions; an unsigned one is answered with 0800 002Ah (process data has
no answer) and changes nothing. Open points follow the model's choices of log entries 64, 65, 143. (R277,
R278, R279, R281, R282) -/
def Obligations.JourneymanEngines : Prop :=
  (∀ (t : Nat) (g : Fin 8) (s : State), s.core.flag 0x2A80 1 = true → s.core.job.running = true →
    s.core.inspecting = true → s.core.segOn g.val = true → (s.core.engWalk g.val).phase = 0 →
    (s.core.engWalk g.val).stopped = false → (s.core.engWalk g.val).stepStart = none →
    ∃ u, exec (.engineStepStart t g) s = .next u ∧
      u.core.eng.walks = modAt s.core.eng.walks g.val (fun w => { w with
        phase := if w.cur = 64 then 2 else 1, warmLine := s.core.pipe.nextLine, stepStart := some (s.at_ t),
        lapOver := false, lapStart := if w.cur = 0 then s.at_ t else w.lapStart }) ∧
      ((s.core.engWalk g.val).lapOver = true → u.core.obj 0x2A84 (g.val + 1) =
        (s.at_ t - (s.core.engWalk g.val).lapStart) / 1000 % 2 ^ 32) ∧
      s.core.keeps u.core [(0x2A81, g.val + 1), (0x2A84, g.val + 1)]) ∧
  (∀ (t : Nat) (g : Fin 8) (b : Nat × Nat) (s : State), s.core.boundary g.val 1 = some b →
    ∃ u, exec (.engineTakeover t g) s = .next u ∧
      u.core.eng.walks = modAt s.core.eng.walks g.val (fun w => { w with
        phase := 2, shown := w.cur, jServes := some b.1, handover := some b }) ∧
      s.core.keeps u.core [(0x2A81, g.val + 1)]) ∧
  (∀ (t : Nat) (g : Fin 8) (w : EngWalk) (s : State), s.core.engWalk g.val = w → w.phase = 2 →
    (w.cur ≠ 64 → ∃ u, exec (.engineSelfTestEnd t g true) s = .next u ∧
      u.core.engWalk g.val = { w with phase := 3, warmLine := s.core.pipe.nextLine } ∧
      s.core.keeps u.core [(0x2A81, g.val + 1)]) ∧
    (w.cur = 64 → ∃ u, exec (.engineSelfTestEnd t g true) s = .next u ∧
      u.core.engWalk g.val = { w with phase := 0, cur := 0, lapOver := true } ∧
      u.core.obj 0x2A83 (g.val + 1) = (s.core.bump 0x2A83 (g.val + 1)).obj 0x2A83 (g.val + 1)) ∧
    (∃ u, exec (.engineSelfTestEnd t g false) s = .next u ∧ (u.core.engWalk g.val).stopped = true ∧
      (u.core.engWalk g.val).phase = 0 ∧ u.core.obj 0x2A82 (g.val + 1) = w.cur ∧
      (w.cur < 64 → (u.core.engWalk g.val).permanent = true))) ∧
  (∀ (t : Nat) (g : Fin 8) (b : Nat × Nat) (s : State), s.core.boundary g.val 3 = some b →
    ∃ u, exec (.engineHandback t g) s = .next u ∧
      u.core.eng.walks = modAt s.core.eng.walks g.val (fun w => { w with
        phase := 0, cur := w.cur + 1, jServes := none, handover := some b }) ∧
      s.core.keeps u.core [(0x2A81, g.val + 1)]) ∧
  (∀ (t k last f : Nat) (g : Fin 8) (n : Fin 65) (s : State), s.core.servedBy g.val n.val = some k →
    s.core.job.running = true → s.core.segOn g.val = true → n.val < 64 → s.core.eng.walks.length = 8 →
    (s.core.engWalk g.val).stopped = false → (s.core.engWalk g.val).phase = 0 →
    ∃ u, exec (.engineStall t g n last f) s = .next u ∧ (u.core.engWalk g.val).stopped = true ∧
      (u.core.engWalk g.val).permanent = true ∧ (u.core.engWalk g.val).jServes = some k ∧
      (u.core.engWalk g.val).cur = n.val ∧ (u.core.engWalk g.val).handover = some (k, last) ∧
      u.core.eng.unknown = s.core.eng.unknown ++ [(k, f, last), (k, last + 1, last + 48)] ∧
      u.core.obj 0x2A82 (g.val + 1) = n.val) ∧
  (∀ (t k last f : Nat) (g : Fin 8) (s : State), (s.core.engWalk g.val).jServes = some k →
    s.core.job.running = true → s.core.segOn g.val = true → s.core.eng.walks.length = 8 →
    (s.core.engWalk g.val).permanent = false →
    ∃ u, exec (.engineStall t g 64 last f) s = .next u ∧ (u.core.engWalk g.val).stopped = true ∧
      (u.core.engWalk g.val).jServes = none ∧ (u.core.engWalk g.val).handover = some (k, last) ∧
      u.core.eng.unknown = s.core.eng.unknown ++ [(k, f, last), (k, last + 1, last + 48)] ∧
      u.core.obj 0x2A82 (g.val + 1) = 64) ∧
  (∀ (t : Nat) (o : Orig) (data : List Byte) (s : State), s.core.mayWrite o 0x2A01 0 6 →
    s.core.mode = .standby → data ≠ [] → data.length ≤ 4194304 →
    (∃ u, exec (.kernelPackageWrite t o true data) s = .next u ∧
      (∀ k, k < data.length → u.core.domByte 0x2A01 k = data.getD k 0) ∧ u.core.nv.kernel.length = 4) ∧
    (o ≠ .pdo → ∃ u, exec (.kernelPackageWrite t o false data) s = .next u ∧ u.core = s.core.under u.core ∧
      s.puts u [.answer o 0x2A01 0 0x0800002A]))

/-- The engines' stages, neighbour messages, the collector, descriptors, reference lines, PAGE_DONE, the
engine walk and stalls, where they answer, change no owner, no mode, no transition, no job, no sequencer
state, no row or line of the pipeline, no stream, no tinker engine, no clock, no link, no reference buffer,
no converter walk, no domain bytes, no parameter bank, no on-die memory, no mailbox and no two-wire state;
outside the reads and writes that a descriptor or a reference line asks of it, no state of the DRAM
controller; and no byte of the DRAM. (A reference line arrives with no D3hot waiting for it.) (R248, R265,
R273, R277) -/
def Obligations.EngineFrame : Prop :=
  ∀ (i : Instr) (s u : State), exec i s = .next u →
    ((∃ t k n, i = .engineEarlyStage t k n) ∨ (∃ t k, i = .verdictStage t k) ∨ (∃ t q, i = .neighbourMessage t q) ∨
      (∃ t, i = .recordCollectorWrite t) ∨ (∃ t k d l, i = .pglDescriptorRead t k d l) ∨
      (∃ t, i = .refLineRequest t) ∨ (∃ t k d, i = .refLineArrival t k d ∧ s.core.cxl.d3Want = false) ∨ (∃ t, i = .refLinePlace t) ∨
      (∃ t, i = .pageDone t) ∨ (∃ t g, i = .engineStepStart t g) ∨ (∃ t g, i = .engineTakeover t g) ∨
      (∃ t g p, i = .engineSelfTestEnd t g p) ∨ (∃ t g, i = .engineHandback t g) ∨
      (∃ t g n a b, i = .engineStall t g n a b)) →
    u.core.owners = s.core.owners ∧ u.core.mode = s.core.mode ∧ u.core.trans = s.core.trans ∧
    u.core.job = s.core.job ∧ u.core.mot = s.core.mot ∧ u.core.pipe = s.core.pipe ∧ u.core.ctx = s.core.ctx ∧
    u.core.tk = s.core.tk ∧ u.core.clk = s.core.clk ∧ u.core.links = s.core.links ∧ u.core.refs = s.core.refs ∧
    u.core.walks = s.core.walks ∧ u.core.doms = s.core.doms ∧ u.core.banks = s.core.banks ∧
    u.core.sram = s.core.sram ∧ u.mem = s.mem ∧ u.core.mbx = s.core.mbx ∧ u.core.tw = s.core.tw ∧
    ((∀ t k d, i ≠ .refLineArrival t k d) → (∀ t k d l, i ≠ .pglDescriptorRead t k d l) →
      (∀ t, i ≠ .refLineRequest t) → u.core.dram = s.core.dram)

/-- A running engine whose step is due, in a tick of its grid, executes the entry that its state and inputs
select. It takes the entry's outputs and next state and steps again 1 + d cycles later; the action shifts in
the first input, shifts out into output 0, sends the shift register into TX, takes the head of RX, sets or
clears the flag, or raises the engine's interrupt. An action that cannot complete is held and retried each
cycle; an entry that cannot be read stops the engine with LUT_ERROR. An engine that is stopped, or whose
step does not fall in this tick, keeps everything: only its pins' levels are taken. Open points follow the
model's choices of log entries 66, 147. (R285, R286, R287, R288, R289, R295) -/
def Obligations.TinkerSteps : Prop :=
  (∀ (t a b k : Nat) (n : Fin 16) (x : Word32) (c d : Core) (s : State),
    d = s.core.tkEnter (s.at_ t) x → d.tkReady (s.at_ t) n.val = true →
    (d.eng1 n.val).held = none → b = d.inputs (s.at_ t) n.val →
    a = lutAddr n.val ((d.eng1 n.val).st.toNat * 16 + b) →
    d.sramLook (s.at_ t) a .clean = (true, c) → k = c.sramData a →
    (canComplete (d.eng1 n.val) k = true → ∃ u, exec (.tinkerStep t n x) s = .next u ∧
      (u.core.eng1 n.val).st = BitVec.ofNat 6 k ∧ (u.core.eng1 n.val).held = none ∧
      (field k 18 16 ≠ 2 → (u.core.eng1 n.val).outs = BitVec.ofNat 8 (field k 15 8)) ∧
      (u.core.eng1 n.val).next = s.at_ t / 4 * 4 + (1 + field k 39 24) * cycleNs (d.eng1 n.val) ∧
      (u.core.eng1 n.val).running = true ∧
      (field k 18 16 ≠ 4 → (u.core.eng1 n.val).rx = (d.eng1 n.val).rx) ∧
      (field k 18 16 ≠ 3 → (u.core.eng1 n.val).tx = (d.eng1 n.val).tx) ∧
      (field k 18 16 ≠ 6 → u.core.tk.irq = d.tk.irq) ∧
      (∀ j, j ≠ n.val → u.core.eng1 j = d.eng1 j)) ∧
    (field k 18 16 = 1 → ∃ u, exec (.tinkerStep t n x) s = .next u ∧
      (u.core.eng1 n.val).sr = (if d.shMsb n.val then ((d.eng1 n.val).sr <<< 1) ||| BitVec.ofNat 32 (b % 2)
        else ((d.eng1 n.val).sr >>> 1) ||| BitVec.ofNat 32 (b % 2 * 2 ^ 31)) ∧
      (u.core.eng1 n.val).cnt = min 32 ((d.eng1 n.val).cnt + 1)) ∧
    (field k 18 16 = 2 → ∃ u, exec (.tinkerStep t n x) s = .next u ∧
      (u.core.eng1 n.val).sr = (if d.shMsb n.val then (d.eng1 n.val).sr <<< 1 else (d.eng1 n.val).sr >>> 1) ∧
      (u.core.eng1 n.val).outs = BitVec.ofNat 8 (withBit (field k 15 8) 0
        (if d.shMsb n.val then (d.eng1 n.val).sr.getLsbD 31 else (d.eng1 n.val).sr.getLsbD 0)) ∧
      (u.core.eng1 n.val).cnt = min 32 ((d.eng1 n.val).cnt + 1)) ∧
    (field k 18 16 = 3 → (d.eng1 n.val).tx.length < 8 → ∃ u, exec (.tinkerStep t n x) s = .next u ∧
      (u.core.eng1 n.val).tx = (d.eng1 n.val).tx ++ [(d.eng1 n.val).sr] ∧ (u.core.eng1 n.val).cnt = 0) ∧
    (field k 18 16 = 4 → (d.eng1 n.val).rx ≠ [] → ∃ u, exec (.tinkerStep t n x) s = .next u ∧
      (u.core.eng1 n.val).sr = (d.eng1 n.val).rx.headD 0 ∧ (u.core.eng1 n.val).rx = (d.eng1 n.val).rx.tail ∧
      (u.core.eng1 n.val).cnt = 0) ∧
    (field k 18 16 = 5 → ∃ u, exec (.tinkerStep t n x) s = .next u ∧
      (u.core.eng1 n.val).flag = k.testBit 19) ∧
    (field k 18 16 = 6 → ∃ u, exec (.tinkerStep t n x) s = .next u ∧ u.core.tk.irq.getLsbD n.val = true) ∧
    (canComplete (d.eng1 n.val) k = false → ∃ u, exec (.tinkerStep t n x) s = .next u ∧
      (u.core.eng1 n.val).held = some (BitVec.ofNat 64 k) ∧
      (u.core.eng1 n.val).next = s.at_ t / 4 * 4 + cycleNs (d.eng1 n.val) ∧
      (u.core.eng1 n.val).st = (d.eng1 n.val).st ∧ (u.core.eng1 n.val).outs = (d.eng1 n.val).outs)) ∧
  (∀ (t : Nat) (n : Fin 16) (x : Word32) (c d : Core) (s : State),
    d = s.core.tkEnter (s.at_ t) x → d.tkReady (s.at_ t) n.val = true → (d.eng1 n.val).held = none →
    d.sramLook (s.at_ t) (lutAddr n.val ((d.eng1 n.val).st.toNat * 16 +
      d.inputs (s.at_ t) n.val)) .clean = (false, c) →
    ∃ u, exec (.tinkerStep t n x) s = .next u ∧ (u.core.eng1 n.val).running = false ∧
      (u.core.eng1 n.val).lutError = true ∧ (u.core.eng1 n.val).recorded = (d.eng1 n.val).st) ∧
  (∀ (t : Nat) (n : Fin 16) (x : Word32) (s : State),
    ((s.core.tkEnter (s.at_ t) x).tkReady (s.at_ t) n.val = false →
      ∃ u, exec (.tinkerStep t n x) s = .next u ∧ u.core = (s.core.tkEnter (s.at_ t) x).under u.core) ∧
    ((s.core.tkEnter (s.at_ t) s.core.tk.ext).tkReady (s.at_ t) n.val = false →
      ∃ u, exec (.tinkerStallRetry t n) s = .next u ∧
        u.core = (s.core.tkEnter (s.at_ t) s.core.tk.ext).under u.core)) ∧
  (∀ (t : Nat) (n : Fin 16) (w : Word64) (d : Core) (s : State),
    d = s.core.tkEnter (s.at_ t) s.core.tk.ext → d.tkReady (s.at_ t) n.val = true →
    (d.eng1 n.val).held = some w →
    (field w.toNat 18 16 = 4 → (d.eng1 n.val).rx ≠ [] → ∃ u, exec (.tinkerStallRetry t n) s = .next u ∧
      (u.core.eng1 n.val).held = none ∧ (u.core.eng1 n.val).sr = (d.eng1 n.val).rx.headD 0 ∧
      (u.core.eng1 n.val).rx = (d.eng1 n.val).rx.tail ∧
      (u.core.eng1 n.val).st = BitVec.ofNat 6 w.toNat) ∧
    (field w.toNat 18 16 = 3 → (d.eng1 n.val).tx.length < 8 → ∃ u, exec (.tinkerStallRetry t n) s = .next u ∧
      (u.core.eng1 n.val).held = none ∧ (u.core.eng1 n.val).tx = (d.eng1 n.val).tx ++ [(d.eng1 n.val).sr] ∧
      (u.core.eng1 n.val).st = BitVec.ofNat 6 w.toNat) ∧
    (canComplete (d.eng1 n.val) w.toNat = false → ∃ u, exec (.tinkerStallRetry t n) s = .next u ∧
      (u.core.eng1 n.val).held = some w ∧
      (u.core.eng1 n.val).next = s.at_ t / 4 * 4 + cycleNs (d.eng1 n.val)))

/-- A start with a start time that can still be met, in a mode whose blocks are on, gives every engine of
its mask that start and uses the time up: until its instant an engine goes on as it was. A start time too
close is refused with 0609 0032h. A stop gives every engine of its mask a stop at the next tick; both come
from an origin that may write the object, or in BAR2 from HOST as owner of ALARM. An engine's start acts at
its instant and its stop at its tick. The autostart happens once, in STANDBY. STEP and INJECT of a stopped
engine wait for the next tick, and are carried out there with the inputs of that tick: the entry selected,
or the one in the inject register, is executed without its delay and shown in the recorded state, or, where
it cannot complete, STEP_STALL shows; CLEAR_ERR clears its error flags. Where HOST does not own ALARM, or
STEP or INJECT finds the engine running, the command is not taken, WR_REFUSED shows it and it is counted.
Open points follow the model's choices of log entries 103, 147. (R295, R296, R297, R298, R300, R308) -/
def Obligations.TinkerCommands : Prop :=
  (∀ (t t0 : Nat) (o : Orig) (bar : Bool) (mask : Word16) (d : Core) (s : State), d = s.core.tkSync (s.at_ t) →
    (bar = true → s.core.barOwns = true) → (bar = false → s.core.mayWrite o 0x2C00 2 2) →
    s.core.startAt (s.at_ t) = some t0 → s.core.blocksOn = true →
    ∃ u, exec (.tkStart t bar o mask) s = .next u ∧ u.core.obj 0x2C00 5 = 0 ∧
      d.keeps u.core [(0x2C00, 5)] ∧
      (∀ n, n < 16 → n < d.tk.engs.length → u.core.eng1 n =
        if mask.toNat.testBit n then { d.eng1 n with starts := startInsert t0 (d.eng1 n).starts }
        else d.eng1 n)) ∧
  (∀ (t : Nat) (o : Orig) (mask : Word16) (s : State), s.core.mayWrite o 0x2C00 2 2 → o ≠ .pdo →
    s.core.startAt (s.at_ t) = none →
    ∃ u, exec (.tkStart t false o mask) s = .next u ∧ u.core = s.core.under u.core ∧
      s.puts u [.answer o 0x2C00 2 0x06090032]) ∧
  (∀ (t : Nat) (o : Orig) (bar : Bool) (mask : Word16) (d : Core) (s : State), d = s.core.tkSync (s.at_ t) →
    (bar = true → s.core.barOwns = true) → (bar = false → s.core.mayWrite o 0x2C00 3 2) →
    ∃ u, exec (.tkStop t bar o mask) s = .next u ∧ u.core.dict = d.dict ∧
      (∀ n, n < 16 → n < d.tk.engs.length → u.core.eng1 n =
        if mask.toNat.testBit n then { d.eng1 n with
          stopAt := some ((d.eng1 n).stopAt.getD (nextTick (s.at_ t))) }
        else d.eng1 n)) ∧
  (∀ (now t0 a : Nat) (resume : Bool) (e : Tk),
    (e.starts = [t0] → e.stopAt = none → t0 ≤ now →
      e.seen now resume = { startOne resume t0 e with starts := [] }) ∧
    (e.starts = [t0] → e.stopAt = none → now < t0 → e.seen now resume = e) ∧
    (e.starts = [] → e.stopAt = some a → a ≤ now → e.seen now resume = { stopOne e with stopAt := none }) ∧
    (e.starts = [] → e.stopAt = some a → now < a → e.seen now resume = e)) ∧
  (∀ (t : Nat) (d : Core) (s : State), d = s.core.tkSync (s.at_ t) → s.core.tk.autoDone = false →
    s.core.mode = .standby →
    ∃ u, exec (.tkAutostart t) s = .next u ∧ u.core.tk.autoDone = true ∧ u.core.dict = d.dict ∧
      (∀ n, n < 16 → n < d.tk.engs.length → u.core.eng1 n =
        if (s.core.obj 0x2C00 7).testBit n then { d.eng1 n with
          starts := startInsert (s.core.startGrid (s.at_ t)) (d.eng1 n).starts }
        else d.eng1 n)) ∧
  (∀ (t : Nat) (s : State), s.core.tk.autoDone = true →
    ∃ u, exec (.tkAutostart t) s = .next u ∧ u.core = s.core.under u.core) ∧
  (∀ (t : Nat) (n : Fin 16) (x : Word32) (d : Core) (s : State), s.core.barOwns = true →
    d = (s.core.tkSync (s.at_ t)).pinsTake (s.at_ t) x → (d.tkAt (s.at_ t) n.val).running = false →
    (∃ u, exec (.tkDoStep t n x) s = .next u ∧ u.core = (d.mapEng1 n.val (fun e => { e with
      dbg := e.dbg ++ [(nextTick (s.at_ t), false)] })).under u.core) ∧
    (∃ u, exec (.tkInject t n x) s = .next u ∧ u.core = (d.mapEng1 n.val (fun e => { e with
      dbg := e.dbg ++ [(nextTick (s.at_ t), true)] })).under u.core)) ∧
  (∀ (t n k : Nat) (c : Core), n < c.tk.engs.length → (c.eng1 n).running = false →
    (∀ (a b : Nat) (d : Core), (c.eng1 n).dbg = [(t, false)] →
      b = c.inputs t n → a = lutAddr n ((c.eng1 n).st.toNat * 16 + b) →
      c.sramLook t a .clean = (true, d) → k = d.sramData a →
      (field k 18 16 = 0 → ((c.tkDebugs t n).eng1 n).st = BitVec.ofNat 6 k ∧
        ((c.tkDebugs t n).eng1 n).recorded = BitVec.ofNat 6 k ∧ ((c.tkDebugs t n).eng1 n).running = false ∧
        ((c.tkDebugs t n).eng1 n).outs = BitVec.ofNat 8 (field k 15 8) ∧
        ((c.tkDebugs t n).eng1 n).next = (c.eng1 n).next ∧ ((c.tkDebugs t n).eng1 n).dbg = []) ∧
      (canComplete (c.eng1 n) k = false → ((c.tkDebugs t n).eng1 n).stepStall = true ∧
        ((c.tkDebugs t n).eng1 n).st = (c.eng1 n).st ∧ ((c.tkDebugs t n).eng1 n).dbg = [])) ∧
    ((c.eng1 n).dbg = [(t, true)] → k = (c.eng1 n).inj.toNat → field k 18 16 = 0 →
      ((c.tkDebugs t n).eng1 n).st = BitVec.ofNat 6 k ∧ ((c.tkDebugs t n).eng1 n).running = false ∧
      ((c.tkDebugs t n).eng1 n).outs = BitVec.ofNat 8 (field k 15 8) ∧ ((c.tkDebugs t n).eng1 n).dbg = [])) ∧
  (∀ (t : Nat) (n : Fin 16) (s : State), s.core.barOwns = true →
    ∃ u, exec (.tkClearErr t n) s = .next u ∧
      u.core = ((s.core.tkSync (s.at_ t)).mapEng1 n.val (fun e => { e with
        rxOver := false, txUnder := false, alarmLost := false, wrRefused := false,
        stepStall := false })).under u.core) ∧
  (∀ (t : Nat) (i : Instr) (n : Fin 16) (x : Word32) (d : Core) (s : State), d = s.core.tkSync (s.at_ t) →
    (s.core.barOwns = false ∧ i = .tkClearErr t n) ∨
      ((s.core.barOwns = false ∨ (d.tkAt (s.at_ t) n.val).running = true) ∧
        (i = .tkDoStep t n x ∨ i = .tkInject t n x)) →
    ∃ u, exec i s = .next u ∧ u.core.tk.engs = modAt d.tk.engs n.val (fun e => { e with
        wrRefused := true }) ∧ u.core.cxl.refused = (s.core.cxl.refused + 1) % 2 ^ 32 ∧
      u.core.dict = d.dict) ∧
  (∀ (now n : Nat) (c : Core), c.noDebug = true → n < 16 → n < c.tk.engs.length →
    (c.tkSync now).eng1 n = c.tkAt now n ∧ (c.tkSync now).dict = c.dict)

/-- A word for an engine whose source is the host joins its RX while it has room, else RX_OVERRUN sets; a
read takes the head of TX, or answers 0 and sets TX_UNDERRUN; interrupt bits are cleared by ones; all of
them after what the engines' debugging commands, starts and stops did by then. While ticks occur and the bus
does not withhold its events for this tick, the oldest bus word whose channel's route word is not poisoned
goes to each engine of its set that has room, and is shown lost at the others; the word of a channel whose
route word is poisoned is held. A changed route, or changed enables, are in force once a tick after that of
the write passes without a bus event to an engine, and are counted; after 256 ticks without one the bus
withholds its events for a tick. (R301, R302, R304, R305, R306, R378) -/
def Obligations.TinkerWords : Prop :=
  (∀ (t : Nat) (bar : Bool) (o : Orig) (n : Fin 16) (w : Word32) (d : Core) (s : State),
    d = s.core.tkSync (s.at_ t) → (bar = false → s.core.mayWrite o (0x2C10 + n.val) 10 2) →
    (d.obj (0x2C10 + n.val) 5 = 0 → (d.eng1 n.val).rx.length < 8 →
      ∃ u, exec (.tkRxWrite t bar o n w) s = .next u ∧
        u.core = ((d.tickMark (s.at_ t) n.val).mapEng1 n.val (fun e => { e with
          rx := e.rx ++ [w] })).under u.core) ∧
    (d.obj (0x2C10 + n.val) 5 ≠ 0 ∨ 8 ≤ (d.eng1 n.val).rx.length →
      ∃ u, exec (.tkRxWrite t bar o n w) s = .next u ∧
        u.core = (d.mapEng1 n.val (fun e => { e with rxOver := true })).under u.core)) ∧
  (∀ (t : Nat) (o : Orig) (n : Fin 16) (d : Core) (s : State), d = s.core.tkSync (s.at_ t) →
    (∀ (w : Word32) (l : List Word32), (d.eng1 n.val).tx = w :: l →
      ∃ u, exec (.tkTxRead t true o n) s = .next u ∧ d.out ++ [.bar (some w.toNat)] <+: u.core.out ∧
        u.core = ((d.tickMark (s.at_ t) n.val).mapEng1 n.val (fun e => { e with
          tx := l })).under u.core) ∧
    ((d.eng1 n.val).tx = [] → ∃ u, exec (.tkTxRead t true o n) s = .next u ∧
      d.out ++ [.bar (some 0)] <+: u.core.out ∧
      u.core = (d.mapEng1 n.val (fun e => { e with txUnder := true })).under u.core) ∧
    (∀ (w : Word32) (l : List Word32), (d.eng1 n.val).tx = w :: l →
      (o ≠ .sdo ∨ s.core.emergencyOn = true) → ∃ u, exec (.tkTxRead t false o n) s = .next u ∧
        d.out ++ [.sdo (0x2C10 + n.val) 11 0 (leBytes 4 w.toNat)] <+: u.core.out ∧
        u.core = ((d.tickMark (s.at_ t) n.val).mapEng1 n.val (fun e => { e with
          tx := l })).under u.core)) ∧
  (∀ (t : Nat) (mask : Word32) (d : Core) (s : State), d = s.core.tkSync (s.at_ t) →
    ∃ u, exec (.tkIrqClear t mask) s = .next u ∧
      u.core = ({ d with tk := { d.tk with irq := d.tk.irq &&& ~~~(mask.setWidth 16) } } : Core).under u.core) ∧
  (∀ (t : Nat) (w : BusWord) (l : List BusWord) (d : Core) (s : State), s.core.ticks = true →
    d = s.core.tkSync (s.at_ t) → d.tk.withheld ≠ some (tickOf (s.at_ t)) → d.eng.bus = w :: l →
    (∀ x ∈ d.eng.bus, routeWord x.ch ∉ d.faulty) →
    ∃ u, exec (.alarmDelivery t) s = .next u ∧ u.core.eng = { d.eng with bus := l } ∧
      u.core.tk.busTick = (if w.targets = 0 then d.tk.busTick else some (tickOf (s.at_ t))) ∧
      (∀ n, n < 16 → n < d.tk.engs.length →
        (w.targets.getLsbD n = true → (d.eng1 n).rx.length < 8 →
          (u.core.eng1 n).rx = (d.eng1 n).rx ++ [w.word] ∧
          (u.core.eng1 n).alarmLost = (d.eng1 n).alarmLost) ∧
        (w.targets.getLsbD n = true → 8 ≤ (d.eng1 n).rx.length →
          u.core.eng1 n = { d.eng1 n with alarmLost := true, lostCh := w.ch }) ∧
        (w.targets.getLsbD n = false → u.core.eng1 n = d.eng1 n))) ∧
  (∀ (t : Nat) (s : State), s.core.ticks = false →
    ∃ u, exec (.alarmDelivery t) s = .next u ∧ u.core = s.core.under u.core) ∧
  (∀ (t : Nat) (d : Core) (s : State), s.core.ticks = true → d = s.core.tkSync (s.at_ t) →
      d.tk.withheld = some (tickOf (s.at_ t)) ∨ (∀ w ∈ d.eng.bus, routeWord w.ch ∈ d.sram.poison) →
    ∃ u, exec (.alarmDelivery t) s = .next u ∧ u.core = d.under u.core) ∧
  (∀ (t : Nat) (x : RouteChange) (s : State), s.core.tk.changes = [x] → s.core.ticks = true →
    tickOf x.at_ < tickOf (s.at_ t) → s.core.tk.busTick ≠ some (tickOf (s.at_ t)) →
    s.core.busDelivers (s.at_ t) = false ∨ tickOf x.at_ + 256 ≤ tickOf (s.at_ t) →
      ∃ u, exec (.routeChange t) s = .next u ∧ u.core.tk.changes = [] ∧
        (∀ r, r < 32 → u.core.route r = if r = x.key then x.value.toNat else s.core.route r) ∧
        u.core.tk.routeEn = (if x.key = 32 then x.value else s.core.tk.routeEn) ∧
        u.core.tk.withheld = (if s.core.busDelivers (s.at_ t) = false then s.core.tk.withheld
          else some (tickOf (s.at_ t))) ∧
        s.core.keeps u.core [(0x2C42, 0)]) ∧
  (∀ (t : Nat) (x : RouteChange) (s : State), s.core.tk.changes = [x] →
    s.core.ticks = false ∨ tickOf (s.at_ t) ≤ tickOf x.at_ ∨ s.core.tk.busTick = some (tickOf (s.at_ t)) ∨
      (s.core.busDelivers (s.at_ t) = true ∧ tickOf (s.at_ t) < tickOf x.at_ + 256) →
      ∃ u, exec (.routeChange t) s = .next u ∧ u.core = s.core.under u.core) ∧
  (∀ (now : Nat) (w : BusWord) (l : List BusWord) (c : Core), c.eng.bus = w :: l → c.routeBad w.ch = false →
    c.busDelivers now = (c.tk.busTick == some (tickOf now) || w.targets != 0))

/-- Steps, retries, starts, stops, the autostart, STEP, INJECT, CLEAR_ERR, RX writes, TX reads, interrupt
clears, alarm deliveries and route changes change no owner, no mode, no job, no sequencer state, no row or
line, no stream, no clock, no link, no converter, no bank, no DRAM, no mailbox and no two-wire state. (R285,
R295, R304) -/
def Obligations.TinkerFrame : Prop :=
  ∀ (i : Instr) (s u : State), exec i s = .next u →
    ((∃ t n x, i = .tinkerStep t n x) ∨ (∃ t n, i = .tinkerStallRetry t n) ∨ (∃ t b o m, i = .tkStart t b o m) ∨
      (∃ t b o m, i = .tkStop t b o m) ∨ (∃ t, i = .tkAutostart t) ∨ (∃ t n x, i = .tkDoStep t n x) ∨
      (∃ t n x, i = .tkInject t n x) ∨ (∃ t n, i = .tkClearErr t n) ∨ (∃ t b o n w, i = .tkRxWrite t b o n w) ∨
      (∃ t b o n, i = .tkTxRead t b o n) ∨ (∃ t m, i = .tkIrqClear t m) ∨ (∃ t, i = .alarmDelivery t) ∨
      (∃ t, i = .routeChange t)) →
    u.mem = s.mem ∧ u.core.owners = s.core.owners ∧ u.core.mode = s.core.mode ∧ u.core.trans = s.core.trans ∧
    u.core.job = s.core.job ∧ u.core.mot = s.core.mot ∧ u.core.pipe = s.core.pipe ∧ u.core.ctx = s.core.ctx ∧
    u.core.clk = s.core.clk ∧ u.core.links = s.core.links ∧ u.core.refs = s.core.refs ∧
    u.core.walks = s.core.walks ∧ u.core.banks = s.core.banks ∧ u.core.dram = s.core.dram ∧
    u.core.mbx = s.core.mbx ∧ u.core.tw = s.core.tw

/-- An entry of a merge buffer without a write for 64 ns, for a word that is not poisoned and reads clean in
an initialised page, is written into its word, its bytes over those of the word, and leaves the buffer;
before that nothing happens. A sweep while sweeps run, and the lamplighter while it is enabled outside BOOT,
DUSK and COMPLINE, read word after word; a sweep's correctable error is corrected and counted, an
uncorrectable word is counted and poisoned while the poison table has room, and a lap counts and gives its
time. A rewrite from the shadow clears its page's poison, but for the words whose shadow line is itself
poisoned. An injection is armed and disarmed in SERVICE, refused with 0800 0021h elsewhere. Open points
follow the model's choices of log entries 9, 157, 158. (R365, R367, R368, R373, R375, R376, R379) -/
def Obligations.OnDieMemory : Prop :=
  (∀ (t a p : Nat) (e : Merge) (s : State), s.core.mergeAt p a = some e → e.last + 64 ≤ s.at_ t →
    s.core.sram.isInit (pageOf a) = true → a ∉ s.core.sram.poison → s.core.wordFound a .clean = .clean →
    ∃ u, exec (.mergeIdleRetire t a p .clean) s = .next u ∧ u.core.mergeAt p a = none ∧
      (e.mask = 0xFF#8 → u.core.sramData a = e.data.toNat) ∧
      (e.mask ≠ 0xFF#8 → u.core.sramData a = mergeWord e.mask e.data.toNat (s.core.sramData a))) ∧
  (∀ (t a p : Nat) (f : WordOutcome) (e : Merge) (s : State), s.core.mergeAt p a = some e →
    s.at_ t < e.last + 64 →
    ∃ u, exec (.mergeIdleRetire t a p f) s = .next u ∧ u.core = s.core.under u.core) ∧
  (∀ (t off bank key : Nat) (r : Fin 5) (s : State), s.core.sweepsRun = true → bank < sweepsOf r.val →
    key = sweepKey r.val bank →
    s.core.nextSwept r.val bank (regionBytes r.val / 8) ((alook s.core.sram.sweepPos key).getD 0) = some off →
    off + 8 < regionBytes r.val →
    s.core.sram.isInit (pageOf (sramAddr r.val off)) = true → sramAddr r.val off ∉ s.core.sram.poison →
    (∀ p ∈ s.core.sram.flips, p.1 ≠ sramAddr r.val off) →
    (∃ u, exec (.sweepRead t r bank .clean) s = .next u ∧ u.core = ({ s.core with sram := { s.core.sram with
      sweepPos := aput s.core.sram.sweepPos key (off + 8) } } : Core).under u.core) ∧
    (∃ u, exec (.sweepRead t r bank .corrected) s = .next u ∧
      u.core.sram.sweepPos = aput s.core.sram.sweepPos key (off + 8) ∧
      u.core.obj 0x2F00 1 = (s.core.bump 0x2F00 1).obj 0x2F00 1 ∧
      u.core.obj 0x2F01 (r.val + 1) = (s.core.bump 0x2F01 (r.val + 1)).obj 0x2F01 (r.val + 1) ∧
      u.core.obj 0x2F00 5 = sramAddr r.val off ∧ u.core.sram.words = s.core.sram.words) ∧
    (∃ u, exec (.sweepRead t r bank .uncorrectable) s = .next u ∧
      (s.core.sram.poison.length < 1024 → u.core.sram.poison = s.core.sram.poison ++ [sramAddr r.val off]) ∧
      u.core.obj 0x2F02 (r.val + 1) = (s.core.bump 0x2F02 (r.val + 1)).obj 0x2F02 (r.val + 1))) ∧
  (∀ (t bank key us : Nat) (r : Fin 5) (s : State), s.core.sweepsRun = true → bank < sweepsOf r.val →
    key = sweepKey r.val bank →
    us = (s.at_ t - (alook s.core.sram.sweepAt key).getD s.core.sram.sweepFrom) / 1000 →
    s.core.nextSwept r.val bank (regionBytes r.val / 8) ((alook s.core.sram.sweepPos key).getD 0) = none →
    ∃ u, exec (.sweepRead t r bank .clean) s = .next u ∧ u.core.sram.sweepPos = aput s.core.sram.sweepPos key 0 ∧
      u.core.sram.sweepAt = aput s.core.sram.sweepAt key (s.at_ t) ∧
      (sweepsOf r.val = 1 → s.core.sram.sweepLaps = [] →
        u.core.obj 0x2F10 (r.val + 1) = us % 2 ^ 32 ∧ u.core.sram.sweepLaps = [] ∧
        u.core.obj 0x2F11 (r.val + 1) = (s.core.bump 0x2F11 (r.val + 1)).obj 0x2F11 (r.val + 1)) ∧
      (s.core.sram.sweepLaps = [] → 1 < sweepsOf r.val → u.core.sram.sweepLaps = [(key, us)] ∧
        u.core.obj 0x2F11 (r.val + 1) = s.core.obj 0x2F11 (r.val + 1))) ∧
  (∀ (t : Nat) (f : WordOutcome) (s : State), s.core.flag 0x2F20 1 = true → s.core.blocksOn = true →
    s.core.mode ≠ .boot →
    (s.core.sram.lampPos + 1 < 221184 → ∃ u, exec (.lamplighterRead t f) s = .next u ∧
      u.core.sram.lampPos = s.core.sram.lampPos + 1 ∧ u.core.sram.lampAt = s.core.sram.lampAt) ∧
    (s.core.sram.lampPos + 1 = 221184 → ∃ u, exec (.lamplighterRead t f) s = .next u ∧
      u.core.sram.lampPos = 0 ∧ u.core.sram.lampAt = s.at_ t ∧
      u.core.obj 0x2F20 3 = (s.at_ t - s.core.sram.lampAt) / 1000 % 2 ^ 32 ∧
      u.core.obj 0x2F20 4 = (s.core.bump 0x2F20 4).obj 0x2F20 4)) ∧
  (∀ (t a : Nat) (s : State), pageOf a ∈ s.core.sram.rewrite → s.core.flag 0x2F30 4 = false →
    ∃ u, exec (.shadowRewrite t a) s = .next u ∧ pageOf a ∉ u.core.sram.rewrite ∧
      (∀ w, w ∈ u.core.sram.poison ↔ w ∈ s.core.sram.poison ∧ (pageOf w ≠ pageOf a ∨ s.core.shadowBad w = true)) ∧
      u.core.obj 0x2F20 5 = (s.core.bump 0x2F20 5).obj 0x2F20 5) ∧
  (∀ (t : Nat) (o : Orig) (s : State), s.core.mayWrite o 0x2F30 5 8 → s.core.mode = .service →
    inRegion (s.core.obj 0x2F30 1) = true →
    (s.core.flag 0x2F20 1 = false ∨ privileged (s.core.obj 0x2F30 1) = false) →
    ∃ u, exec (.injectionArm t o) s = .next u ∧ u.core.obj 0x2F30 4 = 1 ∧ s.core.keeps u.core [(0x2F30, 4)] ∧
      u.core = ({ s.core with dict := u.core.dict } : Core).under u.core) ∧
  (∀ (t : Nat) (o : Orig) (s : State), s.core.mayWrite o 0x2F30 5 8 → s.core.mode = .service →
    ∃ u, exec (.injectionDisarm t o) s = .next u ∧ u.core.obj 0x2F30 4 = 0 ∧
      s.core.keeps u.core [(0x2F30, 4)] ∧
      u.core = ({ s.core with dict := u.core.dict } : Core).under u.core) ∧
  (∀ (t : Nat) (o : Orig) (i : Instr) (s : State), s.core.mayWrite o 0x2F30 5 8 → s.core.mode ≠ .service →
    o ≠ .pdo → (i = .injectionArm t o ∨ i = .injectionDisarm t o) →
    ∃ u, exec i s = .next u ∧ u.core = s.core.under u.core ∧ s.puts u [.answer o 0x2F30 5 0x08000021])

/-- An apply with no PLL relocking, in STANDBY or CALIBRATE or where it relocks none, puts every shadow in
force and starts a band search at band 32 on exactly the PLLs that it changes or that stand in FAULT. While
REFIN is present a counter window moves a search on (halving the bands, log entry 71), after six to the band
found, else back to its start or, the third time no band is right, to FAULT, reported; two lock windows in a
row, the second in phase, declare lock. With REFIN present a PLL that has declared lock restarts its outputs
at a REFIN edge and is locked, its alarm cleared; PLL-T then counts ticks from that edge, 10 a REFIN period,
with an offset of 650 to 1150 ps, PLL-C runs the clocks of the enabled segments. A locked or slewing PLL
that leaves its window searches again, reported. REFIN lost is counted and makes each locked or slewing PLL
coast; REFIN back within 500 ppm makes a coasting PLL slew and, while the blocks are on, a PLL that is off
search; out of range it is counted as a loss. A slew whose time is over ends in lock; a coast of the
holdover limit ends in PLLs that are off. The losses of REFIN, of lock and the expiry are shown outside
COMPLINE. PLL_T_RESTART with PLL-T locked resumes the ticks: a running engine keeps its state and the ticks
that remained of its delay. A fine delay of a running output moves one step towards its target, and nothing
else changes. Open points follow the model's choices of log entries 70, 71, 72, 73, 74, 187. (R314, R317,
R318, R319, R320, R323, R325, R326, R329, R297, R321) -/
def Obligations.ClockSynthesis : Prop :=
  (∀ (t : Nat) (o : Orig) (s : State), s.core.mayWrite o 0x2D01 4 9 →
    (s.core.mode = .standby ∨ s.core.mode = .calibrate ∨ s.core.applyRelocks = []) →
    s.core.flag 0x2D01 5 = false →
    ∃ u, exec (.pllApply t o 1) s = .next u ∧
      (∀ k, 1 ≤ k → k ≤ 3 → u.core.obj 0x2D02 k = s.core.obj 0x2D01 k) ∧
      u.core.obj 0x2D02 4 = s.core.shadowDividers ∧
      (∀ p, p < 2 → u.core.pll p = if p ∈ s.core.applyRelocks then
        { s.core.pll p with
          st := 1, band := 32, step := 0, fails := 0, good := 0, locked := false,
          okBand := none, guess := false } else s.core.pll p)) ∧
  (∀ (t : Nat) (p : Bool) (ppm : Int) (ok : Bool) (x : Pll) (s : State), s.core.clk.refOn = true →
    s.core.pll (b2n p) = x → x.locked = false →
    (x.st = 1 → x.step < 5 →
      ∃ u, exec (.pllSearchWindow t p ppm ok) s = .next u ∧ u.core.pll (b2n p) = { x with
        step := x.step + 1, band := bandNext x.step ppm x.band,
        okBand := if ppmOk ppm then some x.band else x.okBand }) ∧
    (x.st = 1 → x.step = 5 → ppmOk ppm = true →
      ∃ u, exec (.pllSearchWindow t p ppm ok) s = .next u ∧ u.core.pll (b2n p) = { x with st := 2, step := 0, good := 0, okBand := none }) ∧
    (∀ b, x.st = 1 → x.step = 5 → ppmOk ppm = false → x.okBand = some b →
      ∃ u, exec (.pllSearchWindow t p ppm ok) s = .next u ∧ u.core.pll (b2n p) = { x with st := 2, step := 0, band := b, good := 0, okBand := none }) ∧
    (x.st = 1 → x.step = 5 → 500 < ppm → x.okBand = none →
      ∃ u, exec (.pllSearchWindow t p ppm ok) s = .next u ∧ u.core.pll (b2n p) = { x with st := 2, step := 0, band := x.band - 1, good := 0, guess := true }) ∧
    (x.st = 1 → x.step = 5 → ppm < -500 → x.okBand = none → x.fails < 2 →
      ∃ u, exec (.pllSearchWindow t p ppm ok) s = .next u ∧ u.core.pll (b2n p) = { x with step := 0, band := 32, good := 0, fails := x.fails + 1, okBand := none, guess := false, st := 1 }) ∧
    (x.st = 1 → x.step = 5 → ppm < -500 → x.okBand = none → 2 ≤ x.fails →
      ∃ u, exec (.pllSearchWindow t p ppm ok) s = .next u ∧ u.core.pll (b2n p) = { x with st := 6, step := 0, fails := 0, guess := false } ∧
      (s.core.mode ≠ .compline → u.core.active 0x5063 (b2n p) = true)) ∧
    (x.st = 2 → x.guess = true → ppmOk ppm = true →
      ∃ u, exec (.pllSearchWindow t p ppm ok) s = .next u ∧ u.core.pll (b2n p) = { x with guess := false, good := 1 }) ∧
    (x.st = 2 → x.guess = true → ppmOk ppm = false → x.fails < 2 →
      ∃ u, exec (.pllSearchWindow t p ppm ok) s = .next u ∧ u.core.pll (b2n p) = { x with step := 0, band := 32, good := 0, fails := x.fails + 1, okBand := none, guess := false, st := 1 }) ∧
    (x.st = 2 → x.guess = true → ppmOk ppm = false → 2 ≤ x.fails →
      ∃ u, exec (.pllSearchWindow t p ppm ok) s = .next u ∧ u.core.pll (b2n p) = { x with st := 6, step := 0, fails := 0, guess := false } ∧
      (s.core.mode ≠ .compline → u.core.active 0x5063 (b2n p) = true)) ∧
    (x.st = 2 → x.guess = false → ppmOk ppm = false →
      ∃ u, exec (.pllSearchWindow t p ppm ok) s = .next u ∧ u.core.pll (b2n p) = { x with good := 0 }) ∧
    (x.st = 2 → x.guess = false → ppmOk ppm = true → (x.good = 0 ∨ ok = false) →
      ∃ u, exec (.pllSearchWindow t p ppm ok) s = .next u ∧ u.core.pll (b2n p) = { x with good := 1 }) ∧
    (x.st = 2 → x.guess = false → ppmOk ppm = true → x.good ≠ 0 → ok = true →
      ∃ u, exec (.pllSearchWindow t p ppm ok) s = .next u ∧ u.core.pll (b2n p) = { x with good := 2, locked := true })) ∧
  (∀ (t : Nat) (s : State), s.core.clk.pllT.st = 2 → s.core.clk.pllT.locked = true → s.core.clk.refOn = true →
    ∃ u, exec (.outputRestart t true) s = .next u ∧ u.core.clk.pllT.st = 3 ∧
      u.core.clk.tickEdge = s.core.startEdge (s.at_ t) ∧
      (∀ k, u.core.tickIndex (s.core.startEdge (s.at_ t) + 40 * k) = 10 * k) ∧ 650 ≤ u.core.obj 0x2D20 3 ∧ u.core.obj 0x2D20 3 ≤ 1150 ∧ u.core.active 0x5060 1 = false) ∧
  (∀ (t : Nat) (s : State), s.core.clk.pllC.st = 2 → s.core.clk.pllC.locked = true → s.core.clk.refOn = true →
    ∃ u, exec (.outputRestart t false) s = .next u ∧ u.core.clk.pllC.st = 3 ∧
      u.core.obj 0x2D13 0 = s.core.obj 0x2201 0 ∧ u.core.active 0x5060 0 = false ∧
      (∀ (n : Nat) (k : ClkHold), s.core.clk.segs[n]? = some k → s.core.segOn n = true →
        u.core.clk.segs[n]? = some { k with held := false, lastEnd := some (s.core.startEdge (s.at_ t)) })) ∧
  (∀ (t : Nat) (p : Bool) (s : State), ((s.core.pll (b2n p)).st = 3 ∨ (s.core.pll (b2n p)).st = 5) →
    ∃ u, exec (.pllUnlock t p) s = .next u ∧
      u.core.pll (b2n p) =
        { s.core.pll (b2n p) with
          st := 1, band := 32, step := 0, fails := 0, good := 0, locked := false,
          okBand := none, guess := false } ∧
      (s.core.mode ≠ .compline → u.core.active 0x5060 (b2n p) = true)) ∧
  (∀ (t : Nat) (s : State), s.core.clk.refOn = true →
    ∃ u, exec (.refinLost t) s = .next u ∧ u.core.clk.refOn = false ∧
      (∀ p, p < 2 → (u.core.pll p).st =
        if (s.core.pll p).st = 3 ∨ (s.core.pll p).st = 5 then 4 else (s.core.pll p).st) ∧
      u.core.obj 0x2D03 1 = (s.core.bump 0x2D03 1).obj 0x2D03 1 ∧
      (s.core.mode ≠ .compline → u.core.active 0x5061 0 = true)) ∧
  (∀ (t : Nat) (ppm err : Int) (s : State), s.core.clk.refLost = true → s.core.pw.fwRuns = true →
    (ppmOk ppm = false → ∃ u, exec (.refinReturn t ppm err) s = .next u ∧ u.core.clk = s.core.clk ∧
      u.core.obj 0x2D03 1 = (s.core.bump 0x2D03 1).obj 0x2D03 1 ∧ s.core.keeps u.core [(0x2D03, 1)]) ∧
    (ppmOk ppm = true → ∃ u, exec (.refinReturn t ppm err) s = .next u ∧ u.core.clk.refOn = true ∧
      u.core.active 0x5061 0 = false ∧
      (∀ p, p < 2 → ((s.core.pll p).st = 4 → (u.core.pll p).st = 5) ∧
        ((s.core.pll p).st = 0 → s.core.blocksOn = true → (u.core.pll p).st = 1)))) ∧
  (∀ (t : Nat) (p : Bool) (s : State), (s.core.pll (b2n p)).st = 5 →
    s.core.clk.slewAt + 10 * s.core.clk.phaseErr.natAbs ≤ s.at_ t →
    ∃ u, exec (.slewComplete t p) s = .next u ∧ (u.core.pll (b2n p)).st = 3 ∧
      u.core.active 0x5060 (b2n p) = false) ∧
  (∀ (t a : Nat) (s : State), s.core.clk.coastAt = some a → a + s.core.obj 0x2D04 1 * 1000 ≤ s.at_ t →
    (s.core.clk.pllC.st = 4 ∨ s.core.clk.pllT.st = 4) →
    ∃ u, exec (.holdoverExpired t) s = .next u ∧ u.core.clk.coastAt = none ∧
      (∀ p, p < 2 → (u.core.pll p).st = if (s.core.pll p).st = 4 then 0 else (s.core.pll p).st) ∧
      (s.core.mode ≠ .compline → u.core.active 0x5062 0 = true)) ∧
  (∀ (t : Nat) (s : State), s.core.clk.tHeld = true → s.core.clk.pllT.st = 3 →
    ∃ u, exec (.pllTRestart t) s = .next u ∧
      u.core.clk = { s.core.clk with tHeld := false, dcAcc := u.core.clk.dcAcc, dcAt := u.core.clk.dcAt } ∧
      (s.core.ec.dcRunning = false → u.core.clk.dcAcc = s.core.clk.dcAcc)) ∧
  (∀ (t : Nat) (n : Fin 8) (s : State), (s.core.obj 0x2D13 0).testBit n.val = true →
    ∃ u, exec (.fineDelayStep t n) s = .next u ∧ u.mem = s.mem ∧
      u.core = ({ s.core with dict := u.core.dict } : Core).under u.core ∧
      s.core.keeps u.core [(0x2D11, n.val + 1)] ∧
      u.core.obj 0x2D11 (n.val + 1) =
        if s.core.obj 0x2D11 (n.val + 1) < s.core.obj 0x2D10 (n.val + 1) then s.core.obj 0x2D11 (n.val + 1) + 1
        else if s.core.obj 0x2D10 (n.val + 1) < s.core.obj 0x2D11 (n.val + 1) then
          s.core.obj 0x2D11 (n.val + 1) - 1
        else s.core.obj 0x2D11 (n.val + 1)) ∧
  (∀ (t n : Nat) (e : Tk) (s : State), s.core.clk.tHeld = true → s.core.clk.pllT.st = 3 →
    (s.core.tkSync (s.at_ t)).tk.engs[n]? = some e → e.running = true → tickOf s.core.clk.heldAt < tickOf e.next →
    ∃ u, exec (.pllTRestart t) s = .next u ∧ (u.core.eng1 n).running = true ∧ (u.core.eng1 n).st = e.st ∧
      (u.core.eng1 n).next = max (tickUp (s.at_ t)) s.core.clk.tickEdge +
        (tickOf e.next - tickOf s.core.clk.heldAt - 1) * 4)

/-- While the controller is ready: a request below the end of the device address space waits with its
deadline, but none is taken before that nor while DUSK is being entered; above it the request faults. A
channel's command takes the request that R346 picks off the queue: a clean read of a line that is not
poisoned, owed before all others, answers the line's 64 bytes; a write, of the whole line or to a line that
is not poisoned, stores its masked bytes at the line and nowhere else; where the pick is the migration's,
its read takes what the line holds, zero where it is poisoned, and its write stores that and moves the
pointer; with no pick nothing is issued. Refresh moves to the next bank and counts its scrub errors;
drifting lanes move; MR4 is kept for ten ranks. A row that stood idle closes; the error window restarts when
its time is over, in step with its length. A retirement by request of a rank in service, with no migration
and a spare free, starts a migration to the spare; an abort ends a migration; once its last line is copied
the ranks are exchanged. Open points follow the model's choices of log entries 75, 76, 77, 78, 80, 81, 155,
164. (R339, R345, R346, R349, R350, R351, R354, R355, R356, R358) -/
def Obligations.DramController : Prop :=
  (∀ (t dpa : Nat) (p : Fin 6) (op : DramOp) (s : State),
    (dpaEnd ≤ dpa → exec (.dramRequest t p dpa op) s = .fault (.noSuchAddress dpa)) ∧
    (dpa < dpaEnd → s.core.dramReady = true → s.core.toDusk = false →
      ∃ u, exec (.dramRequest t p dpa op) s = .next u ∧ u.mem = s.mem ∧ u.core.dict = s.core.dict ∧
      u.core.dram.queue = s.core.dram.queue ++ [⟨s.core.dram.nextId, p.val, dpa / 64 * 64, op, s.at_ t,
        s.at_ t + s.core.obj 0x2E21 (p.val + 1)⟩] ∧
      u.core.dram.openRow = s.core.dram.openRow ∧ u.core.dram.poison = s.core.dram.poison)) ∧
  (∀ (t : Nat) (n : Fin 5) (r : DramReq) (s : State), s.core.dramReady = true →
    s.core.pick (s.at_ t) n.val = some r → r.id ≠ s.core.dram.nextId → r.op = .read →
    s.core.poisoned r.dpa 64 = false → r.port < 6 → s.core.dram.owed = [(r.port, r.id)] → s.core.dram.done = [] →
    (r.port = 0 → s.core.dram.jobs = []) →
    ∃ u, exec (.dramCommand t n .clean) s = .next u ∧ u.mem = s.mem ∧
      u.core.dram.queue = s.core.dram.queue.filter (fun x => x.id != r.id) ∧
      s.puts u [.dramData r.port r.id (some (Memory.bytes s.mem r.dpa 64))] ∧
      s.core.keeps u.core [(0x2E23, r.port + 1)]) ∧
  (∀ (t : Nat) (n : Fin 5) (res : DramOutcome) (r : DramReq) (mask : BitVec 64) (data : List Byte) (s : State),
    s.core.dramReady = true → s.core.pick (s.at_ t) n.val = some r → r.op = .write mask data →
    (mask = BitVec.allOnes 64 ∨ s.core.poisoned r.dpa 64 = false) →
    ∃ u, exec (.dramCommand t n res) s = .next u ∧
      u.mem = Memory.masked s.mem r.dpa mask 0 (slice data 0 64) ∧
      u.core.dram.queue = s.core.dram.queue.filter (fun x => x.id != r.id)) ∧
  (∀ (t : Nat) (n : Fin 5) (r : DramReq) (g : Migration) (s : State), s.core.dramReady = true →
    s.core.pick (s.at_ t) n.val = some r → r.id = s.core.dram.nextId → s.core.dram.mig = some g →
    (g.pend = none → ∃ u, exec (.dramCommand t n .clean) s = .next u ∧ u.mem = s.mem ∧
      u.core.dram.queue = s.core.dram.queue ∧
      u.core.dram.mig = some { g with pend := some (s.at_ t,
        if s.core.poisoned r.dpa 64 then zeros 64 else Memory.bytes s.mem r.dpa 64) } ∧
      s.core.keeps u.core [(0x2E23, 6)]) ∧
    (∀ (a : Nat) (b : List Byte), g.pend = some (a, b) → ∃ u, exec (.dramCommand t n .clean) s = .next u ∧
      u.mem = Memory.masked s.mem r.dpa (BitVec.allOnes 64) 0 b ∧
      u.core.dram.queue = s.core.dram.queue ∧
      u.core.dram.mig = some { g with ptr := g.ptr + 1, pend := none } ∧ u.core.obj 0x2E45 3 = g.ptr + 1 ∧
      s.core.keeps u.core [(0x2E45, 3), (0x2E23, 6)])) ∧
  (∀ (t : Nat) (n : Fin 5) (res : DramOutcome) (s : State), s.core.dramReady = true →
    s.core.pick (s.at_ t) n.val = none →
    ∃ u, exec (.dramCommand t n res) s = .next u ∧ u.mem = s.mem ∧
      u.core = ({ s.core with dram := { s.core.dram with
        draining := modAt s.core.dram.draining n.val (fun _ => s.core.drains (s.at_ t) n.val) } } : Core).under u.core) ∧
  (∀ (t k : Nat) (r : Fin 10) (s : State), s.core.dramReady = true →
    ∃ u, exec (.perBankRefresh t r k) s = .next u ∧
      u.core.dram.refBank = modAt s.core.dram.refBank r.val (fun b => (b + 1) % 16) ∧
      u.core.dram.winErr = (if k = 0 then s.core.dram.winErr else modAt s.core.dram.winErr r.val (· + k)) ∧
      (k ≠ 0 → u.core.obj 0x2E42 (r.val + 1) = (s.core.bumpBy 0x2E42 (r.val + 1) k).obj 0x2E42 (r.val + 1)) ∧
      (k = 0 → u.core.dict = s.core.dict)) ∧
  (∀ (t : Nat) (r : Fin 10) (b : Fin 16) (s : State),
    ∃ u, exec (.rowIdleClose t r b) s = .next u ∧ u.mem = s.mem ∧
      u.core = ({ s.core with dram := { s.core.dram with openRow := s.core.dram.openRow.filter (fun x =>
        !(x.1 == r.val * 16 + b.val && decide (x.2.2 + s.core.obj 0x2E25 0 ≤ s.at_ t))) } } : Core).under u.core) ∧
  (∀ (t : Nat) (d : List Int) (s : State), s.core.dramReady = true →
    ∃ u, exec (.wckDqMeasure t d) s = .next u ∧ u.core.dram.drift = d.take 20 ∧
      (∀ (l : Nat) (x : Int), l < 20 → d[l]? = some x →
        u.core.obj 0x2E10 (l + 1) = if -3 ≤ x ∧ x ≤ 3 then s.core.obj 0x2E10 (l + 1) else
          s.core.obj 0x2E10 (l + 1) / 65536 * 65536 + stepDelay x (field (s.core.obj 0x2E10 (l + 1)) 15 8) * 256 +
            stepDelay x (field (s.core.obj 0x2E10 (l + 1)) 7 0))) ∧
  (∀ (t : Nat) (need : List Nat) (s : State), s.core.dramReady = true → s.core.dram.mr4.length = 10 →
    ∃ u, exec (.mr4Read t need) s = .next u ∧
      (∀ p, p < 10 → u.core.dram.mr4.getD p 4 = need.getD p (s.core.dram.mr4.getD p 4))) ∧
  (∀ (t : Nat) (s : State),
    (s.at_ t < s.core.dram.winAt + s.core.obj 0x2E40 2 * 1000000000 →
      ∃ u, exec (.errorWindowRestart t) s = .next u ∧ u.core = s.core.under u.core) ∧
    (s.core.dram.winAt + s.core.obj 0x2E40 2 * 1000000000 ≤ s.at_ t →
      ∃ u, exec (.errorWindowRestart t) s = .next u ∧ u.core.dram.winErr = List.replicate 10 0 ∧
        u.core.dram.winAt = s.core.dram.winAt + (s.at_ t - s.core.dram.winAt) /
          (s.core.obj 0x2E40 2 * 1000000000) * (s.core.obj 0x2E40 2 * 1000000000))) ∧
  (∀ (t d : Nat) (o : Orig) (v : Byte) (s : State), s.core.mayWrite o 0x2E45 1 8 → 1 ≤ v.toNat → v.toNat ≤ 8 →
    s.core.dram.mig = none → s.core.dram.retiring = [] → s.core.freeSpare = some d →
    s.core.logicalOf (s.core.rankOf (v.toNat - 1)) = some (v.toNat - 1) →
    s.core.rankOf (v.toNat - 1) < 10 → s.core.rankState (s.core.rankOf (v.toNat - 1)) % 16 = 0 →
    ∃ u, exec (.retireLogicalRank t o v) s = .next u ∧
      u.core.dram.mig = some ⟨s.core.rankOf (v.toNat - 1), d, v.toNat - 1, 0, s.at_ t, none⟩ ∧
      u.core.rankState (s.core.rankOf (v.toNat - 1)) = 2 ∧ u.core.rankState d = 3 ∧
      u.core.obj 0x2E45 2 = 1 + 32 * (v.toNat - 1)) ∧
  (∀ (t : Nat) (o : Orig) (g : Migration) (s : State), s.core.mayWrite o 0x2E45 1 8 →
    s.core.dram.mig = some g → s.core.dram.retiring = [] → g.src < 10 → g.dst < 10 → g.src ≠ g.dst →
    ∃ u, exec (.migrationAbort t o) s = .next u ∧ u.core.dram.mig = none ∧ u.core.rankState g.src = 0 ∧
      u.core.rankState g.dst = 1 ∧ u.core.obj 0x2E45 2 = 3 + 32 * g.logical) ∧
  (∀ (t : Nat) (g : Migration) (s : State), s.core.dram.mig = some g → s.core.dramReady = true →
    rankLines ≤ g.ptr → s.core.dram.retiring = [] → g.src < 10 → g.dst < 10 →
    g.src ≠ g.dst → g.logical < 8 →
    ∃ u, exec (.migrationDone t) s = .next u ∧ u.core.dram.mig = none ∧ u.core.rankOf g.logical = g.dst ∧
      u.core.rankState g.src = 4 ∧ u.core.rankState g.dst = 0 ∧ u.core.obj 0x2E45 2 = 2 + 32 * g.logical ∧
      u.core.obj 0x2E45 3 = rankLines) ∧
  (∀ (t dpa : Nat) (p : Fin 6) (op : DramOp) (s : State), dpa < dpaEnd → s.core.dramAccepts = false →
    ∃ u, exec (.dramRequest t p dpa op) s = .next u ∧ u.mem = s.mem ∧ u.core = s.core.under u.core)

/-- A reset of the attachment takes the CXL link and the host link down, disables every ring while what the
holding store holds stays (EVR's part may gain an event), empties the MSI-X table, stops a mailbox request
and returns every page to host bias that is no staging of a running job; a function-level reset disables the
rings, empties the MSI-X table and stops a mailbox request, and leaves both links and every object. The host
link goes down by each of its causes, D3hot once no reference read is outstanding, a recovery only after 1
ms, DL_Down with a reset of the attachment; a host link that is down comes up again with the CXL link up and
PERST_N released, in D0 with bus mastering; training, where it may take place, reports width and rate and,
at full width and rate, no event, and changes of the objects only what waiting outputs then count; a
recovery is counted and its moment kept; PERST_N released starts training. None of these changes the mode, a
job, an owner or a row. Open points follow the model's choices of log entries 86, 92. (R384, R385, R386,
R387, R407, R417) -/
def Obligations.HostLink : Prop :=
  (∀ (t : Nat) (k : AttachReset) (s : State),
    ∃ u, exec (.perstNAssert t k) s = .next u ∧ u.mem = s.mem ∧ u.core.cxl.dlUp = false ∧
      u.core.cxl.hostUp = false ∧ (k = .perstN → u.core.cxl.perst = true) ∧
      (∀ i, (u.core.ring i).enable = false ∧ (i ≠ 4 → (u.core.ring i).held = (s.core.ring i).held)) ∧
      (∃ l, (u.core.ring 4).held = (s.core.ring 4).held ++ l) ∧ u.core.cxl.msix = [] ∧
      (∀ p, p ∈ u.core.cxl.devBias ↔
        s.core.job.running = true ∧ p ∈ s.core.cxl.devBias ∧ s.core.stagingPage p = true) ∧
      u.core.mbx.busy = false) ∧
  (∀ (t : Nat) (s : State), s.core.cxl.perst = true →
    ∃ u, exec (.perstNRelease t) s = .next u ∧ u.mem = s.mem ∧
      u.core = ({ s.core with cxl := { s.core.cxl with perst := false, training := true } } : Core).under u.core) ∧
  (∀ (t : Nat) (s : State),
    ∃ u, exec (.flr t) s = .next u ∧ u.mem = s.mem ∧ u.core.cxl.msix = [] ∧ u.core.mbx.busy = false ∧
      u.core.cxl.rings = s.core.cxl.rings.map (fun r => { r with enable := false }) ∧
      u.core.cxl.dlUp = s.core.cxl.dlUp ∧ u.core.cxl.hostUp = s.core.cxl.hostUp ∧
      u.core.dict = s.core.dict) ∧
  (∀ (t : Nat) (s : State), s.core.cxl.hostUp = true →
    (∃ u, exec (.hostLinkDown t .dlDown) s = .next u ∧ u.core.cxl.hostUp = false ∧ u.core.cxl.dlUp = false ∧
      (s.core.cxl.dlUp = true → ∀ i, (u.core.ring i).enable = false) ∧
      u.core.cxl.downAt = s.at_ t ∧ (s.core.mode ≠ .compline → u.core.active 0x8110 0 = true)) ∧
    ((∀ r ∈ s.core.eng.refs, r.asked ≤ r.got) → ∃ u, exec (.hostLinkDown t .d3hot) s = .next u ∧
      u.core.cxl.hostUp = false ∧ u.core.cxl.d0 = false) ∧
    ((∃ r ∈ s.core.eng.refs, r.got < r.asked) → ∃ u, exec (.hostLinkDown t .d3hot) s = .next u ∧
      u.core = ({ s.core with cxl := { s.core.cxl with d3Want := true } } : Core).under u.core) ∧
    (∃ u, exec (.hostLinkDown t .busMasterOff) s = .next u ∧ u.core.cxl.hostUp = false ∧
      u.core.cxl.master = false) ∧
    (∀ a, s.core.cxl.recSince = some a →
      ∃ u, exec (.hostLinkDown t .recovery) s = .next u ∧
        u.core.cxl.hostUp = decide (s.at_ t < a + 1000000))) ∧
  (∀ (t : Nat) (s : State), s.core.cxl.hostUp = false → s.core.cxl.dlUp = true → s.core.cxl.perst = false →
    ∃ u, exec (.hostLinkUp t) s = .next u ∧ u.mem = s.mem ∧ u.core.cxl.hostUp = true ∧ u.core.cxl.d0 = true ∧
      u.core.cxl.master = true ∧ u.core.active 0x8110 0 = false) ∧
  (∀ (t w r : Nat) (cxl : Bool) (s : State), s.core.mayTrain = true →
    ∃ u, exec (.linkTrained t w r cxl) s = .next u ∧ u.core.cxl.dlUp = true ∧ u.core.cxl.recSince = none ∧
      u.core.obj 0x3000 2 = w % 256 ∧ u.core.obj 0x3000 3 = r % 65536 ∧
      (s.core.cxl.dlUp = false → u.core.cxl.cxlMode = (cxl && s.core.flag 0x3001 1 && decide (80 ≤ r))) ∧
      (8 ≤ w → 320 ≤ r → s.core.keeps u.core [(0x3000, 2), (0x3000, 3), (0x3000, 4), (0x3210, 10), (0x2840, 7),
        (0x2840, 9)])) ∧
  (∀ (t : Nat) (s : State), s.core.cxl.dlUp = true → s.core.cxl.recSince = none →
    ∃ u, exec (.linkRecovery t) s = .next u ∧ u.core.cxl.recSince = some (s.at_ t) ∧
      u.core.cxl.dlUp = true ∧ u.core.cxl.hostUp = s.core.cxl.hostUp ∧ s.core.keeps u.core [(0x3000, 8)]) ∧
  (∀ (i : Instr) (s u : State), exec i s = .next u →
    ((∃ t k, i = .perstNAssert t k) ∨ (∃ t, i = .perstNRelease t) ∨ (∃ t, i = .flr t) ∨
      (∃ t k, i = .hostLinkDown t k) ∨ (∃ t, i = .hostLinkUp t) ∨ (∃ t w r x, i = .linkTrained t w r x) ∨
      (∃ t, i = .linkRecovery t)) →
    u.mem = s.mem ∧ u.core.mode = s.core.mode ∧ u.core.job = s.core.job ∧ u.core.owners = s.core.owners ∧
    u.core.pipe = s.core.pipe ∧ u.core.mot = s.core.mot ∧ u.core.trans = s.core.trans)

/-- HOST, owning RINGS, enables a disabled ring whose registers are valid with its indices at 0 and sees
CONFIG_ERROR otherwise; disables one; and moves its index by a doorbell within what there is, an excessive
value of another ring only setting DOORBELL_ERROR. Without ownership none of it is taken and the refusal is
counted. The entry that an open ring is due is its oldest held one; with none held, the first record that
the collector has settled goes to DFR with its number: slot, then writeback, and the producer moves by one;
a GAP that stands staged goes to its ring; where DFR is not open the record is held, and with its partition
and reserve full it is counted as not reported; a ring that is due none and owes no report changes nothing.
A drain writes the oldest held entry, in place of one whose header is poisoned a void entry from ring 2 on,
and counts a summary's loss; a poisoned line of a statistics body is 0. The store reports when it has been
emptied, where that report itself is not held; a ring's time threshold interrupts, with a message where the
function may send and the vector is not masked; the DFR reserve full is shown once outside COMPLINE, the
other rings' partitions report nothing there; writing EVT_SUMMARY clears the bits written. Open points
follow the model's choices of log entries 88, 89, 118. (R391, R404, R405, R406, R407, R415, R416, R449) -/
def Obligations.RingsAndHold : Prop :=
  (∀ (t : Nat) (i : Fin 10) (s : State), s.core.ringOwned = true → s.core.cxl.rings.length = 10 →
    (s.core.ring i.val).enable = false →
    (s.core.ringValid i.val = true → ∃ u, exec (.ringEnable t i) s = .next u ∧
      (u.core.ring i.val).enable = true ∧ (u.core.ring i.val).cons = 0 ∧
      (i.val ≠ 7 → i.val ≠ 9 → u.core.dict = s.core.dict ∧
        u.core.cxl.rings = modAt s.core.cxl.rings i.val (fun r => { r with
          enable := true, prod := 0, cons := 0, unrep := 0, since := none, dbErr := false, cfgErr := false }))) ∧
    (s.core.ringValid i.val = false → ∃ u, exec (.ringEnable t i) s = .next u ∧ u.core.dict = s.core.dict ∧
      u.core.cxl.rings = modAt s.core.cxl.rings i.val (fun r => { r with cfgErr := true }) ∧
      u.core.cxl.summary.getLsbD 5 = true)) ∧
  (∀ (t : Nat) (i : Fin 10) (s : State), s.core.ringOwned = true →
    ∃ u, exec (.ringDisable t i) s = .next u ∧ u.mem = s.mem ∧
      u.core = ({ s.core with cxl := { s.core.cxl with
        rings := modAt s.core.cxl.rings i.val (fun r => { r with enable := false }) } } : Core).under u.core) ∧
  (∀ (t : Nat) (i : Fin 10) (v : Word32) (s : State), s.core.ringOwned = false →
    (∃ u, exec (.ringEnable t i) s = .next u ∧ u.core.cxl.rings = s.core.cxl.rings ∧
      u.core.cxl.refused = (s.core.cxl.refused + 1) % 2 ^ 32 ∧ u.core.cxl.summary.getLsbD 3 = true) ∧
    (∃ u, exec (.ringDisable t i) s = .next u ∧ u.core.cxl.rings = s.core.cxl.rings ∧
      u.core.cxl.refused = (s.core.cxl.refused + 1) % 2 ^ 32 ∧ u.core.cxl.summary.getLsbD 3 = true) ∧
    (∃ u, exec (.doorbell t i v) s = .next u ∧ u.core.cxl.rings = s.core.cxl.rings ∧
      u.core.cxl.refused = (s.core.cxl.refused + 1) % 2 ^ 32 ∧ u.core.cxl.summary.getLsbD 3 = true)) ∧
  (∀ (t : Nat) (i : Fin 10) (v : Word32) (s : State), s.core.ringOwned = true → s.core.cxl.rings.length = 10 →
    (i.val = 6 →
      (v.toNat + 2 ^ 32 - (s.core.ring 6).prod) % 2 ^ 32 ≤ 2 ^ (s.core.ring 6).size - (s.core.ring 6).used →
      ∃ u, exec (.doorbell t i v) s = .next u ∧
        u.core.cxl.rings = modAt s.core.cxl.rings 6 (fun r => { r with prod := v.toNat })) ∧
    (i.val ≠ 6 → (v.toNat + 2 ^ 32 - (s.core.ring i.val).cons) % 2 ^ 32 ≤ (s.core.ring i.val).used →
      ∃ u, exec (.doorbell t i v) s = .next u ∧ (u.core.ring i.val).cons = v.toNat ∧
        (i.val ≠ 7 → i.val ≠ 9 →
          u.core.cxl.rings = modAt s.core.cxl.rings i.val (fun r => { r with cons := v.toNat }))) ∧
    (i.val ≠ 6 → (s.core.ring i.val).used < (v.toNat + 2 ^ 32 - (s.core.ring i.val).cons) % 2 ^ 32 →
      ∃ u, exec (.doorbell t i v) s = .next u ∧ u.core.cxl.summary.getLsbD 2 = true ∧
        u.core.cxl.rings = modAt s.core.cxl.rings i.val (fun r => { r with dbErr := true }))) ∧
  (∀ (t : Nat) (i : Fin 6) (e : List Byte) (l : List (List Byte)) (r : Ring) (s : State),
    s.core.ring i.val = r → s.core.cxl.rings.length = 10 → s.core.ringOpen i.val = true → r.held = e :: l →
    ∃ u m, exec (.ringEntryIssue t i) s = .next u ∧ (u.core.ring i.val).held = l ++ m ∧
      s.puts u [.hostWrite (r.base + (r.prod % 2 ^ r.size) * unitSize i.val) e]) ∧
  (∀ (t : Nat) (x y : Rec) (r : Ring) (s : State), s.core.ring 0 = r → s.core.cxl.rings.length = 10 →
    s.core.firstRec = some x → s.core.settledTo x.first = true → s.core.ev.loss = none →
    y = (if s.core.mot.uncertain.any (fun p => p.1 < x.first + x.ext && x.first ≤ p.2) then
      { x with flags := x.flags ||| 16 } else x) →
    (s.core.ringOpen 0 = true → r.held = [] → ∃ u, exec (.ringEntryIssue t 0) s = .next u ∧
      u.core.eng.recs = s.core.eng.recs.erase x ∧ u.core.eng.recSeq = (s.core.eng.recSeq + 1) % 2 ^ 32 ∧
      (u.core.ring 0).prod = (r.prod + 1) % 2 ^ 32 ∧ (u.core.ring 0).held = [] ∧
      s.puts u [.hostWrite (r.base + (r.prod % 2 ^ r.size) * 32) (recBytes y s.core.eng.recSeq),
        .hostWrite r.wb (leBytes 4 ((r.prod + 1) % 2 ^ 32) ++ leBytes 4 0)]) ∧
    (s.core.ringOpen 0 = false → s.core.slotFree 0 false = true →
      ∃ u, exec (.ringEntryIssue t 0) s = .next u ∧ u.core.eng.recs = s.core.eng.recs.erase x ∧
      u.core.eng.recSeq = (s.core.eng.recSeq + 1) % 2 ^ 32 ∧ (u.core.ring 0).prod = r.prod ∧
      (u.core.ring 0).held = r.held ++ [recBytes y s.core.eng.recSeq] ∧ u.core.cxl.drained = false) ∧
    (s.core.ringOpen 0 = false → s.core.slotFree 0 true = false →
      ∃ u, exec (.ringEntryIssue t 0) s = .next u ∧ u.core.eng.recs = s.core.eng.recs.erase x ∧
      u.core.eng.recSeq = s.core.eng.recSeq ∧ (u.core.ring 0).prod = r.prod ∧ (u.core.ring 0).held = r.held ∧
      u.core.obj 0x3210 7 = (s.core.bump 0x3210 7).obj 0x3210 7)) ∧
  (∀ (t : Nat) (p : Picture) (l : List Picture) (r : Ring) (s : State), s.core.ring 5 = r →
    s.core.cxl.rings.length = 10 → s.core.ringOpen 5 = true → r.held = [] → s.core.ctx.staged = p :: l →
    p.gap = true → ∃ u, exec (.ringEntryIssue t 5) s = .next u ∧ u.core.ctx.staged = l ∧
      s.puts u [.hostWrite (r.base + (r.prod % 2 ^ r.size) * unitSize 5)
        (withCrc16 (p.entry (s.core.unitSeq 2 p.ctx p.run) 0))]) ∧
  (∀ (t : Nat) (i : Fin 6) (s : State), s.core.ringOpen i.val = false ∨ (s.core.ring i.val).held = [] →
    (i.val = 0 → s.core.firstRec = none) → (i.val = 5 → s.core.ctx.staged = []) →
    s.core.ev.sumLost = none → s.core.ev.notStarted = [] → s.core.ev.notKept = 0 →
    ∃ u, exec (.ringEntryIssue t i) s = .next u ∧ u.core = s.core.under u.core) ∧
  (∀ (t : Nat) (i : Fin 6) (e : List Byte) (l : List (List Byte)) (r : Ring) (s : State),
    s.core.ring i.val = r → s.core.cxl.rings.length = 10 → r.held = e :: l → s.core.ringOpen i.val = true →
    (∃ u m, exec (.holdDrain t i .whole) s = .next u ∧ (u.core.ring i.val).held = l ++ m ∧
      s.puts u [.hostWrite (r.base + (r.prod % 2 ^ r.size) * unitSize i.val) e]) ∧
    (∀ k, i.val ≠ 2 → ∃ u, exec (.holdDrain t i (.bodyLine k)) s = .next u ∧
      s.puts u [.hostWrite (r.base + (r.prod % 2 ^ r.size) * unitSize i.val) e]) ∧
    (∀ k, i.val = 2 → ∃ u, exec (.holdDrain t i (.bodyLine k)) s = .next u ∧
      s.puts u [.hostWrite (r.base + (r.prod % 2 ^ r.size) * unitSize i.val) (blankLine k e)]) ∧
    (∀ k, i.val = 1 → ∃ u, exec (.holdDrain t i (.lost k)) s = .next u ∧ (u.core.ring 1).prod = r.prod ∧
      u.core.obj 0x3210 9 = (s.core.bump 0x3210 9).obj 0x3210 9) ∧
    (∀ k, 2 ≤ i.val → ∃ u, exec (.holdDrain t i (.lost k)) s = .next u ∧
      s.puts u [.hostWrite (r.base + (r.prod % 2 ^ r.size) * unitSize i.val) (voidEntry (unitSize i.val))])) ∧
  (∀ (t : Nat) (s : State), s.core.cxl.drained = false → s.core.cxl.rings.all (fun r => r.held.isEmpty) = true →
    (s.core.flag 0x3200 5 = false ∨ s.core.ringOpen 4 = true) →
    ∃ u, exec (.holdEmptied t) s = .next u ∧ u.core.cxl.drained = true) ∧
  (∀ (t : Nat) (i : Fin 6) (s : State), i.val ≠ 0 →
    ∃ u, exec (.holdOverflow t i) s = .next u ∧ u.core = s.core.under u.core) ∧
  (∀ (t : Nat) (s : State), s.core.ev.maskOverflow.getD 0 false = false → s.core.slotFree 0 true = false →
    s.core.mode ≠ .compline →
    ∃ u, exec (.holdOverflow t 0) s = .next u ∧ u.core.active 0x8111 0 = true) ∧
  (∀ (t a : Nat) (i : Fin 7) (s : State), (s.core.ring i.val).since = some a → (s.core.ring i.val).irqEn = true →
    (s.core.ring i.val).irqUs ≠ 0 → a + (s.core.ring i.val).irqUs * 1000 ≤ s.at_ t →
    ∃ u, exec (.irqTimeThreshold t i) s = .next u ∧ u.core.dict = s.core.dict ∧
      u.core.cxl.rings = modAt s.core.cxl.rings i.val (fun r => { r with unrep := 0, since := none }) ∧
      (s.core.sends = true → s.core.msixMasked (i.val + 1) = false → s.puts u [.msix (i.val + 1)])) ∧
  (∀ (t : Nat) (v : Word32) (s : State),
    ∃ u, exec (.evtSummaryClear t v) s = .next u ∧ u.mem = s.mem ∧
      u.core = ({ s.core with cxl := { s.core.cxl with
        summary := s.core.cxl.summary &&& ~~~v } } : Core).under u.core)

/-- A bias flip by the owner of HOST's domain, with its range inside HDM, none running and no staging page
of a running job in it, runs over its pages and reads running; a flip while one runs is refused with 0800
0031h and changes nothing. Its end, for host bias once the device's reads of its pages are complete, moves
exactly its pages and raises vector 10's summary. A CXL.mem request that the device is open for joins the
DRAM's queue at port 2; in DUSK and as it is entered a read answers poison and both leave the queue alone;
an address outside HDM faults. A snoop is answered, and drops the line it invalidates. The decoder commits
for the whole of HDM with one way, and errs otherwise. Open points follow the model's choices of log entries
8, 91, 155. (R392, R395, R396, R397, R398) -/
def Obligations.HostMemory : Prop :=
  (∀ (t : Nat) (o : Orig) (s : State), s.core.mayWrite o 0x3010 3 7 → s.core.flipCodes = [] →
    (∃ u, exec (.biasFlipDevice t o) s = .next u ∧ u.mem = s.mem ∧ u.core.obj 0x3010 4 = 1 ∧
      u.core.cxl.flip = some ⟨s.core.obj 0x3010 1 / 2 ^ 21, s.core.obj 0x3010 2, true⟩ ∧
      u.core.cxl.devBias = s.core.cxl.devBias ∧ s.core.keeps u.core [(0x3010, 4)]) ∧
    (∃ u, exec (.biasFlipHost t o) s = .next u ∧ u.mem = s.mem ∧ u.core.obj 0x3010 4 = 1 ∧
      u.core.cxl.flip = some ⟨s.core.obj 0x3010 1 / 2 ^ 21, s.core.obj 0x3010 2, false⟩ ∧
      u.core.cxl.devBias = s.core.cxl.devBias ∧ s.core.keeps u.core [(0x3010, 4)])) ∧
  (∀ (t : Nat) (o : Orig) (i : Instr) (s : State), s.core.mayWrite o 0x3010 3 7 → o ≠ .pdo →
    s.core.flipCodes = [0x08000031] → (i = .biasFlipDevice t o ∨ i = .biasFlipHost t o) →
    ∃ u, exec i s = .next u ∧ u.core = s.core.under u.core ∧ s.puts u [.answer o 0x3010 3 0x08000031]) ∧
  (∀ (t : Nat) (f : Flip) (s : State), s.core.cxl.flip = some f →
    (f.toDev = false → s.core.readsIn f.first f.pages = true →
      ∃ u, exec (.biasDone t) s = .next u ∧ u.core = s.core.under u.core) ∧
    (f.toDev = true ∨ s.core.readsIn f.first f.pages = false → ∃ u, exec (.biasDone t) s = .next u ∧ u.mem = s.mem ∧ u.core.cxl.flip = none ∧ u.core.obj 0x3010 4 = 2 ∧
      u.core.cxl.summary.getLsbD 4 = true ∧ s.core.keeps u.core [(0x3010, 4)] ∧
      (∀ p, p ∈ u.core.cxl.devBias ↔
        if f.first ≤ p ∧ p < f.first + f.pages then f.toDev = true else p ∈ s.core.cxl.devBias))) ∧
  (∀ (t off : Nat) (op : DramOp) (s : State),
    (hdmEnd ≤ off → exec (.cxlMemRequest t off op) s = .fault (.noSuchAddress off)) ∧
    (off < hdmEnd → s.core.memOpen = true → s.core.hdmAsleep = false →
      ∃ u, exec (.cxlMemRequest t off op) s = .next u ∧ u.mem = s.mem ∧
      u.core.dram.queue = s.core.dram.queue ++ [⟨s.core.dram.nextId, 2, off / 64 * 64, op, s.at_ t,
        s.at_ t + s.core.obj 0x2E21 3⟩] ∧ s.core.keeps u.core [(0x3010, 6)]) ∧
    (off < hdmEnd → s.core.memOpen = true → s.core.hdmAsleep = true →
      ∃ u, exec (.cxlMemRequest t off op) s = .next u ∧ u.mem = s.mem ∧ u.core.dict = s.core.dict ∧
      u.core.dram.queue = s.core.dram.queue ∧ u.core.cxl.ras = s.core.cxl.ras ++ [off / 64 * 64] ∧
      (op = .read → s.puts u [.dramData 2 s.core.dram.nextId none])) ∧
    (off < hdmEnd → s.core.memOpen = false →
      ∃ u, exec (.cxlMemRequest t off op) s = .next u ∧ u.core = s.core.under u.core)) ∧
  (∀ (t a : Nat) (inv : Bool) (s : State), s.core.cxl.dlUp = true → s.core.cxl.cxlMode = true →
    ∃ u, exec (.snoop t a inv) s = .next u ∧ u.mem = s.mem ∧ s.puts u [.snoopAnswer a] ∧
      s.core.keeps u.core [(0x3030, 3)] ∧
      u.core.cxl.cache = if inv then s.core.cxl.cache.filter (fun l => l != a / 64) else s.core.cxl.cache) ∧
  (∀ (t size ways : Nat) (s : State),
    ∃ u, exec (.hdmDecoderCommit t size ways) s = .next u ∧ u.mem = s.mem ∧
      u.core = ({ s.core with cxl := { s.core.cxl with
        comp := aput (aput s.core.cxl.comp 0x1218 (size % 2 ^ 32)) 0x121C (size / 2 ^ 32 % 2 ^ 32),
        hdmOk := decide (size = hdmEnd ∧ ways = 1), hdmErr := !decide (size = hdmEnd ∧ ways = 1) } } : Core).under
        u.core)

/-- An enabled segment's link in bring-up, with PLL-T running, takes the first configuration of R429 that
enough passing lanes allow, the ninth passing lane its spare, or FAULT; a link whose map and rate were in
force before a restart of PLL-T keeps them. While 3110h.05 is 1 an eye scan of a lane in use keeps its
margins and counts failed ones and the lane's BIP-8 errors; a lane fails margin by a second failed scan in a
row, or by more errors in a window of 1 s than 3110h.03; the scan of a lane not in use does nothing. On a
link that is up a lane in use that fails margin or loses block lock is retired: with 3110h.04 at 1 the spare
takes its logical place and the link retrains; with no spare left the link goes on with seven lanes, or from
seven lanes into FAULT; a spare that fails is retired. A write of 3111h.00 does the same for a lane in use;
lane 8 is refused with 0609 0030h, a retired or unused lane and a segment that retrains with 0800 0031h. A
link that is up retrains by each cause, counted. A retrain restarts after each millisecond, ends in FAULT
the third time, or completes. A lost command of an enabled segment that would have produced no row is
counted, shown outside COMPLINE, not acknowledged; a status block of a link that is up and awake gives the
segment's temperatures while they are sensed and acknowledges. In SERVICE, a test starts on the segment
selected with counts at 0, ending one elsewhere; a stop puts the tested segment back, its bits and errors
since the last count added, and without a test does nothing; a bit slip of one of the nine lanes shifts,
under manual alignment, that lane's boundary modulo 66 and no other segment, else nothing; a sleep command
sets what sleeps of an enabled segment: both directions put a link that is up to sleep, else one asleep
wakes or is brought up. In other modes each is refused with 0800 0021h, changing nothing, process data
without an answer. Open points follow the model's choices of log entries 94, 95, 153, 170. (R425, R427,
R428, R429, R430, R431, R432, R433, R435, R436, R437, R439) -/
def Obligations.SegmentLinks : Prop :=
  (∀ (t w r : Nat) (n : Fin 8) (ls : List LaneResult) (s : State), s.core.segOn n.val = true →
    (s.core.link n.val).st = 1 → s.core.clk.tHeld = false →
    ((s.core.link n.val).keep = true → ∃ u, exec (.linkBringUp t n ls) s = .next u ∧
      u.core.dict = s.core.dict ∧ u.core.links = modAt s.core.links n.val Link.up) ∧
    ((s.core.link n.val).keep = false → linkConfigs.find? (fun k => decide (k.1 ≤ (s.core.passing n.val k.2 ls).length)) = some (w, r) →
      ∃ u, exec (.linkBringUp t n ls) s = .next u ∧ u.core.dict = s.core.dict ∧
      u.core.links = modAt s.core.links n.val (fun l => Link.up { l with
        rate := r, spare := if w = 8 then (s.core.passing n.val r ls)[8]? else none,
        map := ((s.core.passing n.val r ls).take w).map some ++ List.replicate (8 - w) none })) ∧
    ((s.core.link n.val).keep = false → linkConfigs.find? (fun k => decide (k.1 ≤ (s.core.passing n.val k.2 ls).length)) = none →
      s.core.links.length = 8 →
      ∃ u, exec (.linkBringUp t n ls) s = .next u ∧ (u.core.link n.val).st = 5 ∧
        (∀ m, m ≠ n.val → u.core.link m = s.core.link m))) ∧
  (∀ (t h v b : Nat) (n : Fin 8) (l : Fin 9) (s : State),
    (s.core.laneUsed n.val l.val = true → s.core.flag 0x3110 5 = true →
      ∃ u, exec (.eyeScan t n l h v b) s = .next u ∧
      s.core.keeps u.core [(0x3102, 9 * n.val + l.val + 1), (0x3103, 9 * n.val + l.val + 1)] ∧
      u.core.obj 0x3102 (9 * n.val + l.val + 1) = min 255 h + 256 * min 255 v +
        65536 * min 65535 (s.core.obj 0x3102 (9 * n.val + l.val + 1) / 65536 + 1) ∧
      (s.core.obj 0x3103 (9 * n.val + l.val + 1) + b < 2 ^ 32 →
        u.core.obj 0x3103 (9 * n.val + l.val + 1) = s.core.obj 0x3103 (9 * n.val + l.val + 1) + b) ∧
      (u.core.link n.val).fails = modAt (s.core.link n.val).fails l.val (fun f =>
        if h < s.core.obj 0x3110 1 ∨ v < s.core.obj 0x3110 2 then f + 1 else 0) ∧
      ((s.core.link n.val).failed[l.val]? = some false → (s.core.link n.val).fails[l.val]? = some 0 →
        (s.core.link n.val).bip[l.val]? = some (s.at_ t / 1000000000, 0) →
        (u.core.link n.val).failed[l.val]? = some (decide (s.core.obj 0x3110 3 < b))) ∧
      (h < s.core.obj 0x3110 1 → (s.core.link n.val).failed.length = 9 →
        (∃ f, (s.core.link n.val).fails[l.val]? = some (f + 1)) →
        (u.core.link n.val).failed[l.val]? = some true)) ∧
    (s.core.laneUsed n.val l.val = false →
      ∃ u, exec (.eyeScan t n l h v b) s = .next u ∧ u.core = s.core.under u.core)) ∧
  (∀ (t p : Nat) (k : Bool) (n : Fin 8) (l : Fin 9) (s : State), (s.core.link n.val).st = 2 → s.core.flag 0x3110 4 = true →
    (k = true ∨ (s.core.link n.val).failed[l.val]? = some true) → (s.core.link n.val).failed.length = 9 →
    s.core.laneRetired n.val l.val = false → (s.core.link n.val).map.contains (some l.val) = true →
    (s.core.link n.val).spare = some p → s.core.links.length = 8 →
    ∃ u, exec (.laneSpare t none k n l) s = .next u ∧ (u.core.link n.val).st = 3 ∧
      (u.core.link n.val).map = (s.core.link n.val).map.map (fun x => if x == some l.val then some p else x) ∧
      (u.core.link n.val).spare = none ∧ u.core.laneRetired n.val l.val = true ∧
      (∀ m, m ≠ n.val → u.core.link m = s.core.link m)) ∧
  (∀ (t : Nat) (k : Bool) (n : Fin 8) (l : Fin 9) (s : State), (s.core.link n.val).st = 2 →
    (k = true ∨ (s.core.link n.val).failed[l.val]? = some true) → (s.core.link n.val).failed.length = 9 →
    s.core.laneRetired n.val l.val = false → s.core.links.length = 8 →
    ((s.core.link n.val).map.contains (some l.val) = true → (s.core.link n.val).spare = none →
      (7 < (s.core.link n.val).lanes → ∃ u, exec (.laneSpare t none k n l) s = .next u ∧
        (u.core.link n.val).st = 3 ∧ u.core.laneRetired n.val l.val = true ∧
        (u.core.link n.val).map = (s.core.link n.val).map.filter (· != some l.val) ++ [none]) ∧
      ((s.core.link n.val).lanes ≤ 7 → ∃ u, exec (.laneSpare t none k n l) s = .next u ∧
        (u.core.link n.val).st = 5)) ∧
    ((s.core.link n.val).map.contains (some l.val) = false → (s.core.link n.val).spare = some l.val →
      ∃ u, exec (.laneSpare t none k n l) s = .next u ∧ (u.core.link n.val).st = 2 ∧
        (u.core.link n.val).spare = none ∧ u.core.laneRetired n.val l.val = true ∧
        (u.core.link n.val).map = (s.core.link n.val).map)) ∧
  (∀ (t p : Nat) (k : Bool) (n : Fin 8) (l : Fin 9) (o : Orig) (s : State), s.core.mayWrite o 0x3111 0 9 →
    l.val < 8 → (s.core.link n.val).st = 2 → s.core.laneRetired n.val l.val = false →
    (s.core.link n.val).map.contains (some l.val) = true → (s.core.link n.val).spare = some p →
    s.core.links.length = 8 →
    ∃ u, exec (.laneSpare t (some o) k n l) s = .next u ∧ (u.core.link n.val).st = 3 ∧
      (u.core.link n.val).map = (s.core.link n.val).map.map (fun x => if x == some l.val then some p else x) ∧
      (u.core.link n.val).spare = none ∧ u.core.laneRetired n.val l.val = true) ∧
  (∀ (t : Nat) (k : Bool) (n : Fin 8) (l : Fin 9) (o : Orig) (s : State), s.core.mayWrite o 0x3111 0 9 → o ≠ .pdo →
    (l.val = 8 → ∃ u, exec (.laneSpare t (some o) k n l) s = .next u ∧ u.core = s.core.under u.core ∧
      s.puts u [.answer o 0x3111 0 0x06090030]) ∧
    (l.val < 8 → (s.core.laneRetired n.val l.val = true ∨ (s.core.link n.val).st = 3 ∨
        (s.core.link n.val).map.contains (some l.val) = false) →
      ∃ u, exec (.laneSpare t (some o) k n l) s = .next u ∧ u.core = s.core.under u.core ∧
      s.puts u [.answer o 0x3111 0 0x08000031])) ∧
  (∀ (t : Nat) (n : Fin 8) (k : RetrainCause) (s : State), (s.core.link n.val).st = 2 →
    ∃ u, exec (.linkRetrain t n k) s = .next u ∧
      u.core.links = modAt s.core.links n.val (fun l => { l with
        st := 3, since := s.at_ t, attempts := 0, lock := if k = .blockLock then 0 else l.lock }) ∧
      u.core.obj 0x3105 (n.val + 1) = (s.core.bump 0x3105 (n.val + 1)).obj 0x3105 (n.val + 1)) ∧
  (∀ (t : Nat) (n : Fin 8) (s : State), (s.core.link n.val).st = 3 →
    ((s.core.link n.val).since + 1000000 ≤ s.at_ t → (s.core.link n.val).attempts < 2 →
      ∃ u, exec (.retrainTimeout t n) s = .next u ∧
      u.core.links = modAt s.core.links n.val (fun l => { l with
        since := s.at_ t, attempts := (s.core.link n.val).attempts + 1 })) ∧
    ((s.core.link n.val).since + 1000000 ≤ s.at_ t → 2 ≤ (s.core.link n.val).attempts →
      ∃ u, exec (.retrainTimeout t n) s = .next u ∧ (u.core.link n.val).st = 5) ∧
    (s.at_ t < (s.core.link n.val).since + 1000000 →
      ∃ u, exec (.retrainTimeout t n) s = .next u ∧ u.core = s.core.under u.core) ∧
    (∃ u, exec (.retrainComplete t n) s = .next u ∧ u.core.dict = s.core.dict ∧
      u.core.links = modAt s.core.links n.val (fun l => { l with
        st := 2, fails := List.replicate 9 0, failed := List.replicate 9 false, lock := l.used }))) ∧
  (∀ (t : Nat) (n : Fin 8) (s : State), s.core.segOn n.val = true →
    ∃ u, exec (.bcCommandLost t n []) s = .next u ∧
      u.core.obj 0x3108 (n.val + 1) = (s.core.bump 0x3108 (n.val + 1)).obj 0x3108 (n.val + 1) ∧
      (s.core.mode ≠ .compline → u.core.active 0x5032 0 = true) ∧ u.core.pipe = s.core.pipe ∧
      u.core.links = modAt s.core.links n.val (fun l => { l with missed := true })) ∧
  (∀ (t : Nat) (n : Fin 8) (w e : Int) (s : State), (s.core.link n.val).st = 2 →
    (s.core.link n.val).dataSleep = false → s.core.sensing 0 = true →
    ∃ u, exec (.statusBlock t n w e) s = .next u ∧
      u.core.links = modAt s.core.links n.val (fun l => { l with ackOk := !l.missed, missed := false }) ∧
      u.core.obj 0x3330 (2 * n.val + 1) = ofSigned 16 (clampInt (-32768) 32767 w) ∧
      u.core.obj 0x3330 (2 * n.val + 2) = ofSigned 16 (clampInt (-32768) 32767 e)) ∧
  (∀ (t : Nat) (o : Orig) (s : State), s.core.mayWrite o 0x3120 5 9 → s.core.mode = .service →
    (∃ u, exec (.linkTestStart t o) s = .next u ∧ u.core.obj 0x3120 6 = 0 ∧ u.core.obj 0x3120 7 = 0 ∧
      s.core.keeps u.core [(0x3120, 6), (0x3120, 7)] ∧
      (s.core.testing = none → u.core.links = modAt s.core.links s.core.testSeg (fun l => { l with
        before := l.st, st := 4, test := some ⟨s.at_ t, s.core.obj 0x3120 2, s.core.obj 0x3120 3, s.core.obj 0x3120 4⟩ })) ∧
      (∀ q, s.core.testing = some q → q ≠ s.core.testSeg → s.core.links.length = 8 → s.core.testSeg < 8 →
        (u.core.link q).st = (s.core.link q).before ∧ (u.core.link s.core.testSeg).st = 4 ∧
        (u.core.link s.core.testSeg).before = (s.core.link s.core.testSeg).st)) ∧
    (∀ (q : Nat) (k : LinkTest), s.core.testing = some q → (s.core.link q).test = some k →
      ∃ u e b, exec (.linkTestStop t o) s = .next u ∧
      u.core.links = modAt s.core.links q (fun l => { l with st := l.before, test := none }) ∧
      e ≤ b ∧ b ≤ laneCount k.lanes * rateGbs (s.core.link q).rate * (s.at_ t - k.at_) ∧
      u.core.obj 0x3120 6 = (s.core.bumpBy 0x3120 6 e).obj 0x3120 6 ∧
      u.core.obj 0x3120 7 = (s.core.bumpBy 0x3120 7 b).obj 0x3120 7 ∧
      s.core.keeps u.core [(0x3120, 6), (0x3120, 7)]) ∧
    (s.core.testing = none → ∃ u, exec (.linkTestStop t o) s = .next u ∧ u.core = s.core.under u.core)) ∧
  (∀ (t : Nat) (o : Orig) (v : Byte) (s : State), s.core.mayWrite o 0x3121 2 9 → s.core.mode = .service →
    v.toNat ≤ 8 →
    (s.core.flag 0x3121 1 = true → s.core.links.length = 8 → s.core.testSeg < 8 →
      ∃ u, exec (.bitSlip t o v) s = .next u ∧ u.core.dict = s.core.dict ∧
      (u.core.link s.core.testSeg).slips =
        modAt (s.core.link s.core.testSeg).slips v.toNat (fun k => (k + 1) % 66) ∧
      (∀ m, m ≠ s.core.testSeg → u.core.link m = s.core.link m)) ∧
    (s.core.flag 0x3121 1 = false → ∃ u, exec (.bitSlip t o v) s = .next u ∧ u.core = s.core.under u.core)) ∧
  (∀ (t : Nat) (o : Orig) (v : Byte) (s : State), s.core.mayWrite o 0x3122 1 9 → s.core.mode = .service →
    ∃ u, exec (.sleepCommand t o v) s = .next u ∧ u.core.dict = s.core.dict ∧
      (s.core.segOn s.core.testSeg = false → u.core.links = s.core.links) ∧
      (s.core.segOn s.core.testSeg = true →
        u.core.links = modAt s.core.links s.core.testSeg (fun l => { l with
          dataSleep := v.toNat.testBit 0, bcSleep := v.toNat.testBit 1,
          keep := if l.st = 0 ∧ v.toNat % 4 ≠ 3 ∧ (l.rate = 0 ∨ l.keep = true ∨ s.core.clk.tHeld = true) then
            l.rate != 0 else l.keep,
          st := if l.st = 2 ∧ v.toNat % 4 = 3 then 0 else if l.st = 0 ∧ v.toNat % 4 ≠ 3 then
            (if l.rate = 0 ∨ l.keep = true ∨ s.core.clk.tHeld = true then 1 else 2) else l.st }))) ∧
  (∀ (t : Nat) (o : Orig) (v : Byte) (s : State), s.core.mode ≠ .service → o ≠ .pdo →
    (s.core.mayWrite o 0x3120 5 9 → ∃ u w, exec (.linkTestStart t o) s = .next u ∧ u.core = s.core.under u.core ∧
      s.puts u [.answer o 0x3120 5 0x08000021] ∧ exec (.linkTestStop t o) s = .next w ∧
      w.core = s.core.under w.core ∧ s.puts w [.answer o 0x3120 5 0x08000021]) ∧
    (s.core.mayWrite o 0x3121 2 9 → ∃ u, exec (.bitSlip t o v) s = .next u ∧ u.core = s.core.under u.core ∧
      s.puts u [.answer o 0x3121 2 0x08000021]) ∧
    (s.core.mayWrite o 0x3122 1 9 → ∃ u, exec (.sleepCommand t o v) s = .next u ∧ u.core = s.core.under u.core ∧
      s.puts u [.answer o 0x3122 1 0x08000021]))

/-- An event code of the specification that is issued while firmware runs, outside COMPLINE, is counted; of
class 2 or 3 it becomes active and heads the error history; a condition that is active already is not issued
again. A feed that a healthy module misses takes LIVE and INSPECT_VALID away and asserts FAULT_N while no
job, mode, row or object changes, and 10 ms later, outside COMPLINE, the module resets with cause 2; before
then nothing happens. Open points follow the model's choices of log entry 116. (R445, R446, R447, R456,
R491, R492) -/
def Obligations.EventsAndHeartbeat : Prop :=
  (∀ (t code seg : Nat) (d : List Byte) (s : State), s.core.pw.fwRuns = true → evCodes.contains code = true →
    s.core.mode ≠ .compline → (evCondition code = false ∨ s.core.active code (evUnit code d) = false) →
    ∃ u, exec (.eventIssue t code seg d) s = .next u ∧
      u.core.obj 0x3200 1 = (s.core.bump 0x3200 1).obj 0x3200 1 ∧
      (2 ≤ evClass code → u.core.ev.active = s.core.ev.active ++ [(code, evUnit code d)] ∧
        u.core.ev.hist.head? = some (code + seg % 256 * 2 ^ 16 + evClass code * 2 ^ 24)) ∧
      (evClass code < 2 → u.core.ev.active = s.core.ev.active ∧ u.core.ev.hist = s.core.ev.hist)) ∧
  (∀ (t code seg : Nat) (d : List Byte) (s : State), evCondition code = true →
    s.core.active code (evUnit code d) = true →
    ∃ u, exec (.eventIssue t code seg d) s = .next u ∧ u.core = s.core.under u.core) ∧
  (∀ (t : Nat) (s : State), s.core.healthy = true →
    ∃ u, exec (.heartbeatFailure t) s = .next u ∧ u.core.ev.hbFailed = some (s.at_ t) ∧
      u.core.liveOn = false ∧ u.core.inspectValid = false ∧ u.core.faultN = true ∧
      u.core.mode = s.core.mode ∧ u.core.job = s.core.job ∧ u.core.pipe = s.core.pipe ∧
      u.core.dict = s.core.dict ∧ u.mem = s.mem) ∧
  (∀ (t a : Nat) (s : State), s.core.ev.hbFailed = some a →
    (a + 10000000 ≤ s.at_ t → s.core.mode ≠ .compline → ∃ u, exec (.heartbeatReset t) s = .next u ∧ u.core.mode = .boot ∧
      u.core.obj 0x3310 6 = 2 ∧ u.core.job.running = false ∧ u.core.pw.fwRuns = false) ∧
    (s.at_ t < a + 10000000 ∨ s.core.mode = .compline → ∃ u, exec (.heartbeatReset t) s = .next u ∧ u.core = s.core.under u.core))

/-- While its sensor is read, a sample puts its reading in force, held to the object's range, and a sensor-
die reading above 60.00 degrees makes its sensor's condition active, one at or below ends it. A candidate
that has stood 200 ms, 200 ms after the last decision, is decided: in force at once, or waiting for its
start instant where commits wait. The throttle level rises by one at Tj of 100 degrees, from 0 at once and
else 50 ms after its last step, up to 4, and falls by one 50 ms after Tj fell below 98.5 and after its last
step. While the blocks are on, the lowest margin of a block is kept, of the segments while a job runs. Open
points follow the model's choices of log entry 28. (R457, R486, R487, R489, R490) -/
def Obligations.ThermalControl : Prop :=
  (∀ (t : Nat) (n : Fin 24) (x : Int) (s : State), s.core.sensing n.val = true →
    ∃ u, exec (.thermalSample t n x) s = .next u ∧
      u.core.obj 0x3330 (n.val + 1) = ofSigned 16 (clampInt (-32768) 32767 x) ∧
      (n.val < 16 → 6000 < x → u.core.active 0x4210 n.val = true) ∧
      (n.val < 16 → x ≤ 6000 → u.core.active 0x4210 n.val = false) ∧
      u.core.mode = s.core.mode ∧ u.core.pw.band = s.core.pw.band) ∧
  (∀ (t a : Nat) (s : State), s.core.pw.candAt = some a → s.core.sensing 0 = true → a + 200000000 ≤ s.at_ t →
    s.core.pw.lastDec + 200000000 ≤ s.at_ t → s.core.candidate ≠ s.core.pw.decided →
    ∃ u, exec (.bandDecided t) s = .next u ∧ u.core.pw.decided = s.core.candidate ∧
      u.core.pw.lastDec = s.at_ t ∧ u.core.obj 0x3330 0x1C = s.core.candidate ∧
      (s.core.commitWaits = true → u.core.pw.bandPend = some (s.core.candidate, s.at_ t) ∧
        u.core.pw.band = s.core.pw.band) ∧
      (s.core.commitWaits = false → u.core.pw.band = some s.core.candidate)) ∧
  (∀ (t : Nat) (s : State), s.core.sensing 16 = true →
    (10000 ≤ s.core.tj → s.core.throttle < 4 → (s.core.throttle = 0 ∨ s.core.ev.hotAt + 50000000 ≤ s.at_ t) →
      ∃ u, exec (.throttleLevelStep t) s = .next u ∧ u.core.throttle = s.core.throttle + 1 ∧
        u.core.ev.hotAt = s.at_ t ∧ u.core.active 0x4220 0 = true) ∧
    (∀ a, s.core.ev.coolFrom = some a → s.core.tj < 9850 → 0 < s.core.throttle → s.core.throttle ≤ 4 →
      a + 50000000 ≤ s.at_ t → s.core.ev.hotAt + 50000000 ≤ s.at_ t →
      ∃ u, exec (.throttleLevelStep t) s = .next u ∧ u.core.throttle = s.core.throttle - 1)) ∧
  (∀ (t m : Nat) (b : Fin 14) (s : State), s.core.blocksOn = true →
    (b.val < 6 → ∃ u, exec (.throughputReplicaMeasure t b m) s = .next u ∧
      u.core.obj 0x3350 (b.val + 1) = (if s.core.pw.replica.contains b.val then
        min (min m 65535) (s.core.obj 0x3350 (b.val + 1)) else min m 65535) ∧
      s.core.keeps u.core [(0x3350, b.val + 1)]) ∧
    (6 ≤ b.val → s.core.job.running = true → ∃ u, exec (.throughputReplicaMeasure t b m) s = .next u ∧
      u.core.obj 0x2A86 (b.val - 5) = (if s.core.pw.replica.contains b.val then
        min (min m 65535) (s.core.obj 0x2A86 (b.val - 5)) else min m 65535) ∧
      s.core.keeps u.core [(0x2A86, b.val - 5)]))

/-- A reset, whatever its cause, that COMPLINE does not hold off leaves the module in BOOT with no job, no
transition, its first owners and the cause in 3310h.06, flash as it was (but for a TRIAL slot that its
heartbeat failed in), and every object at its default but those that flash or straps hold; until COMPLINE
has written its seal every reset but that of a power-on does nothing. BOOT, when the internal reset has
ended, loads memory afresh and reports STANDBY; before that it does nothing. A TRIAL slot 60 s in STANDBY
becomes GOOD. The reset command, not mapped to process data, in STANDBY is answered and resets, outside
STANDBY and COMPLINE it is refused with 0800 0021h. A transition to DUSK enters it when the DRAM's queue is
empty, with the journal's pending entries written and reference enables and PLLs off; Dawn, 39.9 ms after
its start, ends in STANDBY, the autostart done. Open points follow the model's choices of log entries 97,
98, 139, 154. (R465, R466, R467, R469, R471, R473) -/
def Obligations.ResetAndBoot : Prop :=
  (∀ (t : Nat) (k : ResetCause) (straps : BitVec 5) (s : State), s.core.resetHeldOff k = true →
    ∃ u, exec (.reset t k straps) s = .next u ∧ u.mem = s.mem ∧ u.core = s.core.under u.core) ∧
  (∀ (t : Nat) (k : ResetCause) (straps : BitVec 5) (s : State), s.core.resetHeldOff k = false →
    ∃ u, exec (.reset t k straps) s = .next u ∧ u.mem = s.mem ∧ u.core.mode = .boot ∧ u.core.trans = none ∧
      u.core.job = {} ∧ u.core.pw.fwRuns = false ∧ u.core.obj 0x3310 6 = resetCode k ∧
      u.core.obj 0x3400 1 = 88 + straps.toNat % 8 ∧
      (∀ i n, n < 256 → i ≠ 0x2A01 → (i, n) ≠ (0x3310, 6) → (i, n) ≠ (0x3400, 1) →
        u.core.obj i n = dfltOf (key i n)) ∧
      (k ≠ .heartbeat → u.core.nv = s.core.nv) ∧ u.core.owners = [.press, .press, .press, .press, .host, .host,
        .host, .host, .host, .host]) ∧
  (∀ (t : Nat) (x : Int) (l : List Bool) (s : State), s.core.mayBoot (s.at_ t) = true →
    ∃ u, exec (.boot t x l) s = .next u ∧ u.mem = [] ∧ u.core.mode = .standby ∧ u.core.pw.fwRuns = true ∧
      u.core.trans = none ∧ u.core.nv.area = none ∧ u.core.tk.autoDone = true) ∧
  (∀ (t : Nat) (x : Int) (l : List Bool) (s : State), s.core.mayBoot (s.at_ t) = false →
    ∃ u, exec (.boot t x l) s = .next u ∧ u.mem = s.mem ∧ u.core = s.core.under u.core) ∧
  (∀ (t a : Nat) (s : State), s.core.pw.stdbyAt = some a → s.core.mode = .standby →
    (s.core.slot s.core.pw.running).st = 3 →
    (a + 60000000000 ≤ s.at_ t → ∃ u, exec (.trialPromotion t) s = .next u ∧
      u.core.nv.slots = modAt s.core.nv.slots s.core.pw.running (fun k => { k with st := 4 }) ∧
      u.core.dict = s.core.dict) ∧
    (s.at_ t < a + 60000000000 →
      ∃ u, exec (.trialPromotion t) s = .next u ∧ u.core = s.core.under u.core)) ∧
  (∀ (t : Nat) (o : Orig) (s : State), s.core.isMapped 0x3310 8 = false → o ≠ .pdo →
    s.core.pw.resetDue = false →
    (s.core.mode = .standby → s.core.wordOk 0x3310 8 = true → ∃ u, exec (.resetCommand t o 0x626F6F74) s = .next u ∧ u.core.mode = .boot ∧
      u.core.obj 0x3310 6 = 3 ∧ s.puts u [.answer o 0x3310 8 0]) ∧
    (s.core.mode ≠ .standby → s.core.mode ≠ .compline →
      ∃ u, exec (.resetCommand t o 0x626F6F74) s = .next u ∧ u.core = s.core.under u.core ∧
        s.puts u [.answer o 0x3310 8 0x08000021])) ∧
  (∀ (t : Nat) (tr : Transition) (s : State), s.core.trans = some tr → tr.target = .dusk →
    (s.core.dram.queue = [] → ∃ u, exec (.duskEntry t) s = .next u ∧ u.core.mode = .dusk ∧ u.core.trans = none ∧
      u.core.clk.pllC.st = 0 ∧ u.core.clk.pllT.st = 0 ∧ u.core.flag 0x2301 0 = false ∧
      u.core.pw.pendJ = [] ∧ (s.core.dramReady = true → u.core.obj 0x2E00 4 = 3) ∧
      u.core.obj 0x3330 0x1B = 255 ∧ u.core.dram.pred = [] ∧ u.mem = s.mem) ∧
    (s.core.dram.queue ≠ [] → ∃ u, exec (.duskEntry t) s = .next u ∧ u.core = s.core.under u.core)) ∧
  (∀ (t : Nat) (a c : Bool) (d : List Int) (b : List Bool) (temps : List Int) (tr : Transition) (s : State),
    s.core.trans = some tr →
    tr.source = .dusk →
    (tr.start + 39900000 ≤ s.at_ t → ∃ u, exec (.dawn t a d b c temps) s = .next u ∧ u.core.mode = .standby ∧
      u.core.trans = none ∧ u.core.tk.autoDone = true ∧ u.mem = s.mem) ∧
    (s.at_ t < tr.start + 39900000 →
      ∃ u, exec (.dawn t a d b c temps) s = .next u ∧ u.core = s.core.under u.core))

/-- While firmware runs outside COMPLINE, a measurement gives the capacitor's values and whether COMPLINE is
armed, and shows too little energy. A trip of a healthy module with COMPLINE armed enters COMPLINE, sheds
jobs, rows and host link and leaves an unsealed record; of any other module that is not held in reset it
resets with cause 5. The seal closes the record once; after it the module resets as the supply is good
again, or stays off; before it a restart does nothing. The record's acknowledgement clears 3340h.01 outside
COMPLINE. The scrivener appends what is pending, in order, to the active region. A compaction starts by
itself at 75 % outside DUSK, or by command where none runs, else refused with 0800 0031h, and ends with one
sealed region of the next generation and the other erased. Open points follow the model's choices of log
entries 96, 100, 102. (R474, R475, R476, R477, R479, R481, R482, R484) -/
def Obligations.PowerAndJournal : Prop :=
  (∀ (t cap esr v : Nat) (s : State), s.core.flashRuns = true →
    ∃ u, exec (.holdupMeasure t cap esr v) s = .next u ∧ u.core.obj 0x3300 5 = min cap (2 ^ 32 - 1) ∧
      u.core.obj 0x3300 6 = min esr 65535 ∧ u.core.obj 0x3300 4 = min v 65535 ∧
      u.core.obj 0x3300 8 = b2n (s.core.nv.erased && decide (11500 ≤ v)) ∧
      (cap * 41625 < 66000000 → u.core.active 0x3120 0 = true)) ∧
  (∀ (t v : Nat) (p : Bool) (s : State), s.core.mode ≠ .compline → s.core.pw.heldReset = false →
    (s.core.healthy = true → s.core.flag 0x3300 8 = true → ∃ u r, exec (.powerFail t p v) s = .next u ∧
      u.core.mode = .compline ∧ u.core.trans = none ∧ u.core.job = {} ∧ u.core.pipe = {} ∧
      u.core.nv.area = some r ∧ r.sealed = false ∧ r.byPin = p ∧ r.at_ = s.core.stamp (s.at_ t) ∧ u.core.nv.erased = false ∧
      u.core.cxl.hostUp = false ∧ u.core.faultN = true ∧ u.core.liveOn = false ∧ u.mem = s.mem) ∧
    ((s.core.healthy = false ∨ s.core.flag 0x3300 8 = false) → ∃ u, exec (.powerFail t p v) s = .next u ∧
      u.core.mode = .boot ∧ u.core.obj 0x3310 6 = 5 ∧ u.core.nv = s.core.nv)) ∧
  (∀ (t : Nat) (r : ComplineRec) (s : State), s.core.mode = .compline → s.core.nv.area = some r →
    (r.sealed = false → ∃ u, exec (.complineSeal t) s = .next u ∧
      u.core.nv = { s.core.nv with area := some { r with sealed := true, bytes := r.bytes ++ sealBlock r.bytes } } ∧
      u.core.mode = .compline ∧ u.core.dict = s.core.dict) ∧
    (r.sealed = true →
      (∃ u, exec (.complineSeal t) s = .next u ∧ u.core.nv = s.core.nv) ∧
      (∃ u, exec (.complineRestart t true) s = .next u ∧ u.core.mode = .boot ∧ u.core.obj 0x3310 6 = 4 ∧
        u.core.nv = s.core.nv ∧ u.core.pw.heldReset = false) ∧
      (∃ u, exec (.complineRestart t false) s = .next u ∧ u.core.mode = .boot ∧ u.core.pw.heldReset = true ∧
        u.core.nv = s.core.nv)) ∧
    (r.sealed = false → ∀ g, ∃ u, exec (.complineRestart t g) s = .next u ∧ u.core = s.core.under u.core)) ∧
  (∀ (t : Nat) (o : Orig) (s : State), s.core.mode ≠ .compline → s.core.isMapped 0x3340 8 = false → s.core.wordOk 0x3340 8 = true →
    ∃ u, exec (.complineAcknowledge t o 1) s = .next u ∧ u.core.obj 0x3340 1 = 0 ∧
      s.core.keeps u.core [(0x3340, 1)] ∧ (o ≠ .pdo → s.puts u [.answer o 0x3340 8 0])) ∧
  (∀ (t : Nat) (ok : Bool) (s : State),
    (ok = true → s.core.flashRuns = true → ∃ u, exec (.scrivenerJournal t ok) s = .next u ∧
      u.core.pw.pendJ = [] ∧ u.core.dict = s.core.dict ∧
      u.core.nv.regions = modAt s.core.nv.regions s.core.activeRegion
        (fun r => { r with entries := r.entries ++ s.core.pw.pendJ })) ∧
    (ok = false → ∃ u, exec (.scrivenerJournal t ok) s = .next u ∧ u.core = s.core.under u.core)) ∧
  (∀ (t : Nat) (s : State), s.core.flashRuns = true → s.core.mode ≠ .dusk → s.core.pw.compact = 0 →
    75 ≤ (s.core.region s.core.activeRegion).fill →
    ∃ u, exec (.compactionAuto t) s = .next u ∧ u.core.pw = { s.core.pw with
      compact := 1, compactS := lastSeq (s.core.region s.core.activeRegion) } ∧ u.core.nv = s.core.nv) ∧
  (∀ (t : Nat) (o : Orig) (s : State), s.core.mode ≠ .compline → s.core.isMapped 0x3320 6 = false → o ≠ .pdo →
    (s.core.pw.compact = 0 → s.core.wordOk 0x3320 6 = true → ∃ u, exec (.compactionCommand t o 1) s = .next u ∧ u.core.pw = { s.core.pw with
      compact := 1, compactS := lastSeq (s.core.region s.core.activeRegion) } ∧
      s.puts u [.answer o 0x3320 6 0]) ∧
    (s.core.pw.compact ≠ 0 → ∃ u, exec (.compactionCommand t o 1) s = .next u ∧ u.core = s.core.under u.core ∧
      s.puts u [.answer o 0x3320 6 0x08000031])) ∧
  (∀ (t : Nat) (s : State), s.core.flashRuns = true → s.core.pw.compact = 1 → s.core.nv.regions.length = 2 →
    ∃ u, exec (.compactionComplete t) s = .next u ∧ u.core.pw.compact = 0 ∧
      u.core.region (1 - s.core.activeRegion) = (s.core.region s.core.activeRegion).compacted s.core.pw.compactS
        (s.core.region (1 - s.core.activeRegion)).erases ∧
      u.core.region s.core.activeRegion =
        { erases := (s.core.region s.core.activeRegion).erases + 1 })

/-- The commands of clock synthesis but its apply, of bring-up, scans, sparing, retrains and status blocks
of the segment links, of DRAM refresh, drift and repair, of thermal control, of hold-up measurement and of
the journal but its command change no owner, no mode, no transition, no job, no bank, no domain, no mailbox
and no two-wire state, no reference buffer and no link of the host attachment; no on-die word or its
protection, but where a band's tables are copied, a tinker command that waited for ticks reads, or the word
of a command's own object holds an error; and no byte of the DRAM. (R37, R39, R386) -/
def Obligations.PlatformFrame : Prop :=
  ∀ (i : Instr) (s u : State), exec i s = .next u →
    ((∃ t p x b, i = .pllSearchWindow t p x b) ∨ (∃ t p, i = .outputRestart t p) ∨ (∃ t p, i = .pllUnlock t p) ∨
      (∃ t, i = .refinLost t) ∨ (∃ t x e, i = .refinReturn t x e) ∨ (∃ t p, i = .slewComplete t p) ∨
      (∃ t, i = .holdoverExpired t) ∨ (∃ t, i = .pllTRestart t) ∨ (∃ t n, i = .fineDelayStep t n) ∨
      (∃ t r k, i = .perBankRefresh t r k) ∨ (∃ t r b, i = .rowIdleClose t r b) ∨ (∃ t d, i = .wckDqMeasure t d) ∨
      (∃ t l, i = .mr4Read t l) ∨ (∃ t, i = .errorWindowRestart t) ∨ (∃ t o v, i = .retireLogicalRank t o v) ∨
      (∃ t o, i = .migrationAbort t o) ∨ (∃ t, i = .migrationDone t) ∨
      (∃ t n l, i = .linkBringUp t n l) ∨ (∃ t n l h v b, i = .eyeScan t n l h v b) ∨
      (∃ t o k n l, i = .laneSpare t o k n l) ∨ (∃ t n k, i = .linkRetrain t n k) ∨ (∃ t n, i = .retrainTimeout t n) ∨
      (∃ t n, i = .retrainComplete t n) ∨ (∃ t n w e, i = .statusBlock t n w e) ∨
      (∃ t n x, i = .thermalSample t n x) ∨ (∃ t, i = .bandDecided t) ∨ (∃ t, i = .throttleLevelStep t) ∨
      (∃ t b m, i = .throughputReplicaMeasure t b m) ∨ (∃ t a b c, i = .holdupMeasure t a b c) ∨
      (∃ t b, i = .scrivenerJournal t b) ∨ (∃ t, i = .compactionAuto t) ∨ (∃ t, i = .compactionComplete t)) →
    u.core.owners = s.core.owners ∧ u.core.mode = s.core.mode ∧ u.core.trans = s.core.trans ∧
    u.core.job = s.core.job ∧ u.core.banks = s.core.banks ∧ u.core.doms = s.core.doms ∧
    ((∀ t, i ≠ .bandDecided t) → (∀ t, i ≠ .pllTRestart t) →
      (∀ t o v, i = .retireLogicalRank t o v ∨ i = .migrationAbort t o → s.core.wordOk 0x2E45 1 = true) →
      (∀ t o k n l, i = .laneSpare t (some o) k n l → s.core.wordOk 0x3111 0 = true) → u.core.sram = s.core.sram) ∧ u.core.mbx = s.core.mbx ∧ u.core.tw = s.core.tw ∧
    u.core.cxl.hostUp = s.core.cxl.hostUp ∧ u.core.cxl.dlUp = s.core.cxl.dlUp ∧ u.core.refs = s.core.refs ∧
    u.mem = s.mem

/-- While a job runs, a transfer of MOTION to the other party by its owner is refused with 0800 002Ch, and
so is a takeover by a party that does not own MOTION; neither changes anything. A write by the owner of its
own code changes nothing either and is answered 0 (R40), and a value other than 1 or 2 is refused with 0609
0030h, job or no job. (R43) -/
def Obligations.MotionHeldByJob : Prop :=
  (∀ (t : Nat) (o : Orig) (v : Byte) (s : State), s.core.job.running = true → s.core.owns o 1 = true → o ≠ .pdo →
    s.core.mode ≠ .compline → s.core.isMapped 0x2100 2 = false →
    v = (if s.core.owner 1 == .press then 2 else 1) →
    ∃ u, exec (.ownershipTransfer t o 2 v) s = .next u ∧ u.mem = s.mem ∧ u.core = s.core.under u.core ∧
      s.puts u [.answer o 0x2100 2 0x0800002C]) ∧
  (∀ (t : Nat) (o : Orig) (s : State), s.core.job.running = true → s.core.owns o 1 = false → (o = .sdo ∨ o = .mbx) →
    s.core.mode ≠ .compline → s.core.isMapped 0x2101 0 = false →
    ∃ u, exec (.takeover t o 0x54414B45) s = .next u ∧ u.mem = s.mem ∧ u.core = s.core.under u.core ∧
      s.puts u [.answer o 0x2101 0 0x0800002C]) ∧
  (∀ (t : Nat) (o : Orig) (v : Byte) (s : State), s.core.owns o 1 = true → o ≠ .pdo →
    s.core.mode ≠ .compline → s.core.isMapped 0x2100 2 = false → s.core.wordOk 0x2100 2 = true →
    v = (if s.core.owner 1 == .press then 1 else 2) →
    ∃ u, exec (.ownershipTransfer t o 2 v) s = .next u ∧ u.mem = s.mem ∧ u.core = s.core.under u.core ∧
      s.puts u [.answer o 0x2100 2 0]) ∧
  (∀ (t : Nat) (o : Orig) (v : Byte) (s : State), s.core.owns o 1 = true → o ≠ .pdo →
    s.core.mode ≠ .compline → s.core.isMapped 0x2100 2 = false → v ≠ 1 → v ≠ 2 →
    ∃ u, exec (.ownershipTransfer t o 2 v) s = .next u ∧ u.mem = s.mem ∧ u.core = s.core.under u.core ∧
      s.puts u [.answer o 0x2100 2 0x06090030])

/-- The owner of PIPELINE sets the converter depth of every segment bank in 2300h.00 to 8, 10 or 12 in
STANDBY and CALIBRATE; any other value of one byte is refused with 0609 0030h there, and in every other
mode, COMPLINE apart, any byte is refused with 0800 0021h and the depth stays. (R109) -/
def Obligations.ConverterDepth : Prop :=
  ∀ (t : Nat) (o : Orig) (v : Byte) (s : State), s.core.mayWrite o 0x2300 0 4 → s.core.pw.resetDue = false →
    ((s.core.mode = .standby ∨ s.core.mode = .calibrate) → (v = 8 ∨ v = 10 ∨ v = 12) →
      ∃ u, exec (.objectWrite t o 0x2300 0 [v]) s = .next u ∧ u.core.depth = v.toNat ∧
        s.core.keeps u.core [(0x2300, 0)] ∧ (o ≠ .pdo → s.puts u [.answer o 0x2300 0 0])) ∧
    ((s.core.mode = .standby ∨ s.core.mode = .calibrate) → v ≠ 8 → v ≠ 10 → v ≠ 12 →
      ∃ u, exec (.objectWrite t o 0x2300 0 [v]) s = .next u ∧ u.core = s.core.under u.core ∧
        (o ≠ .pdo → s.puts u [.answer o 0x2300 0 0x06090030])) ∧
    (s.core.mode ≠ .standby → s.core.mode ≠ .calibrate →
      ∃ u, exec (.objectWrite t o 0x2300 0 [v]) s = .next u ∧ u.core = s.core.under u.core ∧
        (o ≠ .pdo → s.puts u [.answer o 0x2300 0 0x08000021]))

/-- A write that a channel issues gives every byte whose mask bit is set, at its address in the line, the
byte written, and leaves every other byte of the device as it was; with all 64 bits set it replaces the
line. A masked write to a poisoned line is refused: it changes no byte, and its port sees a bus error.
(R348) -/
def Obligations.MaskedWrites : Prop :=
  (∀ (t : Nat) (n : Fin 5) (res : DramOutcome) (r : DramReq) (mask : BitVec 64) (data : List Byte) (s : State),
    Memory.wf s.mem = true → s.core.dramReady = true → s.core.pick (s.at_ t) n.val = some r →
    r.op = .write mask data → data.length = 64 → (mask = BitVec.allOnes 64 ∨ s.core.poisoned r.dpa 64 = false) →
    ∃ u, exec (.dramCommand t n res) s = .next u ∧
      (∀ k, k < 64 → Memory.byte u.mem (r.dpa + k) =
        if mask.getLsbD k = true then data.getD k 0 else Memory.byte s.mem (r.dpa + k)) ∧
      (∀ a, a < r.dpa ∨ r.dpa + 64 ≤ a → Memory.byte u.mem a = Memory.byte s.mem a)) ∧
  (∀ (t : Nat) (n : Fin 5) (res : DramOutcome) (r : DramReq) (mask : BitVec 64) (data : List Byte) (s : State),
    s.core.dramReady = true → s.core.pick (s.at_ t) n.val = some r → r.op = .write mask data →
    mask ≠ BitVec.allOnes 64 → s.core.poisoned r.dpa 64 = true →
    ∃ u, exec (.dramCommand t n res) s = .next u ∧ u.mem = s.mem ∧ s.puts u [.busError r.port])
end

