-- ==== Sys2Proof/Laws/Sparse.lean ====
section
/-!
SUPPORT. The laws of sparse lists, and through them of the dictionary and of the module DRAM: a read after
a write, other keys untouched, and the canonical form kept by every operation.
-/

namespace Sys2Proof.Machine

variable {α : Type}

theorem sget_sdrop_ne (d : Nat → α) (l : List (Nat × α)) (k j : Nat) (h : j ≠ k) :
    sget d (sdrop k l) j = sget d l j := by
  induction l with
  | nil => rfl
  | cons p l ih =>
    obtain ⟨a, v⟩ := p
    by_cases ha : a = k
    · subst ha
      simpa [sdrop, sget, h] using ih
    · have : sdrop k ((a, v) :: l) = (a, v) :: sdrop k l := by simp [sdrop, ha]
      simp only [this, sget, ih]

theorem sget_sdrop_self (d : Nat → α) (l : List (Nat × α)) (k : Nat) : sget d (sdrop k l) k = d k := by
  induction l with
  | nil => rfl
  | cons p l ih =>
    obtain ⟨a, v⟩ := p
    by_cases ha : a = k
    · subst ha
      simpa [sdrop] using ih
    · have : sdrop k ((a, v) :: l) = (a, v) :: sdrop k l := by simp [sdrop, ha]
      simp only [this, sget, ih, Ne.symm ha, if_false]

theorem sget_sinsert_ne (d : Nat → α) (l : List (Nat × α)) (k j : Nat) (v : α) (h : j ≠ k) :
    sget d (sinsert k v l) j = sget d l j := by
  induction l with
  | nil => simp [sinsert, sget, h]
  | cons p l ih =>
    obtain ⟨a, w⟩ := p
    simp only [sinsert]
    split
    · simp [sget, h]
    · simp only [sget, ih]

theorem sget_sinsert_self (d : Nat → α) (l : List (Nat × α)) (k : Nat) (v : α) (h : ∀ p ∈ l, p.1 ≠ k) :
    sget d (sinsert k v l) k = v := by
  induction l with
  | nil => simp [sinsert, sget]
  | cons p l ih =>
    obtain ⟨a, w⟩ := p
    have ha : a ≠ k := h (a, w) (by simp)
    simp only [sinsert]
    split
    · simp [sget]
    · simp only [sget, Ne.symm ha, if_false]
      exact ih (fun p hp => h p (by simp [hp]))

theorem sdrop_ne (l : List (Nat × α)) (k : Nat) : ∀ p ∈ sdrop k l, p.1 ≠ k := by
  intro p hp
  simpa using (List.mem_filter.mp hp).2

variable [DecidableEq α]

/-- A read of the key written gives the value written. -/
@[simp] theorem sget_sput_self (d : Nat → α) (l : List (Nat × α)) (k : Nat) (v : α) :
    sget d (sput d l k v) k = v := by
  unfold sput
  split
  · rw [sget_sdrop_self]; exact (‹v = d k›).symm
  · exact sget_sinsert_self d _ k v (sdrop_ne l k)

/-- A write leaves every other key alone. -/
theorem sget_sput_ne (d : Nat → α) (l : List (Nat × α)) (k j : Nat) (v : α) (h : j ≠ k) :
    sget d (sput d l k v) j = sget d l j := by
  unfold sput
  split
  · exact sget_sdrop_ne d l k j h
  · rw [sget_sinsert_ne d _ k j v h, sget_sdrop_ne d l k j h]

theorem sget_sput (d : Nat → α) (l : List (Nat × α)) (k j : Nat) (v : α) :
    sget d (sput d l k v) j = if j = k then v else sget d l j := by
  split
  · subst_vars; exact sget_sput_self d l _ v
  · exact sget_sput_ne d l k j v ‹_›

/-! ### The canonical form -/

theorem swf_cons (d : Nat → α) (lo : Option Nat) (a : Nat) (v : α) (l : List (Nat × α)) :
    swf d lo ((a, v) :: l) = true ↔ (∀ b, lo = some b → b < a) ∧ v ≠ d a ∧ swf d (some a) l = true := by
  cases lo <;> simp [swf, and_assoc]

theorem swf_mono (d : Nat → α) (lo lo' : Option Nat) (l : List (Nat × α))
    (h : ∀ b, lo' = some b → ∃ c, lo = some c ∧ b ≤ c) (hw : swf d lo l = true) : swf d lo' l = true := by
  cases l with
  | nil => rfl
  | cons p l =>
    obtain ⟨a, v⟩ := p
    rw [swf_cons] at hw ⊢
    refine ⟨fun b hb => ?_, hw.2⟩
    obtain ⟨c, hc, hbc⟩ := h b hb
    have := hw.1 c hc
    omega

theorem swf_sdrop (d : Nat → α) (k : Nat) (l : List (Nat × α)) :
    ∀ lo, swf d lo l = true → swf d lo (sdrop k l) = true := by
  induction l with
  | nil => intro _ h; exact h
  | cons p l ih =>
    obtain ⟨a, v⟩ := p
    intro lo h
    rw [swf_cons] at h
    by_cases ha : a = k
    · have : sdrop k ((a, v) :: l) = sdrop k l := by simp [sdrop, ha]
      rw [this]
      exact swf_mono d (some a) lo _ (fun b hb => ⟨a, rfl, Nat.le_of_lt (h.1 b hb)⟩) (ih _ h.2.2)
    · have : sdrop k ((a, v) :: l) = (a, v) :: sdrop k l := by simp [sdrop, ha]
      rw [this, swf_cons]
      exact ⟨h.1, h.2.1, ih _ h.2.2⟩

theorem swf_sinsert (d : Nat → α) (k : Nat) (v : α) (hv : v ≠ d k) (l : List (Nat × α)) :
    ∀ lo, (∀ b, lo = some b → b < k) → (∀ p ∈ l, p.1 ≠ k) → swf d lo l = true →
      swf d lo (sinsert k v l) = true := by
  induction l with
  | nil => intro lo hlo _ _; rw [sinsert, swf_cons]; exact ⟨hlo, hv, rfl⟩
  | cons p l ih =>
    obtain ⟨a, w⟩ := p
    intro lo hlo hne h
    have ha : a ≠ k := hne (a, w) (by simp)
    rw [swf_cons] at h
    simp only [sinsert]
    split
    · rw [swf_cons, swf_cons]
      refine ⟨hlo, hv, fun b hb => ?_, h.2⟩
      cases hb; assumption
    · rw [swf_cons]
      refine ⟨h.1, h.2.1, ih (some a) (fun b hb => ?_) (fun p hp => hne p (by simp [hp])) h.2.2⟩
      cases hb; omega

/-- A write keeps the canonical form. -/
theorem swf_sput (d : Nat → α) (l : List (Nat × α)) (k : Nat) (v : α) (h : swf d none l = true) :
    swf d none (sput d l k v) = true := by
  unfold sput
  split
  · exact swf_sdrop d k l none h
  · exact swf_sinsert d k v ‹_› _ none (by simp) (sdrop_ne l k) (swf_sdrop d k l none h)

/-- A run of writes keeps the canonical form. -/
theorem swf_sputs (d : Nat → α) (vs : List α) :
    ∀ (l : List (Nat × α)) (k : Nat), swf d none l = true → swf d none (sputs d l k vs) = true := by
  induction vs with
  | nil => intro l k h; exact h
  | cons v vs ih => intro l k h; exact ih _ _ (swf_sput d l k v h)

/-! ### The module DRAM -/

@[simp] theorem Memory.wf_nil : Memory.wf [] = true := rfl

theorem Memory.wf_write (m : List Host.Cell) (a : Nat) (data : List Byte) (h : Memory.wf m = true) :
    Memory.wf (Memory.write m a data) = true := swf_sputs memDflt data m a h

theorem Memory.wf_masked (a : Nat) (mask : BitVec 64) (data : List Byte) :
    ∀ (m : List Host.Cell) (i : Nat), Memory.wf m = true → Memory.wf (Memory.masked m a mask i data) = true := by
  induction data with
  | nil => intro m i h; exact h
  | cons b l ih =>
    intro m i h
    refine ih _ _ ?_
    split
    · exact swf_sput memDflt m _ b h
    · exact h

theorem Memory.wf_ringWrite (base size : Nat) (data : List Byte) :
    ∀ (m : List Host.Cell) (off : Nat), Memory.wf m = true →
      Memory.wf (Memory.ringWrite base size m off data) = true := by
  induction data with
  | nil => intro m off h; exact h
  | cons b l ih => intro m off h; exact ih _ _ (swf_sput memDflt m _ b h)

end Sys2Proof.Machine
end

