-- ==== Sys2Proof/Laws/State.lean ====
section
/-!
SUPPORT. One lemma for each field under each update of the machine's record, true by `rfl`, so that no later
proof unfolds a record update.
-/

namespace Sys2Proof.Machine


/-! ### `Core.put` -/

@[simp] theorem Core.put_doms (idx sub v : Nat) (c : Core) : (c.put idx sub v).doms = c.doms := rfl
@[simp] theorem Core.put_banks (idx sub v : Nat) (c : Core) : (c.put idx sub v).banks = c.banks := rfl
@[simp] theorem Core.put_owners (idx sub v : Nat) (c : Core) : (c.put idx sub v).owners = c.owners := rfl
@[simp] theorem Core.put_mode (idx sub v : Nat) (c : Core) : (c.put idx sub v).mode = c.mode := rfl
@[simp] theorem Core.put_trans (idx sub v : Nat) (c : Core) : (c.put idx sub v).trans = c.trans := rfl
@[simp] theorem Core.put_ec (idx sub v : Nat) (c : Core) : (c.put idx sub v).ec = c.ec := rfl
@[simp] theorem Core.put_mbx (idx sub v : Nat) (c : Core) : (c.put idx sub v).mbx = c.mbx := rfl
@[simp] theorem Core.put_tw (idx sub v : Nat) (c : Core) : (c.put idx sub v).tw = c.tw := rfl
@[simp] theorem Core.put_refs (idx sub v : Nat) (c : Core) : (c.put idx sub v).refs = c.refs := rfl
@[simp] theorem Core.put_walks (idx sub v : Nat) (c : Core) : (c.put idx sub v).walks = c.walks := rfl
@[simp] theorem Core.put_calRun (idx sub v : Nat) (c : Core) : (c.put idx sub v).calRun = c.calRun := rfl
@[simp] theorem Core.put_calAt (idx sub v : Nat) (c : Core) : (c.put idx sub v).calAt = c.calAt := rfl
@[simp] theorem Core.put_calFailed (idx sub v : Nat) (c : Core) : (c.put idx sub v).calFailed = c.calFailed := rfl
@[simp] theorem Core.put_calEnd (idx sub v : Nat) (c : Core) : (c.put idx sub v).calEnd = c.calEnd := rfl
@[simp] theorem Core.put_calPend (idx sub v : Nat) (c : Core) : (c.put idx sub v).calPend = c.calPend := rfl
@[simp] theorem Core.put_calSaving (idx sub v : Nat) (c : Core) : (c.put idx sub v).calSaving = c.calSaving := rfl
@[simp] theorem Core.put_calKeep (idx sub v : Nat) (c : Core) : (c.put idx sub v).calKeep = c.calKeep := rfl
@[simp] theorem Core.put_mot (idx sub v : Nat) (c : Core) : (c.put idx sub v).mot = c.mot := rfl
@[simp] theorem Core.put_job (idx sub v : Nat) (c : Core) : (c.put idx sub v).job = c.job := rfl
@[simp] theorem Core.put_pipe (idx sub v : Nat) (c : Core) : (c.put idx sub v).pipe = c.pipe := rfl
@[simp] theorem Core.put_ctx (idx sub v : Nat) (c : Core) : (c.put idx sub v).ctx = c.ctx := rfl
@[simp] theorem Core.put_eng (idx sub v : Nat) (c : Core) : (c.put idx sub v).eng = c.eng := rfl
@[simp] theorem Core.put_tk (idx sub v : Nat) (c : Core) : (c.put idx sub v).tk = c.tk := rfl
@[simp] theorem Core.put_clk (idx sub v : Nat) (c : Core) : (c.put idx sub v).clk = c.clk := rfl
@[simp] theorem Core.put_dram (idx sub v : Nat) (c : Core) : (c.put idx sub v).dram = c.dram := rfl
@[simp] theorem Core.put_sram (idx sub v : Nat) (c : Core) : (c.put idx sub v).sram = c.sram := rfl
@[simp] theorem Core.put_cxl (idx sub v : Nat) (c : Core) : (c.put idx sub v).cxl = c.cxl := rfl
@[simp] theorem Core.put_links (idx sub v : Nat) (c : Core) : (c.put idx sub v).links = c.links := rfl
@[simp] theorem Core.put_ev (idx sub v : Nat) (c : Core) : (c.put idx sub v).ev = c.ev := rfl
@[simp] theorem Core.put_nv (idx sub v : Nat) (c : Core) : (c.put idx sub v).nv = c.nv := rfl
@[simp] theorem Core.put_pw (idx sub v : Nat) (c : Core) : (c.put idx sub v).pw = c.pw := rfl
@[simp] theorem Core.put_pads (idx sub v : Nat) (c : Core) : (c.put idx sub v).pads = c.pads := rfl
@[simp] theorem Core.put_free (idx sub v : Nat) (c : Core) : (c.put idx sub v).free = c.free := rfl
@[simp] theorem Core.put_out (idx sub v : Nat) (c : Core) : (c.put idx sub v).out = c.out := rfl

/-! ### `Core.emit` -/

@[simp] theorem Core.emit_dict (o : Out) (c : Core) : (c.emit o).dict = c.dict := rfl
@[simp] theorem Core.emit_doms (o : Out) (c : Core) : (c.emit o).doms = c.doms := rfl
@[simp] theorem Core.emit_banks (o : Out) (c : Core) : (c.emit o).banks = c.banks := rfl
@[simp] theorem Core.emit_owners (o : Out) (c : Core) : (c.emit o).owners = c.owners := rfl
@[simp] theorem Core.emit_mode (o : Out) (c : Core) : (c.emit o).mode = c.mode := rfl
@[simp] theorem Core.emit_trans (o : Out) (c : Core) : (c.emit o).trans = c.trans := rfl
@[simp] theorem Core.emit_ec (o : Out) (c : Core) : (c.emit o).ec = c.ec := rfl
@[simp] theorem Core.emit_mbx (o : Out) (c : Core) : (c.emit o).mbx = c.mbx := rfl
@[simp] theorem Core.emit_tw (o : Out) (c : Core) : (c.emit o).tw = c.tw := rfl
@[simp] theorem Core.emit_refs (o : Out) (c : Core) : (c.emit o).refs = c.refs := rfl
@[simp] theorem Core.emit_walks (o : Out) (c : Core) : (c.emit o).walks = c.walks := rfl
@[simp] theorem Core.emit_calRun (o : Out) (c : Core) : (c.emit o).calRun = c.calRun := rfl
@[simp] theorem Core.emit_calAt (o : Out) (c : Core) : (c.emit o).calAt = c.calAt := rfl
@[simp] theorem Core.emit_calFailed (o : Out) (c : Core) : (c.emit o).calFailed = c.calFailed := rfl
@[simp] theorem Core.emit_calEnd (o : Out) (c : Core) : (c.emit o).calEnd = c.calEnd := rfl
@[simp] theorem Core.emit_calPend (o : Out) (c : Core) : (c.emit o).calPend = c.calPend := rfl
@[simp] theorem Core.emit_calSaving (o : Out) (c : Core) : (c.emit o).calSaving = c.calSaving := rfl
@[simp] theorem Core.emit_calKeep (o : Out) (c : Core) : (c.emit o).calKeep = c.calKeep := rfl
@[simp] theorem Core.emit_mot (o : Out) (c : Core) : (c.emit o).mot = c.mot := rfl
@[simp] theorem Core.emit_job (o : Out) (c : Core) : (c.emit o).job = c.job := rfl
@[simp] theorem Core.emit_pipe (o : Out) (c : Core) : (c.emit o).pipe = c.pipe := rfl
@[simp] theorem Core.emit_ctx (o : Out) (c : Core) : (c.emit o).ctx = c.ctx := rfl
@[simp] theorem Core.emit_eng (o : Out) (c : Core) : (c.emit o).eng = c.eng := rfl
@[simp] theorem Core.emit_tk (o : Out) (c : Core) : (c.emit o).tk = c.tk := rfl
@[simp] theorem Core.emit_clk (o : Out) (c : Core) : (c.emit o).clk = c.clk := rfl
@[simp] theorem Core.emit_dram (o : Out) (c : Core) : (c.emit o).dram = c.dram := rfl
@[simp] theorem Core.emit_sram (o : Out) (c : Core) : (c.emit o).sram = c.sram := rfl
@[simp] theorem Core.emit_cxl (o : Out) (c : Core) : (c.emit o).cxl = c.cxl := rfl
@[simp] theorem Core.emit_links (o : Out) (c : Core) : (c.emit o).links = c.links := rfl
@[simp] theorem Core.emit_ev (o : Out) (c : Core) : (c.emit o).ev = c.ev := rfl
@[simp] theorem Core.emit_nv (o : Out) (c : Core) : (c.emit o).nv = c.nv := rfl
@[simp] theorem Core.emit_pw (o : Out) (c : Core) : (c.emit o).pw = c.pw := rfl
@[simp] theorem Core.emit_pads (o : Out) (c : Core) : (c.emit o).pads = c.pads := rfl
@[simp] theorem Core.emit_free (o : Out) (c : Core) : (c.emit o).free = c.free := rfl
@[simp] theorem Core.emit_out (o : Out) (c : Core) : (c.emit o).out = c.out ++ [o] := rfl
@[simp] theorem Core.emit_obj (o : Out) (j k : Nat) (c : Core) : (c.emit o).obj j k = c.obj j k := rfl

/-! ### `Core.putDom` -/

@[simp] theorem Core.putDom_dict (idx off : Nat) (data : List Byte) (c : Core) : (c.putDom idx off data).dict = c.dict := rfl
@[simp] theorem Core.putDom_banks (idx off : Nat) (data : List Byte) (c : Core) : (c.putDom idx off data).banks = c.banks := rfl
@[simp] theorem Core.putDom_owners (idx off : Nat) (data : List Byte) (c : Core) : (c.putDom idx off data).owners = c.owners := rfl
@[simp] theorem Core.putDom_mode (idx off : Nat) (data : List Byte) (c : Core) : (c.putDom idx off data).mode = c.mode := rfl
@[simp] theorem Core.putDom_trans (idx off : Nat) (data : List Byte) (c : Core) : (c.putDom idx off data).trans = c.trans := rfl
@[simp] theorem Core.putDom_ec (idx off : Nat) (data : List Byte) (c : Core) : (c.putDom idx off data).ec = c.ec := rfl
@[simp] theorem Core.putDom_mbx (idx off : Nat) (data : List Byte) (c : Core) : (c.putDom idx off data).mbx = c.mbx := rfl
@[simp] theorem Core.putDom_tw (idx off : Nat) (data : List Byte) (c : Core) : (c.putDom idx off data).tw = c.tw := rfl
@[simp] theorem Core.putDom_refs (idx off : Nat) (data : List Byte) (c : Core) : (c.putDom idx off data).refs = c.refs := rfl
@[simp] theorem Core.putDom_walks (idx off : Nat) (data : List Byte) (c : Core) : (c.putDom idx off data).walks = c.walks := rfl
@[simp] theorem Core.putDom_calRun (idx off : Nat) (data : List Byte) (c : Core) : (c.putDom idx off data).calRun = c.calRun := rfl
@[simp] theorem Core.putDom_calAt (idx off : Nat) (data : List Byte) (c : Core) : (c.putDom idx off data).calAt = c.calAt := rfl
@[simp] theorem Core.putDom_calFailed (idx off : Nat) (data : List Byte) (c : Core) : (c.putDom idx off data).calFailed = c.calFailed := rfl
@[simp] theorem Core.putDom_calEnd (idx off : Nat) (data : List Byte) (c : Core) : (c.putDom idx off data).calEnd = c.calEnd := rfl
@[simp] theorem Core.putDom_calPend (idx off : Nat) (data : List Byte) (c : Core) : (c.putDom idx off data).calPend = c.calPend := rfl
@[simp] theorem Core.putDom_calSaving (idx off : Nat) (data : List Byte) (c : Core) : (c.putDom idx off data).calSaving = c.calSaving := rfl
@[simp] theorem Core.putDom_calKeep (idx off : Nat) (data : List Byte) (c : Core) : (c.putDom idx off data).calKeep = c.calKeep := rfl
@[simp] theorem Core.putDom_mot (idx off : Nat) (data : List Byte) (c : Core) : (c.putDom idx off data).mot = c.mot := rfl
@[simp] theorem Core.putDom_job (idx off : Nat) (data : List Byte) (c : Core) : (c.putDom idx off data).job = c.job := rfl
@[simp] theorem Core.putDom_pipe (idx off : Nat) (data : List Byte) (c : Core) : (c.putDom idx off data).pipe = c.pipe := rfl
@[simp] theorem Core.putDom_ctx (idx off : Nat) (data : List Byte) (c : Core) : (c.putDom idx off data).ctx = c.ctx := rfl
@[simp] theorem Core.putDom_eng (idx off : Nat) (data : List Byte) (c : Core) : (c.putDom idx off data).eng = c.eng := rfl
@[simp] theorem Core.putDom_tk (idx off : Nat) (data : List Byte) (c : Core) : (c.putDom idx off data).tk = c.tk := rfl
@[simp] theorem Core.putDom_clk (idx off : Nat) (data : List Byte) (c : Core) : (c.putDom idx off data).clk = c.clk := rfl
@[simp] theorem Core.putDom_dram (idx off : Nat) (data : List Byte) (c : Core) : (c.putDom idx off data).dram = c.dram := rfl
@[simp] theorem Core.putDom_sram (idx off : Nat) (data : List Byte) (c : Core) : (c.putDom idx off data).sram = c.sram := rfl
@[simp] theorem Core.putDom_cxl (idx off : Nat) (data : List Byte) (c : Core) : (c.putDom idx off data).cxl = c.cxl := rfl
@[simp] theorem Core.putDom_links (idx off : Nat) (data : List Byte) (c : Core) : (c.putDom idx off data).links = c.links := rfl
@[simp] theorem Core.putDom_ev (idx off : Nat) (data : List Byte) (c : Core) : (c.putDom idx off data).ev = c.ev := rfl
@[simp] theorem Core.putDom_nv (idx off : Nat) (data : List Byte) (c : Core) : (c.putDom idx off data).nv = c.nv := rfl
@[simp] theorem Core.putDom_pw (idx off : Nat) (data : List Byte) (c : Core) : (c.putDom idx off data).pw = c.pw := rfl
@[simp] theorem Core.putDom_pads (idx off : Nat) (data : List Byte) (c : Core) : (c.putDom idx off data).pads = c.pads := rfl
@[simp] theorem Core.putDom_free (idx off : Nat) (data : List Byte) (c : Core) : (c.putDom idx off data).free = c.free := rfl
@[simp] theorem Core.putDom_out (idx off : Nat) (data : List Byte) (c : Core) : (c.putDom idx off data).out = c.out := rfl
@[simp] theorem Core.putDom_obj (idx off : Nat) (data : List Byte) (j k : Nat) (c : Core) : (c.putDom idx off data).obj j k = c.obj j k := rfl

/-! ### `Core.clearDom` -/

@[simp] theorem Core.clearDom_dict (idx : Nat) (c : Core) : (c.clearDom idx).dict = c.dict := rfl
@[simp] theorem Core.clearDom_banks (idx : Nat) (c : Core) : (c.clearDom idx).banks = c.banks := rfl
@[simp] theorem Core.clearDom_owners (idx : Nat) (c : Core) : (c.clearDom idx).owners = c.owners := rfl
@[simp] theorem Core.clearDom_mode (idx : Nat) (c : Core) : (c.clearDom idx).mode = c.mode := rfl
@[simp] theorem Core.clearDom_trans (idx : Nat) (c : Core) : (c.clearDom idx).trans = c.trans := rfl
@[simp] theorem Core.clearDom_ec (idx : Nat) (c : Core) : (c.clearDom idx).ec = c.ec := rfl
@[simp] theorem Core.clearDom_mbx (idx : Nat) (c : Core) : (c.clearDom idx).mbx = c.mbx := rfl
@[simp] theorem Core.clearDom_tw (idx : Nat) (c : Core) : (c.clearDom idx).tw = c.tw := rfl
@[simp] theorem Core.clearDom_refs (idx : Nat) (c : Core) : (c.clearDom idx).refs = c.refs := rfl
@[simp] theorem Core.clearDom_walks (idx : Nat) (c : Core) : (c.clearDom idx).walks = c.walks := rfl
@[simp] theorem Core.clearDom_calRun (idx : Nat) (c : Core) : (c.clearDom idx).calRun = c.calRun := rfl
@[simp] theorem Core.clearDom_calAt (idx : Nat) (c : Core) : (c.clearDom idx).calAt = c.calAt := rfl
@[simp] theorem Core.clearDom_calFailed (idx : Nat) (c : Core) : (c.clearDom idx).calFailed = c.calFailed := rfl
@[simp] theorem Core.clearDom_calEnd (idx : Nat) (c : Core) : (c.clearDom idx).calEnd = c.calEnd := rfl
@[simp] theorem Core.clearDom_calPend (idx : Nat) (c : Core) : (c.clearDom idx).calPend = c.calPend := rfl
@[simp] theorem Core.clearDom_calSaving (idx : Nat) (c : Core) : (c.clearDom idx).calSaving = c.calSaving := rfl
@[simp] theorem Core.clearDom_calKeep (idx : Nat) (c : Core) : (c.clearDom idx).calKeep = c.calKeep := rfl
@[simp] theorem Core.clearDom_mot (idx : Nat) (c : Core) : (c.clearDom idx).mot = c.mot := rfl
@[simp] theorem Core.clearDom_job (idx : Nat) (c : Core) : (c.clearDom idx).job = c.job := rfl
@[simp] theorem Core.clearDom_pipe (idx : Nat) (c : Core) : (c.clearDom idx).pipe = c.pipe := rfl
@[simp] theorem Core.clearDom_ctx (idx : Nat) (c : Core) : (c.clearDom idx).ctx = c.ctx := rfl
@[simp] theorem Core.clearDom_eng (idx : Nat) (c : Core) : (c.clearDom idx).eng = c.eng := rfl
@[simp] theorem Core.clearDom_tk (idx : Nat) (c : Core) : (c.clearDom idx).tk = c.tk := rfl
@[simp] theorem Core.clearDom_clk (idx : Nat) (c : Core) : (c.clearDom idx).clk = c.clk := rfl
@[simp] theorem Core.clearDom_dram (idx : Nat) (c : Core) : (c.clearDom idx).dram = c.dram := rfl
@[simp] theorem Core.clearDom_sram (idx : Nat) (c : Core) : (c.clearDom idx).sram = c.sram := rfl
@[simp] theorem Core.clearDom_cxl (idx : Nat) (c : Core) : (c.clearDom idx).cxl = c.cxl := rfl
@[simp] theorem Core.clearDom_links (idx : Nat) (c : Core) : (c.clearDom idx).links = c.links := rfl
@[simp] theorem Core.clearDom_ev (idx : Nat) (c : Core) : (c.clearDom idx).ev = c.ev := rfl
@[simp] theorem Core.clearDom_nv (idx : Nat) (c : Core) : (c.clearDom idx).nv = c.nv := rfl
@[simp] theorem Core.clearDom_pw (idx : Nat) (c : Core) : (c.clearDom idx).pw = c.pw := rfl
@[simp] theorem Core.clearDom_pads (idx : Nat) (c : Core) : (c.clearDom idx).pads = c.pads := rfl
@[simp] theorem Core.clearDom_free (idx : Nat) (c : Core) : (c.clearDom idx).free = c.free := rfl
@[simp] theorem Core.clearDom_out (idx : Nat) (c : Core) : (c.clearDom idx).out = c.out := rfl
@[simp] theorem Core.clearDom_obj (idx : Nat) (j k : Nat) (c : Core) : (c.clearDom idx).obj j k = c.obj j k := rfl

/-! ### `Core.mapMot` -/

@[simp] theorem Core.mapMot_dict (f : Motion → Motion) (c : Core) : (c.mapMot f).dict = c.dict := rfl
@[simp] theorem Core.mapMot_doms (f : Motion → Motion) (c : Core) : (c.mapMot f).doms = c.doms := rfl
@[simp] theorem Core.mapMot_banks (f : Motion → Motion) (c : Core) : (c.mapMot f).banks = c.banks := rfl
@[simp] theorem Core.mapMot_owners (f : Motion → Motion) (c : Core) : (c.mapMot f).owners = c.owners := rfl
@[simp] theorem Core.mapMot_mode (f : Motion → Motion) (c : Core) : (c.mapMot f).mode = c.mode := rfl
@[simp] theorem Core.mapMot_trans (f : Motion → Motion) (c : Core) : (c.mapMot f).trans = c.trans := rfl
@[simp] theorem Core.mapMot_ec (f : Motion → Motion) (c : Core) : (c.mapMot f).ec = c.ec := rfl
@[simp] theorem Core.mapMot_mbx (f : Motion → Motion) (c : Core) : (c.mapMot f).mbx = c.mbx := rfl
@[simp] theorem Core.mapMot_tw (f : Motion → Motion) (c : Core) : (c.mapMot f).tw = c.tw := rfl
@[simp] theorem Core.mapMot_refs (f : Motion → Motion) (c : Core) : (c.mapMot f).refs = c.refs := rfl
@[simp] theorem Core.mapMot_walks (f : Motion → Motion) (c : Core) : (c.mapMot f).walks = c.walks := rfl
@[simp] theorem Core.mapMot_calRun (f : Motion → Motion) (c : Core) : (c.mapMot f).calRun = c.calRun := rfl
@[simp] theorem Core.mapMot_calAt (f : Motion → Motion) (c : Core) : (c.mapMot f).calAt = c.calAt := rfl
@[simp] theorem Core.mapMot_calFailed (f : Motion → Motion) (c : Core) : (c.mapMot f).calFailed = c.calFailed := rfl
@[simp] theorem Core.mapMot_calEnd (f : Motion → Motion) (c : Core) : (c.mapMot f).calEnd = c.calEnd := rfl
@[simp] theorem Core.mapMot_calPend (f : Motion → Motion) (c : Core) : (c.mapMot f).calPend = c.calPend := rfl
@[simp] theorem Core.mapMot_calSaving (f : Motion → Motion) (c : Core) : (c.mapMot f).calSaving = c.calSaving := rfl
@[simp] theorem Core.mapMot_calKeep (f : Motion → Motion) (c : Core) : (c.mapMot f).calKeep = c.calKeep := rfl
@[simp] theorem Core.mapMot_mot (f : Motion → Motion) (c : Core) : (c.mapMot f).mot = f c.mot := rfl
@[simp] theorem Core.mapMot_job (f : Motion → Motion) (c : Core) : (c.mapMot f).job = c.job := rfl
@[simp] theorem Core.mapMot_pipe (f : Motion → Motion) (c : Core) : (c.mapMot f).pipe = c.pipe := rfl
@[simp] theorem Core.mapMot_ctx (f : Motion → Motion) (c : Core) : (c.mapMot f).ctx = c.ctx := rfl
@[simp] theorem Core.mapMot_eng (f : Motion → Motion) (c : Core) : (c.mapMot f).eng = c.eng := rfl
@[simp] theorem Core.mapMot_tk (f : Motion → Motion) (c : Core) : (c.mapMot f).tk = c.tk := rfl
@[simp] theorem Core.mapMot_clk (f : Motion → Motion) (c : Core) : (c.mapMot f).clk = c.clk := rfl
@[simp] theorem Core.mapMot_dram (f : Motion → Motion) (c : Core) : (c.mapMot f).dram = c.dram := rfl
@[simp] theorem Core.mapMot_sram (f : Motion → Motion) (c : Core) : (c.mapMot f).sram = c.sram := rfl
@[simp] theorem Core.mapMot_cxl (f : Motion → Motion) (c : Core) : (c.mapMot f).cxl = c.cxl := rfl
@[simp] theorem Core.mapMot_links (f : Motion → Motion) (c : Core) : (c.mapMot f).links = c.links := rfl
@[simp] theorem Core.mapMot_ev (f : Motion → Motion) (c : Core) : (c.mapMot f).ev = c.ev := rfl
@[simp] theorem Core.mapMot_nv (f : Motion → Motion) (c : Core) : (c.mapMot f).nv = c.nv := rfl
@[simp] theorem Core.mapMot_pw (f : Motion → Motion) (c : Core) : (c.mapMot f).pw = c.pw := rfl
@[simp] theorem Core.mapMot_pads (f : Motion → Motion) (c : Core) : (c.mapMot f).pads = c.pads := rfl
@[simp] theorem Core.mapMot_free (f : Motion → Motion) (c : Core) : (c.mapMot f).free = c.free := rfl
@[simp] theorem Core.mapMot_out (f : Motion → Motion) (c : Core) : (c.mapMot f).out = c.out := rfl
@[simp] theorem Core.mapMot_obj (f : Motion → Motion) (j k : Nat) (c : Core) : (c.mapMot f).obj j k = c.obj j k := rfl

/-! ### `Core.mapJob` -/

@[simp] theorem Core.mapJob_dict (f : Job → Job) (c : Core) : (c.mapJob f).dict = c.dict := rfl
@[simp] theorem Core.mapJob_doms (f : Job → Job) (c : Core) : (c.mapJob f).doms = c.doms := rfl
@[simp] theorem Core.mapJob_banks (f : Job → Job) (c : Core) : (c.mapJob f).banks = c.banks := rfl
@[simp] theorem Core.mapJob_owners (f : Job → Job) (c : Core) : (c.mapJob f).owners = c.owners := rfl
@[simp] theorem Core.mapJob_mode (f : Job → Job) (c : Core) : (c.mapJob f).mode = c.mode := rfl
@[simp] theorem Core.mapJob_trans (f : Job → Job) (c : Core) : (c.mapJob f).trans = c.trans := rfl
@[simp] theorem Core.mapJob_ec (f : Job → Job) (c : Core) : (c.mapJob f).ec = c.ec := rfl
@[simp] theorem Core.mapJob_mbx (f : Job → Job) (c : Core) : (c.mapJob f).mbx = c.mbx := rfl
@[simp] theorem Core.mapJob_tw (f : Job → Job) (c : Core) : (c.mapJob f).tw = c.tw := rfl
@[simp] theorem Core.mapJob_refs (f : Job → Job) (c : Core) : (c.mapJob f).refs = c.refs := rfl
@[simp] theorem Core.mapJob_walks (f : Job → Job) (c : Core) : (c.mapJob f).walks = c.walks := rfl
@[simp] theorem Core.mapJob_calRun (f : Job → Job) (c : Core) : (c.mapJob f).calRun = c.calRun := rfl
@[simp] theorem Core.mapJob_calAt (f : Job → Job) (c : Core) : (c.mapJob f).calAt = c.calAt := rfl
@[simp] theorem Core.mapJob_calFailed (f : Job → Job) (c : Core) : (c.mapJob f).calFailed = c.calFailed := rfl
@[simp] theorem Core.mapJob_calEnd (f : Job → Job) (c : Core) : (c.mapJob f).calEnd = c.calEnd := rfl
@[simp] theorem Core.mapJob_calPend (f : Job → Job) (c : Core) : (c.mapJob f).calPend = c.calPend := rfl
@[simp] theorem Core.mapJob_calSaving (f : Job → Job) (c : Core) : (c.mapJob f).calSaving = c.calSaving := rfl
@[simp] theorem Core.mapJob_calKeep (f : Job → Job) (c : Core) : (c.mapJob f).calKeep = c.calKeep := rfl
@[simp] theorem Core.mapJob_mot (f : Job → Job) (c : Core) : (c.mapJob f).mot = c.mot := rfl
@[simp] theorem Core.mapJob_job (f : Job → Job) (c : Core) : (c.mapJob f).job = f c.job := rfl
@[simp] theorem Core.mapJob_pipe (f : Job → Job) (c : Core) : (c.mapJob f).pipe = c.pipe := rfl
@[simp] theorem Core.mapJob_ctx (f : Job → Job) (c : Core) : (c.mapJob f).ctx = c.ctx := rfl
@[simp] theorem Core.mapJob_eng (f : Job → Job) (c : Core) : (c.mapJob f).eng = c.eng := rfl
@[simp] theorem Core.mapJob_tk (f : Job → Job) (c : Core) : (c.mapJob f).tk = c.tk := rfl
@[simp] theorem Core.mapJob_clk (f : Job → Job) (c : Core) : (c.mapJob f).clk = c.clk := rfl
@[simp] theorem Core.mapJob_dram (f : Job → Job) (c : Core) : (c.mapJob f).dram = c.dram := rfl
@[simp] theorem Core.mapJob_sram (f : Job → Job) (c : Core) : (c.mapJob f).sram = c.sram := rfl
@[simp] theorem Core.mapJob_cxl (f : Job → Job) (c : Core) : (c.mapJob f).cxl = c.cxl := rfl
@[simp] theorem Core.mapJob_links (f : Job → Job) (c : Core) : (c.mapJob f).links = c.links := rfl
@[simp] theorem Core.mapJob_ev (f : Job → Job) (c : Core) : (c.mapJob f).ev = c.ev := rfl
@[simp] theorem Core.mapJob_nv (f : Job → Job) (c : Core) : (c.mapJob f).nv = c.nv := rfl
@[simp] theorem Core.mapJob_pw (f : Job → Job) (c : Core) : (c.mapJob f).pw = c.pw := rfl
@[simp] theorem Core.mapJob_pads (f : Job → Job) (c : Core) : (c.mapJob f).pads = c.pads := rfl
@[simp] theorem Core.mapJob_free (f : Job → Job) (c : Core) : (c.mapJob f).free = c.free := rfl
@[simp] theorem Core.mapJob_out (f : Job → Job) (c : Core) : (c.mapJob f).out = c.out := rfl
@[simp] theorem Core.mapJob_obj (f : Job → Job) (j k : Nat) (c : Core) : (c.mapJob f).obj j k = c.obj j k := rfl

/-! ### `Core.mapPipe` -/

@[simp] theorem Core.mapPipe_dict (f : Pipe → Pipe) (c : Core) : (c.mapPipe f).dict = c.dict := rfl
@[simp] theorem Core.mapPipe_doms (f : Pipe → Pipe) (c : Core) : (c.mapPipe f).doms = c.doms := rfl
@[simp] theorem Core.mapPipe_banks (f : Pipe → Pipe) (c : Core) : (c.mapPipe f).banks = c.banks := rfl
@[simp] theorem Core.mapPipe_owners (f : Pipe → Pipe) (c : Core) : (c.mapPipe f).owners = c.owners := rfl
@[simp] theorem Core.mapPipe_mode (f : Pipe → Pipe) (c : Core) : (c.mapPipe f).mode = c.mode := rfl
@[simp] theorem Core.mapPipe_trans (f : Pipe → Pipe) (c : Core) : (c.mapPipe f).trans = c.trans := rfl
@[simp] theorem Core.mapPipe_ec (f : Pipe → Pipe) (c : Core) : (c.mapPipe f).ec = c.ec := rfl
@[simp] theorem Core.mapPipe_mbx (f : Pipe → Pipe) (c : Core) : (c.mapPipe f).mbx = c.mbx := rfl
@[simp] theorem Core.mapPipe_tw (f : Pipe → Pipe) (c : Core) : (c.mapPipe f).tw = c.tw := rfl
@[simp] theorem Core.mapPipe_refs (f : Pipe → Pipe) (c : Core) : (c.mapPipe f).refs = c.refs := rfl
@[simp] theorem Core.mapPipe_walks (f : Pipe → Pipe) (c : Core) : (c.mapPipe f).walks = c.walks := rfl
@[simp] theorem Core.mapPipe_calRun (f : Pipe → Pipe) (c : Core) : (c.mapPipe f).calRun = c.calRun := rfl
@[simp] theorem Core.mapPipe_calAt (f : Pipe → Pipe) (c : Core) : (c.mapPipe f).calAt = c.calAt := rfl
@[simp] theorem Core.mapPipe_calFailed (f : Pipe → Pipe) (c : Core) : (c.mapPipe f).calFailed = c.calFailed := rfl
@[simp] theorem Core.mapPipe_calEnd (f : Pipe → Pipe) (c : Core) : (c.mapPipe f).calEnd = c.calEnd := rfl
@[simp] theorem Core.mapPipe_calPend (f : Pipe → Pipe) (c : Core) : (c.mapPipe f).calPend = c.calPend := rfl
@[simp] theorem Core.mapPipe_calSaving (f : Pipe → Pipe) (c : Core) : (c.mapPipe f).calSaving = c.calSaving := rfl
@[simp] theorem Core.mapPipe_calKeep (f : Pipe → Pipe) (c : Core) : (c.mapPipe f).calKeep = c.calKeep := rfl
@[simp] theorem Core.mapPipe_mot (f : Pipe → Pipe) (c : Core) : (c.mapPipe f).mot = c.mot := rfl
@[simp] theorem Core.mapPipe_job (f : Pipe → Pipe) (c : Core) : (c.mapPipe f).job = c.job := rfl
@[simp] theorem Core.mapPipe_pipe (f : Pipe → Pipe) (c : Core) : (c.mapPipe f).pipe = f c.pipe := rfl
@[simp] theorem Core.mapPipe_ctx (f : Pipe → Pipe) (c : Core) : (c.mapPipe f).ctx = c.ctx := rfl
@[simp] theorem Core.mapPipe_eng (f : Pipe → Pipe) (c : Core) : (c.mapPipe f).eng = c.eng := rfl
@[simp] theorem Core.mapPipe_tk (f : Pipe → Pipe) (c : Core) : (c.mapPipe f).tk = c.tk := rfl
@[simp] theorem Core.mapPipe_clk (f : Pipe → Pipe) (c : Core) : (c.mapPipe f).clk = c.clk := rfl
@[simp] theorem Core.mapPipe_dram (f : Pipe → Pipe) (c : Core) : (c.mapPipe f).dram = c.dram := rfl
@[simp] theorem Core.mapPipe_sram (f : Pipe → Pipe) (c : Core) : (c.mapPipe f).sram = c.sram := rfl
@[simp] theorem Core.mapPipe_cxl (f : Pipe → Pipe) (c : Core) : (c.mapPipe f).cxl = c.cxl := rfl
@[simp] theorem Core.mapPipe_links (f : Pipe → Pipe) (c : Core) : (c.mapPipe f).links = c.links := rfl
@[simp] theorem Core.mapPipe_ev (f : Pipe → Pipe) (c : Core) : (c.mapPipe f).ev = c.ev := rfl
@[simp] theorem Core.mapPipe_nv (f : Pipe → Pipe) (c : Core) : (c.mapPipe f).nv = c.nv := rfl
@[simp] theorem Core.mapPipe_pw (f : Pipe → Pipe) (c : Core) : (c.mapPipe f).pw = c.pw := rfl
@[simp] theorem Core.mapPipe_pads (f : Pipe → Pipe) (c : Core) : (c.mapPipe f).pads = c.pads := rfl
@[simp] theorem Core.mapPipe_free (f : Pipe → Pipe) (c : Core) : (c.mapPipe f).free = c.free := rfl
@[simp] theorem Core.mapPipe_out (f : Pipe → Pipe) (c : Core) : (c.mapPipe f).out = c.out := rfl
@[simp] theorem Core.mapPipe_obj (f : Pipe → Pipe) (j k : Nat) (c : Core) : (c.mapPipe f).obj j k = c.obj j k := rfl

/-! ### `Core.mapCtx` -/

@[simp] theorem Core.mapCtx_dict (f : Ctx → Ctx) (c : Core) : (c.mapCtx f).dict = c.dict := rfl
@[simp] theorem Core.mapCtx_doms (f : Ctx → Ctx) (c : Core) : (c.mapCtx f).doms = c.doms := rfl
@[simp] theorem Core.mapCtx_banks (f : Ctx → Ctx) (c : Core) : (c.mapCtx f).banks = c.banks := rfl
@[simp] theorem Core.mapCtx_owners (f : Ctx → Ctx) (c : Core) : (c.mapCtx f).owners = c.owners := rfl
@[simp] theorem Core.mapCtx_mode (f : Ctx → Ctx) (c : Core) : (c.mapCtx f).mode = c.mode := rfl
@[simp] theorem Core.mapCtx_trans (f : Ctx → Ctx) (c : Core) : (c.mapCtx f).trans = c.trans := rfl
@[simp] theorem Core.mapCtx_ec (f : Ctx → Ctx) (c : Core) : (c.mapCtx f).ec = c.ec := rfl
@[simp] theorem Core.mapCtx_mbx (f : Ctx → Ctx) (c : Core) : (c.mapCtx f).mbx = c.mbx := rfl
@[simp] theorem Core.mapCtx_tw (f : Ctx → Ctx) (c : Core) : (c.mapCtx f).tw = c.tw := rfl
@[simp] theorem Core.mapCtx_refs (f : Ctx → Ctx) (c : Core) : (c.mapCtx f).refs = c.refs := rfl
@[simp] theorem Core.mapCtx_walks (f : Ctx → Ctx) (c : Core) : (c.mapCtx f).walks = c.walks := rfl
@[simp] theorem Core.mapCtx_calRun (f : Ctx → Ctx) (c : Core) : (c.mapCtx f).calRun = c.calRun := rfl
@[simp] theorem Core.mapCtx_calAt (f : Ctx → Ctx) (c : Core) : (c.mapCtx f).calAt = c.calAt := rfl
@[simp] theorem Core.mapCtx_calFailed (f : Ctx → Ctx) (c : Core) : (c.mapCtx f).calFailed = c.calFailed := rfl
@[simp] theorem Core.mapCtx_calEnd (f : Ctx → Ctx) (c : Core) : (c.mapCtx f).calEnd = c.calEnd := rfl
@[simp] theorem Core.mapCtx_calPend (f : Ctx → Ctx) (c : Core) : (c.mapCtx f).calPend = c.calPend := rfl
@[simp] theorem Core.mapCtx_calSaving (f : Ctx → Ctx) (c : Core) : (c.mapCtx f).calSaving = c.calSaving := rfl
@[simp] theorem Core.mapCtx_calKeep (f : Ctx → Ctx) (c : Core) : (c.mapCtx f).calKeep = c.calKeep := rfl
@[simp] theorem Core.mapCtx_mot (f : Ctx → Ctx) (c : Core) : (c.mapCtx f).mot = c.mot := rfl
@[simp] theorem Core.mapCtx_job (f : Ctx → Ctx) (c : Core) : (c.mapCtx f).job = c.job := rfl
@[simp] theorem Core.mapCtx_pipe (f : Ctx → Ctx) (c : Core) : (c.mapCtx f).pipe = c.pipe := rfl
@[simp] theorem Core.mapCtx_ctx (f : Ctx → Ctx) (c : Core) : (c.mapCtx f).ctx = f c.ctx := rfl
@[simp] theorem Core.mapCtx_eng (f : Ctx → Ctx) (c : Core) : (c.mapCtx f).eng = c.eng := rfl
@[simp] theorem Core.mapCtx_tk (f : Ctx → Ctx) (c : Core) : (c.mapCtx f).tk = c.tk := rfl
@[simp] theorem Core.mapCtx_clk (f : Ctx → Ctx) (c : Core) : (c.mapCtx f).clk = c.clk := rfl
@[simp] theorem Core.mapCtx_dram (f : Ctx → Ctx) (c : Core) : (c.mapCtx f).dram = c.dram := rfl
@[simp] theorem Core.mapCtx_sram (f : Ctx → Ctx) (c : Core) : (c.mapCtx f).sram = c.sram := rfl
@[simp] theorem Core.mapCtx_cxl (f : Ctx → Ctx) (c : Core) : (c.mapCtx f).cxl = c.cxl := rfl
@[simp] theorem Core.mapCtx_links (f : Ctx → Ctx) (c : Core) : (c.mapCtx f).links = c.links := rfl
@[simp] theorem Core.mapCtx_ev (f : Ctx → Ctx) (c : Core) : (c.mapCtx f).ev = c.ev := rfl
@[simp] theorem Core.mapCtx_nv (f : Ctx → Ctx) (c : Core) : (c.mapCtx f).nv = c.nv := rfl
@[simp] theorem Core.mapCtx_pw (f : Ctx → Ctx) (c : Core) : (c.mapCtx f).pw = c.pw := rfl
@[simp] theorem Core.mapCtx_pads (f : Ctx → Ctx) (c : Core) : (c.mapCtx f).pads = c.pads := rfl
@[simp] theorem Core.mapCtx_free (f : Ctx → Ctx) (c : Core) : (c.mapCtx f).free = c.free := rfl
@[simp] theorem Core.mapCtx_out (f : Ctx → Ctx) (c : Core) : (c.mapCtx f).out = c.out := rfl
@[simp] theorem Core.mapCtx_obj (f : Ctx → Ctx) (j k : Nat) (c : Core) : (c.mapCtx f).obj j k = c.obj j k := rfl

/-! ### `Core.mapEng` -/

@[simp] theorem Core.mapEng_dict (f : Eng → Eng) (c : Core) : (c.mapEng f).dict = c.dict := rfl
@[simp] theorem Core.mapEng_doms (f : Eng → Eng) (c : Core) : (c.mapEng f).doms = c.doms := rfl
@[simp] theorem Core.mapEng_banks (f : Eng → Eng) (c : Core) : (c.mapEng f).banks = c.banks := rfl
@[simp] theorem Core.mapEng_owners (f : Eng → Eng) (c : Core) : (c.mapEng f).owners = c.owners := rfl
@[simp] theorem Core.mapEng_mode (f : Eng → Eng) (c : Core) : (c.mapEng f).mode = c.mode := rfl
@[simp] theorem Core.mapEng_trans (f : Eng → Eng) (c : Core) : (c.mapEng f).trans = c.trans := rfl
@[simp] theorem Core.mapEng_ec (f : Eng → Eng) (c : Core) : (c.mapEng f).ec = c.ec := rfl
@[simp] theorem Core.mapEng_mbx (f : Eng → Eng) (c : Core) : (c.mapEng f).mbx = c.mbx := rfl
@[simp] theorem Core.mapEng_tw (f : Eng → Eng) (c : Core) : (c.mapEng f).tw = c.tw := rfl
@[simp] theorem Core.mapEng_refs (f : Eng → Eng) (c : Core) : (c.mapEng f).refs = c.refs := rfl
@[simp] theorem Core.mapEng_walks (f : Eng → Eng) (c : Core) : (c.mapEng f).walks = c.walks := rfl
@[simp] theorem Core.mapEng_calRun (f : Eng → Eng) (c : Core) : (c.mapEng f).calRun = c.calRun := rfl
@[simp] theorem Core.mapEng_calAt (f : Eng → Eng) (c : Core) : (c.mapEng f).calAt = c.calAt := rfl
@[simp] theorem Core.mapEng_calFailed (f : Eng → Eng) (c : Core) : (c.mapEng f).calFailed = c.calFailed := rfl
@[simp] theorem Core.mapEng_calEnd (f : Eng → Eng) (c : Core) : (c.mapEng f).calEnd = c.calEnd := rfl
@[simp] theorem Core.mapEng_calPend (f : Eng → Eng) (c : Core) : (c.mapEng f).calPend = c.calPend := rfl
@[simp] theorem Core.mapEng_calSaving (f : Eng → Eng) (c : Core) : (c.mapEng f).calSaving = c.calSaving := rfl
@[simp] theorem Core.mapEng_calKeep (f : Eng → Eng) (c : Core) : (c.mapEng f).calKeep = c.calKeep := rfl
@[simp] theorem Core.mapEng_mot (f : Eng → Eng) (c : Core) : (c.mapEng f).mot = c.mot := rfl
@[simp] theorem Core.mapEng_job (f : Eng → Eng) (c : Core) : (c.mapEng f).job = c.job := rfl
@[simp] theorem Core.mapEng_pipe (f : Eng → Eng) (c : Core) : (c.mapEng f).pipe = c.pipe := rfl
@[simp] theorem Core.mapEng_ctx (f : Eng → Eng) (c : Core) : (c.mapEng f).ctx = c.ctx := rfl
@[simp] theorem Core.mapEng_eng (f : Eng → Eng) (c : Core) : (c.mapEng f).eng = f c.eng := rfl
@[simp] theorem Core.mapEng_tk (f : Eng → Eng) (c : Core) : (c.mapEng f).tk = c.tk := rfl
@[simp] theorem Core.mapEng_clk (f : Eng → Eng) (c : Core) : (c.mapEng f).clk = c.clk := rfl
@[simp] theorem Core.mapEng_dram (f : Eng → Eng) (c : Core) : (c.mapEng f).dram = c.dram := rfl
@[simp] theorem Core.mapEng_sram (f : Eng → Eng) (c : Core) : (c.mapEng f).sram = c.sram := rfl
@[simp] theorem Core.mapEng_cxl (f : Eng → Eng) (c : Core) : (c.mapEng f).cxl = c.cxl := rfl
@[simp] theorem Core.mapEng_links (f : Eng → Eng) (c : Core) : (c.mapEng f).links = c.links := rfl
@[simp] theorem Core.mapEng_ev (f : Eng → Eng) (c : Core) : (c.mapEng f).ev = c.ev := rfl
@[simp] theorem Core.mapEng_nv (f : Eng → Eng) (c : Core) : (c.mapEng f).nv = c.nv := rfl
@[simp] theorem Core.mapEng_pw (f : Eng → Eng) (c : Core) : (c.mapEng f).pw = c.pw := rfl
@[simp] theorem Core.mapEng_pads (f : Eng → Eng) (c : Core) : (c.mapEng f).pads = c.pads := rfl
@[simp] theorem Core.mapEng_free (f : Eng → Eng) (c : Core) : (c.mapEng f).free = c.free := rfl
@[simp] theorem Core.mapEng_out (f : Eng → Eng) (c : Core) : (c.mapEng f).out = c.out := rfl
@[simp] theorem Core.mapEng_obj (f : Eng → Eng) (j k : Nat) (c : Core) : (c.mapEng f).obj j k = c.obj j k := rfl

/-! ### `Core.mapTk` -/

@[simp] theorem Core.mapTk_dict (f : Tinker → Tinker) (c : Core) : (c.mapTk f).dict = c.dict := rfl
@[simp] theorem Core.mapTk_doms (f : Tinker → Tinker) (c : Core) : (c.mapTk f).doms = c.doms := rfl
@[simp] theorem Core.mapTk_banks (f : Tinker → Tinker) (c : Core) : (c.mapTk f).banks = c.banks := rfl
@[simp] theorem Core.mapTk_owners (f : Tinker → Tinker) (c : Core) : (c.mapTk f).owners = c.owners := rfl
@[simp] theorem Core.mapTk_mode (f : Tinker → Tinker) (c : Core) : (c.mapTk f).mode = c.mode := rfl
@[simp] theorem Core.mapTk_trans (f : Tinker → Tinker) (c : Core) : (c.mapTk f).trans = c.trans := rfl
@[simp] theorem Core.mapTk_ec (f : Tinker → Tinker) (c : Core) : (c.mapTk f).ec = c.ec := rfl
@[simp] theorem Core.mapTk_mbx (f : Tinker → Tinker) (c : Core) : (c.mapTk f).mbx = c.mbx := rfl
@[simp] theorem Core.mapTk_tw (f : Tinker → Tinker) (c : Core) : (c.mapTk f).tw = c.tw := rfl
@[simp] theorem Core.mapTk_refs (f : Tinker → Tinker) (c : Core) : (c.mapTk f).refs = c.refs := rfl
@[simp] theorem Core.mapTk_walks (f : Tinker → Tinker) (c : Core) : (c.mapTk f).walks = c.walks := rfl
@[simp] theorem Core.mapTk_calRun (f : Tinker → Tinker) (c : Core) : (c.mapTk f).calRun = c.calRun := rfl
@[simp] theorem Core.mapTk_calAt (f : Tinker → Tinker) (c : Core) : (c.mapTk f).calAt = c.calAt := rfl
@[simp] theorem Core.mapTk_calFailed (f : Tinker → Tinker) (c : Core) : (c.mapTk f).calFailed = c.calFailed := rfl
@[simp] theorem Core.mapTk_calEnd (f : Tinker → Tinker) (c : Core) : (c.mapTk f).calEnd = c.calEnd := rfl
@[simp] theorem Core.mapTk_calPend (f : Tinker → Tinker) (c : Core) : (c.mapTk f).calPend = c.calPend := rfl
@[simp] theorem Core.mapTk_calSaving (f : Tinker → Tinker) (c : Core) : (c.mapTk f).calSaving = c.calSaving := rfl
@[simp] theorem Core.mapTk_calKeep (f : Tinker → Tinker) (c : Core) : (c.mapTk f).calKeep = c.calKeep := rfl
@[simp] theorem Core.mapTk_mot (f : Tinker → Tinker) (c : Core) : (c.mapTk f).mot = c.mot := rfl
@[simp] theorem Core.mapTk_job (f : Tinker → Tinker) (c : Core) : (c.mapTk f).job = c.job := rfl
@[simp] theorem Core.mapTk_pipe (f : Tinker → Tinker) (c : Core) : (c.mapTk f).pipe = c.pipe := rfl
@[simp] theorem Core.mapTk_ctx (f : Tinker → Tinker) (c : Core) : (c.mapTk f).ctx = c.ctx := rfl
@[simp] theorem Core.mapTk_eng (f : Tinker → Tinker) (c : Core) : (c.mapTk f).eng = c.eng := rfl
@[simp] theorem Core.mapTk_tk (f : Tinker → Tinker) (c : Core) : (c.mapTk f).tk = f c.tk := rfl
@[simp] theorem Core.mapTk_clk (f : Tinker → Tinker) (c : Core) : (c.mapTk f).clk = c.clk := rfl
@[simp] theorem Core.mapTk_dram (f : Tinker → Tinker) (c : Core) : (c.mapTk f).dram = c.dram := rfl
@[simp] theorem Core.mapTk_sram (f : Tinker → Tinker) (c : Core) : (c.mapTk f).sram = c.sram := rfl
@[simp] theorem Core.mapTk_cxl (f : Tinker → Tinker) (c : Core) : (c.mapTk f).cxl = c.cxl := rfl
@[simp] theorem Core.mapTk_links (f : Tinker → Tinker) (c : Core) : (c.mapTk f).links = c.links := rfl
@[simp] theorem Core.mapTk_ev (f : Tinker → Tinker) (c : Core) : (c.mapTk f).ev = c.ev := rfl
@[simp] theorem Core.mapTk_nv (f : Tinker → Tinker) (c : Core) : (c.mapTk f).nv = c.nv := rfl
@[simp] theorem Core.mapTk_pw (f : Tinker → Tinker) (c : Core) : (c.mapTk f).pw = c.pw := rfl
@[simp] theorem Core.mapTk_pads (f : Tinker → Tinker) (c : Core) : (c.mapTk f).pads = c.pads := rfl
@[simp] theorem Core.mapTk_free (f : Tinker → Tinker) (c : Core) : (c.mapTk f).free = c.free := rfl
@[simp] theorem Core.mapTk_out (f : Tinker → Tinker) (c : Core) : (c.mapTk f).out = c.out := rfl
@[simp] theorem Core.mapTk_obj (f : Tinker → Tinker) (j k : Nat) (c : Core) : (c.mapTk f).obj j k = c.obj j k := rfl

/-! ### `Core.mapClk` -/

@[simp] theorem Core.mapClk_dict (f : Clk → Clk) (c : Core) : (c.mapClk f).dict = c.dict := rfl
@[simp] theorem Core.mapClk_doms (f : Clk → Clk) (c : Core) : (c.mapClk f).doms = c.doms := rfl
@[simp] theorem Core.mapClk_banks (f : Clk → Clk) (c : Core) : (c.mapClk f).banks = c.banks := rfl
@[simp] theorem Core.mapClk_owners (f : Clk → Clk) (c : Core) : (c.mapClk f).owners = c.owners := rfl
@[simp] theorem Core.mapClk_mode (f : Clk → Clk) (c : Core) : (c.mapClk f).mode = c.mode := rfl
@[simp] theorem Core.mapClk_trans (f : Clk → Clk) (c : Core) : (c.mapClk f).trans = c.trans := rfl
@[simp] theorem Core.mapClk_ec (f : Clk → Clk) (c : Core) : (c.mapClk f).ec = c.ec := rfl
@[simp] theorem Core.mapClk_mbx (f : Clk → Clk) (c : Core) : (c.mapClk f).mbx = c.mbx := rfl
@[simp] theorem Core.mapClk_tw (f : Clk → Clk) (c : Core) : (c.mapClk f).tw = c.tw := rfl
@[simp] theorem Core.mapClk_refs (f : Clk → Clk) (c : Core) : (c.mapClk f).refs = c.refs := rfl
@[simp] theorem Core.mapClk_walks (f : Clk → Clk) (c : Core) : (c.mapClk f).walks = c.walks := rfl
@[simp] theorem Core.mapClk_calRun (f : Clk → Clk) (c : Core) : (c.mapClk f).calRun = c.calRun := rfl
@[simp] theorem Core.mapClk_calAt (f : Clk → Clk) (c : Core) : (c.mapClk f).calAt = c.calAt := rfl
@[simp] theorem Core.mapClk_calFailed (f : Clk → Clk) (c : Core) : (c.mapClk f).calFailed = c.calFailed := rfl
@[simp] theorem Core.mapClk_calEnd (f : Clk → Clk) (c : Core) : (c.mapClk f).calEnd = c.calEnd := rfl
@[simp] theorem Core.mapClk_calPend (f : Clk → Clk) (c : Core) : (c.mapClk f).calPend = c.calPend := rfl
@[simp] theorem Core.mapClk_calSaving (f : Clk → Clk) (c : Core) : (c.mapClk f).calSaving = c.calSaving := rfl
@[simp] theorem Core.mapClk_calKeep (f : Clk → Clk) (c : Core) : (c.mapClk f).calKeep = c.calKeep := rfl
@[simp] theorem Core.mapClk_mot (f : Clk → Clk) (c : Core) : (c.mapClk f).mot = c.mot := rfl
@[simp] theorem Core.mapClk_job (f : Clk → Clk) (c : Core) : (c.mapClk f).job = c.job := rfl
@[simp] theorem Core.mapClk_pipe (f : Clk → Clk) (c : Core) : (c.mapClk f).pipe = c.pipe := rfl
@[simp] theorem Core.mapClk_ctx (f : Clk → Clk) (c : Core) : (c.mapClk f).ctx = c.ctx := rfl
@[simp] theorem Core.mapClk_eng (f : Clk → Clk) (c : Core) : (c.mapClk f).eng = c.eng := rfl
@[simp] theorem Core.mapClk_tk (f : Clk → Clk) (c : Core) : (c.mapClk f).tk = c.tk := rfl
@[simp] theorem Core.mapClk_clk (f : Clk → Clk) (c : Core) : (c.mapClk f).clk = f c.clk := rfl
@[simp] theorem Core.mapClk_dram (f : Clk → Clk) (c : Core) : (c.mapClk f).dram = c.dram := rfl
@[simp] theorem Core.mapClk_sram (f : Clk → Clk) (c : Core) : (c.mapClk f).sram = c.sram := rfl
@[simp] theorem Core.mapClk_cxl (f : Clk → Clk) (c : Core) : (c.mapClk f).cxl = c.cxl := rfl
@[simp] theorem Core.mapClk_links (f : Clk → Clk) (c : Core) : (c.mapClk f).links = c.links := rfl
@[simp] theorem Core.mapClk_ev (f : Clk → Clk) (c : Core) : (c.mapClk f).ev = c.ev := rfl
@[simp] theorem Core.mapClk_nv (f : Clk → Clk) (c : Core) : (c.mapClk f).nv = c.nv := rfl
@[simp] theorem Core.mapClk_pw (f : Clk → Clk) (c : Core) : (c.mapClk f).pw = c.pw := rfl
@[simp] theorem Core.mapClk_pads (f : Clk → Clk) (c : Core) : (c.mapClk f).pads = c.pads := rfl
@[simp] theorem Core.mapClk_free (f : Clk → Clk) (c : Core) : (c.mapClk f).free = c.free := rfl
@[simp] theorem Core.mapClk_out (f : Clk → Clk) (c : Core) : (c.mapClk f).out = c.out := rfl
@[simp] theorem Core.mapClk_obj (f : Clk → Clk) (j k : Nat) (c : Core) : (c.mapClk f).obj j k = c.obj j k := rfl

/-! ### `Core.mapDram` -/

@[simp] theorem Core.mapDram_dict (f : Dram → Dram) (c : Core) : (c.mapDram f).dict = c.dict := rfl
@[simp] theorem Core.mapDram_doms (f : Dram → Dram) (c : Core) : (c.mapDram f).doms = c.doms := rfl
@[simp] theorem Core.mapDram_banks (f : Dram → Dram) (c : Core) : (c.mapDram f).banks = c.banks := rfl
@[simp] theorem Core.mapDram_owners (f : Dram → Dram) (c : Core) : (c.mapDram f).owners = c.owners := rfl
@[simp] theorem Core.mapDram_mode (f : Dram → Dram) (c : Core) : (c.mapDram f).mode = c.mode := rfl
@[simp] theorem Core.mapDram_trans (f : Dram → Dram) (c : Core) : (c.mapDram f).trans = c.trans := rfl
@[simp] theorem Core.mapDram_ec (f : Dram → Dram) (c : Core) : (c.mapDram f).ec = c.ec := rfl
@[simp] theorem Core.mapDram_mbx (f : Dram → Dram) (c : Core) : (c.mapDram f).mbx = c.mbx := rfl
@[simp] theorem Core.mapDram_tw (f : Dram → Dram) (c : Core) : (c.mapDram f).tw = c.tw := rfl
@[simp] theorem Core.mapDram_refs (f : Dram → Dram) (c : Core) : (c.mapDram f).refs = c.refs := rfl
@[simp] theorem Core.mapDram_walks (f : Dram → Dram) (c : Core) : (c.mapDram f).walks = c.walks := rfl
@[simp] theorem Core.mapDram_calRun (f : Dram → Dram) (c : Core) : (c.mapDram f).calRun = c.calRun := rfl
@[simp] theorem Core.mapDram_calAt (f : Dram → Dram) (c : Core) : (c.mapDram f).calAt = c.calAt := rfl
@[simp] theorem Core.mapDram_calFailed (f : Dram → Dram) (c : Core) : (c.mapDram f).calFailed = c.calFailed := rfl
@[simp] theorem Core.mapDram_calEnd (f : Dram → Dram) (c : Core) : (c.mapDram f).calEnd = c.calEnd := rfl
@[simp] theorem Core.mapDram_calPend (f : Dram → Dram) (c : Core) : (c.mapDram f).calPend = c.calPend := rfl
@[simp] theorem Core.mapDram_calSaving (f : Dram → Dram) (c : Core) : (c.mapDram f).calSaving = c.calSaving := rfl
@[simp] theorem Core.mapDram_calKeep (f : Dram → Dram) (c : Core) : (c.mapDram f).calKeep = c.calKeep := rfl
@[simp] theorem Core.mapDram_mot (f : Dram → Dram) (c : Core) : (c.mapDram f).mot = c.mot := rfl
@[simp] theorem Core.mapDram_job (f : Dram → Dram) (c : Core) : (c.mapDram f).job = c.job := rfl
@[simp] theorem Core.mapDram_pipe (f : Dram → Dram) (c : Core) : (c.mapDram f).pipe = c.pipe := rfl
@[simp] theorem Core.mapDram_ctx (f : Dram → Dram) (c : Core) : (c.mapDram f).ctx = c.ctx := rfl
@[simp] theorem Core.mapDram_eng (f : Dram → Dram) (c : Core) : (c.mapDram f).eng = c.eng := rfl
@[simp] theorem Core.mapDram_tk (f : Dram → Dram) (c : Core) : (c.mapDram f).tk = c.tk := rfl
@[simp] theorem Core.mapDram_clk (f : Dram → Dram) (c : Core) : (c.mapDram f).clk = c.clk := rfl
@[simp] theorem Core.mapDram_dram (f : Dram → Dram) (c : Core) : (c.mapDram f).dram = f c.dram := rfl
@[simp] theorem Core.mapDram_sram (f : Dram → Dram) (c : Core) : (c.mapDram f).sram = c.sram := rfl
@[simp] theorem Core.mapDram_cxl (f : Dram → Dram) (c : Core) : (c.mapDram f).cxl = c.cxl := rfl
@[simp] theorem Core.mapDram_links (f : Dram → Dram) (c : Core) : (c.mapDram f).links = c.links := rfl
@[simp] theorem Core.mapDram_ev (f : Dram → Dram) (c : Core) : (c.mapDram f).ev = c.ev := rfl
@[simp] theorem Core.mapDram_nv (f : Dram → Dram) (c : Core) : (c.mapDram f).nv = c.nv := rfl
@[simp] theorem Core.mapDram_pw (f : Dram → Dram) (c : Core) : (c.mapDram f).pw = c.pw := rfl
@[simp] theorem Core.mapDram_pads (f : Dram → Dram) (c : Core) : (c.mapDram f).pads = c.pads := rfl
@[simp] theorem Core.mapDram_free (f : Dram → Dram) (c : Core) : (c.mapDram f).free = c.free := rfl
@[simp] theorem Core.mapDram_out (f : Dram → Dram) (c : Core) : (c.mapDram f).out = c.out := rfl
@[simp] theorem Core.mapDram_obj (f : Dram → Dram) (j k : Nat) (c : Core) : (c.mapDram f).obj j k = c.obj j k := rfl

/-! ### `Core.mapSram` -/

@[simp] theorem Core.mapSram_dict (f : Sram → Sram) (c : Core) : (c.mapSram f).dict = c.dict := rfl
@[simp] theorem Core.mapSram_doms (f : Sram → Sram) (c : Core) : (c.mapSram f).doms = c.doms := rfl
@[simp] theorem Core.mapSram_banks (f : Sram → Sram) (c : Core) : (c.mapSram f).banks = c.banks := rfl
@[simp] theorem Core.mapSram_owners (f : Sram → Sram) (c : Core) : (c.mapSram f).owners = c.owners := rfl
@[simp] theorem Core.mapSram_mode (f : Sram → Sram) (c : Core) : (c.mapSram f).mode = c.mode := rfl
@[simp] theorem Core.mapSram_trans (f : Sram → Sram) (c : Core) : (c.mapSram f).trans = c.trans := rfl
@[simp] theorem Core.mapSram_ec (f : Sram → Sram) (c : Core) : (c.mapSram f).ec = c.ec := rfl
@[simp] theorem Core.mapSram_mbx (f : Sram → Sram) (c : Core) : (c.mapSram f).mbx = c.mbx := rfl
@[simp] theorem Core.mapSram_tw (f : Sram → Sram) (c : Core) : (c.mapSram f).tw = c.tw := rfl
@[simp] theorem Core.mapSram_refs (f : Sram → Sram) (c : Core) : (c.mapSram f).refs = c.refs := rfl
@[simp] theorem Core.mapSram_walks (f : Sram → Sram) (c : Core) : (c.mapSram f).walks = c.walks := rfl
@[simp] theorem Core.mapSram_calRun (f : Sram → Sram) (c : Core) : (c.mapSram f).calRun = c.calRun := rfl
@[simp] theorem Core.mapSram_calAt (f : Sram → Sram) (c : Core) : (c.mapSram f).calAt = c.calAt := rfl
@[simp] theorem Core.mapSram_calFailed (f : Sram → Sram) (c : Core) : (c.mapSram f).calFailed = c.calFailed := rfl
@[simp] theorem Core.mapSram_calEnd (f : Sram → Sram) (c : Core) : (c.mapSram f).calEnd = c.calEnd := rfl
@[simp] theorem Core.mapSram_calPend (f : Sram → Sram) (c : Core) : (c.mapSram f).calPend = c.calPend := rfl
@[simp] theorem Core.mapSram_calSaving (f : Sram → Sram) (c : Core) : (c.mapSram f).calSaving = c.calSaving := rfl
@[simp] theorem Core.mapSram_calKeep (f : Sram → Sram) (c : Core) : (c.mapSram f).calKeep = c.calKeep := rfl
@[simp] theorem Core.mapSram_mot (f : Sram → Sram) (c : Core) : (c.mapSram f).mot = c.mot := rfl
@[simp] theorem Core.mapSram_job (f : Sram → Sram) (c : Core) : (c.mapSram f).job = c.job := rfl
@[simp] theorem Core.mapSram_pipe (f : Sram → Sram) (c : Core) : (c.mapSram f).pipe = c.pipe := rfl
@[simp] theorem Core.mapSram_ctx (f : Sram → Sram) (c : Core) : (c.mapSram f).ctx = c.ctx := rfl
@[simp] theorem Core.mapSram_eng (f : Sram → Sram) (c : Core) : (c.mapSram f).eng = c.eng := rfl
@[simp] theorem Core.mapSram_tk (f : Sram → Sram) (c : Core) : (c.mapSram f).tk = c.tk := rfl
@[simp] theorem Core.mapSram_clk (f : Sram → Sram) (c : Core) : (c.mapSram f).clk = c.clk := rfl
@[simp] theorem Core.mapSram_dram (f : Sram → Sram) (c : Core) : (c.mapSram f).dram = c.dram := rfl
@[simp] theorem Core.mapSram_sram (f : Sram → Sram) (c : Core) : (c.mapSram f).sram = f c.sram := rfl
@[simp] theorem Core.mapSram_cxl (f : Sram → Sram) (c : Core) : (c.mapSram f).cxl = c.cxl := rfl
@[simp] theorem Core.mapSram_links (f : Sram → Sram) (c : Core) : (c.mapSram f).links = c.links := rfl
@[simp] theorem Core.mapSram_ev (f : Sram → Sram) (c : Core) : (c.mapSram f).ev = c.ev := rfl
@[simp] theorem Core.mapSram_nv (f : Sram → Sram) (c : Core) : (c.mapSram f).nv = c.nv := rfl
@[simp] theorem Core.mapSram_pw (f : Sram → Sram) (c : Core) : (c.mapSram f).pw = c.pw := rfl
@[simp] theorem Core.mapSram_pads (f : Sram → Sram) (c : Core) : (c.mapSram f).pads = c.pads := rfl
@[simp] theorem Core.mapSram_free (f : Sram → Sram) (c : Core) : (c.mapSram f).free = c.free := rfl
@[simp] theorem Core.mapSram_out (f : Sram → Sram) (c : Core) : (c.mapSram f).out = c.out := rfl
@[simp] theorem Core.mapSram_obj (f : Sram → Sram) (j k : Nat) (c : Core) : (c.mapSram f).obj j k = c.obj j k := rfl

/-! ### `Core.mapCxl` -/

@[simp] theorem Core.mapCxl_dict (f : Cxl → Cxl) (c : Core) : (c.mapCxl f).dict = c.dict := rfl
@[simp] theorem Core.mapCxl_doms (f : Cxl → Cxl) (c : Core) : (c.mapCxl f).doms = c.doms := rfl
@[simp] theorem Core.mapCxl_banks (f : Cxl → Cxl) (c : Core) : (c.mapCxl f).banks = c.banks := rfl
@[simp] theorem Core.mapCxl_owners (f : Cxl → Cxl) (c : Core) : (c.mapCxl f).owners = c.owners := rfl
@[simp] theorem Core.mapCxl_mode (f : Cxl → Cxl) (c : Core) : (c.mapCxl f).mode = c.mode := rfl
@[simp] theorem Core.mapCxl_trans (f : Cxl → Cxl) (c : Core) : (c.mapCxl f).trans = c.trans := rfl
@[simp] theorem Core.mapCxl_ec (f : Cxl → Cxl) (c : Core) : (c.mapCxl f).ec = c.ec := rfl
@[simp] theorem Core.mapCxl_mbx (f : Cxl → Cxl) (c : Core) : (c.mapCxl f).mbx = c.mbx := rfl
@[simp] theorem Core.mapCxl_tw (f : Cxl → Cxl) (c : Core) : (c.mapCxl f).tw = c.tw := rfl
@[simp] theorem Core.mapCxl_refs (f : Cxl → Cxl) (c : Core) : (c.mapCxl f).refs = c.refs := rfl
@[simp] theorem Core.mapCxl_walks (f : Cxl → Cxl) (c : Core) : (c.mapCxl f).walks = c.walks := rfl
@[simp] theorem Core.mapCxl_calRun (f : Cxl → Cxl) (c : Core) : (c.mapCxl f).calRun = c.calRun := rfl
@[simp] theorem Core.mapCxl_calAt (f : Cxl → Cxl) (c : Core) : (c.mapCxl f).calAt = c.calAt := rfl
@[simp] theorem Core.mapCxl_calFailed (f : Cxl → Cxl) (c : Core) : (c.mapCxl f).calFailed = c.calFailed := rfl
@[simp] theorem Core.mapCxl_calEnd (f : Cxl → Cxl) (c : Core) : (c.mapCxl f).calEnd = c.calEnd := rfl
@[simp] theorem Core.mapCxl_calPend (f : Cxl → Cxl) (c : Core) : (c.mapCxl f).calPend = c.calPend := rfl
@[simp] theorem Core.mapCxl_calSaving (f : Cxl → Cxl) (c : Core) : (c.mapCxl f).calSaving = c.calSaving := rfl
@[simp] theorem Core.mapCxl_calKeep (f : Cxl → Cxl) (c : Core) : (c.mapCxl f).calKeep = c.calKeep := rfl
@[simp] theorem Core.mapCxl_mot (f : Cxl → Cxl) (c : Core) : (c.mapCxl f).mot = c.mot := rfl
@[simp] theorem Core.mapCxl_job (f : Cxl → Cxl) (c : Core) : (c.mapCxl f).job = c.job := rfl
@[simp] theorem Core.mapCxl_pipe (f : Cxl → Cxl) (c : Core) : (c.mapCxl f).pipe = c.pipe := rfl
@[simp] theorem Core.mapCxl_ctx (f : Cxl → Cxl) (c : Core) : (c.mapCxl f).ctx = c.ctx := rfl
@[simp] theorem Core.mapCxl_eng (f : Cxl → Cxl) (c : Core) : (c.mapCxl f).eng = c.eng := rfl
@[simp] theorem Core.mapCxl_tk (f : Cxl → Cxl) (c : Core) : (c.mapCxl f).tk = c.tk := rfl
@[simp] theorem Core.mapCxl_clk (f : Cxl → Cxl) (c : Core) : (c.mapCxl f).clk = c.clk := rfl
@[simp] theorem Core.mapCxl_dram (f : Cxl → Cxl) (c : Core) : (c.mapCxl f).dram = c.dram := rfl
@[simp] theorem Core.mapCxl_sram (f : Cxl → Cxl) (c : Core) : (c.mapCxl f).sram = c.sram := rfl
@[simp] theorem Core.mapCxl_cxl (f : Cxl → Cxl) (c : Core) : (c.mapCxl f).cxl = f c.cxl := rfl
@[simp] theorem Core.mapCxl_links (f : Cxl → Cxl) (c : Core) : (c.mapCxl f).links = c.links := rfl
@[simp] theorem Core.mapCxl_ev (f : Cxl → Cxl) (c : Core) : (c.mapCxl f).ev = c.ev := rfl
@[simp] theorem Core.mapCxl_nv (f : Cxl → Cxl) (c : Core) : (c.mapCxl f).nv = c.nv := rfl
@[simp] theorem Core.mapCxl_pw (f : Cxl → Cxl) (c : Core) : (c.mapCxl f).pw = c.pw := rfl
@[simp] theorem Core.mapCxl_pads (f : Cxl → Cxl) (c : Core) : (c.mapCxl f).pads = c.pads := rfl
@[simp] theorem Core.mapCxl_free (f : Cxl → Cxl) (c : Core) : (c.mapCxl f).free = c.free := rfl
@[simp] theorem Core.mapCxl_out (f : Cxl → Cxl) (c : Core) : (c.mapCxl f).out = c.out := rfl
@[simp] theorem Core.mapCxl_obj (f : Cxl → Cxl) (j k : Nat) (c : Core) : (c.mapCxl f).obj j k = c.obj j k := rfl

/-! ### `Core.mapEv` -/

@[simp] theorem Core.mapEv_dict (f : Ev → Ev) (c : Core) : (c.mapEv f).dict = c.dict := rfl
@[simp] theorem Core.mapEv_doms (f : Ev → Ev) (c : Core) : (c.mapEv f).doms = c.doms := rfl
@[simp] theorem Core.mapEv_banks (f : Ev → Ev) (c : Core) : (c.mapEv f).banks = c.banks := rfl
@[simp] theorem Core.mapEv_owners (f : Ev → Ev) (c : Core) : (c.mapEv f).owners = c.owners := rfl
@[simp] theorem Core.mapEv_mode (f : Ev → Ev) (c : Core) : (c.mapEv f).mode = c.mode := rfl
@[simp] theorem Core.mapEv_trans (f : Ev → Ev) (c : Core) : (c.mapEv f).trans = c.trans := rfl
@[simp] theorem Core.mapEv_ec (f : Ev → Ev) (c : Core) : (c.mapEv f).ec = c.ec := rfl
@[simp] theorem Core.mapEv_mbx (f : Ev → Ev) (c : Core) : (c.mapEv f).mbx = c.mbx := rfl
@[simp] theorem Core.mapEv_tw (f : Ev → Ev) (c : Core) : (c.mapEv f).tw = c.tw := rfl
@[simp] theorem Core.mapEv_refs (f : Ev → Ev) (c : Core) : (c.mapEv f).refs = c.refs := rfl
@[simp] theorem Core.mapEv_walks (f : Ev → Ev) (c : Core) : (c.mapEv f).walks = c.walks := rfl
@[simp] theorem Core.mapEv_calRun (f : Ev → Ev) (c : Core) : (c.mapEv f).calRun = c.calRun := rfl
@[simp] theorem Core.mapEv_calAt (f : Ev → Ev) (c : Core) : (c.mapEv f).calAt = c.calAt := rfl
@[simp] theorem Core.mapEv_calFailed (f : Ev → Ev) (c : Core) : (c.mapEv f).calFailed = c.calFailed := rfl
@[simp] theorem Core.mapEv_calEnd (f : Ev → Ev) (c : Core) : (c.mapEv f).calEnd = c.calEnd := rfl
@[simp] theorem Core.mapEv_calPend (f : Ev → Ev) (c : Core) : (c.mapEv f).calPend = c.calPend := rfl
@[simp] theorem Core.mapEv_calSaving (f : Ev → Ev) (c : Core) : (c.mapEv f).calSaving = c.calSaving := rfl
@[simp] theorem Core.mapEv_calKeep (f : Ev → Ev) (c : Core) : (c.mapEv f).calKeep = c.calKeep := rfl
@[simp] theorem Core.mapEv_mot (f : Ev → Ev) (c : Core) : (c.mapEv f).mot = c.mot := rfl
@[simp] theorem Core.mapEv_job (f : Ev → Ev) (c : Core) : (c.mapEv f).job = c.job := rfl
@[simp] theorem Core.mapEv_pipe (f : Ev → Ev) (c : Core) : (c.mapEv f).pipe = c.pipe := rfl
@[simp] theorem Core.mapEv_ctx (f : Ev → Ev) (c : Core) : (c.mapEv f).ctx = c.ctx := rfl
@[simp] theorem Core.mapEv_eng (f : Ev → Ev) (c : Core) : (c.mapEv f).eng = c.eng := rfl
@[simp] theorem Core.mapEv_tk (f : Ev → Ev) (c : Core) : (c.mapEv f).tk = c.tk := rfl
@[simp] theorem Core.mapEv_clk (f : Ev → Ev) (c : Core) : (c.mapEv f).clk = c.clk := rfl
@[simp] theorem Core.mapEv_dram (f : Ev → Ev) (c : Core) : (c.mapEv f).dram = c.dram := rfl
@[simp] theorem Core.mapEv_sram (f : Ev → Ev) (c : Core) : (c.mapEv f).sram = c.sram := rfl
@[simp] theorem Core.mapEv_cxl (f : Ev → Ev) (c : Core) : (c.mapEv f).cxl = c.cxl := rfl
@[simp] theorem Core.mapEv_links (f : Ev → Ev) (c : Core) : (c.mapEv f).links = c.links := rfl
@[simp] theorem Core.mapEv_ev (f : Ev → Ev) (c : Core) : (c.mapEv f).ev = f c.ev := rfl
@[simp] theorem Core.mapEv_nv (f : Ev → Ev) (c : Core) : (c.mapEv f).nv = c.nv := rfl
@[simp] theorem Core.mapEv_pw (f : Ev → Ev) (c : Core) : (c.mapEv f).pw = c.pw := rfl
@[simp] theorem Core.mapEv_pads (f : Ev → Ev) (c : Core) : (c.mapEv f).pads = c.pads := rfl
@[simp] theorem Core.mapEv_free (f : Ev → Ev) (c : Core) : (c.mapEv f).free = c.free := rfl
@[simp] theorem Core.mapEv_out (f : Ev → Ev) (c : Core) : (c.mapEv f).out = c.out := rfl
@[simp] theorem Core.mapEv_obj (f : Ev → Ev) (j k : Nat) (c : Core) : (c.mapEv f).obj j k = c.obj j k := rfl

/-! ### `Core.mapNv` -/

@[simp] theorem Core.mapNv_dict (f : Nv → Nv) (c : Core) : (c.mapNv f).dict = c.dict := rfl
@[simp] theorem Core.mapNv_doms (f : Nv → Nv) (c : Core) : (c.mapNv f).doms = c.doms := rfl
@[simp] theorem Core.mapNv_banks (f : Nv → Nv) (c : Core) : (c.mapNv f).banks = c.banks := rfl
@[simp] theorem Core.mapNv_owners (f : Nv → Nv) (c : Core) : (c.mapNv f).owners = c.owners := rfl
@[simp] theorem Core.mapNv_mode (f : Nv → Nv) (c : Core) : (c.mapNv f).mode = c.mode := rfl
@[simp] theorem Core.mapNv_trans (f : Nv → Nv) (c : Core) : (c.mapNv f).trans = c.trans := rfl
@[simp] theorem Core.mapNv_ec (f : Nv → Nv) (c : Core) : (c.mapNv f).ec = c.ec := rfl
@[simp] theorem Core.mapNv_mbx (f : Nv → Nv) (c : Core) : (c.mapNv f).mbx = c.mbx := rfl
@[simp] theorem Core.mapNv_tw (f : Nv → Nv) (c : Core) : (c.mapNv f).tw = c.tw := rfl
@[simp] theorem Core.mapNv_refs (f : Nv → Nv) (c : Core) : (c.mapNv f).refs = c.refs := rfl
@[simp] theorem Core.mapNv_walks (f : Nv → Nv) (c : Core) : (c.mapNv f).walks = c.walks := rfl
@[simp] theorem Core.mapNv_calRun (f : Nv → Nv) (c : Core) : (c.mapNv f).calRun = c.calRun := rfl
@[simp] theorem Core.mapNv_calAt (f : Nv → Nv) (c : Core) : (c.mapNv f).calAt = c.calAt := rfl
@[simp] theorem Core.mapNv_calFailed (f : Nv → Nv) (c : Core) : (c.mapNv f).calFailed = c.calFailed := rfl
@[simp] theorem Core.mapNv_calEnd (f : Nv → Nv) (c : Core) : (c.mapNv f).calEnd = c.calEnd := rfl
@[simp] theorem Core.mapNv_calPend (f : Nv → Nv) (c : Core) : (c.mapNv f).calPend = c.calPend := rfl
@[simp] theorem Core.mapNv_calSaving (f : Nv → Nv) (c : Core) : (c.mapNv f).calSaving = c.calSaving := rfl
@[simp] theorem Core.mapNv_calKeep (f : Nv → Nv) (c : Core) : (c.mapNv f).calKeep = c.calKeep := rfl
@[simp] theorem Core.mapNv_mot (f : Nv → Nv) (c : Core) : (c.mapNv f).mot = c.mot := rfl
@[simp] theorem Core.mapNv_job (f : Nv → Nv) (c : Core) : (c.mapNv f).job = c.job := rfl
@[simp] theorem Core.mapNv_pipe (f : Nv → Nv) (c : Core) : (c.mapNv f).pipe = c.pipe := rfl
@[simp] theorem Core.mapNv_ctx (f : Nv → Nv) (c : Core) : (c.mapNv f).ctx = c.ctx := rfl
@[simp] theorem Core.mapNv_eng (f : Nv → Nv) (c : Core) : (c.mapNv f).eng = c.eng := rfl
@[simp] theorem Core.mapNv_tk (f : Nv → Nv) (c : Core) : (c.mapNv f).tk = c.tk := rfl
@[simp] theorem Core.mapNv_clk (f : Nv → Nv) (c : Core) : (c.mapNv f).clk = c.clk := rfl
@[simp] theorem Core.mapNv_dram (f : Nv → Nv) (c : Core) : (c.mapNv f).dram = c.dram := rfl
@[simp] theorem Core.mapNv_sram (f : Nv → Nv) (c : Core) : (c.mapNv f).sram = c.sram := rfl
@[simp] theorem Core.mapNv_cxl (f : Nv → Nv) (c : Core) : (c.mapNv f).cxl = c.cxl := rfl
@[simp] theorem Core.mapNv_links (f : Nv → Nv) (c : Core) : (c.mapNv f).links = c.links := rfl
@[simp] theorem Core.mapNv_ev (f : Nv → Nv) (c : Core) : (c.mapNv f).ev = c.ev := rfl
@[simp] theorem Core.mapNv_nv (f : Nv → Nv) (c : Core) : (c.mapNv f).nv = f c.nv := rfl
@[simp] theorem Core.mapNv_pw (f : Nv → Nv) (c : Core) : (c.mapNv f).pw = c.pw := rfl
@[simp] theorem Core.mapNv_pads (f : Nv → Nv) (c : Core) : (c.mapNv f).pads = c.pads := rfl
@[simp] theorem Core.mapNv_free (f : Nv → Nv) (c : Core) : (c.mapNv f).free = c.free := rfl
@[simp] theorem Core.mapNv_out (f : Nv → Nv) (c : Core) : (c.mapNv f).out = c.out := rfl
@[simp] theorem Core.mapNv_obj (f : Nv → Nv) (j k : Nat) (c : Core) : (c.mapNv f).obj j k = c.obj j k := rfl

/-! ### `Core.mapPw` -/

@[simp] theorem Core.mapPw_dict (f : Power → Power) (c : Core) : (c.mapPw f).dict = c.dict := rfl
@[simp] theorem Core.mapPw_doms (f : Power → Power) (c : Core) : (c.mapPw f).doms = c.doms := rfl
@[simp] theorem Core.mapPw_banks (f : Power → Power) (c : Core) : (c.mapPw f).banks = c.banks := rfl
@[simp] theorem Core.mapPw_owners (f : Power → Power) (c : Core) : (c.mapPw f).owners = c.owners := rfl
@[simp] theorem Core.mapPw_mode (f : Power → Power) (c : Core) : (c.mapPw f).mode = c.mode := rfl
@[simp] theorem Core.mapPw_trans (f : Power → Power) (c : Core) : (c.mapPw f).trans = c.trans := rfl
@[simp] theorem Core.mapPw_ec (f : Power → Power) (c : Core) : (c.mapPw f).ec = c.ec := rfl
@[simp] theorem Core.mapPw_mbx (f : Power → Power) (c : Core) : (c.mapPw f).mbx = c.mbx := rfl
@[simp] theorem Core.mapPw_tw (f : Power → Power) (c : Core) : (c.mapPw f).tw = c.tw := rfl
@[simp] theorem Core.mapPw_refs (f : Power → Power) (c : Core) : (c.mapPw f).refs = c.refs := rfl
@[simp] theorem Core.mapPw_walks (f : Power → Power) (c : Core) : (c.mapPw f).walks = c.walks := rfl
@[simp] theorem Core.mapPw_calRun (f : Power → Power) (c : Core) : (c.mapPw f).calRun = c.calRun := rfl
@[simp] theorem Core.mapPw_calAt (f : Power → Power) (c : Core) : (c.mapPw f).calAt = c.calAt := rfl
@[simp] theorem Core.mapPw_calFailed (f : Power → Power) (c : Core) : (c.mapPw f).calFailed = c.calFailed := rfl
@[simp] theorem Core.mapPw_calEnd (f : Power → Power) (c : Core) : (c.mapPw f).calEnd = c.calEnd := rfl
@[simp] theorem Core.mapPw_calPend (f : Power → Power) (c : Core) : (c.mapPw f).calPend = c.calPend := rfl
@[simp] theorem Core.mapPw_calSaving (f : Power → Power) (c : Core) : (c.mapPw f).calSaving = c.calSaving := rfl
@[simp] theorem Core.mapPw_calKeep (f : Power → Power) (c : Core) : (c.mapPw f).calKeep = c.calKeep := rfl
@[simp] theorem Core.mapPw_mot (f : Power → Power) (c : Core) : (c.mapPw f).mot = c.mot := rfl
@[simp] theorem Core.mapPw_job (f : Power → Power) (c : Core) : (c.mapPw f).job = c.job := rfl
@[simp] theorem Core.mapPw_pipe (f : Power → Power) (c : Core) : (c.mapPw f).pipe = c.pipe := rfl
@[simp] theorem Core.mapPw_ctx (f : Power → Power) (c : Core) : (c.mapPw f).ctx = c.ctx := rfl
@[simp] theorem Core.mapPw_eng (f : Power → Power) (c : Core) : (c.mapPw f).eng = c.eng := rfl
@[simp] theorem Core.mapPw_tk (f : Power → Power) (c : Core) : (c.mapPw f).tk = c.tk := rfl
@[simp] theorem Core.mapPw_clk (f : Power → Power) (c : Core) : (c.mapPw f).clk = c.clk := rfl
@[simp] theorem Core.mapPw_dram (f : Power → Power) (c : Core) : (c.mapPw f).dram = c.dram := rfl
@[simp] theorem Core.mapPw_sram (f : Power → Power) (c : Core) : (c.mapPw f).sram = c.sram := rfl
@[simp] theorem Core.mapPw_cxl (f : Power → Power) (c : Core) : (c.mapPw f).cxl = c.cxl := rfl
@[simp] theorem Core.mapPw_links (f : Power → Power) (c : Core) : (c.mapPw f).links = c.links := rfl
@[simp] theorem Core.mapPw_ev (f : Power → Power) (c : Core) : (c.mapPw f).ev = c.ev := rfl
@[simp] theorem Core.mapPw_nv (f : Power → Power) (c : Core) : (c.mapPw f).nv = c.nv := rfl
@[simp] theorem Core.mapPw_pw (f : Power → Power) (c : Core) : (c.mapPw f).pw = f c.pw := rfl
@[simp] theorem Core.mapPw_pads (f : Power → Power) (c : Core) : (c.mapPw f).pads = c.pads := rfl
@[simp] theorem Core.mapPw_free (f : Power → Power) (c : Core) : (c.mapPw f).free = c.free := rfl
@[simp] theorem Core.mapPw_out (f : Power → Power) (c : Core) : (c.mapPw f).out = c.out := rfl
@[simp] theorem Core.mapPw_obj (f : Power → Power) (j k : Nat) (c : Core) : (c.mapPw f).obj j k = c.obj j k := rfl

/-! ### `Core.mapEc` -/

@[simp] theorem Core.mapEc_dict (f : Ecat → Ecat) (c : Core) : (c.mapEc f).dict = c.dict := rfl
@[simp] theorem Core.mapEc_doms (f : Ecat → Ecat) (c : Core) : (c.mapEc f).doms = c.doms := rfl
@[simp] theorem Core.mapEc_banks (f : Ecat → Ecat) (c : Core) : (c.mapEc f).banks = c.banks := rfl
@[simp] theorem Core.mapEc_owners (f : Ecat → Ecat) (c : Core) : (c.mapEc f).owners = c.owners := rfl
@[simp] theorem Core.mapEc_mode (f : Ecat → Ecat) (c : Core) : (c.mapEc f).mode = c.mode := rfl
@[simp] theorem Core.mapEc_trans (f : Ecat → Ecat) (c : Core) : (c.mapEc f).trans = c.trans := rfl
@[simp] theorem Core.mapEc_ec (f : Ecat → Ecat) (c : Core) : (c.mapEc f).ec = f c.ec := rfl
@[simp] theorem Core.mapEc_mbx (f : Ecat → Ecat) (c : Core) : (c.mapEc f).mbx = c.mbx := rfl
@[simp] theorem Core.mapEc_tw (f : Ecat → Ecat) (c : Core) : (c.mapEc f).tw = c.tw := rfl
@[simp] theorem Core.mapEc_refs (f : Ecat → Ecat) (c : Core) : (c.mapEc f).refs = c.refs := rfl
@[simp] theorem Core.mapEc_walks (f : Ecat → Ecat) (c : Core) : (c.mapEc f).walks = c.walks := rfl
@[simp] theorem Core.mapEc_calRun (f : Ecat → Ecat) (c : Core) : (c.mapEc f).calRun = c.calRun := rfl
@[simp] theorem Core.mapEc_calAt (f : Ecat → Ecat) (c : Core) : (c.mapEc f).calAt = c.calAt := rfl
@[simp] theorem Core.mapEc_calFailed (f : Ecat → Ecat) (c : Core) : (c.mapEc f).calFailed = c.calFailed := rfl
@[simp] theorem Core.mapEc_calEnd (f : Ecat → Ecat) (c : Core) : (c.mapEc f).calEnd = c.calEnd := rfl
@[simp] theorem Core.mapEc_calPend (f : Ecat → Ecat) (c : Core) : (c.mapEc f).calPend = c.calPend := rfl
@[simp] theorem Core.mapEc_calSaving (f : Ecat → Ecat) (c : Core) : (c.mapEc f).calSaving = c.calSaving := rfl
@[simp] theorem Core.mapEc_calKeep (f : Ecat → Ecat) (c : Core) : (c.mapEc f).calKeep = c.calKeep := rfl
@[simp] theorem Core.mapEc_mot (f : Ecat → Ecat) (c : Core) : (c.mapEc f).mot = c.mot := rfl
@[simp] theorem Core.mapEc_job (f : Ecat → Ecat) (c : Core) : (c.mapEc f).job = c.job := rfl
@[simp] theorem Core.mapEc_pipe (f : Ecat → Ecat) (c : Core) : (c.mapEc f).pipe = c.pipe := rfl
@[simp] theorem Core.mapEc_ctx (f : Ecat → Ecat) (c : Core) : (c.mapEc f).ctx = c.ctx := rfl
@[simp] theorem Core.mapEc_eng (f : Ecat → Ecat) (c : Core) : (c.mapEc f).eng = c.eng := rfl
@[simp] theorem Core.mapEc_tk (f : Ecat → Ecat) (c : Core) : (c.mapEc f).tk = c.tk := rfl
@[simp] theorem Core.mapEc_clk (f : Ecat → Ecat) (c : Core) : (c.mapEc f).clk = c.clk := rfl
@[simp] theorem Core.mapEc_dram (f : Ecat → Ecat) (c : Core) : (c.mapEc f).dram = c.dram := rfl
@[simp] theorem Core.mapEc_sram (f : Ecat → Ecat) (c : Core) : (c.mapEc f).sram = c.sram := rfl
@[simp] theorem Core.mapEc_cxl (f : Ecat → Ecat) (c : Core) : (c.mapEc f).cxl = c.cxl := rfl
@[simp] theorem Core.mapEc_links (f : Ecat → Ecat) (c : Core) : (c.mapEc f).links = c.links := rfl
@[simp] theorem Core.mapEc_ev (f : Ecat → Ecat) (c : Core) : (c.mapEc f).ev = c.ev := rfl
@[simp] theorem Core.mapEc_nv (f : Ecat → Ecat) (c : Core) : (c.mapEc f).nv = c.nv := rfl
@[simp] theorem Core.mapEc_pw (f : Ecat → Ecat) (c : Core) : (c.mapEc f).pw = c.pw := rfl
@[simp] theorem Core.mapEc_pads (f : Ecat → Ecat) (c : Core) : (c.mapEc f).pads = c.pads := rfl
@[simp] theorem Core.mapEc_free (f : Ecat → Ecat) (c : Core) : (c.mapEc f).free = c.free := rfl
@[simp] theorem Core.mapEc_out (f : Ecat → Ecat) (c : Core) : (c.mapEc f).out = c.out := rfl
@[simp] theorem Core.mapEc_obj (f : Ecat → Ecat) (j k : Nat) (c : Core) : (c.mapEc f).obj j k = c.obj j k := rfl

/-! ### `Core.mapMbx` -/

@[simp] theorem Core.mapMbx_dict (f : Mbx → Mbx) (c : Core) : (c.mapMbx f).dict = c.dict := rfl
@[simp] theorem Core.mapMbx_doms (f : Mbx → Mbx) (c : Core) : (c.mapMbx f).doms = c.doms := rfl
@[simp] theorem Core.mapMbx_banks (f : Mbx → Mbx) (c : Core) : (c.mapMbx f).banks = c.banks := rfl
@[simp] theorem Core.mapMbx_owners (f : Mbx → Mbx) (c : Core) : (c.mapMbx f).owners = c.owners := rfl
@[simp] theorem Core.mapMbx_mode (f : Mbx → Mbx) (c : Core) : (c.mapMbx f).mode = c.mode := rfl
@[simp] theorem Core.mapMbx_trans (f : Mbx → Mbx) (c : Core) : (c.mapMbx f).trans = c.trans := rfl
@[simp] theorem Core.mapMbx_ec (f : Mbx → Mbx) (c : Core) : (c.mapMbx f).ec = c.ec := rfl
@[simp] theorem Core.mapMbx_mbx (f : Mbx → Mbx) (c : Core) : (c.mapMbx f).mbx = f c.mbx := rfl
@[simp] theorem Core.mapMbx_tw (f : Mbx → Mbx) (c : Core) : (c.mapMbx f).tw = c.tw := rfl
@[simp] theorem Core.mapMbx_refs (f : Mbx → Mbx) (c : Core) : (c.mapMbx f).refs = c.refs := rfl
@[simp] theorem Core.mapMbx_walks (f : Mbx → Mbx) (c : Core) : (c.mapMbx f).walks = c.walks := rfl
@[simp] theorem Core.mapMbx_calRun (f : Mbx → Mbx) (c : Core) : (c.mapMbx f).calRun = c.calRun := rfl
@[simp] theorem Core.mapMbx_calAt (f : Mbx → Mbx) (c : Core) : (c.mapMbx f).calAt = c.calAt := rfl
@[simp] theorem Core.mapMbx_calFailed (f : Mbx → Mbx) (c : Core) : (c.mapMbx f).calFailed = c.calFailed := rfl
@[simp] theorem Core.mapMbx_calEnd (f : Mbx → Mbx) (c : Core) : (c.mapMbx f).calEnd = c.calEnd := rfl
@[simp] theorem Core.mapMbx_calPend (f : Mbx → Mbx) (c : Core) : (c.mapMbx f).calPend = c.calPend := rfl
@[simp] theorem Core.mapMbx_calSaving (f : Mbx → Mbx) (c : Core) : (c.mapMbx f).calSaving = c.calSaving := rfl
@[simp] theorem Core.mapMbx_calKeep (f : Mbx → Mbx) (c : Core) : (c.mapMbx f).calKeep = c.calKeep := rfl
@[simp] theorem Core.mapMbx_mot (f : Mbx → Mbx) (c : Core) : (c.mapMbx f).mot = c.mot := rfl
@[simp] theorem Core.mapMbx_job (f : Mbx → Mbx) (c : Core) : (c.mapMbx f).job = c.job := rfl
@[simp] theorem Core.mapMbx_pipe (f : Mbx → Mbx) (c : Core) : (c.mapMbx f).pipe = c.pipe := rfl
@[simp] theorem Core.mapMbx_ctx (f : Mbx → Mbx) (c : Core) : (c.mapMbx f).ctx = c.ctx := rfl
@[simp] theorem Core.mapMbx_eng (f : Mbx → Mbx) (c : Core) : (c.mapMbx f).eng = c.eng := rfl
@[simp] theorem Core.mapMbx_tk (f : Mbx → Mbx) (c : Core) : (c.mapMbx f).tk = c.tk := rfl
@[simp] theorem Core.mapMbx_clk (f : Mbx → Mbx) (c : Core) : (c.mapMbx f).clk = c.clk := rfl
@[simp] theorem Core.mapMbx_dram (f : Mbx → Mbx) (c : Core) : (c.mapMbx f).dram = c.dram := rfl
@[simp] theorem Core.mapMbx_sram (f : Mbx → Mbx) (c : Core) : (c.mapMbx f).sram = c.sram := rfl
@[simp] theorem Core.mapMbx_cxl (f : Mbx → Mbx) (c : Core) : (c.mapMbx f).cxl = c.cxl := rfl
@[simp] theorem Core.mapMbx_links (f : Mbx → Mbx) (c : Core) : (c.mapMbx f).links = c.links := rfl
@[simp] theorem Core.mapMbx_ev (f : Mbx → Mbx) (c : Core) : (c.mapMbx f).ev = c.ev := rfl
@[simp] theorem Core.mapMbx_nv (f : Mbx → Mbx) (c : Core) : (c.mapMbx f).nv = c.nv := rfl
@[simp] theorem Core.mapMbx_pw (f : Mbx → Mbx) (c : Core) : (c.mapMbx f).pw = c.pw := rfl
@[simp] theorem Core.mapMbx_pads (f : Mbx → Mbx) (c : Core) : (c.mapMbx f).pads = c.pads := rfl
@[simp] theorem Core.mapMbx_free (f : Mbx → Mbx) (c : Core) : (c.mapMbx f).free = c.free := rfl
@[simp] theorem Core.mapMbx_out (f : Mbx → Mbx) (c : Core) : (c.mapMbx f).out = c.out := rfl
@[simp] theorem Core.mapMbx_obj (f : Mbx → Mbx) (j k : Nat) (c : Core) : (c.mapMbx f).obj j k = c.obj j k := rfl

/-! ### `Core.mapTw` -/

@[simp] theorem Core.mapTw_dict (f : TwoWire → TwoWire) (c : Core) : (c.mapTw f).dict = c.dict := rfl
@[simp] theorem Core.mapTw_doms (f : TwoWire → TwoWire) (c : Core) : (c.mapTw f).doms = c.doms := rfl
@[simp] theorem Core.mapTw_banks (f : TwoWire → TwoWire) (c : Core) : (c.mapTw f).banks = c.banks := rfl
@[simp] theorem Core.mapTw_owners (f : TwoWire → TwoWire) (c : Core) : (c.mapTw f).owners = c.owners := rfl
@[simp] theorem Core.mapTw_mode (f : TwoWire → TwoWire) (c : Core) : (c.mapTw f).mode = c.mode := rfl
@[simp] theorem Core.mapTw_trans (f : TwoWire → TwoWire) (c : Core) : (c.mapTw f).trans = c.trans := rfl
@[simp] theorem Core.mapTw_ec (f : TwoWire → TwoWire) (c : Core) : (c.mapTw f).ec = c.ec := rfl
@[simp] theorem Core.mapTw_mbx (f : TwoWire → TwoWire) (c : Core) : (c.mapTw f).mbx = c.mbx := rfl
@[simp] theorem Core.mapTw_tw (f : TwoWire → TwoWire) (c : Core) : (c.mapTw f).tw = f c.tw := rfl
@[simp] theorem Core.mapTw_refs (f : TwoWire → TwoWire) (c : Core) : (c.mapTw f).refs = c.refs := rfl
@[simp] theorem Core.mapTw_walks (f : TwoWire → TwoWire) (c : Core) : (c.mapTw f).walks = c.walks := rfl
@[simp] theorem Core.mapTw_calRun (f : TwoWire → TwoWire) (c : Core) : (c.mapTw f).calRun = c.calRun := rfl
@[simp] theorem Core.mapTw_calAt (f : TwoWire → TwoWire) (c : Core) : (c.mapTw f).calAt = c.calAt := rfl
@[simp] theorem Core.mapTw_calFailed (f : TwoWire → TwoWire) (c : Core) : (c.mapTw f).calFailed = c.calFailed := rfl
@[simp] theorem Core.mapTw_calEnd (f : TwoWire → TwoWire) (c : Core) : (c.mapTw f).calEnd = c.calEnd := rfl
@[simp] theorem Core.mapTw_calPend (f : TwoWire → TwoWire) (c : Core) : (c.mapTw f).calPend = c.calPend := rfl
@[simp] theorem Core.mapTw_calSaving (f : TwoWire → TwoWire) (c : Core) : (c.mapTw f).calSaving = c.calSaving := rfl
@[simp] theorem Core.mapTw_calKeep (f : TwoWire → TwoWire) (c : Core) : (c.mapTw f).calKeep = c.calKeep := rfl
@[simp] theorem Core.mapTw_mot (f : TwoWire → TwoWire) (c : Core) : (c.mapTw f).mot = c.mot := rfl
@[simp] theorem Core.mapTw_job (f : TwoWire → TwoWire) (c : Core) : (c.mapTw f).job = c.job := rfl
@[simp] theorem Core.mapTw_pipe (f : TwoWire → TwoWire) (c : Core) : (c.mapTw f).pipe = c.pipe := rfl
@[simp] theorem Core.mapTw_ctx (f : TwoWire → TwoWire) (c : Core) : (c.mapTw f).ctx = c.ctx := rfl
@[simp] theorem Core.mapTw_eng (f : TwoWire → TwoWire) (c : Core) : (c.mapTw f).eng = c.eng := rfl
@[simp] theorem Core.mapTw_tk (f : TwoWire → TwoWire) (c : Core) : (c.mapTw f).tk = c.tk := rfl
@[simp] theorem Core.mapTw_clk (f : TwoWire → TwoWire) (c : Core) : (c.mapTw f).clk = c.clk := rfl
@[simp] theorem Core.mapTw_dram (f : TwoWire → TwoWire) (c : Core) : (c.mapTw f).dram = c.dram := rfl
@[simp] theorem Core.mapTw_sram (f : TwoWire → TwoWire) (c : Core) : (c.mapTw f).sram = c.sram := rfl
@[simp] theorem Core.mapTw_cxl (f : TwoWire → TwoWire) (c : Core) : (c.mapTw f).cxl = c.cxl := rfl
@[simp] theorem Core.mapTw_links (f : TwoWire → TwoWire) (c : Core) : (c.mapTw f).links = c.links := rfl
@[simp] theorem Core.mapTw_ev (f : TwoWire → TwoWire) (c : Core) : (c.mapTw f).ev = c.ev := rfl
@[simp] theorem Core.mapTw_nv (f : TwoWire → TwoWire) (c : Core) : (c.mapTw f).nv = c.nv := rfl
@[simp] theorem Core.mapTw_pw (f : TwoWire → TwoWire) (c : Core) : (c.mapTw f).pw = c.pw := rfl
@[simp] theorem Core.mapTw_pads (f : TwoWire → TwoWire) (c : Core) : (c.mapTw f).pads = c.pads := rfl
@[simp] theorem Core.mapTw_free (f : TwoWire → TwoWire) (c : Core) : (c.mapTw f).free = c.free := rfl
@[simp] theorem Core.mapTw_out (f : TwoWire → TwoWire) (c : Core) : (c.mapTw f).out = c.out := rfl
@[simp] theorem Core.mapTw_obj (f : TwoWire → TwoWire) (j k : Nat) (c : Core) : (c.mapTw f).obj j k = c.obj j k := rfl

/-! ### `Core.mapRing` -/

@[simp] theorem Core.mapRing_dict (i : Nat) (f : Ring → Ring) (c : Core) : (c.mapRing i f).dict = c.dict := rfl
@[simp] theorem Core.mapRing_doms (i : Nat) (f : Ring → Ring) (c : Core) : (c.mapRing i f).doms = c.doms := rfl
@[simp] theorem Core.mapRing_banks (i : Nat) (f : Ring → Ring) (c : Core) : (c.mapRing i f).banks = c.banks := rfl
@[simp] theorem Core.mapRing_owners (i : Nat) (f : Ring → Ring) (c : Core) : (c.mapRing i f).owners = c.owners := rfl
@[simp] theorem Core.mapRing_mode (i : Nat) (f : Ring → Ring) (c : Core) : (c.mapRing i f).mode = c.mode := rfl
@[simp] theorem Core.mapRing_trans (i : Nat) (f : Ring → Ring) (c : Core) : (c.mapRing i f).trans = c.trans := rfl
@[simp] theorem Core.mapRing_ec (i : Nat) (f : Ring → Ring) (c : Core) : (c.mapRing i f).ec = c.ec := rfl
@[simp] theorem Core.mapRing_mbx (i : Nat) (f : Ring → Ring) (c : Core) : (c.mapRing i f).mbx = c.mbx := rfl
@[simp] theorem Core.mapRing_tw (i : Nat) (f : Ring → Ring) (c : Core) : (c.mapRing i f).tw = c.tw := rfl
@[simp] theorem Core.mapRing_refs (i : Nat) (f : Ring → Ring) (c : Core) : (c.mapRing i f).refs = c.refs := rfl
@[simp] theorem Core.mapRing_walks (i : Nat) (f : Ring → Ring) (c : Core) : (c.mapRing i f).walks = c.walks := rfl
@[simp] theorem Core.mapRing_calRun (i : Nat) (f : Ring → Ring) (c : Core) : (c.mapRing i f).calRun = c.calRun := rfl
@[simp] theorem Core.mapRing_calAt (i : Nat) (f : Ring → Ring) (c : Core) : (c.mapRing i f).calAt = c.calAt := rfl
@[simp] theorem Core.mapRing_calFailed (i : Nat) (f : Ring → Ring) (c : Core) : (c.mapRing i f).calFailed = c.calFailed := rfl
@[simp] theorem Core.mapRing_calEnd (i : Nat) (f : Ring → Ring) (c : Core) : (c.mapRing i f).calEnd = c.calEnd := rfl
@[simp] theorem Core.mapRing_calPend (i : Nat) (f : Ring → Ring) (c : Core) : (c.mapRing i f).calPend = c.calPend := rfl
@[simp] theorem Core.mapRing_calSaving (i : Nat) (f : Ring → Ring) (c : Core) : (c.mapRing i f).calSaving = c.calSaving := rfl
@[simp] theorem Core.mapRing_calKeep (i : Nat) (f : Ring → Ring) (c : Core) : (c.mapRing i f).calKeep = c.calKeep := rfl
@[simp] theorem Core.mapRing_mot (i : Nat) (f : Ring → Ring) (c : Core) : (c.mapRing i f).mot = c.mot := rfl
@[simp] theorem Core.mapRing_job (i : Nat) (f : Ring → Ring) (c : Core) : (c.mapRing i f).job = c.job := rfl
@[simp] theorem Core.mapRing_pipe (i : Nat) (f : Ring → Ring) (c : Core) : (c.mapRing i f).pipe = c.pipe := rfl
@[simp] theorem Core.mapRing_ctx (i : Nat) (f : Ring → Ring) (c : Core) : (c.mapRing i f).ctx = c.ctx := rfl
@[simp] theorem Core.mapRing_eng (i : Nat) (f : Ring → Ring) (c : Core) : (c.mapRing i f).eng = c.eng := rfl
@[simp] theorem Core.mapRing_tk (i : Nat) (f : Ring → Ring) (c : Core) : (c.mapRing i f).tk = c.tk := rfl
@[simp] theorem Core.mapRing_clk (i : Nat) (f : Ring → Ring) (c : Core) : (c.mapRing i f).clk = c.clk := rfl
@[simp] theorem Core.mapRing_dram (i : Nat) (f : Ring → Ring) (c : Core) : (c.mapRing i f).dram = c.dram := rfl
@[simp] theorem Core.mapRing_sram (i : Nat) (f : Ring → Ring) (c : Core) : (c.mapRing i f).sram = c.sram := rfl
@[simp] theorem Core.mapRing_cxl (i : Nat) (f : Ring → Ring) (c : Core) : (c.mapRing i f).cxl = { c.cxl with rings := modAt c.cxl.rings i f } := rfl
@[simp] theorem Core.mapRing_links (i : Nat) (f : Ring → Ring) (c : Core) : (c.mapRing i f).links = c.links := rfl
@[simp] theorem Core.mapRing_ev (i : Nat) (f : Ring → Ring) (c : Core) : (c.mapRing i f).ev = c.ev := rfl
@[simp] theorem Core.mapRing_nv (i : Nat) (f : Ring → Ring) (c : Core) : (c.mapRing i f).nv = c.nv := rfl
@[simp] theorem Core.mapRing_pw (i : Nat) (f : Ring → Ring) (c : Core) : (c.mapRing i f).pw = c.pw := rfl
@[simp] theorem Core.mapRing_pads (i : Nat) (f : Ring → Ring) (c : Core) : (c.mapRing i f).pads = c.pads := rfl
@[simp] theorem Core.mapRing_free (i : Nat) (f : Ring → Ring) (c : Core) : (c.mapRing i f).free = c.free := rfl
@[simp] theorem Core.mapRing_out (i : Nat) (f : Ring → Ring) (c : Core) : (c.mapRing i f).out = c.out := rfl
@[simp] theorem Core.mapRing_obj (i : Nat) (f : Ring → Ring) (j k : Nat) (c : Core) : (c.mapRing i f).obj j k = c.obj j k := rfl

/-! ### `Core.mapLink` -/

@[simp] theorem Core.mapLink_dict (i : Nat) (f : Link → Link) (c : Core) : (c.mapLink i f).dict = c.dict := rfl
@[simp] theorem Core.mapLink_doms (i : Nat) (f : Link → Link) (c : Core) : (c.mapLink i f).doms = c.doms := rfl
@[simp] theorem Core.mapLink_banks (i : Nat) (f : Link → Link) (c : Core) : (c.mapLink i f).banks = c.banks := rfl
@[simp] theorem Core.mapLink_owners (i : Nat) (f : Link → Link) (c : Core) : (c.mapLink i f).owners = c.owners := rfl
@[simp] theorem Core.mapLink_mode (i : Nat) (f : Link → Link) (c : Core) : (c.mapLink i f).mode = c.mode := rfl
@[simp] theorem Core.mapLink_trans (i : Nat) (f : Link → Link) (c : Core) : (c.mapLink i f).trans = c.trans := rfl
@[simp] theorem Core.mapLink_ec (i : Nat) (f : Link → Link) (c : Core) : (c.mapLink i f).ec = c.ec := rfl
@[simp] theorem Core.mapLink_mbx (i : Nat) (f : Link → Link) (c : Core) : (c.mapLink i f).mbx = c.mbx := rfl
@[simp] theorem Core.mapLink_tw (i : Nat) (f : Link → Link) (c : Core) : (c.mapLink i f).tw = c.tw := rfl
@[simp] theorem Core.mapLink_refs (i : Nat) (f : Link → Link) (c : Core) : (c.mapLink i f).refs = c.refs := rfl
@[simp] theorem Core.mapLink_walks (i : Nat) (f : Link → Link) (c : Core) : (c.mapLink i f).walks = c.walks := rfl
@[simp] theorem Core.mapLink_calRun (i : Nat) (f : Link → Link) (c : Core) : (c.mapLink i f).calRun = c.calRun := rfl
@[simp] theorem Core.mapLink_calAt (i : Nat) (f : Link → Link) (c : Core) : (c.mapLink i f).calAt = c.calAt := rfl
@[simp] theorem Core.mapLink_calFailed (i : Nat) (f : Link → Link) (c : Core) : (c.mapLink i f).calFailed = c.calFailed := rfl
@[simp] theorem Core.mapLink_calEnd (i : Nat) (f : Link → Link) (c : Core) : (c.mapLink i f).calEnd = c.calEnd := rfl
@[simp] theorem Core.mapLink_calPend (i : Nat) (f : Link → Link) (c : Core) : (c.mapLink i f).calPend = c.calPend := rfl
@[simp] theorem Core.mapLink_calSaving (i : Nat) (f : Link → Link) (c : Core) : (c.mapLink i f).calSaving = c.calSaving := rfl
@[simp] theorem Core.mapLink_calKeep (i : Nat) (f : Link → Link) (c : Core) : (c.mapLink i f).calKeep = c.calKeep := rfl
@[simp] theorem Core.mapLink_mot (i : Nat) (f : Link → Link) (c : Core) : (c.mapLink i f).mot = c.mot := rfl
@[simp] theorem Core.mapLink_job (i : Nat) (f : Link → Link) (c : Core) : (c.mapLink i f).job = c.job := rfl
@[simp] theorem Core.mapLink_pipe (i : Nat) (f : Link → Link) (c : Core) : (c.mapLink i f).pipe = c.pipe := rfl
@[simp] theorem Core.mapLink_ctx (i : Nat) (f : Link → Link) (c : Core) : (c.mapLink i f).ctx = c.ctx := rfl
@[simp] theorem Core.mapLink_eng (i : Nat) (f : Link → Link) (c : Core) : (c.mapLink i f).eng = c.eng := rfl
@[simp] theorem Core.mapLink_tk (i : Nat) (f : Link → Link) (c : Core) : (c.mapLink i f).tk = c.tk := rfl
@[simp] theorem Core.mapLink_clk (i : Nat) (f : Link → Link) (c : Core) : (c.mapLink i f).clk = c.clk := rfl
@[simp] theorem Core.mapLink_dram (i : Nat) (f : Link → Link) (c : Core) : (c.mapLink i f).dram = c.dram := rfl
@[simp] theorem Core.mapLink_sram (i : Nat) (f : Link → Link) (c : Core) : (c.mapLink i f).sram = c.sram := rfl
@[simp] theorem Core.mapLink_cxl (i : Nat) (f : Link → Link) (c : Core) : (c.mapLink i f).cxl = c.cxl := rfl
@[simp] theorem Core.mapLink_links (i : Nat) (f : Link → Link) (c : Core) : (c.mapLink i f).links = modAt c.links i f := rfl
@[simp] theorem Core.mapLink_ev (i : Nat) (f : Link → Link) (c : Core) : (c.mapLink i f).ev = c.ev := rfl
@[simp] theorem Core.mapLink_nv (i : Nat) (f : Link → Link) (c : Core) : (c.mapLink i f).nv = c.nv := rfl
@[simp] theorem Core.mapLink_pw (i : Nat) (f : Link → Link) (c : Core) : (c.mapLink i f).pw = c.pw := rfl
@[simp] theorem Core.mapLink_pads (i : Nat) (f : Link → Link) (c : Core) : (c.mapLink i f).pads = c.pads := rfl
@[simp] theorem Core.mapLink_free (i : Nat) (f : Link → Link) (c : Core) : (c.mapLink i f).free = c.free := rfl
@[simp] theorem Core.mapLink_out (i : Nat) (f : Link → Link) (c : Core) : (c.mapLink i f).out = c.out := rfl
@[simp] theorem Core.mapLink_obj (i : Nat) (f : Link → Link) (j k : Nat) (c : Core) : (c.mapLink i f).obj j k = c.obj j k := rfl

/-! ### `Core.mapWalk` -/

@[simp] theorem Core.mapWalk_dict (i : Nat) (f : ConvWalk → ConvWalk) (c : Core) : (c.mapWalk i f).dict = c.dict := rfl
@[simp] theorem Core.mapWalk_doms (i : Nat) (f : ConvWalk → ConvWalk) (c : Core) : (c.mapWalk i f).doms = c.doms := rfl
@[simp] theorem Core.mapWalk_banks (i : Nat) (f : ConvWalk → ConvWalk) (c : Core) : (c.mapWalk i f).banks = c.banks := rfl
@[simp] theorem Core.mapWalk_owners (i : Nat) (f : ConvWalk → ConvWalk) (c : Core) : (c.mapWalk i f).owners = c.owners := rfl
@[simp] theorem Core.mapWalk_mode (i : Nat) (f : ConvWalk → ConvWalk) (c : Core) : (c.mapWalk i f).mode = c.mode := rfl
@[simp] theorem Core.mapWalk_trans (i : Nat) (f : ConvWalk → ConvWalk) (c : Core) : (c.mapWalk i f).trans = c.trans := rfl
@[simp] theorem Core.mapWalk_ec (i : Nat) (f : ConvWalk → ConvWalk) (c : Core) : (c.mapWalk i f).ec = c.ec := rfl
@[simp] theorem Core.mapWalk_mbx (i : Nat) (f : ConvWalk → ConvWalk) (c : Core) : (c.mapWalk i f).mbx = c.mbx := rfl
@[simp] theorem Core.mapWalk_tw (i : Nat) (f : ConvWalk → ConvWalk) (c : Core) : (c.mapWalk i f).tw = c.tw := rfl
@[simp] theorem Core.mapWalk_refs (i : Nat) (f : ConvWalk → ConvWalk) (c : Core) : (c.mapWalk i f).refs = c.refs := rfl
@[simp] theorem Core.mapWalk_walks (i : Nat) (f : ConvWalk → ConvWalk) (c : Core) : (c.mapWalk i f).walks = modAt c.walks i f := rfl
@[simp] theorem Core.mapWalk_calRun (i : Nat) (f : ConvWalk → ConvWalk) (c : Core) : (c.mapWalk i f).calRun = c.calRun := rfl
@[simp] theorem Core.mapWalk_calAt (i : Nat) (f : ConvWalk → ConvWalk) (c : Core) : (c.mapWalk i f).calAt = c.calAt := rfl
@[simp] theorem Core.mapWalk_calFailed (i : Nat) (f : ConvWalk → ConvWalk) (c : Core) : (c.mapWalk i f).calFailed = c.calFailed := rfl
@[simp] theorem Core.mapWalk_calEnd (i : Nat) (f : ConvWalk → ConvWalk) (c : Core) : (c.mapWalk i f).calEnd = c.calEnd := rfl
@[simp] theorem Core.mapWalk_calPend (i : Nat) (f : ConvWalk → ConvWalk) (c : Core) : (c.mapWalk i f).calPend = c.calPend := rfl
@[simp] theorem Core.mapWalk_calSaving (i : Nat) (f : ConvWalk → ConvWalk) (c : Core) : (c.mapWalk i f).calSaving = c.calSaving := rfl
@[simp] theorem Core.mapWalk_calKeep (i : Nat) (f : ConvWalk → ConvWalk) (c : Core) : (c.mapWalk i f).calKeep = c.calKeep := rfl
@[simp] theorem Core.mapWalk_mot (i : Nat) (f : ConvWalk → ConvWalk) (c : Core) : (c.mapWalk i f).mot = c.mot := rfl
@[simp] theorem Core.mapWalk_job (i : Nat) (f : ConvWalk → ConvWalk) (c : Core) : (c.mapWalk i f).job = c.job := rfl
@[simp] theorem Core.mapWalk_pipe (i : Nat) (f : ConvWalk → ConvWalk) (c : Core) : (c.mapWalk i f).pipe = c.pipe := rfl
@[simp] theorem Core.mapWalk_ctx (i : Nat) (f : ConvWalk → ConvWalk) (c : Core) : (c.mapWalk i f).ctx = c.ctx := rfl
@[simp] theorem Core.mapWalk_eng (i : Nat) (f : ConvWalk → ConvWalk) (c : Core) : (c.mapWalk i f).eng = c.eng := rfl
@[simp] theorem Core.mapWalk_tk (i : Nat) (f : ConvWalk → ConvWalk) (c : Core) : (c.mapWalk i f).tk = c.tk := rfl
@[simp] theorem Core.mapWalk_clk (i : Nat) (f : ConvWalk → ConvWalk) (c : Core) : (c.mapWalk i f).clk = c.clk := rfl
@[simp] theorem Core.mapWalk_dram (i : Nat) (f : ConvWalk → ConvWalk) (c : Core) : (c.mapWalk i f).dram = c.dram := rfl
@[simp] theorem Core.mapWalk_sram (i : Nat) (f : ConvWalk → ConvWalk) (c : Core) : (c.mapWalk i f).sram = c.sram := rfl
@[simp] theorem Core.mapWalk_cxl (i : Nat) (f : ConvWalk → ConvWalk) (c : Core) : (c.mapWalk i f).cxl = c.cxl := rfl
@[simp] theorem Core.mapWalk_links (i : Nat) (f : ConvWalk → ConvWalk) (c : Core) : (c.mapWalk i f).links = c.links := rfl
@[simp] theorem Core.mapWalk_ev (i : Nat) (f : ConvWalk → ConvWalk) (c : Core) : (c.mapWalk i f).ev = c.ev := rfl
@[simp] theorem Core.mapWalk_nv (i : Nat) (f : ConvWalk → ConvWalk) (c : Core) : (c.mapWalk i f).nv = c.nv := rfl
@[simp] theorem Core.mapWalk_pw (i : Nat) (f : ConvWalk → ConvWalk) (c : Core) : (c.mapWalk i f).pw = c.pw := rfl
@[simp] theorem Core.mapWalk_pads (i : Nat) (f : ConvWalk → ConvWalk) (c : Core) : (c.mapWalk i f).pads = c.pads := rfl
@[simp] theorem Core.mapWalk_free (i : Nat) (f : ConvWalk → ConvWalk) (c : Core) : (c.mapWalk i f).free = c.free := rfl
@[simp] theorem Core.mapWalk_out (i : Nat) (f : ConvWalk → ConvWalk) (c : Core) : (c.mapWalk i f).out = c.out := rfl
@[simp] theorem Core.mapWalk_obj (i : Nat) (f : ConvWalk → ConvWalk) (j k : Nat) (c : Core) : (c.mapWalk i f).obj j k = c.obj j k := rfl

/-! ### `Core.mapEng1` -/

@[simp] theorem Core.mapEng1_dict (i : Nat) (f : Tk → Tk) (c : Core) : (c.mapEng1 i f).dict = c.dict := rfl
@[simp] theorem Core.mapEng1_doms (i : Nat) (f : Tk → Tk) (c : Core) : (c.mapEng1 i f).doms = c.doms := rfl
@[simp] theorem Core.mapEng1_banks (i : Nat) (f : Tk → Tk) (c : Core) : (c.mapEng1 i f).banks = c.banks := rfl
@[simp] theorem Core.mapEng1_owners (i : Nat) (f : Tk → Tk) (c : Core) : (c.mapEng1 i f).owners = c.owners := rfl
@[simp] theorem Core.mapEng1_mode (i : Nat) (f : Tk → Tk) (c : Core) : (c.mapEng1 i f).mode = c.mode := rfl
@[simp] theorem Core.mapEng1_trans (i : Nat) (f : Tk → Tk) (c : Core) : (c.mapEng1 i f).trans = c.trans := rfl
@[simp] theorem Core.mapEng1_ec (i : Nat) (f : Tk → Tk) (c : Core) : (c.mapEng1 i f).ec = c.ec := rfl
@[simp] theorem Core.mapEng1_mbx (i : Nat) (f : Tk → Tk) (c : Core) : (c.mapEng1 i f).mbx = c.mbx := rfl
@[simp] theorem Core.mapEng1_tw (i : Nat) (f : Tk → Tk) (c : Core) : (c.mapEng1 i f).tw = c.tw := rfl
@[simp] theorem Core.mapEng1_refs (i : Nat) (f : Tk → Tk) (c : Core) : (c.mapEng1 i f).refs = c.refs := rfl
@[simp] theorem Core.mapEng1_walks (i : Nat) (f : Tk → Tk) (c : Core) : (c.mapEng1 i f).walks = c.walks := rfl
@[simp] theorem Core.mapEng1_calRun (i : Nat) (f : Tk → Tk) (c : Core) : (c.mapEng1 i f).calRun = c.calRun := rfl
@[simp] theorem Core.mapEng1_calAt (i : Nat) (f : Tk → Tk) (c : Core) : (c.mapEng1 i f).calAt = c.calAt := rfl
@[simp] theorem Core.mapEng1_calFailed (i : Nat) (f : Tk → Tk) (c : Core) : (c.mapEng1 i f).calFailed = c.calFailed := rfl
@[simp] theorem Core.mapEng1_calEnd (i : Nat) (f : Tk → Tk) (c : Core) : (c.mapEng1 i f).calEnd = c.calEnd := rfl
@[simp] theorem Core.mapEng1_calPend (i : Nat) (f : Tk → Tk) (c : Core) : (c.mapEng1 i f).calPend = c.calPend := rfl
@[simp] theorem Core.mapEng1_calSaving (i : Nat) (f : Tk → Tk) (c : Core) : (c.mapEng1 i f).calSaving = c.calSaving := rfl
@[simp] theorem Core.mapEng1_calKeep (i : Nat) (f : Tk → Tk) (c : Core) : (c.mapEng1 i f).calKeep = c.calKeep := rfl
@[simp] theorem Core.mapEng1_mot (i : Nat) (f : Tk → Tk) (c : Core) : (c.mapEng1 i f).mot = c.mot := rfl
@[simp] theorem Core.mapEng1_job (i : Nat) (f : Tk → Tk) (c : Core) : (c.mapEng1 i f).job = c.job := rfl
@[simp] theorem Core.mapEng1_pipe (i : Nat) (f : Tk → Tk) (c : Core) : (c.mapEng1 i f).pipe = c.pipe := rfl
@[simp] theorem Core.mapEng1_ctx (i : Nat) (f : Tk → Tk) (c : Core) : (c.mapEng1 i f).ctx = c.ctx := rfl
@[simp] theorem Core.mapEng1_eng (i : Nat) (f : Tk → Tk) (c : Core) : (c.mapEng1 i f).eng = c.eng := rfl
@[simp] theorem Core.mapEng1_tk (i : Nat) (f : Tk → Tk) (c : Core) : (c.mapEng1 i f).tk = { c.tk with engs := modAt c.tk.engs i f } := rfl
@[simp] theorem Core.mapEng1_clk (i : Nat) (f : Tk → Tk) (c : Core) : (c.mapEng1 i f).clk = c.clk := rfl
@[simp] theorem Core.mapEng1_dram (i : Nat) (f : Tk → Tk) (c : Core) : (c.mapEng1 i f).dram = c.dram := rfl
@[simp] theorem Core.mapEng1_sram (i : Nat) (f : Tk → Tk) (c : Core) : (c.mapEng1 i f).sram = c.sram := rfl
@[simp] theorem Core.mapEng1_cxl (i : Nat) (f : Tk → Tk) (c : Core) : (c.mapEng1 i f).cxl = c.cxl := rfl
@[simp] theorem Core.mapEng1_links (i : Nat) (f : Tk → Tk) (c : Core) : (c.mapEng1 i f).links = c.links := rfl
@[simp] theorem Core.mapEng1_ev (i : Nat) (f : Tk → Tk) (c : Core) : (c.mapEng1 i f).ev = c.ev := rfl
@[simp] theorem Core.mapEng1_nv (i : Nat) (f : Tk → Tk) (c : Core) : (c.mapEng1 i f).nv = c.nv := rfl
@[simp] theorem Core.mapEng1_pw (i : Nat) (f : Tk → Tk) (c : Core) : (c.mapEng1 i f).pw = c.pw := rfl
@[simp] theorem Core.mapEng1_pads (i : Nat) (f : Tk → Tk) (c : Core) : (c.mapEng1 i f).pads = c.pads := rfl
@[simp] theorem Core.mapEng1_free (i : Nat) (f : Tk → Tk) (c : Core) : (c.mapEng1 i f).free = c.free := rfl
@[simp] theorem Core.mapEng1_out (i : Nat) (f : Tk → Tk) (c : Core) : (c.mapEng1 i f).out = c.out := rfl
@[simp] theorem Core.mapEng1_obj (i : Nat) (f : Tk → Tk) (j k : Nat) (c : Core) : (c.mapEng1 i f).obj j k = c.obj j k := rfl

/-! ### `Core.mapBank` -/

@[simp] theorem Core.mapBank_dict (i : Nat) (f : Bank → Bank) (c : Core) : (c.mapBank i f).dict = c.dict := rfl
@[simp] theorem Core.mapBank_doms (i : Nat) (f : Bank → Bank) (c : Core) : (c.mapBank i f).doms = c.doms := rfl
@[simp] theorem Core.mapBank_banks (i : Nat) (f : Bank → Bank) (c : Core) : (c.mapBank i f).banks = modAt c.banks i f := rfl
@[simp] theorem Core.mapBank_owners (i : Nat) (f : Bank → Bank) (c : Core) : (c.mapBank i f).owners = c.owners := rfl
@[simp] theorem Core.mapBank_mode (i : Nat) (f : Bank → Bank) (c : Core) : (c.mapBank i f).mode = c.mode := rfl
@[simp] theorem Core.mapBank_trans (i : Nat) (f : Bank → Bank) (c : Core) : (c.mapBank i f).trans = c.trans := rfl
@[simp] theorem Core.mapBank_ec (i : Nat) (f : Bank → Bank) (c : Core) : (c.mapBank i f).ec = c.ec := rfl
@[simp] theorem Core.mapBank_mbx (i : Nat) (f : Bank → Bank) (c : Core) : (c.mapBank i f).mbx = c.mbx := rfl
@[simp] theorem Core.mapBank_tw (i : Nat) (f : Bank → Bank) (c : Core) : (c.mapBank i f).tw = c.tw := rfl
@[simp] theorem Core.mapBank_refs (i : Nat) (f : Bank → Bank) (c : Core) : (c.mapBank i f).refs = c.refs := rfl
@[simp] theorem Core.mapBank_walks (i : Nat) (f : Bank → Bank) (c : Core) : (c.mapBank i f).walks = c.walks := rfl
@[simp] theorem Core.mapBank_calRun (i : Nat) (f : Bank → Bank) (c : Core) : (c.mapBank i f).calRun = c.calRun := rfl
@[simp] theorem Core.mapBank_calAt (i : Nat) (f : Bank → Bank) (c : Core) : (c.mapBank i f).calAt = c.calAt := rfl
@[simp] theorem Core.mapBank_calFailed (i : Nat) (f : Bank → Bank) (c : Core) : (c.mapBank i f).calFailed = c.calFailed := rfl
@[simp] theorem Core.mapBank_calEnd (i : Nat) (f : Bank → Bank) (c : Core) : (c.mapBank i f).calEnd = c.calEnd := rfl
@[simp] theorem Core.mapBank_calPend (i : Nat) (f : Bank → Bank) (c : Core) : (c.mapBank i f).calPend = c.calPend := rfl
@[simp] theorem Core.mapBank_calSaving (i : Nat) (f : Bank → Bank) (c : Core) : (c.mapBank i f).calSaving = c.calSaving := rfl
@[simp] theorem Core.mapBank_calKeep (i : Nat) (f : Bank → Bank) (c : Core) : (c.mapBank i f).calKeep = c.calKeep := rfl
@[simp] theorem Core.mapBank_mot (i : Nat) (f : Bank → Bank) (c : Core) : (c.mapBank i f).mot = c.mot := rfl
@[simp] theorem Core.mapBank_job (i : Nat) (f : Bank → Bank) (c : Core) : (c.mapBank i f).job = c.job := rfl
@[simp] theorem Core.mapBank_pipe (i : Nat) (f : Bank → Bank) (c : Core) : (c.mapBank i f).pipe = c.pipe := rfl
@[simp] theorem Core.mapBank_ctx (i : Nat) (f : Bank → Bank) (c : Core) : (c.mapBank i f).ctx = c.ctx := rfl
@[simp] theorem Core.mapBank_eng (i : Nat) (f : Bank → Bank) (c : Core) : (c.mapBank i f).eng = c.eng := rfl
@[simp] theorem Core.mapBank_tk (i : Nat) (f : Bank → Bank) (c : Core) : (c.mapBank i f).tk = c.tk := rfl
@[simp] theorem Core.mapBank_clk (i : Nat) (f : Bank → Bank) (c : Core) : (c.mapBank i f).clk = c.clk := rfl
@[simp] theorem Core.mapBank_dram (i : Nat) (f : Bank → Bank) (c : Core) : (c.mapBank i f).dram = c.dram := rfl
@[simp] theorem Core.mapBank_sram (i : Nat) (f : Bank → Bank) (c : Core) : (c.mapBank i f).sram = c.sram := rfl
@[simp] theorem Core.mapBank_cxl (i : Nat) (f : Bank → Bank) (c : Core) : (c.mapBank i f).cxl = c.cxl := rfl
@[simp] theorem Core.mapBank_links (i : Nat) (f : Bank → Bank) (c : Core) : (c.mapBank i f).links = c.links := rfl
@[simp] theorem Core.mapBank_ev (i : Nat) (f : Bank → Bank) (c : Core) : (c.mapBank i f).ev = c.ev := rfl
@[simp] theorem Core.mapBank_nv (i : Nat) (f : Bank → Bank) (c : Core) : (c.mapBank i f).nv = c.nv := rfl
@[simp] theorem Core.mapBank_pw (i : Nat) (f : Bank → Bank) (c : Core) : (c.mapBank i f).pw = c.pw := rfl
@[simp] theorem Core.mapBank_pads (i : Nat) (f : Bank → Bank) (c : Core) : (c.mapBank i f).pads = c.pads := rfl
@[simp] theorem Core.mapBank_free (i : Nat) (f : Bank → Bank) (c : Core) : (c.mapBank i f).free = c.free := rfl
@[simp] theorem Core.mapBank_out (i : Nat) (f : Bank → Bank) (c : Core) : (c.mapBank i f).out = c.out := rfl
@[simp] theorem Core.mapBank_obj (i : Nat) (f : Bank → Bank) (j k : Nat) (c : Core) : (c.mapBank i f).obj j k = c.obj j k := rfl

end Sys2Proof.Machine
end

