-- ==== Sys2Proof/Laws/Ops.lean ====
section
/-!
SUPPORT. What the shared operations can do, said once: `Core.rest` hides the fields that events, interrupts and
rings touch, and each operation leaves the rest alone.
-/

namespace Sys2Proof.Machine

/-! ### Objects -/

theorem key_inj {i j s r : Nat} (hs : s < 256) (hr : r < 256) (h : key i s = key j r) : i = j ∧ s = r := by
  unfold key at h; omega

@[simp] theorem Core.obj_put_self (c : Core) (i s v : Nat) : (c.put i s v).obj i s = v :=
  sget_sput_self _ _ _ _

theorem Core.obj_put_ne (c : Core) (i s v j r : Nat) (h : key j r ≠ key i s) :
    (c.put i s v).obj j r = c.obj j r := sget_sput_ne _ _ _ _ _ h

/-! ### Two small combinators -/

@[simp] theorem Core.when_true (f : Core → Core) (c : Core) : c.when true f = f c := rfl
@[simp] theorem Core.when_false (f : Core → Core) (c : Core) : c.when false f = c := rfl

/-- A property that the action keeps, and that holds already, holds after a guarded action. -/
theorem Core.when_of {P : Core → Prop} (b : Bool) (f : Core → Core) (c : Core) (h0 : P c) (h1 : P (f c)) :
    P (c.when b f) := by cases b <;> assumption

/-! ### The rest -/

/-- A core without the fields that events, interrupts and rings touch. -/
def Core.rest (c : Core) : Core := { c with dict := [], cxl := {}, ec := {}, ev := {}, out := [], pads := {} }

/-- A field outside the hidden ones is the same in two cores with one rest. -/
theorem Core.of_rest {α : Type} (f : Core → α) (hf : ∀ c : Core, f c.rest = f c) {c d : Core}
    (h : d.rest = c.rest) : f d = f c := by rw [← hf d, h, hf c]

@[simp] theorem Core.rest_put (i s v : Nat) (c : Core) : (c.put i s v).rest = c.rest := rfl
@[simp] theorem Core.rest_emit (o : Out) (c : Core) : (c.emit o).rest = c.rest := rfl
@[simp] theorem Core.rest_mapCxl (f : Cxl → Cxl) (c : Core) : (c.mapCxl f).rest = c.rest := rfl
@[simp] theorem Core.rest_mapEc (f : Ecat → Ecat) (c : Core) : (c.mapEc f).rest = c.rest := rfl
@[simp] theorem Core.rest_mapEv (f : Ev → Ev) (c : Core) : (c.mapEv f).rest = c.rest := rfl
@[simp] theorem Core.rest_mapRing (i : Nat) (f : Ring → Ring) (c : Core) : (c.mapRing i f).rest = c.rest := rfl

@[simp] theorem Core.rest_bumpBy (i s n : Nat) (c : Core) : (c.bumpBy i s n).rest = c.rest := by
  simp only [Core.bumpBy]; split <;> rfl
@[simp] theorem Core.rest_bump (i s : Nat) (c : Core) : (c.bump i s).rest = c.rest := Core.rest_bumpBy i s 1 c
@[simp] theorem Core.rest_raiseTo (i s v : Nat) (c : Core) : (c.raiseTo i s v).rest = c.rest := by
  simp only [Core.raiseTo]; split <;> rfl

@[simp] theorem Core.rest_msix (v : Nat) (c : Core) : (c.msix v).rest = c.rest := by
  simp only [Core.msix]; split <;> rfl
@[simp] theorem Core.rest_summary (b : Nat) (c : Core) : (c.summary b).rest = c.rest := by
  simp only [Core.summary]; split
  · rfl
  · split
    · exact Core.rest_msix _ _
    · rfl
@[simp] theorem Core.rest_payloadWait (c : Core) : c.payloadWait.rest = c.rest := by
  simp [Core.payloadWait]
@[simp] theorem Core.rest_barRefused (c : Core) : c.barRefused.rest = c.rest := rfl
@[simp] theorem Core.rest_ringRefused (c : Core) : c.ringRefused.rest = c.rest := by
  simp [Core.ringRefused]

@[simp] theorem Core.rest_writeback (now i : Nat) (c : Core) : (c.writeback now i).rest = c.rest := by
  simp only [Core.writeback]; split
  · rfl
  · split
    · rw [Core.rest_msix]; rfl
    · rfl
@[simp] theorem Core.rest_produce (now i : Nat) (e : List Byte) (c : Core) : (c.produce now i e).rest = c.rest := by
  simp only [Core.produce, Core.rest_writeback]; split <;> rfl
@[simp] theorem Core.rest_hold (i : Nat) (e : List Byte) (c : Core) : (c.hold i e).rest = c.rest := by
  simp [Core.hold]
@[simp] theorem Core.rest_issue (now i : Nat) (e : List Byte) (c : Core) : (c.issue now i e).rest = c.rest := by
  simp only [Core.issue]; split <;> simp

@[simp] theorem Core.rest_toEvr (now code dc : Nat) (data : List Byte) (c : Core) :
    (c.toEvr now code dc data).rest = c.rest := by
  simp only [Core.toEvr]; split
  · rfl
  · split <;> simp
@[simp] theorem Core.rest_emergency (now code cls seg line : Nat) (c : Core) :
    (c.emergency now code cls seg line).rest = c.rest := by
  simp only [Core.emergency]; split <;> split <;> simp
@[simp] theorem Core.rest_emergencyClear (had : Bool) (c : Core) : (c.emergencyClear had).rest = c.rest := by
  simp only [Core.emergencyClear]; split
  · split <;> simp
  · rfl

/-- An event leaves everything alone but objects, rings, emergency messages and the event log. -/
@[simp] theorem Core.rest_eventRaw (now code dc seg unit : Nat) (data : List Byte) (c : Core) :
    (c.eventRaw now code dc seg unit data).rest = c.rest := by
  simp only [Core.eventRaw]; split
  · rfl
  · split <;> simp
@[simp] theorem Core.rest_event (now code seg : Nat) (tail : List Byte) (c : Core) :
    (c.event now code seg tail).rest = c.rest := by simp [Core.event]
@[simp] theorem Core.rest_condOn (now code seg unit : Nat) (tail : List Byte) (c : Core) :
    (c.condOn now code seg unit tail).rest = c.rest := by
  simp only [Core.condOn]; split <;> simp
@[simp] theorem Core.rest_condOff (code unit : Nat) (c : Core) : (c.condOff code unit).rest = c.rest := by
  simp [Core.condOff]
@[simp] theorem Core.rest_acknowledge (c : Core) : c.acknowledge.rest = c.rest := by
  simp [Core.acknowledge]
@[simp] theorem Core.rest_controlIgnored (now bit abort : Nat) (c : Core) :
    (c.controlIgnored now bit abort).rest = c.rest := by simp [Core.controlIgnored]
@[simp] theorem Core.rest_registerEvent (now first : Nat) (j : Int) (count : Nat) (c : Core) :
    (c.registerEvent now first j count).rest = c.rest := by simp [Core.registerEvent]

/-! ### What the module has put out is never taken back -/

theorem Core.out_le {c d e : Core} (h : d.out <+: e.out) (hd : d.out = c.out := by rfl) : c.out <+: e.out :=
  hd ▸ h

theorem Core.out_msix (v : Nat) (c : Core) : c.out <+: (c.msix v).out := by
  simp only [Core.msix]; split
  · exact List.prefix_refl _
  · exact List.prefix_append _ _

theorem Core.out_summary (b : Nat) (c : Core) : c.out <+: (c.summary b).out := by
  simp only [Core.summary]; split
  · exact List.prefix_refl _
  · split
    · exact Core.out_le (Core.out_msix _ _)
    · exact List.prefix_refl _

theorem Core.out_writeback (now i : Nat) (c : Core) : c.out <+: (c.writeback now i).out := by
  have h : c.out <+: (c.emit (.hostWrite (c.ring i).wb (c.writebackBytes i))).out := List.prefix_append _ _
  simp only [Core.writeback]; split
  · exact h
  · split
    · exact h.trans (Core.out_le (Core.out_msix _ _))
    · exact h

theorem Core.out_emit (o : Out) (c : Core) : c.out <+: (c.emit o).out := List.prefix_append _ _

theorem Core.out_produce (now i : Nat) (e : List Byte) (c : Core) : c.out <+: (c.produce now i e).out := by
  unfold Core.produce
  dsimp only
  refine List.IsPrefix.trans ?_ (Core.out_writeback _ _ _)
  split
  · rw [Core.put_out, Core.mapRing_out]; exact Core.out_emit _ _
  · rw [Core.mapRing_out]; exact Core.out_emit _ _

theorem Core.out_hold (i : Nat) (e : List Byte) (c : Core) : c.out <+: (c.hold i e).out := by
  simp only [Core.hold]; exact Core.out_le (Core.out_summary _ _)

theorem Core.out_issue (now i : Nat) (e : List Byte) (c : Core) : c.out <+: (c.issue now i e).out := by
  simp only [Core.issue]; split
  · exact Core.out_produce _ _ _ _
  · exact Core.out_hold _ _ _

theorem Core.out_bumpBy (i s n : Nat) (c : Core) : (c.bumpBy i s n).out = c.out := by
  simp only [Core.bumpBy]; split <;> rfl
@[simp] theorem Core.out_bump (i s : Nat) (c : Core) : (c.bump i s).out = c.out := Core.out_bumpBy i s 1 c

theorem Core.out_toEvr (now code dc : Nat) (data : List Byte) (c : Core) :
    c.out <+: (c.toEvr now code dc data).out := by
  simp only [Core.toEvr]; split
  · exact List.prefix_refl _
  · split
    · refine Core.out_le (Core.out_issue _ _ _ _) ?_
      rw [Core.put_out]
    · simp

theorem Core.out_emergency (now code cls seg line : Nat) (c : Core) :
    c.out <+: (c.emergency now code cls seg line).out := by
  simp only [Core.emergency]; split <;> split <;> simp

theorem Core.out_emergencyClear (had : Bool) (c : Core) : c.out <+: (c.emergencyClear had).out := by
  simp only [Core.emergencyClear]; split
  · split <;> simp
  · exact List.prefix_refl _

theorem Core.out_eventRaw (now code dc seg unit : Nat) (data : List Byte) (c : Core) :
    c.out <+: (c.eventRaw now code dc seg unit data).out := by
  unfold Core.eventRaw
  dsimp only
  split
  · exact List.prefix_refl _
  · split
    · refine List.IsPrefix.trans ?_ (Core.out_emergency _ _ _ _ _ _)
      refine Core.out_le (Core.out_toEvr now code dc data _) ?_
      simp
    · refine Core.out_le (Core.out_toEvr now code dc data _) ?_
      simp

theorem Core.out_event (now code seg : Nat) (tail : List Byte) (c : Core) :
    c.out <+: (c.event now code seg tail).out := Core.out_eventRaw _ _ _ _ _ _ _

theorem Core.out_condOn (now code seg unit : Nat) (tail : List Byte) (c : Core) :
    c.out <+: (c.condOn now code seg unit tail).out := by
  unfold Core.condOn
  split
  · exact List.prefix_refl _
  · exact Core.out_eventRaw _ _ _ _ _ _ _

theorem Core.out_condOff (code unit : Nat) (c : Core) : c.out <+: (c.condOff code unit).out := by
  simp only [Core.condOff]; exact Core.out_le (Core.out_emergencyClear _ _)

/-! ### The frame of a command -/

/-- The pins' input side is all that the module's own changes of its pins touch. -/
theorem Core.pinsNote_pads (own : Bool) (since : Nat) (c : Core) :
    c.pinsNote own since = { c with pads := (c.pinsNote own since).pads } := rfl

theorem Core.pinsFollow_pads (now : Nat) (c : Core) :
    c.pinsFollow now = { c with pads := (c.pinsFollow now).pads } := by
  have h : ∀ (ts : List Nat) (d : Core), ts.foldl (fun c t => c.pinsNote true t) d =
      { d with pads := (ts.foldl (fun c t => c.pinsNote true t) d).pads } := by
    intro ts
    induction ts with
    | nil => intro d; rfl
    | cons a l ih =>
      intro d
      rw [List.foldl_cons, ih]
      rfl
  unfold Core.pinsFollow
  rw [Core.pinsNote_pads, h]

/-- The pads and what they raise: everything else stands. -/
@[simp] theorem Core.rest_settle (now : Nat) (c : Core) : (c.settle now).rest = c.rest := by
  have key : ∀ (b b' : Bool) (d : Core), d.rest = c.rest →
      ((d.when b (Core.msix 13)).when b' (Core.msix 14)).rest = c.rest := by
    intro b b' d h
    cases b <;> cases b' <;> simpa [Core.when] using h
  unfold Core.settle
  dsimp only
  apply key
  rw [Core.pinsFollow_pads]
  rfl

theorem Core.msix_dict (v : Nat) (c : Core) : (c.msix v).dict = c.dict := by
  simp only [Core.msix]; split <;> rfl
theorem Core.msix_ec (v : Nat) (c : Core) : (c.msix v).ec = c.ec := by
  simp only [Core.msix]; split <;> rfl
theorem Core.msix_ev (v : Nat) (c : Core) : (c.msix v).ev = c.ev := by
  simp only [Core.msix]; split <;> rfl
theorem Core.msix_cxl (v : Nat) (c : Core) : (c.msix v).cxl = { c.cxl with pba := (c.msix v).cxl.pba } := by
  simp only [Core.msix]; split <;> rfl

/-- What neither the pins nor the vectors change, the pads leave. -/
theorem Core.settle_of_msix {P : Core → Prop} (now : Nat) (c : Core) (hp : ∀ p, P { c with pads := p })
    (hm : ∀ v d, P d → P (d.msix v)) : P (c.settle now) := by
  have h : ∀ (b : Bool) (v : Nat) (d : Core), P d → P (d.when b (Core.msix v)) := by
    intro b v d hd
    cases b
    · exact hd
    · exact hm v d hd
  unfold Core.settle
  dsimp only
  refine h _ _ _ (h _ _ _ ?_)
  rw [Core.pinsFollow_pads]
  exact hp _

theorem Core.settle_out (now : Nat) (c : Core) : c.out <+: (c.settle now).out :=
  Core.settle_of_msix (P := fun d => c.out <+: d.out) now c (fun _ => List.prefix_refl _)
    (fun v d h => h.trans (Core.out_msix v d))

@[simp] theorem Core.settle_dict (now : Nat) (c : Core) : (c.settle now).dict = c.dict :=
  Core.settle_of_msix (P := fun d => d.dict = c.dict) now c (fun _ => rfl) (fun v d h => (Core.msix_dict v d).trans h)

@[simp] theorem Core.settle_ec (now : Nat) (c : Core) : (c.settle now).ec = c.ec :=
  Core.settle_of_msix (P := fun d => d.ec = c.ec) now c (fun _ => rfl) (fun v d h => (Core.msix_ec v d).trans h)

@[simp] theorem Core.settle_ev (now : Nat) (c : Core) : (c.settle now).ev = c.ev :=
  Core.settle_of_msix (P := fun d => d.ev = c.ev) now c (fun _ => rfl) (fun v d h => (Core.msix_ev v d).trans h)

@[simp] theorem Core.settle_obj (now : Nat) (c : Core) (i s : Nat) : (c.settle now).obj i s = c.obj i s :=
  congrArg (fun d => sget dfltOf d (key i s)) (c.settle_dict now)

/-- Everything of the attachment but the pending vectors stands. -/
theorem Core.settle_cxl (now : Nat) (c : Core) :
    (c.settle now).cxl = { c.cxl with pba := (c.settle now).cxl.pba } :=
  Core.settle_of_msix (P := fun d => d.cxl = { c.cxl with pba := d.cxl.pba }) now c (fun _ => rfl)
    (fun v d h => by rw [Core.msix_cxl, h])

@[simp] theorem Core.settle_doms (now : Nat) (c : Core) : (c.settle now).doms = c.doms := Core.of_rest Core.doms (fun _ => rfl) (c.rest_settle now)
@[simp] theorem Core.settle_banks (now : Nat) (c : Core) : (c.settle now).banks = c.banks := Core.of_rest Core.banks (fun _ => rfl) (c.rest_settle now)
@[simp] theorem Core.settle_owners (now : Nat) (c : Core) : (c.settle now).owners = c.owners := Core.of_rest Core.owners (fun _ => rfl) (c.rest_settle now)
@[simp] theorem Core.settle_mode (now : Nat) (c : Core) : (c.settle now).mode = c.mode := Core.of_rest Core.mode (fun _ => rfl) (c.rest_settle now)
@[simp] theorem Core.settle_trans (now : Nat) (c : Core) : (c.settle now).trans = c.trans := Core.of_rest Core.trans (fun _ => rfl) (c.rest_settle now)
@[simp] theorem Core.settle_mbx (now : Nat) (c : Core) : (c.settle now).mbx = c.mbx := Core.of_rest Core.mbx (fun _ => rfl) (c.rest_settle now)
@[simp] theorem Core.settle_tw (now : Nat) (c : Core) : (c.settle now).tw = c.tw := Core.of_rest Core.tw (fun _ => rfl) (c.rest_settle now)
@[simp] theorem Core.settle_refs (now : Nat) (c : Core) : (c.settle now).refs = c.refs := Core.of_rest Core.refs (fun _ => rfl) (c.rest_settle now)
@[simp] theorem Core.settle_walks (now : Nat) (c : Core) : (c.settle now).walks = c.walks := Core.of_rest Core.walks (fun _ => rfl) (c.rest_settle now)
@[simp] theorem Core.settle_calRun (now : Nat) (c : Core) : (c.settle now).calRun = c.calRun := Core.of_rest Core.calRun (fun _ => rfl) (c.rest_settle now)
@[simp] theorem Core.settle_calAt (now : Nat) (c : Core) : (c.settle now).calAt = c.calAt := Core.of_rest Core.calAt (fun _ => rfl) (c.rest_settle now)
@[simp] theorem Core.settle_calFailed (now : Nat) (c : Core) : (c.settle now).calFailed = c.calFailed := Core.of_rest Core.calFailed (fun _ => rfl) (c.rest_settle now)
@[simp] theorem Core.settle_calEnd (now : Nat) (c : Core) : (c.settle now).calEnd = c.calEnd := Core.of_rest Core.calEnd (fun _ => rfl) (c.rest_settle now)
@[simp] theorem Core.settle_calSaving (now : Nat) (c : Core) : (c.settle now).calSaving = c.calSaving := Core.of_rest Core.calSaving (fun _ => rfl) (c.rest_settle now)
@[simp] theorem Core.settle_calKeep (now : Nat) (c : Core) : (c.settle now).calKeep = c.calKeep := Core.of_rest Core.calKeep (fun _ => rfl) (c.rest_settle now)
@[simp] theorem Core.settle_calPend (now : Nat) (c : Core) : (c.settle now).calPend = c.calPend := Core.of_rest Core.calPend (fun _ => rfl) (c.rest_settle now)
@[simp] theorem Core.settle_mot (now : Nat) (c : Core) : (c.settle now).mot = c.mot := Core.of_rest Core.mot (fun _ => rfl) (c.rest_settle now)
@[simp] theorem Core.settle_job (now : Nat) (c : Core) : (c.settle now).job = c.job := Core.of_rest Core.job (fun _ => rfl) (c.rest_settle now)
@[simp] theorem Core.settle_pipe (now : Nat) (c : Core) : (c.settle now).pipe = c.pipe := Core.of_rest Core.pipe (fun _ => rfl) (c.rest_settle now)
@[simp] theorem Core.settle_ctx (now : Nat) (c : Core) : (c.settle now).ctx = c.ctx := Core.of_rest Core.ctx (fun _ => rfl) (c.rest_settle now)
@[simp] theorem Core.settle_eng (now : Nat) (c : Core) : (c.settle now).eng = c.eng := Core.of_rest Core.eng (fun _ => rfl) (c.rest_settle now)
@[simp] theorem Core.settle_tk (now : Nat) (c : Core) : (c.settle now).tk = c.tk := Core.of_rest Core.tk (fun _ => rfl) (c.rest_settle now)
@[simp] theorem Core.settle_clk (now : Nat) (c : Core) : (c.settle now).clk = c.clk := Core.of_rest Core.clk (fun _ => rfl) (c.rest_settle now)
@[simp] theorem Core.settle_dram (now : Nat) (c : Core) : (c.settle now).dram = c.dram := Core.of_rest Core.dram (fun _ => rfl) (c.rest_settle now)
@[simp] theorem Core.settle_sram (now : Nat) (c : Core) : (c.settle now).sram = c.sram := Core.of_rest Core.sram (fun _ => rfl) (c.rest_settle now)
@[simp] theorem Core.settle_links (now : Nat) (c : Core) : (c.settle now).links = c.links := Core.of_rest Core.links (fun _ => rfl) (c.rest_settle now)
@[simp] theorem Core.settle_nv (now : Nat) (c : Core) : (c.settle now).nv = c.nv := Core.of_rest Core.nv (fun _ => rfl) (c.rest_settle now)
@[simp] theorem Core.settle_pw (now : Nat) (c : Core) : (c.settle now).pw = c.pw := Core.of_rest Core.pw (fun _ => rfl) (c.rest_settle now)
@[simp] theorem Core.settle_free (now : Nat) (c : Core) : (c.settle now).free = c.free := Core.of_rest Core.free (fun _ => rfl) (c.rest_settle now)

/-- What a command leaves: the clock, the queue, the DRAM, and its effect with the pads. -/
theorem State.run_next (t : Nat) (f : Nat → Core → Core) (s : State) :
    State.run t f s = .next { s with now := max s.now t, core := (f (max s.now t) s.core).settle (max s.now t) } := rfl

theorem State.runMem_next (t : Nat) (f : Nat → List Host.Cell → Core → List Host.Cell × Core) (s : State) :
    State.runMem t f s = .next { s with
      now := max s.now t, mem := (f (max s.now t) s.mem s.core).1,
      core := (f (max s.now t) s.mem s.core).2.settle (max s.now t) } := rfl

end Sys2Proof.Machine
end

