-- ==== Sys2Proof/Laws/Command.lean ====
section
/-!
SUPPORT. A command of one object, judged, carried out and answered: when it is accepted, what a refusal
leaves, and what the frame of every command adds to its effect.
-/

namespace Sys2Proof.Machine

/-! ### What the frame adds -/

theorem Core.under_congr {c d : Core} (e : Core) (h : c.under e = d.under e) (f : Core) : c.under f = d.under f := by
  have h' := congrArg (fun x => x.under f) h
  simpa [Core.under] using h'

/-- The pads follow, and no more: the frame changes what `under` lets it change. -/
theorem Core.settle_under (now : Nat) (c : Core) : c.settle now = c.under (c.settle now) := by
  have key : ∀ a b : Core, a.rest = b.rest → a.dict = b.dict → a.ec = b.ec → a.ev = b.ev →
      a.cxl = { b.cxl with pba := a.cxl.pba } → a = b.under a := by
    intro a b h1 h2 h3 h4 h5
    have put : ∀ x : Core, x = { x.rest with
        dict := x.dict, ec := x.ec, ev := x.ev, cxl := x.cxl, out := x.out, pads := x.pads } := fun _ => rfl
    rw [put a, h1, h2, h3, h4, h5]
    rfl
  exact key _ _ (c.rest_settle now) (c.settle_dict now) (c.settle_ec now) (c.settle_ev now) (c.settle_cxl now)

/-- An effect that is `d` but for outputs, pads and pending vectors is `d` under the frame. -/
theorem Core.settle_of {c d : Core} (now : Nat) (e : Core) (h : c.under e = d.under e) :
    c.settle now = d.under (c.settle now) :=
  (c.settle_under now).trans (Core.under_congr e h _)

@[simp] theorem Core.under_emit (o : Out) (c e : Core) : (c.emit o).under e = c.under e := rfl
@[simp] theorem Core.under_msix (v : Nat) (c e : Core) : (c.msix v).under e = c.under e := by
  unfold Core.msix; split <;> rfl

/-- Outputs of the effect come first. -/
theorem State.puts_of {s u : State} {c : Core} {l : List Out} (h : s.core.out ++ l <+: c.out)
    {now : Nat} (hu : u.core = c.settle now) : s.puts u l := by
  unfold State.puts; rw [hu]; exact h.trans (c.settle_out now)

theorem Core.obj_keep (c : Core) (i s v j r : Nat) (hs : s < 256) (hr : r < 256) (h : (j, r) ≠ (i, s)) :
    (c.put i s v).obj j r = c.obj j r :=
  Core.obj_put_ne _ _ _ _ _ _ (fun e => h (by obtain ⟨rfl, rfl⟩ := key_inj hr hs e; rfl))

/-! ### A write judged -/

@[simp] theorem firstCode_nil : firstCode [] = none := by decide

/-- With nothing against a write but the object's own reasons, these alone are judged. -/
theorem Core.writeCodes_may {c : Core} {o : Orig} {i s d : Nat} {data : List Byte} {own : List Nat} {r : ObjRow}
    (hm : c.mayWrite o i s d) (hr : rowOf i s = some r) (ht : (topSub i).isSome = true) (hd : domainOf i s = some d)
    (ha : (r.acc == .ro) = false) (h2 : (i == 0x2102) = false)
    (hs : (r.acc == .rws) = false ∨ c.mode = .standby ∨ c.mode = .calibrate) (hl : lengthOk r data.length = true)
    (hp : (r.ty != .dom && r.ty != .oct && r.ty != .str && !permits r.ty r.perm (leNat data)) = false) :
    c.writeCodes o i s data own = own := by
  obtain ⟨ho, hc, hn, hmap, -⟩ := hm
  obtain ⟨k, hk⟩ := Option.isSome_iff_exists.mp ht
  have e1 : c.absent i = false := by
    unfold Core.absent; simp [hn]
  have e2 : (o != .pdo && c.isMapped i s) = false := by
    rcases hmap with rfl | h
    · rfl
    · simp [h]
  have e3 : (c.mode == .compline) = false := by simpa using hc
  have e4 : (r.acc == .rws && c.mode != .standby && c.mode != .calibrate) = false := by
    rcases hs with h | h | h <;> simp [h]
  simp [Core.writeCodes, e1, hk, hr, Core.rowCodes, ha, h2, hd, ho, e2, e3, e4, hl, hp, reason]

/-- An object whose word holds no error takes a write without a change of its words. -/
theorem Core.storageWrite_ok {c : Core} {i s : Nat} (h : c.wordOk i s = true) (now n : Nat) :
    c.storageWrite now i s n = (true, c) := by
  unfold Core.wordOk at h
  unfold Core.storageWrite
  cases hs : c.storageOf i s with
  | none => rfl
  | some p =>
    obtain ⟨a, k⟩ := p
    rw [hs] at h
    simp only [Bool.and_eq_true, List.all_eq_true, bne_iff_ne, ne_eq, Bool.not_eq_true'] at h
    obtain ⟨hf, hj⟩ := h
    have hp : c.sram.poison.contains a = false := by
      rw [Bool.eq_false_iff]
      intro hm
      exact hf a (List.mem_dedup.mpr (List.mem_append_left _ (List.contains_iff_mem.mp hm))) rfl
    have hx : c.sram.flips.find? (fun p => p.1 == a) = none := by
      rw [List.find?_eq_none]
      intro p hm he
      refine hf p.1 (List.mem_dedup.mpr (List.mem_append_right _ (List.mem_map_of_mem hm))) (by simpa using he)
    have hw : c.wordsWritten (· == a) = c := by
      have hn : c.faulty.any (· == a) = false := by
        rw [List.any_eq_false]
        intro x hm he
        exact hf x hm (by simpa using he)
      have hj' : (c.flag 0x2F30 4 && (c.obj 0x2F30 1 == a)) = false := hj
      simp [Core.wordsWritten, hn, Core.when, hj']
    cases hr : rowOf i s with
    | none => rfl
    | some r =>
      simp only [hp, hw, Core.wordFound, Core.flipsAt, hx, Option.map_none, Option.getD_none, if_true]
      split
      · rfl
      · split <;> rfl

theorem Core.judged_ok {c : Core} {o : Orig} {i s : Nat} {data : List Byte} {own : List Nat} {eff : Core → Core}
    (hw : c.wordOk i s = true) (h : firstCode (c.writeCodes o i s data own) = none) (now : Nat) :
    c.judged now o i s data own eff = (0, eff c) := by
  simp [Core.judged, h, Core.storageWrite_ok hw]

theorem Core.judged_no {c : Core} {o : Orig} {i s k : Nat} {data : List Byte} {own : List Nat} {eff : Core → Core}
    (h : firstCode (c.writeCodes o i s data own) = some k) (now : Nat) : c.judged now o i s data own eff = (k, c) := by
  simp [Core.judged, h]

end Sys2Proof.Machine
end

