-- ==== Sys2Proof/Laws/Host.lean ====
section
/-!
SUPPORT. What the operations towards the host can do to the machine: each leaves it, or takes one free value.
-/

namespace Sys2Proof.Machine

/-- Whether the link carries a stream is answered without a change, or with one free value. -/
theorem Core.hostCarries_core (k : Nat) (c : Core) :
    (c.hostCarries k).2 = c ∨ (c.hostCarries k).2 = c.fresh.2 := by
  unfold Core.hostCarries
  split
  · exact .inl rfl
  · dsimp only
    split
    · exact .inl rfl
    · exact .inr rfl

/-- A configuration read leaves the machine, or takes one free value for a doubleword the manual does not give. -/
theorem Core.cfgRead_core (off : Nat) (c : Core) : (c.cfgRead off).2 = c ∨ (c.cfgRead off).2 = c.fresh.2 := by
  unfold Core.cfgRead
  split
  · exact .inl rfl
  · split
    · exact .inr rfl
    · split
      · exact .inl rfl
      · exact .inr rfl

/-- A read of BAR4 leaves the machine, or takes one free value. -/
theorem Core.bar4Read_core (off : Nat) (c : Core) : (c.bar4Read off).2 = c ∨ (c.bar4Read off).2 = c.fresh.2 := by
  unfold Core.bar4Read
  split
  · split
    · exact .inl rfl
    · exact .inr rfl
  · exact .inl rfl

end Sys2Proof.Machine
end

