-- ==== Sys2Proof/WellFormed.lean ====
section
/-!
DEFINITION. Which commands are well formed: the lengths and ranges that the manual gives the data a
command carries from outside the module. Meanings do not need it: they read a short list as ending
in zeros and ignore what lies beyond a list's end.
-/

namespace Sys2Proof

/-- Register accesses of 1, 2, 4 or 8 bytes reach a BAR (13 R389 judges size and alignment). -/
def accessSize (n : Nat) : Bool := n == 1 || n == 2 || n == 4 || n == 8

/-- A DRAM write carries the 64 bytes of its line (11 R348). -/
def DramOp.ok : DramOp → Bool
  | .read => true
  | .write _ data => data.length == 64

/-- A window or black row has a stripe row below 48 (03 R90). -/
def RowKind.ok : RowKind → Bool
  | .active _ _ _ row => decide (row < 48)
  | .black _ => true
  | .velo _ _ => true

/-- Latched counts fit the counters' 12 bits plus overflow (04 R107). -/
def ColSample.ok (x : ColSample) : Bool := decide (x.cr < 8192) && decide (x.cs < 8192)

/-- The command's data have the lengths and ranges of the manual. -/
def Instr.wellFormed : Instr → Bool
  | .sdoDownload _ idx sub _ _ _ _ => decide (idx < 65536) && decide (sub < 256)
  | .sdoDownloadSegment _ idx sub _ data =>
      decide (idx < 65536) && decide (sub < 256) && decide (data.length ≤ 505)
  | .sdoUpload _ idx sub _ => decide (idx < 65536) && decide (sub < 256)
  | .objectWrite _ _ idx sub _ => decide (idx < 65536) && decide (sub < 256)
  | .ownershipTransfer _ _ dom _ => decide (1 ≤ dom) && decide (dom ≤ 10)
  | .rowConversion _ _ _ kind _ cols => kind.ok && cols.length == 4096 && cols.all ColSample.ok
  | .convMeasureEnd _ _ res => res.length == 128
  | .convVerifyEnd _ _ mids => mids.length == 128
  | .fgCalComplete _ res _ => res.all (fun r => decide (r.1 < 16) && decide (r.2.1 < 65) && r.2.2.length == 128)
  | .engineEarlyStage _ slice _ => decide (slice < 512)
  | .verdictStage _ slice => decide (slice < 512)
  | .neighbourMessage _ m => decide (m.fromSlice < 512) && decide (m.toSlice < 512) &&
      (m.fromSlice + 1 == m.toSlice || m.toSlice + 1 == m.fromSlice)
  | .pglDescriptorRead _ _ desc _ => desc.length == 64
  | .barWrite _ _ _ size _ => accessSize size
  | .barRead _ _ _ size => accessSize size
  | .dramRequest _ _ _ op => op.ok
  | .cxlMemRequest _ _ op => op.ok
  | .mr4Read _ need => need.length == 10
  | .linkTrained _ width rate _ => [1, 2, 4, 8].contains width && [25, 50, 80, 160, 320].contains rate
  | .linkBringUp _ _ lanes => lanes.length == 9
  | .boot _ _ trained => trained.length == 5
  | .dawn _ _ drift trained _ temps => drift.length == 20 && trained.length == 5 && temps.length == 16
  | _ => true

end Sys2Proof
end

