-- ==== Sys2Proof/Laws/PerInstr.lean ====
section
/-!
SUPPORT. A law of every command of the table: each carries the moment at which it comes, and whether it is
well formed does not turn on that moment (00_scope R13: all that happens is stamped with the module's time).
-/

namespace Sys2Proof

/-- The moment that a command carries. -/
def Instr.moment : Instr → Nat
  | .sdoDownload t _ _ _ _ _ _ => t
  | .sdoDownloadSegment t _ _ _ _ => t
  | .sdoUpload t _ _ _ => t
  | .sdoInformation t _ => t
  | .sdoProtocolTimeout t => t
  | .mailboxServiceUnsupported t _ => t
  | .alStateRequest t _ _ => t
  | .foeDownload t _ _ => t
  | .foeVerifyComplete t => t
  | .rxpdoApply t _ _ => t
  | .txpdoLatch t _ => t
  | .jobStart t _ => t
  | .jobEnd t _ => t
  | .faultAck t _ => t
  | .safeControl t _ _ => t
  | .startAtSync1 t _ => t
  | .sync1Event t => t
  | .sync1WaitTimeout t => t
  | .sm2WatchdogExpiry t _ => t
  | .dcSyncLost t _ _ _ => t
  | .dcSyncRegained t _ _ => t
  | .objectWrite t _ _ _ _ => t
  | .modeRequest t _ _ => t
  | .modeTransitionComplete t => t
  | .ownershipTransfer t _ _ _ => t
  | .takeover t _ _ => t
  | .pendingViewSelect t _ _ => t
  | .storeAll t _ _ _ => t
  | .restoreDefaults t _ _ => t
  | .errorHistoryClear t _ _ => t
  | .eventAcknowledge t _ _ => t
  | .mbxGo t => t
  | .mbxAbort t _ => t
  | .mbxStatClear t _ => t
  | .mbxRead t => t
  | .mbxWrite t => t
  | .mbxReadPending t => t
  | .mbxReadAll t => t
  | .mbxWriteAll t => t
  | .mbxDescribe t => t
  | .mbxOpcodeInvalid t => t
  | .twSafeSet t => t
  | .twSafeClear t => t
  | .twLiveTest t => t
  | .liveResume t => t
  | .twByteRefused t _ _ => t
  | .twBusRelease t _ => t
  | .safeLatchWrite t _ _ => t
  | .refBufferEnable t _ => t
  | .refBufferDisable t _ => t
  | .refBufferSettled t _ => t
  | .refBufferWindow t _ => t
  | .refBufferWindowReturn t _ => t
  | .exposureCommitPoint t => t
  | .exposureReset t _ _ _ => t
  | .exposureTransfer t _ _ _ => t
  | .rowConversion t _ _ _ _ _ => t
  | .freeRowSlot t _ _ => t
  | .convStepTakeover t _ => t
  | .convSettleEnd t _ => t
  | .convMeasureEnd t _ _ => t
  | .convVerifyEnd t _ _ => t
  | .convStepHandback t _ => t
  | .fgCalStart t _ => t
  | .fgCalComplete t _ _ => t
  | .fgCalSave t _ => t
  | .fgCalSaveComplete t _ => t
  | .fgCalAbort t _ _ => t
  | .fgCalRestoreFactory t _ => t
  | .encoderEdge t _ _ => t
  | .encoderZ t _ => t
  | .encoderLost t => t
  | .stopDeclared t => t
  | .coastingLimit t => t
  | .velocimetrySample t _ _ => t
  | .velocimetryValidityLapse t => t
  | .alarmDeadline t _ => t
  | .sheetTrigger t _ _ => t
  | .sheetLimitReached t => t
  | .trigEdge t _ _ => t
  | .motionCommit t _ _ => t
  | .epochStart t => t
  | .rowPacketArrival t _ _ _ => t
  | .rowPacketTimeout t _ => t
  | .lineComplete t => t
  | .lineResolved t => t
  | .jobEndTimeout t => t
  | .jobEnded t => t
  | .contextCommit t _ _ => t
  | .contextDiscard t _ _ => t
  | .auxEnable t _ _ _ => t
  | .auxStartOfFrame t _ _ => t
  | .auxLine t _ _ => t
  | .auxEndOfFrame t _ _ => t
  | .sidePathFrameStart t => t
  | .sidePathFrameEnd t => t
  | .statsBlockWrite t _ => t
  | .displayTileRow t => t
  | .archivePicture t => t
  | .archiveSuspend t => t
  | .archiveResume t => t
  | .mvFrameStart t _ => t
  | .engineEarlyStage t _ _ => t
  | .verdictStage t _ => t
  | .neighbourMessage t _ => t
  | .recordCollectorWrite t => t
  | .pglDescriptorRead t _ _ _ => t
  | .refLineRequest t => t
  | .refLineArrival t _ _ => t
  | .refLinePlace t => t
  | .pageDone t => t
  | .engineStepStart t _ => t
  | .engineTakeover t _ => t
  | .engineSelfTestEnd t _ _ => t
  | .engineHandback t _ => t
  | .engineStall t _ _ _ _ => t
  | .kernelPackageWrite t _ _ _ => t
  | .tinkerStep t _ _ => t
  | .tinkerStallRetry t _ => t
  | .tkStart t _ _ _ => t
  | .tkStop t _ _ _ => t
  | .tkAutostart t => t
  | .tkDoStep t _ _ => t
  | .tkInject t _ _ => t
  | .tkClearErr t _ => t
  | .tkRxWrite t _ _ _ _ => t
  | .tkTxRead t _ _ _ => t
  | .tkIrqClear t _ => t
  | .alarmDelivery t => t
  | .routeChange t => t
  | .barWrite t _ _ _ _ => t
  | .pllApply t _ _ => t
  | .pllSearchWindow t _ _ _ => t
  | .outputRestart t _ => t
  | .pllUnlock t _ => t
  | .refinLost t => t
  | .refinReturn t _ _ => t
  | .slewComplete t _ => t
  | .holdoverExpired t => t
  | .pllTRestart t => t
  | .fineDelayStep t _ => t
  | .dramRequest t _ _ _ => t
  | .dramCommand t _ _ => t
  | .perBankRefresh t _ _ => t
  | .rowIdleClose t _ _ => t
  | .wckDqMeasure t _ => t
  | .mr4Read t _ => t
  | .errorWindowRestart t => t
  | .retireLogicalRank t _ _ => t
  | .migrationAbort t _ => t
  | .migrationDone t => t
  | .mergeIdleRetire t _ _ _ => t
  | .sweepRead t _ _ _ => t
  | .lamplighterRead t _ => t
  | .shadowRewrite t _ => t
  | .injectionArm t _ => t
  | .injectionDisarm t _ => t
  | .perstNAssert t _ => t
  | .flr t => t
  | .hostLinkDown t _ => t
  | .hostLinkUp t => t
  | .linkTrained t _ _ _ => t
  | .doorbell t _ _ => t
  | .ringEnable t _ => t
  | .ringDisable t _ => t
  | .ringEntryIssue t _ => t
  | .holdDrain t _ _ => t
  | .holdEmptied t => t
  | .holdOverflow t _ => t
  | .irqTimeThreshold t _ => t
  | .evtSummaryClear t _ => t
  | .biasFlipDevice t _ => t
  | .biasFlipHost t _ => t
  | .biasDone t => t
  | .cxlMemRequest t _ _ => t
  | .snoop t _ _ => t
  | .linkBringUp t _ _ => t
  | .eyeScan t _ _ _ _ _ => t
  | .laneSpare t _ _ _ _ => t
  | .linkRetrain t _ _ => t
  | .retrainTimeout t _ => t
  | .bcCommandLost t _ _ => t
  | .statusBlock t _ _ _ => t
  | .linkTestStart t _ => t
  | .linkTestStop t _ => t
  | .bitSlip t _ _ => t
  | .sleepCommand t _ _ => t
  | .eventIssue t _ _ _ => t
  | .heartbeatFailure t => t
  | .heartbeatReset t => t
  | .throttleLevelStep t => t
  | .thermalShutdown t => t
  | .reset t _ _ => t
  | .boot t _ _ => t
  | .trialPromotion t => t
  | .resetCommand t _ _ => t
  | .duskEntry t => t
  | .dawn t _ _ _ _ _ => t
  | .holdupMeasure t _ _ _ => t
  | .powerFail t _ _ => t
  | .complineSeal t => t
  | .complineRestart t _ => t
  | .complineAcknowledge t _ _ => t
  | .scrivenerJournal t _ => t
  | .compactionAuto t => t
  | .compactionCommand t _ _ => t
  | .compactionComplete t => t
  | .thermalSample t _ _ => t
  | .bandDecided t => t
  | .throughputReplicaMeasure t _ _ => t
  | .retrainComplete t _ => t
  | .linkRecovery t => t
  | .perstNRelease t => t
  | .hdmDecoderCommit t _ _ => t
  | .barRead t _ _ _ => t

/-- The same command at another moment. -/
def Instr.moved (u : Nat) : Instr → Instr
  | .sdoDownload _ x1 x2 x3 x4 x5 x6 => .sdoDownload u x1 x2 x3 x4 x5 x6
  | .sdoDownloadSegment _ x1 x2 x3 x4 => .sdoDownloadSegment u x1 x2 x3 x4
  | .sdoUpload _ x1 x2 x3 => .sdoUpload u x1 x2 x3
  | .sdoInformation _ x1 => .sdoInformation u x1
  | .sdoProtocolTimeout _ => .sdoProtocolTimeout u
  | .mailboxServiceUnsupported _ x1 => .mailboxServiceUnsupported u x1
  | .alStateRequest _ x1 x2 => .alStateRequest u x1 x2
  | .foeDownload _ x1 x2 => .foeDownload u x1 x2
  | .foeVerifyComplete _ => .foeVerifyComplete u
  | .rxpdoApply _ x1 x2 => .rxpdoApply u x1 x2
  | .txpdoLatch _ x1 => .txpdoLatch u x1
  | .jobStart _ x1 => .jobStart u x1
  | .jobEnd _ x1 => .jobEnd u x1
  | .faultAck _ x1 => .faultAck u x1
  | .safeControl _ x1 x2 => .safeControl u x1 x2
  | .startAtSync1 _ x1 => .startAtSync1 u x1
  | .sync1Event _ => .sync1Event u
  | .sync1WaitTimeout _ => .sync1WaitTimeout u
  | .sm2WatchdogExpiry _ x1 => .sm2WatchdogExpiry u x1
  | .dcSyncLost _ x1 x2 x3 => .dcSyncLost u x1 x2 x3
  | .dcSyncRegained _ x1 x2 => .dcSyncRegained u x1 x2
  | .objectWrite _ x1 x2 x3 x4 => .objectWrite u x1 x2 x3 x4
  | .modeRequest _ x1 x2 => .modeRequest u x1 x2
  | .modeTransitionComplete _ => .modeTransitionComplete u
  | .ownershipTransfer _ x1 x2 x3 => .ownershipTransfer u x1 x2 x3
  | .takeover _ x1 x2 => .takeover u x1 x2
  | .pendingViewSelect _ x1 x2 => .pendingViewSelect u x1 x2
  | .storeAll _ x1 x2 x3 => .storeAll u x1 x2 x3
  | .restoreDefaults _ x1 x2 => .restoreDefaults u x1 x2
  | .errorHistoryClear _ x1 x2 => .errorHistoryClear u x1 x2
  | .eventAcknowledge _ x1 x2 => .eventAcknowledge u x1 x2
  | .mbxGo _ => .mbxGo u
  | .mbxAbort _ x1 => .mbxAbort u x1
  | .mbxStatClear _ x1 => .mbxStatClear u x1
  | .mbxRead _ => .mbxRead u
  | .mbxWrite _ => .mbxWrite u
  | .mbxReadPending _ => .mbxReadPending u
  | .mbxReadAll _ => .mbxReadAll u
  | .mbxWriteAll _ => .mbxWriteAll u
  | .mbxDescribe _ => .mbxDescribe u
  | .mbxOpcodeInvalid _ => .mbxOpcodeInvalid u
  | .twSafeSet _ => .twSafeSet u
  | .twSafeClear _ => .twSafeClear u
  | .twLiveTest _ => .twLiveTest u
  | .liveResume _ => .liveResume u
  | .twByteRefused _ x1 x2 => .twByteRefused u x1 x2
  | .twBusRelease _ x1 => .twBusRelease u x1
  | .safeLatchWrite _ x1 x2 => .safeLatchWrite u x1 x2
  | .refBufferEnable _ x1 => .refBufferEnable u x1
  | .refBufferDisable _ x1 => .refBufferDisable u x1
  | .refBufferSettled _ x1 => .refBufferSettled u x1
  | .refBufferWindow _ x1 => .refBufferWindow u x1
  | .refBufferWindowReturn _ x1 => .refBufferWindowReturn u x1
  | .exposureCommitPoint _ => .exposureCommitPoint u
  | .exposureReset _ x1 x2 x3 => .exposureReset u x1 x2 x3
  | .exposureTransfer _ x1 x2 x3 => .exposureTransfer u x1 x2 x3
  | .rowConversion _ x1 x2 x3 x4 x5 => .rowConversion u x1 x2 x3 x4 x5
  | .freeRowSlot _ x1 x2 => .freeRowSlot u x1 x2
  | .convStepTakeover _ x1 => .convStepTakeover u x1
  | .convSettleEnd _ x1 => .convSettleEnd u x1
  | .convMeasureEnd _ x1 x2 => .convMeasureEnd u x1 x2
  | .convVerifyEnd _ x1 x2 => .convVerifyEnd u x1 x2
  | .convStepHandback _ x1 => .convStepHandback u x1
  | .fgCalStart _ x1 => .fgCalStart u x1
  | .fgCalComplete _ x1 x2 => .fgCalComplete u x1 x2
  | .fgCalSave _ x1 => .fgCalSave u x1
  | .fgCalSaveComplete _ x1 => .fgCalSaveComplete u x1
  | .fgCalAbort _ x1 x2 => .fgCalAbort u x1 x2
  | .fgCalRestoreFactory _ x1 => .fgCalRestoreFactory u x1
  | .encoderEdge _ x1 x2 => .encoderEdge u x1 x2
  | .encoderZ _ x1 => .encoderZ u x1
  | .encoderLost _ => .encoderLost u
  | .stopDeclared _ => .stopDeclared u
  | .coastingLimit _ => .coastingLimit u
  | .velocimetrySample _ x1 x2 => .velocimetrySample u x1 x2
  | .velocimetryValidityLapse _ => .velocimetryValidityLapse u
  | .alarmDeadline _ x1 => .alarmDeadline u x1
  | .sheetTrigger _ x1 x2 => .sheetTrigger u x1 x2
  | .sheetLimitReached _ => .sheetLimitReached u
  | .trigEdge _ x1 x2 => .trigEdge u x1 x2
  | .motionCommit _ x1 x2 => .motionCommit u x1 x2
  | .epochStart _ => .epochStart u
  | .rowPacketArrival _ x1 x2 x3 => .rowPacketArrival u x1 x2 x3
  | .rowPacketTimeout _ x1 => .rowPacketTimeout u x1
  | .lineComplete _ => .lineComplete u
  | .lineResolved _ => .lineResolved u
  | .jobEndTimeout _ => .jobEndTimeout u
  | .jobEnded _ => .jobEnded u
  | .contextCommit _ x1 x2 => .contextCommit u x1 x2
  | .contextDiscard _ x1 x2 => .contextDiscard u x1 x2
  | .auxEnable _ x1 x2 x3 => .auxEnable u x1 x2 x3
  | .auxStartOfFrame _ x1 x2 => .auxStartOfFrame u x1 x2
  | .auxLine _ x1 x2 => .auxLine u x1 x2
  | .auxEndOfFrame _ x1 x2 => .auxEndOfFrame u x1 x2
  | .sidePathFrameStart _ => .sidePathFrameStart u
  | .sidePathFrameEnd _ => .sidePathFrameEnd u
  | .statsBlockWrite _ x1 => .statsBlockWrite u x1
  | .displayTileRow _ => .displayTileRow u
  | .archivePicture _ => .archivePicture u
  | .archiveSuspend _ => .archiveSuspend u
  | .archiveResume _ => .archiveResume u
  | .mvFrameStart _ x1 => .mvFrameStart u x1
  | .engineEarlyStage _ x1 x2 => .engineEarlyStage u x1 x2
  | .verdictStage _ x1 => .verdictStage u x1
  | .neighbourMessage _ x1 => .neighbourMessage u x1
  | .recordCollectorWrite _ => .recordCollectorWrite u
  | .pglDescriptorRead _ x1 x2 x3 => .pglDescriptorRead u x1 x2 x3
  | .refLineRequest _ => .refLineRequest u
  | .refLineArrival _ x1 x2 => .refLineArrival u x1 x2
  | .refLinePlace _ => .refLinePlace u
  | .pageDone _ => .pageDone u
  | .engineStepStart _ x1 => .engineStepStart u x1
  | .engineTakeover _ x1 => .engineTakeover u x1
  | .engineSelfTestEnd _ x1 x2 => .engineSelfTestEnd u x1 x2
  | .engineHandback _ x1 => .engineHandback u x1
  | .engineStall _ x1 x2 x3 x4 => .engineStall u x1 x2 x3 x4
  | .kernelPackageWrite _ x1 x2 x3 => .kernelPackageWrite u x1 x2 x3
  | .tinkerStep _ x1 x2 => .tinkerStep u x1 x2
  | .tinkerStallRetry _ x1 => .tinkerStallRetry u x1
  | .tkStart _ x1 x2 x3 => .tkStart u x1 x2 x3
  | .tkStop _ x1 x2 x3 => .tkStop u x1 x2 x3
  | .tkAutostart _ => .tkAutostart u
  | .tkDoStep _ x1 x2 => .tkDoStep u x1 x2
  | .tkInject _ x1 x2 => .tkInject u x1 x2
  | .tkClearErr _ x1 => .tkClearErr u x1
  | .tkRxWrite _ x1 x2 x3 x4 => .tkRxWrite u x1 x2 x3 x4
  | .tkTxRead _ x1 x2 x3 => .tkTxRead u x1 x2 x3
  | .tkIrqClear _ x1 => .tkIrqClear u x1
  | .alarmDelivery _ => .alarmDelivery u
  | .routeChange _ => .routeChange u
  | .barWrite _ x1 x2 x3 x4 => .barWrite u x1 x2 x3 x4
  | .pllApply _ x1 x2 => .pllApply u x1 x2
  | .pllSearchWindow _ x1 x2 x3 => .pllSearchWindow u x1 x2 x3
  | .outputRestart _ x1 => .outputRestart u x1
  | .pllUnlock _ x1 => .pllUnlock u x1
  | .refinLost _ => .refinLost u
  | .refinReturn _ x1 x2 => .refinReturn u x1 x2
  | .slewComplete _ x1 => .slewComplete u x1
  | .holdoverExpired _ => .holdoverExpired u
  | .pllTRestart _ => .pllTRestart u
  | .fineDelayStep _ x1 => .fineDelayStep u x1
  | .dramRequest _ x1 x2 x3 => .dramRequest u x1 x2 x3
  | .dramCommand _ x1 x2 => .dramCommand u x1 x2
  | .perBankRefresh _ x1 x2 => .perBankRefresh u x1 x2
  | .rowIdleClose _ x1 x2 => .rowIdleClose u x1 x2
  | .wckDqMeasure _ x1 => .wckDqMeasure u x1
  | .mr4Read _ x1 => .mr4Read u x1
  | .errorWindowRestart _ => .errorWindowRestart u
  | .retireLogicalRank _ x1 x2 => .retireLogicalRank u x1 x2
  | .migrationAbort _ x1 => .migrationAbort u x1
  | .migrationDone _ => .migrationDone u
  | .mergeIdleRetire _ x1 x2 x3 => .mergeIdleRetire u x1 x2 x3
  | .sweepRead _ x1 x2 x3 => .sweepRead u x1 x2 x3
  | .lamplighterRead _ x1 => .lamplighterRead u x1
  | .shadowRewrite _ x1 => .shadowRewrite u x1
  | .injectionArm _ x1 => .injectionArm u x1
  | .injectionDisarm _ x1 => .injectionDisarm u x1
  | .perstNAssert _ x1 => .perstNAssert u x1
  | .flr _ => .flr u
  | .hostLinkDown _ x1 => .hostLinkDown u x1
  | .hostLinkUp _ => .hostLinkUp u
  | .linkTrained _ x1 x2 x3 => .linkTrained u x1 x2 x3
  | .doorbell _ x1 x2 => .doorbell u x1 x2
  | .ringEnable _ x1 => .ringEnable u x1
  | .ringDisable _ x1 => .ringDisable u x1
  | .ringEntryIssue _ x1 => .ringEntryIssue u x1
  | .holdDrain _ x1 x2 => .holdDrain u x1 x2
  | .holdEmptied _ => .holdEmptied u
  | .holdOverflow _ x1 => .holdOverflow u x1
  | .irqTimeThreshold _ x1 => .irqTimeThreshold u x1
  | .evtSummaryClear _ x1 => .evtSummaryClear u x1
  | .biasFlipDevice _ x1 => .biasFlipDevice u x1
  | .biasFlipHost _ x1 => .biasFlipHost u x1
  | .biasDone _ => .biasDone u
  | .cxlMemRequest _ x1 x2 => .cxlMemRequest u x1 x2
  | .snoop _ x1 x2 => .snoop u x1 x2
  | .linkBringUp _ x1 x2 => .linkBringUp u x1 x2
  | .eyeScan _ x1 x2 x3 x4 x5 => .eyeScan u x1 x2 x3 x4 x5
  | .laneSpare _ x1 x2 x3 x4 => .laneSpare u x1 x2 x3 x4
  | .linkRetrain _ x1 x2 => .linkRetrain u x1 x2
  | .retrainTimeout _ x1 => .retrainTimeout u x1
  | .bcCommandLost _ x1 x2 => .bcCommandLost u x1 x2
  | .statusBlock _ x1 x2 x3 => .statusBlock u x1 x2 x3
  | .linkTestStart _ x1 => .linkTestStart u x1
  | .linkTestStop _ x1 => .linkTestStop u x1
  | .bitSlip _ x1 x2 => .bitSlip u x1 x2
  | .sleepCommand _ x1 x2 => .sleepCommand u x1 x2
  | .eventIssue _ x1 x2 x3 => .eventIssue u x1 x2 x3
  | .heartbeatFailure _ => .heartbeatFailure u
  | .heartbeatReset _ => .heartbeatReset u
  | .throttleLevelStep _ => .throttleLevelStep u
  | .thermalShutdown _ => .thermalShutdown u
  | .reset _ x1 x2 => .reset u x1 x2
  | .boot _ x1 x2 => .boot u x1 x2
  | .trialPromotion _ => .trialPromotion u
  | .resetCommand _ x1 x2 => .resetCommand u x1 x2
  | .duskEntry _ => .duskEntry u
  | .dawn _ x1 x2 x3 x4 x5 => .dawn u x1 x2 x3 x4 x5
  | .holdupMeasure _ x1 x2 x3 => .holdupMeasure u x1 x2 x3
  | .powerFail _ x1 x2 => .powerFail u x1 x2
  | .complineSeal _ => .complineSeal u
  | .complineRestart _ x1 => .complineRestart u x1
  | .complineAcknowledge _ x1 x2 => .complineAcknowledge u x1 x2
  | .scrivenerJournal _ x1 => .scrivenerJournal u x1
  | .compactionAuto _ => .compactionAuto u
  | .compactionCommand _ x1 x2 => .compactionCommand u x1 x2
  | .compactionComplete _ => .compactionComplete u
  | .thermalSample _ x1 x2 => .thermalSample u x1 x2
  | .bandDecided _ => .bandDecided u
  | .throughputReplicaMeasure _ x1 x2 => .throughputReplicaMeasure u x1 x2
  | .retrainComplete _ x1 => .retrainComplete u x1
  | .linkRecovery _ => .linkRecovery u
  | .perstNRelease _ => .perstNRelease u
  | .hdmDecoderCommit _ x1 x2 => .hdmDecoderCommit u x1 x2
  | .barRead _ x1 x2 x3 => .barRead u x1 x2 x3

/-- A command can come at any moment, and its form is judged alike at all of them. -/
def Laws.Timed.Statement (i : Instr) : Prop :=
  ∀ u, (i.moved u).moment = u ∧ (i.moved u).wellFormed = i.wellFormed

theorem Laws.Timed.sdoDownload (t : Nat) (idx sub : Nat) (complete : Bool) (final : Bool) (toggle : Bool) (data : List Byte) : Laws.Timed.Statement (.sdoDownload t idx sub complete final toggle data) :=
  fun _ => ⟨rfl, rfl⟩
theorem Laws.Timed.sdoDownloadSegment (t : Nat) (idx sub : Nat) (toggle : Bool) (data : List Byte) : Laws.Timed.Statement (.sdoDownloadSegment t idx sub toggle data) :=
  fun _ => ⟨rfl, rfl⟩
theorem Laws.Timed.sdoUpload (t : Nat) (idx sub : Nat) (complete : Bool) : Laws.Timed.Statement (.sdoUpload t idx sub complete) :=
  fun _ => ⟨rfl, rfl⟩
theorem Laws.Timed.sdoInformation (t : Nat) (req : SdoInfo) : Laws.Timed.Statement (.sdoInformation t req) :=
  fun _ => ⟨rfl, rfl⟩
theorem Laws.Timed.sdoProtocolTimeout (t : Nat) : Laws.Timed.Statement (.sdoProtocolTimeout t) :=
  fun _ => ⟨rfl, rfl⟩
theorem Laws.Timed.mailboxServiceUnsupported (t : Nat) (svc : MbxService) : Laws.Timed.Statement (.mailboxServiceUnsupported t svc) :=
  fun _ => ⟨rfl, rfl⟩
theorem Laws.Timed.alStateRequest (t : Nat) (want : AlState) (sync1 : Bool) : Laws.Timed.Statement (.alStateRequest t want sync1) :=
  fun _ => ⟨rfl, rfl⟩
theorem Laws.Timed.foeDownload (t : Nat) (nameOk : Bool) (image : FwImage) : Laws.Timed.Statement (.foeDownload t nameOk image) :=
  fun _ => ⟨rfl, rfl⟩
theorem Laws.Timed.foeVerifyComplete (t : Nat) : Laws.Timed.Statement (.foeVerifyComplete t) :=
  fun _ => ⟨rfl, rfl⟩
theorem Laws.Timed.rxpdoApply (t : Nat) (ev : SyncEvent) (data : List Byte) : Laws.Timed.Statement (.rxpdoApply t ev data) :=
  fun _ => ⟨rfl, rfl⟩
theorem Laws.Timed.txpdoLatch (t : Nat) (ev : SyncEvent) : Laws.Timed.Statement (.txpdoLatch t ev) :=
  fun _ => ⟨rfl, rfl⟩
theorem Laws.Timed.jobStart (t : Nat) (orig : Orig) : Laws.Timed.Statement (.jobStart t orig) :=
  fun _ => ⟨rfl, rfl⟩
theorem Laws.Timed.jobEnd (t : Nat) (orig : Orig) : Laws.Timed.Statement (.jobEnd t orig) :=
  fun _ => ⟨rfl, rfl⟩
theorem Laws.Timed.faultAck (t : Nat) (orig : Orig) : Laws.Timed.Statement (.faultAck t orig) :=
  fun _ => ⟨rfl, rfl⟩
theorem Laws.Timed.safeControl (t : Nat) (orig : Orig) (v : Bool) : Laws.Timed.Statement (.safeControl t orig v) :=
  fun _ => ⟨rfl, rfl⟩
theorem Laws.Timed.startAtSync1 (t : Nat) (orig : Orig) : Laws.Timed.Statement (.startAtSync1 t orig) :=
  fun _ => ⟨rfl, rfl⟩
theorem Laws.Timed.sync1Event (t : Nat) : Laws.Timed.Statement (.sync1Event t) :=
  fun _ => ⟨rfl, rfl⟩
theorem Laws.Timed.sync1WaitTimeout (t : Nat) : Laws.Timed.Statement (.sync1WaitTimeout t) :=
  fun _ => ⟨rfl, rfl⟩
theorem Laws.Timed.sm2WatchdogExpiry (t : Nat) (opLeft : Bool) : Laws.Timed.Statement (.sm2WatchdogExpiry t opLeft) :=
  fun _ => ⟨rfl, rfl⟩
theorem Laws.Timed.dcSyncLost (t : Nat) (stopped sync1 : Bool) (diff : Int) : Laws.Timed.Statement (.dcSyncLost t stopped sync1 diff) :=
  fun _ => ⟨rfl, rfl⟩
theorem Laws.Timed.dcSyncRegained (t : Nat) (sync1 : Bool) (diff : Int) : Laws.Timed.Statement (.dcSyncRegained t sync1 diff) :=
  fun _ => ⟨rfl, rfl⟩
theorem Laws.Timed.objectWrite (t : Nat) (orig : Orig) (idx sub : Nat) (data : List Byte) : Laws.Timed.Statement (.objectWrite t orig idx sub data) :=
  fun _ => ⟨rfl, rfl⟩
theorem Laws.Timed.modeRequest (t : Nat) (orig : Orig) (v : Byte) : Laws.Timed.Statement (.modeRequest t orig v) :=
  fun _ => ⟨rfl, rfl⟩
theorem Laws.Timed.modeTransitionComplete (t : Nat) : Laws.Timed.Statement (.modeTransitionComplete t) :=
  fun _ => ⟨rfl, rfl⟩
theorem Laws.Timed.ownershipTransfer (t : Nat) (orig : Orig) (dom : Nat) (v : Byte) : Laws.Timed.Statement (.ownershipTransfer t orig dom v) :=
  fun _ => ⟨rfl, rfl⟩
theorem Laws.Timed.takeover (t : Nat) (orig : Orig) (sig : Word32) : Laws.Timed.Statement (.takeover t orig sig) :=
  fun _ => ⟨rfl, rfl⟩
theorem Laws.Timed.pendingViewSelect (t : Nat) (orig : Orig) (v : Word32) : Laws.Timed.Statement (.pendingViewSelect t orig v) :=
  fun _ => ⟨rfl, rfl⟩
theorem Laws.Timed.storeAll (t : Nat) (orig : Orig) (sig : Word32) (flashOk : Bool) : Laws.Timed.Statement (.storeAll t orig sig flashOk) :=
  fun _ => ⟨rfl, rfl⟩
theorem Laws.Timed.restoreDefaults (t : Nat) (orig : Orig) (sig : Word32) : Laws.Timed.Statement (.restoreDefaults t orig sig) :=
  fun _ => ⟨rfl, rfl⟩
theorem Laws.Timed.errorHistoryClear (t : Nat) (orig : Orig) (v : Byte) : Laws.Timed.Statement (.errorHistoryClear t orig v) :=
  fun _ => ⟨rfl, rfl⟩
theorem Laws.Timed.eventAcknowledge (t : Nat) (orig : Orig) (v : Byte) : Laws.Timed.Statement (.eventAcknowledge t orig v) :=
  fun _ => ⟨rfl, rfl⟩
theorem Laws.Timed.mbxGo (t : Nat) : Laws.Timed.Statement (.mbxGo t) :=
  fun _ => ⟨rfl, rfl⟩
theorem Laws.Timed.mbxAbort (t : Nat) (late : Bool) : Laws.Timed.Statement (.mbxAbort t late) :=
  fun _ => ⟨rfl, rfl⟩
theorem Laws.Timed.mbxStatClear (t : Nat) (v : Word32) : Laws.Timed.Statement (.mbxStatClear t v) :=
  fun _ => ⟨rfl, rfl⟩
theorem Laws.Timed.mbxRead (t : Nat) : Laws.Timed.Statement (.mbxRead t) :=
  fun _ => ⟨rfl, rfl⟩
theorem Laws.Timed.mbxWrite (t : Nat) : Laws.Timed.Statement (.mbxWrite t) :=
  fun _ => ⟨rfl, rfl⟩
theorem Laws.Timed.mbxReadPending (t : Nat) : Laws.Timed.Statement (.mbxReadPending t) :=
  fun _ => ⟨rfl, rfl⟩
theorem Laws.Timed.mbxReadAll (t : Nat) : Laws.Timed.Statement (.mbxReadAll t) :=
  fun _ => ⟨rfl, rfl⟩
theorem Laws.Timed.mbxWriteAll (t : Nat) : Laws.Timed.Statement (.mbxWriteAll t) :=
  fun _ => ⟨rfl, rfl⟩
theorem Laws.Timed.mbxDescribe (t : Nat) : Laws.Timed.Statement (.mbxDescribe t) :=
  fun _ => ⟨rfl, rfl⟩
theorem Laws.Timed.mbxOpcodeInvalid (t : Nat) : Laws.Timed.Statement (.mbxOpcodeInvalid t) :=
  fun _ => ⟨rfl, rfl⟩
theorem Laws.Timed.twSafeSet (t : Nat) : Laws.Timed.Statement (.twSafeSet t) :=
  fun _ => ⟨rfl, rfl⟩
theorem Laws.Timed.twSafeClear (t : Nat) : Laws.Timed.Statement (.twSafeClear t) :=
  fun _ => ⟨rfl, rfl⟩
theorem Laws.Timed.twLiveTest (t : Nat) : Laws.Timed.Statement (.twLiveTest t) :=
  fun _ => ⟨rfl, rfl⟩
theorem Laws.Timed.liveResume (t : Nat) : Laws.Timed.Statement (.liveResume t) :=
  fun _ => ⟨rfl, rfl⟩
theorem Laws.Timed.twByteRefused (t : Nat) (first : Bool) (v : Byte) : Laws.Timed.Statement (.twByteRefused t first v) :=
  fun _ => ⟨rfl, rfl⟩
theorem Laws.Timed.twBusRelease (t : Nat) (ev : TwBus) : Laws.Timed.Statement (.twBusRelease t ev) :=
  fun _ => ⟨rfl, rfl⟩
theorem Laws.Timed.safeLatchWrite (t : Nat) (orig : Orig) (v : Byte) : Laws.Timed.Statement (.safeLatchWrite t orig v) :=
  fun _ => ⟨rfl, rfl⟩
theorem Laws.Timed.refBufferEnable (t : Nat) (orig : Orig) : Laws.Timed.Statement (.refBufferEnable t orig) :=
  fun _ => ⟨rfl, rfl⟩
theorem Laws.Timed.refBufferDisable (t : Nat) (orig : Orig) : Laws.Timed.Statement (.refBufferDisable t orig) :=
  fun _ => ⟨rfl, rfl⟩
theorem Laws.Timed.refBufferSettled (t : Nat) (q : Fin 16) : Laws.Timed.Statement (.refBufferSettled t q) :=
  fun _ => ⟨rfl, rfl⟩
theorem Laws.Timed.refBufferWindow (t : Nat) (q : Fin 16) : Laws.Timed.Statement (.refBufferWindow t q) :=
  fun _ => ⟨rfl, rfl⟩
theorem Laws.Timed.refBufferWindowReturn (t : Nat) (q : Fin 16) : Laws.Timed.Statement (.refBufferWindowReturn t q) :=
  fun _ => ⟨rfl, rfl⟩
theorem Laws.Timed.exposureCommitPoint (t : Nat) : Laws.Timed.Statement (.exposureCommitPoint t) :=
  fun _ => ⟨rfl, rfl⟩
theorem Laws.Timed.exposureReset (t : Nat) (m : Nat) (b : Bool) (stripe : Fin 6) : Laws.Timed.Statement (.exposureReset t m b stripe) :=
  fun _ => ⟨rfl, rfl⟩
theorem Laws.Timed.exposureTransfer (t : Nat) (m : Nat) (b : Bool) (stripe : Fin 6) : Laws.Timed.Statement (.exposureTransfer t m b stripe) :=
  fun _ => ⟨rfl, rfl⟩
theorem Laws.Timed.rowConversion (t : Nat) (seg : Fin 8) (south : Bool) (kind : RowKind) (start : Nat) (cols : List ColSample) : Laws.Timed.Statement (.rowConversion t seg south kind start cols) :=
  fun _ => ⟨rfl, rfl⟩
theorem Laws.Timed.freeRowSlot (t : Nat) (south : Bool) (fits : Bool) : Laws.Timed.Statement (.freeRowSlot t south fits) :=
  fun _ => ⟨rfl, rfl⟩
theorem Laws.Timed.convStepTakeover (t : Nat) (q : Fin 16) : Laws.Timed.Statement (.convStepTakeover t q) :=
  fun _ => ⟨rfl, rfl⟩
theorem Laws.Timed.convSettleEnd (t : Nat) (q : Fin 16) : Laws.Timed.Statement (.convSettleEnd t q) :=
  fun _ => ⟨rfl, rfl⟩
theorem Laws.Timed.convMeasureEnd (t : Nat) (q : Fin 16) (res : List ConvResult) : Laws.Timed.Statement (.convMeasureEnd t q res) :=
  fun _ => ⟨rfl, rfl⟩
theorem Laws.Timed.convVerifyEnd (t : Nat) (q : Fin 16) (mids : List MidResult) : Laws.Timed.Statement (.convVerifyEnd t q mids) :=
  fun _ => ⟨rfl, rfl⟩
theorem Laws.Timed.convStepHandback (t : Nat) (q : Fin 16) : Laws.Timed.Statement (.convStepHandback t q) :=
  fun _ => ⟨rfl, rfl⟩
theorem Laws.Timed.fgCalStart (t : Nat) (orig : Orig) : Laws.Timed.Statement (.fgCalStart t orig) :=
  fun _ => ⟨rfl, rfl⟩
theorem Laws.Timed.fgCalComplete (t : Nat) (res : List (Nat × Nat × List (ConvResult × MidResult))) (defects : List Defect) : Laws.Timed.Statement (.fgCalComplete t res defects) :=
  fun _ => ⟨rfl, rfl⟩
theorem Laws.Timed.fgCalSave (t : Nat) (orig : Orig) : Laws.Timed.Statement (.fgCalSave t orig) :=
  fun _ => ⟨rfl, rfl⟩
theorem Laws.Timed.fgCalSaveComplete (t : Nat) (ok : Bool) : Laws.Timed.Statement (.fgCalSaveComplete t ok) :=
  fun _ => ⟨rfl, rfl⟩
theorem Laws.Timed.fgCalAbort (t : Nat) (orig : Orig) (late : Bool) : Laws.Timed.Statement (.fgCalAbort t orig late) :=
  fun _ => ⟨rfl, rfl⟩
theorem Laws.Timed.fgCalRestoreFactory (t : Nat) (orig : Orig) : Laws.Timed.Statement (.fgCalRestoreFactory t orig) :=
  fun _ => ⟨rfl, rfl⟩
theorem Laws.Timed.encoderEdge (t : Nat) (enc : Fin 2) (kind : EdgeKind) : Laws.Timed.Statement (.encoderEdge t enc kind) :=
  fun _ => ⟨rfl, rfl⟩
theorem Laws.Timed.encoderZ (t : Nat) (enc : Fin 2) : Laws.Timed.Statement (.encoderZ t enc) :=
  fun _ => ⟨rfl, rfl⟩
theorem Laws.Timed.encoderLost (t : Nat) : Laws.Timed.Statement (.encoderLost t) :=
  fun _ => ⟨rfl, rfl⟩
theorem Laws.Timed.stopDeclared (t : Nat) : Laws.Timed.Statement (.stopDeclared t) :=
  fun _ => ⟨rfl, rfl⟩
theorem Laws.Timed.coastingLimit (t : Nat) : Laws.Timed.Statement (.coastingLimit t) :=
  fun _ => ⟨rfl, rfl⟩
theorem Laws.Timed.velocimetrySample (t : Nat) (south : Bool) (m : Nat) : Laws.Timed.Statement (.velocimetrySample t south m) :=
  fun _ => ⟨rfl, rfl⟩
theorem Laws.Timed.velocimetryValidityLapse (t : Nat) : Laws.Timed.Statement (.velocimetryValidityLapse t) :=
  fun _ => ⟨rfl, rfl⟩
theorem Laws.Timed.alarmDeadline (t : Nat) (ch : Fin 64) : Laws.Timed.Statement (.alarmDeadline t ch) :=
  fun _ => ⟨rfl, rfl⟩
theorem Laws.Timed.sheetTrigger (t : Nat) (input : Fin 4) (rising : Bool) : Laws.Timed.Statement (.sheetTrigger t input rising) :=
  fun _ => ⟨rfl, rfl⟩
theorem Laws.Timed.sheetLimitReached (t : Nat) : Laws.Timed.Statement (.sheetLimitReached t) :=
  fun _ => ⟨rfl, rfl⟩
theorem Laws.Timed.trigEdge (t : Nat) (input : Fin 4) (rising : Bool) : Laws.Timed.Statement (.trigEdge t input rising) :=
  fun _ => ⟨rfl, rfl⟩
theorem Laws.Timed.motionCommit (t : Nat) (orig : Orig) (v : Byte) : Laws.Timed.Statement (.motionCommit t orig v) :=
  fun _ => ⟨rfl, rfl⟩
theorem Laws.Timed.epochStart (t : Nat) : Laws.Timed.Statement (.epochStart t) :=
  fun _ => ⟨rfl, rfl⟩
theorem Laws.Timed.rowPacketArrival (t : Nat) (seg : Fin 8) (crcOk : Bool) (lockOk : Bool) : Laws.Timed.Statement (.rowPacketArrival t seg crcOk lockOk) :=
  fun _ => ⟨rfl, rfl⟩
theorem Laws.Timed.rowPacketTimeout (t : Nat) (seg : Fin 8) : Laws.Timed.Statement (.rowPacketTimeout t seg) :=
  fun _ => ⟨rfl, rfl⟩
theorem Laws.Timed.lineComplete (t : Nat) : Laws.Timed.Statement (.lineComplete t) :=
  fun _ => ⟨rfl, rfl⟩
theorem Laws.Timed.lineResolved (t : Nat) : Laws.Timed.Statement (.lineResolved t) :=
  fun _ => ⟨rfl, rfl⟩
theorem Laws.Timed.jobEndTimeout (t : Nat) : Laws.Timed.Statement (.jobEndTimeout t) :=
  fun _ => ⟨rfl, rfl⟩
theorem Laws.Timed.jobEnded (t : Nat) : Laws.Timed.Statement (.jobEnded t) :=
  fun _ => ⟨rfl, rfl⟩
theorem Laws.Timed.contextCommit (t : Nat) (orig : Orig) (c : Fin 4) : Laws.Timed.Statement (.contextCommit t orig c) :=
  fun _ => ⟨rfl, rfl⟩
theorem Laws.Timed.contextDiscard (t : Nat) (orig : Orig) (c : Fin 4) : Laws.Timed.Statement (.contextDiscard t orig c) :=
  fun _ => ⟨rfl, rfl⟩
theorem Laws.Timed.auxEnable (t : Nat) (orig : Orig) (p : Fin 2) (v : Byte) : Laws.Timed.Statement (.auxEnable t orig p v) :=
  fun _ => ⟨rfl, rfl⟩
theorem Laws.Timed.auxStartOfFrame (t : Nat) (p : Fin 2) (vs : Bool) : Laws.Timed.Statement (.auxStartOfFrame t p vs) :=
  fun _ => ⟨rfl, rfl⟩
theorem Laws.Timed.auxLine (t : Nat) (p : Fin 2) (samples : List AuxSample) : Laws.Timed.Statement (.auxLine t p samples) :=
  fun _ => ⟨rfl, rfl⟩
theorem Laws.Timed.auxEndOfFrame (t : Nat) (p : Fin 2) (vs : Bool) : Laws.Timed.Statement (.auxEndOfFrame t p vs) :=
  fun _ => ⟨rfl, rfl⟩
theorem Laws.Timed.sidePathFrameStart (t : Nat) : Laws.Timed.Statement (.sidePathFrameStart t) :=
  fun _ => ⟨rfl, rfl⟩
theorem Laws.Timed.sidePathFrameEnd (t : Nat) : Laws.Timed.Statement (.sidePathFrameEnd t) :=
  fun _ => ⟨rfl, rfl⟩
theorem Laws.Timed.statsBlockWrite (t : Nat) (c : Fin 4) : Laws.Timed.Statement (.statsBlockWrite t c) :=
  fun _ => ⟨rfl, rfl⟩
theorem Laws.Timed.displayTileRow (t : Nat) : Laws.Timed.Statement (.displayTileRow t) :=
  fun _ => ⟨rfl, rfl⟩
theorem Laws.Timed.archivePicture (t : Nat) : Laws.Timed.Statement (.archivePicture t) :=
  fun _ => ⟨rfl, rfl⟩
theorem Laws.Timed.archiveSuspend (t : Nat) : Laws.Timed.Statement (.archiveSuspend t) :=
  fun _ => ⟨rfl, rfl⟩
theorem Laws.Timed.archiveResume (t : Nat) : Laws.Timed.Statement (.archiveResume t) :=
  fun _ => ⟨rfl, rfl⟩
theorem Laws.Timed.mvFrameStart (t : Nat) (c : Fin 2) : Laws.Timed.Statement (.mvFrameStart t c) :=
  fun _ => ⟨rfl, rfl⟩
theorem Laws.Timed.engineEarlyStage (t : Nat) (slice : Nat) (line : Nat) : Laws.Timed.Statement (.engineEarlyStage t slice line) :=
  fun _ => ⟨rfl, rfl⟩
theorem Laws.Timed.verdictStage (t : Nat) (slice : Nat) : Laws.Timed.Statement (.verdictStage t slice) :=
  fun _ => ⟨rfl, rfl⟩
theorem Laws.Timed.neighbourMessage (t : Nat) (msg : NbrMsg) : Laws.Timed.Statement (.neighbourMessage t msg) :=
  fun _ => ⟨rfl, rfl⟩
theorem Laws.Timed.recordCollectorWrite (t : Nat) : Laws.Timed.Statement (.recordCollectorWrite t) :=
  fun _ => ⟨rfl, rfl⟩
theorem Laws.Timed.pglDescriptorRead (t : Nat) (ok : Bool) (desc : List Byte) (regions : List Byte) : Laws.Timed.Statement (.pglDescriptorRead t ok desc regions) :=
  fun _ => ⟨rfl, rfl⟩
theorem Laws.Timed.refLineRequest (t : Nat) : Laws.Timed.Statement (.refLineRequest t) :=
  fun _ => ⟨rfl, rfl⟩
theorem Laws.Timed.refLineArrival (t : Nat) (ok : Bool) (data : List Byte) : Laws.Timed.Statement (.refLineArrival t ok data) :=
  fun _ => ⟨rfl, rfl⟩
theorem Laws.Timed.refLinePlace (t : Nat) : Laws.Timed.Statement (.refLinePlace t) :=
  fun _ => ⟨rfl, rfl⟩
theorem Laws.Timed.pageDone (t : Nat) : Laws.Timed.Statement (.pageDone t) :=
  fun _ => ⟨rfl, rfl⟩
theorem Laws.Timed.engineStepStart (t : Nat) (seg : Fin 8) : Laws.Timed.Statement (.engineStepStart t seg) :=
  fun _ => ⟨rfl, rfl⟩
theorem Laws.Timed.engineTakeover (t : Nat) (seg : Fin 8) : Laws.Timed.Statement (.engineTakeover t seg) :=
  fun _ => ⟨rfl, rfl⟩
theorem Laws.Timed.engineSelfTestEnd (t : Nat) (seg : Fin 8) (pass : Bool) : Laws.Timed.Statement (.engineSelfTestEnd t seg pass) :=
  fun _ => ⟨rfl, rfl⟩
theorem Laws.Timed.engineHandback (t : Nat) (seg : Fin 8) : Laws.Timed.Statement (.engineHandback t seg) :=
  fun _ => ⟨rfl, rfl⟩
theorem Laws.Timed.engineStall (t : Nat) (seg : Fin 8) (engine : Fin 65) (last firstOpen : Nat) : Laws.Timed.Statement (.engineStall t seg engine last firstOpen) :=
  fun _ => ⟨rfl, rfl⟩
theorem Laws.Timed.kernelPackageWrite (t : Nat) (orig : Orig) (signed : Bool) (data : List Byte) : Laws.Timed.Statement (.kernelPackageWrite t orig signed data) :=
  fun _ => ⟨rfl, rfl⟩
theorem Laws.Timed.tinkerStep (t : Nat) (n : Fin 16) (ext : Word32) : Laws.Timed.Statement (.tinkerStep t n ext) :=
  fun _ => ⟨rfl, rfl⟩
theorem Laws.Timed.tinkerStallRetry (t : Nat) (n : Fin 16) : Laws.Timed.Statement (.tinkerStallRetry t n) :=
  fun _ => ⟨rfl, rfl⟩
theorem Laws.Timed.tkStart (t : Nat) (viaBar : Bool) (orig : Orig) (mask : Word16) : Laws.Timed.Statement (.tkStart t viaBar orig mask) :=
  fun _ => ⟨rfl, rfl⟩
theorem Laws.Timed.tkStop (t : Nat) (viaBar : Bool) (orig : Orig) (mask : Word16) : Laws.Timed.Statement (.tkStop t viaBar orig mask) :=
  fun _ => ⟨rfl, rfl⟩
theorem Laws.Timed.tkAutostart (t : Nat) : Laws.Timed.Statement (.tkAutostart t) :=
  fun _ => ⟨rfl, rfl⟩
theorem Laws.Timed.tkDoStep (t : Nat) (n : Fin 16) (ext : Word32) : Laws.Timed.Statement (.tkDoStep t n ext) :=
  fun _ => ⟨rfl, rfl⟩
theorem Laws.Timed.tkInject (t : Nat) (n : Fin 16) (ext : Word32) : Laws.Timed.Statement (.tkInject t n ext) :=
  fun _ => ⟨rfl, rfl⟩
theorem Laws.Timed.tkClearErr (t : Nat) (n : Fin 16) : Laws.Timed.Statement (.tkClearErr t n) :=
  fun _ => ⟨rfl, rfl⟩
theorem Laws.Timed.tkRxWrite (t : Nat) (viaBar : Bool) (orig : Orig) (n : Fin 16) (w : Word32) : Laws.Timed.Statement (.tkRxWrite t viaBar orig n w) :=
  fun _ => ⟨rfl, rfl⟩
theorem Laws.Timed.tkTxRead (t : Nat) (viaBar : Bool) (orig : Orig) (n : Fin 16) : Laws.Timed.Statement (.tkTxRead t viaBar orig n) :=
  fun _ => ⟨rfl, rfl⟩
theorem Laws.Timed.tkIrqClear (t : Nat) (mask : Word32) : Laws.Timed.Statement (.tkIrqClear t mask) :=
  fun _ => ⟨rfl, rfl⟩
theorem Laws.Timed.alarmDelivery (t : Nat) : Laws.Timed.Statement (.alarmDelivery t) :=
  fun _ => ⟨rfl, rfl⟩
theorem Laws.Timed.routeChange (t : Nat) : Laws.Timed.Statement (.routeChange t) :=
  fun _ => ⟨rfl, rfl⟩
theorem Laws.Timed.barWrite (t : Nat) (space : Space) (off : Nat) (size : Nat) (v : Word64) : Laws.Timed.Statement (.barWrite t space off size v) :=
  fun _ => ⟨rfl, rfl⟩
theorem Laws.Timed.pllApply (t : Nat) (orig : Orig) (v : Byte) : Laws.Timed.Statement (.pllApply t orig v) :=
  fun _ => ⟨rfl, rfl⟩
theorem Laws.Timed.pllSearchWindow (t : Nat) (pllT : Bool) (ppm : Int) (phaseOk : Bool) : Laws.Timed.Statement (.pllSearchWindow t pllT ppm phaseOk) :=
  fun _ => ⟨rfl, rfl⟩
theorem Laws.Timed.outputRestart (t : Nat) (pllT : Bool) : Laws.Timed.Statement (.outputRestart t pllT) :=
  fun _ => ⟨rfl, rfl⟩
theorem Laws.Timed.pllUnlock (t : Nat) (pllT : Bool) : Laws.Timed.Statement (.pllUnlock t pllT) :=
  fun _ => ⟨rfl, rfl⟩
theorem Laws.Timed.refinLost (t : Nat) : Laws.Timed.Statement (.refinLost t) :=
  fun _ => ⟨rfl, rfl⟩
theorem Laws.Timed.refinReturn (t : Nat) (ppm : Int) (errPs : Int) : Laws.Timed.Statement (.refinReturn t ppm errPs) :=
  fun _ => ⟨rfl, rfl⟩
theorem Laws.Timed.slewComplete (t : Nat) (pllT : Bool) : Laws.Timed.Statement (.slewComplete t pllT) :=
  fun _ => ⟨rfl, rfl⟩
theorem Laws.Timed.holdoverExpired (t : Nat) : Laws.Timed.Statement (.holdoverExpired t) :=
  fun _ => ⟨rfl, rfl⟩
theorem Laws.Timed.pllTRestart (t : Nat) : Laws.Timed.Statement (.pllTRestart t) :=
  fun _ => ⟨rfl, rfl⟩
theorem Laws.Timed.fineDelayStep (t : Nat) (seg : Fin 8) : Laws.Timed.Statement (.fineDelayStep t seg) :=
  fun _ => ⟨rfl, rfl⟩
theorem Laws.Timed.dramRequest (t : Nat) (port : Fin 6) (dpa : Nat) (op : DramOp) : Laws.Timed.Statement (.dramRequest t port dpa op) :=
  fun _ => ⟨rfl, rfl⟩
theorem Laws.Timed.dramCommand (t : Nat) (chan : Fin 5) (res : DramOutcome) : Laws.Timed.Statement (.dramCommand t chan res) :=
  fun _ => ⟨rfl, rfl⟩
theorem Laws.Timed.perBankRefresh (t : Nat) (rank : Fin 10) (scrubErrors : Nat) : Laws.Timed.Statement (.perBankRefresh t rank scrubErrors) :=
  fun _ => ⟨rfl, rfl⟩
theorem Laws.Timed.rowIdleClose (t : Nat) (rank : Fin 10) (bank : Fin 16) : Laws.Timed.Statement (.rowIdleClose t rank bank) :=
  fun _ => ⟨rfl, rfl⟩
theorem Laws.Timed.wckDqMeasure (t : Nat) (drift : List Int) : Laws.Timed.Statement (.wckDqMeasure t drift) :=
  fun _ => ⟨rfl, rfl⟩
theorem Laws.Timed.mr4Read (t : Nat) (need : List Nat) : Laws.Timed.Statement (.mr4Read t need) :=
  fun _ => ⟨rfl, rfl⟩
theorem Laws.Timed.errorWindowRestart (t : Nat) : Laws.Timed.Statement (.errorWindowRestart t) :=
  fun _ => ⟨rfl, rfl⟩
theorem Laws.Timed.retireLogicalRank (t : Nat) (orig : Orig) (v : Byte) : Laws.Timed.Statement (.retireLogicalRank t orig v) :=
  fun _ => ⟨rfl, rfl⟩
theorem Laws.Timed.migrationAbort (t : Nat) (orig : Orig) : Laws.Timed.Statement (.migrationAbort t orig) :=
  fun _ => ⟨rfl, rfl⟩
theorem Laws.Timed.migrationDone (t : Nat) : Laws.Timed.Statement (.migrationDone t) :=
  fun _ => ⟨rfl, rfl⟩
theorem Laws.Timed.mergeIdleRetire (t : Nat) (addr : Nat) (port : Nat) (found : WordOutcome) : Laws.Timed.Statement (.mergeIdleRetire t addr port found) :=
  fun _ => ⟨rfl, rfl⟩
theorem Laws.Timed.sweepRead (t : Nat) (region : Fin 5) (bank : Nat) (found : WordOutcome) : Laws.Timed.Statement (.sweepRead t region bank found) :=
  fun _ => ⟨rfl, rfl⟩
theorem Laws.Timed.lamplighterRead (t : Nat) (found : WordOutcome) : Laws.Timed.Statement (.lamplighterRead t found) :=
  fun _ => ⟨rfl, rfl⟩
theorem Laws.Timed.shadowRewrite (t : Nat) (addr : Nat) : Laws.Timed.Statement (.shadowRewrite t addr) :=
  fun _ => ⟨rfl, rfl⟩
theorem Laws.Timed.injectionArm (t : Nat) (orig : Orig) : Laws.Timed.Statement (.injectionArm t orig) :=
  fun _ => ⟨rfl, rfl⟩
theorem Laws.Timed.injectionDisarm (t : Nat) (orig : Orig) : Laws.Timed.Statement (.injectionDisarm t orig) :=
  fun _ => ⟨rfl, rfl⟩
theorem Laws.Timed.perstNAssert (t : Nat) (kind : AttachReset) : Laws.Timed.Statement (.perstNAssert t kind) :=
  fun _ => ⟨rfl, rfl⟩
theorem Laws.Timed.flr (t : Nat) : Laws.Timed.Statement (.flr t) :=
  fun _ => ⟨rfl, rfl⟩
theorem Laws.Timed.hostLinkDown (t : Nat) (cause : LinkDownCause) : Laws.Timed.Statement (.hostLinkDown t cause) :=
  fun _ => ⟨rfl, rfl⟩
theorem Laws.Timed.hostLinkUp (t : Nat) : Laws.Timed.Statement (.hostLinkUp t) :=
  fun _ => ⟨rfl, rfl⟩
theorem Laws.Timed.linkTrained (t : Nat) (width rate10 : Nat) (cxl : Bool) : Laws.Timed.Statement (.linkTrained t width rate10 cxl) :=
  fun _ => ⟨rfl, rfl⟩
theorem Laws.Timed.doorbell (t : Nat) (ring : Fin 10) (v : Word32) : Laws.Timed.Statement (.doorbell t ring v) :=
  fun _ => ⟨rfl, rfl⟩
theorem Laws.Timed.ringEnable (t : Nat) (ring : Fin 10) : Laws.Timed.Statement (.ringEnable t ring) :=
  fun _ => ⟨rfl, rfl⟩
theorem Laws.Timed.ringDisable (t : Nat) (ring : Fin 10) : Laws.Timed.Statement (.ringDisable t ring) :=
  fun _ => ⟨rfl, rfl⟩
theorem Laws.Timed.ringEntryIssue (t : Nat) (ring : Fin 6) : Laws.Timed.Statement (.ringEntryIssue t ring) :=
  fun _ => ⟨rfl, rfl⟩
theorem Laws.Timed.holdDrain (t : Nat) (ring : Fin 6) (found : HoldRead) : Laws.Timed.Statement (.holdDrain t ring found) :=
  fun _ => ⟨rfl, rfl⟩
theorem Laws.Timed.holdEmptied (t : Nat) : Laws.Timed.Statement (.holdEmptied t) :=
  fun _ => ⟨rfl, rfl⟩
theorem Laws.Timed.holdOverflow (t : Nat) (ring : Fin 6) : Laws.Timed.Statement (.holdOverflow t ring) :=
  fun _ => ⟨rfl, rfl⟩
theorem Laws.Timed.irqTimeThreshold (t : Nat) (ring : Fin 7) : Laws.Timed.Statement (.irqTimeThreshold t ring) :=
  fun _ => ⟨rfl, rfl⟩
theorem Laws.Timed.evtSummaryClear (t : Nat) (v : Word32) : Laws.Timed.Statement (.evtSummaryClear t v) :=
  fun _ => ⟨rfl, rfl⟩
theorem Laws.Timed.biasFlipDevice (t : Nat) (orig : Orig) : Laws.Timed.Statement (.biasFlipDevice t orig) :=
  fun _ => ⟨rfl, rfl⟩
theorem Laws.Timed.biasFlipHost (t : Nat) (orig : Orig) : Laws.Timed.Statement (.biasFlipHost t orig) :=
  fun _ => ⟨rfl, rfl⟩
theorem Laws.Timed.biasDone (t : Nat) : Laws.Timed.Statement (.biasDone t) :=
  fun _ => ⟨rfl, rfl⟩
theorem Laws.Timed.cxlMemRequest (t : Nat) (off : Nat) (op : DramOp) : Laws.Timed.Statement (.cxlMemRequest t off op) :=
  fun _ => ⟨rfl, rfl⟩
theorem Laws.Timed.snoop (t : Nat) (addr : Nat) (invalidate : Bool) : Laws.Timed.Statement (.snoop t addr invalidate) :=
  fun _ => ⟨rfl, rfl⟩
theorem Laws.Timed.linkBringUp (t : Nat) (seg : Fin 8) (lanes : List LaneResult) : Laws.Timed.Statement (.linkBringUp t seg lanes) :=
  fun _ => ⟨rfl, rfl⟩
theorem Laws.Timed.eyeScan (t : Nat) (seg : Fin 8) (lane : Fin 9) (horiz vert bip8 : Nat) : Laws.Timed.Statement (.eyeScan t seg lane horiz vert bip8) :=
  fun _ => ⟨rfl, rfl⟩
theorem Laws.Timed.laneSpare (t : Nat) (orig : Option Orig) (lockLost : Bool) (seg : Fin 8) (lane : Fin 9) : Laws.Timed.Statement (.laneSpare t orig lockLost seg lane) :=
  fun _ => ⟨rfl, rfl⟩
theorem Laws.Timed.linkRetrain (t : Nat) (seg : Fin 8) (cause : RetrainCause) : Laws.Timed.Statement (.linkRetrain t seg cause) :=
  fun _ => ⟨rfl, rfl⟩
theorem Laws.Timed.retrainTimeout (t : Nat) (seg : Fin 8) : Laws.Timed.Statement (.retrainTimeout t seg) :=
  fun _ => ⟨rfl, rfl⟩
theorem Laws.Timed.bcCommandLost (t : Nat) (seg : Fin 8) (rows : List (Bool × RowKind)) : Laws.Timed.Statement (.bcCommandLost t seg rows) :=
  fun _ => ⟨rfl, rfl⟩
theorem Laws.Timed.statusBlock (t : Nat) (seg : Fin 8) (west east : Int) : Laws.Timed.Statement (.statusBlock t seg west east) :=
  fun _ => ⟨rfl, rfl⟩
theorem Laws.Timed.linkTestStart (t : Nat) (orig : Orig) : Laws.Timed.Statement (.linkTestStart t orig) :=
  fun _ => ⟨rfl, rfl⟩
theorem Laws.Timed.linkTestStop (t : Nat) (orig : Orig) : Laws.Timed.Statement (.linkTestStop t orig) :=
  fun _ => ⟨rfl, rfl⟩
theorem Laws.Timed.bitSlip (t : Nat) (orig : Orig) (lane : Byte) : Laws.Timed.Statement (.bitSlip t orig lane) :=
  fun _ => ⟨rfl, rfl⟩
theorem Laws.Timed.sleepCommand (t : Nat) (orig : Orig) (v : Byte) : Laws.Timed.Statement (.sleepCommand t orig v) :=
  fun _ => ⟨rfl, rfl⟩
theorem Laws.Timed.eventIssue (t : Nat) (code : Nat) (seg : Nat) (data : List Byte) : Laws.Timed.Statement (.eventIssue t code seg data) :=
  fun _ => ⟨rfl, rfl⟩
theorem Laws.Timed.heartbeatFailure (t : Nat) : Laws.Timed.Statement (.heartbeatFailure t) :=
  fun _ => ⟨rfl, rfl⟩
theorem Laws.Timed.heartbeatReset (t : Nat) : Laws.Timed.Statement (.heartbeatReset t) :=
  fun _ => ⟨rfl, rfl⟩
theorem Laws.Timed.throttleLevelStep (t : Nat) : Laws.Timed.Statement (.throttleLevelStep t) :=
  fun _ => ⟨rfl, rfl⟩
theorem Laws.Timed.thermalShutdown (t : Nat) : Laws.Timed.Statement (.thermalShutdown t) :=
  fun _ => ⟨rfl, rfl⟩
theorem Laws.Timed.reset (t : Nat) (cause : ResetCause) (straps : BitVec 5) : Laws.Timed.Statement (.reset t cause straps) :=
  fun _ => ⟨rfl, rfl⟩
theorem Laws.Timed.boot (t : Nat) (refPpm : Int) (trained : List Bool) : Laws.Timed.Statement (.boot t refPpm trained) :=
  fun _ => ⟨rfl, rfl⟩
theorem Laws.Timed.trialPromotion (t : Nat) : Laws.Timed.Statement (.trialPromotion t) :=
  fun _ => ⟨rfl, rfl⟩
theorem Laws.Timed.resetCommand (t : Nat) (orig : Orig) (sig : Word32) : Laws.Timed.Statement (.resetCommand t orig sig) :=
  fun _ => ⟨rfl, rfl⟩
theorem Laws.Timed.duskEntry (t : Nat) : Laws.Timed.Statement (.duskEntry t) :=
  fun _ => ⟨rfl, rfl⟩
theorem Laws.Timed.dawn (t : Nat) (pllOk : Bool) (drift : List Int) (trained : List Bool) (linksOk : Bool) (temps : List Int) : Laws.Timed.Statement (.dawn t pllOk drift trained linksOk temps) :=
  fun _ => ⟨rfl, rfl⟩
theorem Laws.Timed.holdupMeasure (t : Nat) (cap_uF esr_mohm vhold_mV : Nat) : Laws.Timed.Statement (.holdupMeasure t cap_uF esr_mohm vhold_mV) :=
  fun _ => ⟨rfl, rfl⟩
theorem Laws.Timed.powerFail (t : Nat) (byPin : Bool) (vin_mV : Nat) : Laws.Timed.Statement (.powerFail t byPin vin_mV) :=
  fun _ => ⟨rfl, rfl⟩
theorem Laws.Timed.complineSeal (t : Nat) : Laws.Timed.Statement (.complineSeal t) :=
  fun _ => ⟨rfl, rfl⟩
theorem Laws.Timed.complineRestart (t : Nat) (supplyGood : Bool) : Laws.Timed.Statement (.complineRestart t supplyGood) :=
  fun _ => ⟨rfl, rfl⟩
theorem Laws.Timed.complineAcknowledge (t : Nat) (orig : Orig) (v : Byte) : Laws.Timed.Statement (.complineAcknowledge t orig v) :=
  fun _ => ⟨rfl, rfl⟩
theorem Laws.Timed.scrivenerJournal (t : Nat) (flashOk : Bool) : Laws.Timed.Statement (.scrivenerJournal t flashOk) :=
  fun _ => ⟨rfl, rfl⟩
theorem Laws.Timed.compactionAuto (t : Nat) : Laws.Timed.Statement (.compactionAuto t) :=
  fun _ => ⟨rfl, rfl⟩
theorem Laws.Timed.compactionCommand (t : Nat) (orig : Orig) (v : Byte) : Laws.Timed.Statement (.compactionCommand t orig v) :=
  fun _ => ⟨rfl, rfl⟩
theorem Laws.Timed.compactionComplete (t : Nat) : Laws.Timed.Statement (.compactionComplete t) :=
  fun _ => ⟨rfl, rfl⟩
theorem Laws.Timed.thermalSample (t : Nat) (sensor : Fin 24) (centi : Int) : Laws.Timed.Statement (.thermalSample t sensor centi) :=
  fun _ => ⟨rfl, rfl⟩
theorem Laws.Timed.bandDecided (t : Nat) : Laws.Timed.Statement (.bandDecided t) :=
  fun _ => ⟨rfl, rfl⟩
theorem Laws.Timed.throughputReplicaMeasure (t : Nat) (block : Fin 14) (margin : Nat) : Laws.Timed.Statement (.throughputReplicaMeasure t block margin) :=
  fun _ => ⟨rfl, rfl⟩
theorem Laws.Timed.retrainComplete (t : Nat) (seg : Fin 8) : Laws.Timed.Statement (.retrainComplete t seg) :=
  fun _ => ⟨rfl, rfl⟩
theorem Laws.Timed.linkRecovery (t : Nat) : Laws.Timed.Statement (.linkRecovery t) :=
  fun _ => ⟨rfl, rfl⟩
theorem Laws.Timed.perstNRelease (t : Nat) : Laws.Timed.Statement (.perstNRelease t) :=
  fun _ => ⟨rfl, rfl⟩
theorem Laws.Timed.hdmDecoderCommit (t : Nat) (size : Nat) (ways : Nat) : Laws.Timed.Statement (.hdmDecoderCommit t size ways) :=
  fun _ => ⟨rfl, rfl⟩
theorem Laws.Timed.barRead (t : Nat) (space : Space) (off : Nat) (size : Nat) : Laws.Timed.Statement (.barRead t space off size) :=
  fun _ => ⟨rfl, rfl⟩

end Sys2Proof
end

