-- ==== Sys2Proof/Tests/Slice0.lean ====
section
/-!
SUPPORT. Tests: the checks of well-formedness refuse an ill-formed command each, worked examples of the
manual, and for every clause of every obligation a state and operands that meet all its hypotheses.
-/

set_option maxRecDepth 4000
set_option Elab.async false

namespace Sys2Proof.Tests

open Sys2Proof Sys2Proof.Machine

/-- A part of the hold is full when its ring takes nothing and it holds as many units as it can. -/
theorem full_part (c : Core) (i : Nat) (b : Bool) (h : c.ringOpen i = false)
    (hl : partCap i ≤ (c.ring i).held.length) : c.slotFree i b = false := by
  simp only [Core.slotFree, h, Bool.false_and, Bool.false_or, decide_eq_false_iff_not, Nat.not_lt]
  exact Nat.le_trans (Nat.sub_le _ _) (Nat.le_trans hl (Nat.le_add_right _ _))

/-- An entry of a domain fills a region with its bytes. -/
theorem full_region (e : JEntry) (l : List Byte) (g : JRegion) (hg : g.entries = [e]) (hb : e.bytes = l)
    (h : ((findRow (e.key / 256) (e.key % 256)).map (·.ty.bytes)) = some 0) (hl : 1572864 ≤ l.length) :
    75 ≤ g.fill := by
  obtain ⟨r, h1, h2⟩ := Option.map_eq_some_iff.mp h
  have hv : e.value' = l := by simp [JEntry.value', h1, h2, hb]
  have hs : FlashRegion.journal0.size = 2097152 := by decide
  simp only [JRegion.fill, hg, List.map_cons, List.map_nil, sumNat, List.foldl, JEntry.size, hv, hs]
  omega

/-- A core in a mode, its firmware running, REFIN there. -/
def st (m : Mode) (f : Core → Core := id) : State :=
  { State.reset with core := f { mode := m, pw := { fwRuns := true }, clk := { refOn := true } } }

/-- The same with a job running. -/
def jb (m : Mode) (f : Core → Core := id) : State := st m (fun c => f { c with job := { running := true } })

/-- Engine 3 of a tinker block whose ticks occur, with an entry for inputs that are all high. -/
def tkSt (entry : Nat) (f : Tk → Tk) (g : Core → Core := id) : State :=
  st .standby fun c => g ((((c.mapClk fun k => { k with tHeld := false }).putDom (0x2C80 + 3) 120
    (leBytes 8 entry)).mapSram fun m => { m with init := [(pageOf (lutAddr 3 0), pageOf (lutAddr 3 0))] }).mapTk fun k =>
      { k with engs := modAt k.engs 3 f })

/-- The core as a step at 8 ns finds it, and as a debugging command does. -/
def tkIn (s : State) : Core := s.core.tkEnter 8 0xFFFFFFFF
def tkDb (s : State) : Core := (s.core.tkSync 8).pinsTake 8 0xFFFFFFFF

/-! ### Ill-formed commands -/

theorem test_ill_formed_sdoDownload :
    Instr.wellFormed (.sdoDownload 1 65536 0 false true false []) = false := by decide +kernel

theorem test_ill_formed_sdoDownload_sub :
    Instr.wellFormed (.sdoDownload 1 0x2420 256 false true false []) = false := by decide +kernel

theorem test_ill_formed_sdo_segment :
    Instr.wellFormed (.sdoDownloadSegment 1 0x2420 0 false (List.replicate 506 0)) = false := by decide +kernel

theorem test_ill_formed_sdo_segment_index :
    Instr.wellFormed (.sdoDownloadSegment 1 65536 0 false []) = false := by decide +kernel

theorem test_ill_formed_sdo_segment_sub :
    Instr.wellFormed (.sdoDownloadSegment 1 0 256 false []) = false := by decide +kernel

theorem test_ill_formed_sdo_upload :
    Instr.wellFormed (.sdoUpload 1 65536 0 false) = false := by decide +kernel

theorem test_ill_formed_sdo_upload_sub :
    Instr.wellFormed (.sdoUpload 1 0 256 false) = false := by decide +kernel

theorem test_ill_formed_object_write :
    Instr.wellFormed (.objectWrite 1 .mbx 65536 0 []) = false := by decide +kernel

theorem test_ill_formed_object_write_sub :
    Instr.wellFormed (.objectWrite 1 .mbx 0 256 []) = false := by decide +kernel

theorem test_ill_formed_ownership_zero :
    Instr.wellFormed (.ownershipTransfer 1 .mbx 0 1) = false := by decide +kernel

theorem test_ill_formed_ownership_high :
    Instr.wellFormed (.ownershipTransfer 1 .mbx 11 1) = false := by decide +kernel

theorem test_ill_formed_row_kind :
    Instr.wellFormed (.rowConversion 1 0 false (.active 0 false 0 48) 0 (List.replicate 4096 ⟨0, 0, true⟩)) = false := by decide +kernel

theorem test_ill_formed_row_columns :
    Instr.wellFormed (.rowConversion 1 0 false (.black 0) 0 []) = false := by decide +kernel

theorem test_ill_formed_row_count :
    Instr.wellFormed (.rowConversion 1 0 false (.black 0) 0 (List.replicate 4096 ⟨8192, 0, true⟩)) = false := by decide +kernel

theorem test_ill_formed_row_signal :
    Instr.wellFormed (.rowConversion 1 0 false (.black 0) 0 (List.replicate 4096 ⟨0, 8192, true⟩)) = false := by decide +kernel

theorem test_ill_formed_measure :
    Instr.wellFormed (.convMeasureEnd 1 0 []) = false := by decide +kernel

theorem test_ill_formed_verify :
    Instr.wellFormed (.convVerifyEnd 1 0 []) = false := by decide +kernel

theorem test_ill_formed_early_slice :
    Instr.wellFormed (.engineEarlyStage 1 512 0) = false := by decide +kernel

theorem test_ill_formed_verdict_slice :
    Instr.wellFormed (.verdictStage 1 512) = false := by decide +kernel

theorem test_ill_formed_neighbour :
    Instr.wellFormed (.neighbourMessage 1 { fromSlice := 1, toSlice := 3, line := 0, label := 0 }) = false := by decide +kernel

theorem test_ill_formed_neighbour_from :
    Instr.wellFormed (.neighbourMessage 1 { fromSlice := 512, toSlice := 511, line := 0, label := 0 }) = false := by decide +kernel

theorem test_ill_formed_neighbour_to :
    Instr.wellFormed (.neighbourMessage 1 { fromSlice := 511, toSlice := 512, line := 0, label := 0 }) = false := by decide +kernel

theorem test_ill_formed_descriptor :
    Instr.wellFormed (.pglDescriptorRead 1 true [] []) = false := by decide +kernel

theorem test_ill_formed_bar_write :
    Instr.wellFormed (.barWrite 1 .bar2 0 3 0) = false := by decide +kernel

theorem test_ill_formed_bar_read :
    Instr.wellFormed (.barRead 1 .bar2 0 16) = false := by decide +kernel

theorem test_ill_formed_dram_write :
    Instr.wellFormed (.dramRequest 1 0 0 (.write 0 [])) = false := by decide +kernel

theorem test_ill_formed_cxl_write :
    Instr.wellFormed (.cxlMemRequest 1 0 (.write 0 [])) = false := by decide +kernel

theorem test_ill_formed_mr4 :
    Instr.wellFormed (.mr4Read 1 []) = false := by decide +kernel

theorem test_ill_formed_link_width :
    Instr.wellFormed (.linkTrained 1 3 320 true) = false := by decide +kernel

theorem test_ill_formed_link_rate :
    Instr.wellFormed (.linkTrained 1 8 100 true) = false := by decide +kernel

theorem test_ill_formed_bring_up :
    Instr.wellFormed (.linkBringUp 1 0 []) = false := by decide +kernel

theorem test_ill_formed_boot :
    Instr.wellFormed (.boot 1 0 []) = false := by decide +kernel

theorem test_ill_formed_dawn :
    Instr.wellFormed (.dawn 1 true (List.replicate 20 0) (List.replicate 5 true) true []) = false := by decide +kernel

theorem test_ill_formed_dawn_drift :
    Instr.wellFormed (.dawn 1 true [] (List.replicate 5 true) true (List.replicate 16 0)) = false := by decide +kernel

theorem test_ill_formed_dawn_trained :
    Instr.wellFormed (.dawn 1 true (List.replicate 20 0) [] true (List.replicate 16 0)) = false := by decide +kernel

theorem test_ill_formed_fg_cal :
    Instr.wellFormed (.fgCalComplete 1 [(0, 0, [])] []) = false := by decide +kernel

/-- A command of the kind that a check lets through. -/
theorem test_well_formed : Instr.wellFormed (.objectWrite 1 .mbx 0x2650 0 [0, 0, 1, 0]) = true := by decide +kernel

/-- The table gives no row any bits, so no word spells a command. -/
theorem test_no_word : decodeTableWord 16 0x1234 = none := by decide +kernel

/-! ### The manual's worked examples -/

/-- The velocity 3.2 m/s read through the mailbox under tag 0012h (the worked example of 02): the response's
header and payload. -/
theorem test_mailbox_velocity :
    ((match exec (.mbxRead 1) (st .standby fun c => ((c.put 0x2411 0 0x404CCCCD).mapSram fun x => { x with init := [(0, 0x4FFFF)] }).mapMbx fun m =>
        { m with busy := true, taken := [(0, 1), (2, 0x12), (4, 0x11), (5, 0x24)] }) with
      | .next u => u.core.mbx.rsp
      | _ => []) : List Byte).take 20 =
    [0, 0, 0x12, 0, 0x11, 0x24, 0, 0, 0, 0, 0, 0, 4, 0, 0, 0, 0xCD, 0xCC, 0x4C, 0x40] := by decide +kernel

/-- A write that comes before the transfer of PIPELINE to its party is refused with 0800 0020h (the example of
02 R44). -/
theorem test_handover_before :
    (match exec (.objectWrite 1 .sdo 0x2650 0 [0, 0, 1, 0]) (st .standby) with
      | .next u => u.core.out.getLast?
      | _ => none) = some (.answer .sdo 0x2650 0 0x08000020) := by decide +kernel

/-- After the transfer the same write takes effect. -/
theorem test_handover_after :
    (match exec (.objectWrite 1 .sdo 0x2650 0 [0, 0, 2, 0]) (st .standby fun c =>
        { c with owners := c.owners.map fun _ => .press }) with
      | .next u => u.core.obj 0x2650 0
      | _ => 0) = 0x20000 := by decide +kernel

/-- An exposure of the timeline of 05: centred at 4.120 us, target 10 000.5, tolerance 1/8. -/
def timelineExpo : Expo := { m := 0, b := false, target := 10000 + 1 / 2, centre := 4120, entry := 0 }

/-- The loop of the timeline, at edge E0. -/
def timeline : Core := (jb .web fun c => c.mapMot fun m =>
  { m with expos := [timelineExpo], lastEdge := some (10000, 0) }).core

/-- Edge E1 at 18.000 us: d = -0.042, in units of 1/1024, and the exposure passes. -/
theorem test_timeline_pass :
    let c := timeline.testAtEdge 18000 10002
    (c.obj 0x2421 7 = ofSigned 16 (-43)) ∧ (c.mot.expos.map (·.state)) = [.passed] := by decide +kernel

/-- Edge E1 at 25.000 us: d = -0.170, and the exposure fails. -/
theorem test_timeline_fail :
    let c := timeline.testAtEdge 25000 10002
    (c.obj 0x2421 7 = ofSigned 16 (-174)) ∧ (c.mot.expos.map (·.state)) = [.failed] := by decide +kernel

/-- The textile job: k = 7 on five segments leaves a pending depth of 11, on eight segments of 0 (06 R195). -/
theorem test_pending_depth :
    (((st .standby).core.put 0x2210 0 7).put 0x2201 0 0x1F).pendingDepth = 11 ∧
    (((st .standby).core.put 0x2210 0 7).put 0x2201 0 0xFF).pendingDepth = 0 := by decide +kernel

/-- The web-line periods of 01 R20 and 03 R86: 12.00 us at k = 5, 4.80 us at k = 1 in dual operation. -/
theorem test_line_period :
    ((st .standby).core.put 0x2210 0 5).linePeriodMin = 12000 ∧
    (((st .standby).core.put 0x2210 0 1).put 0x2212 0 1).linePeriodMin = 4800 := by decide +kernel

/-- The CONFIRM entry of state 3 of the reject line (09): next state 2, both outputs 1, the word pulled, a delay
of 249. -/
theorem test_reject_line :
    let e := ((st .standby fun c => c.mapTk fun k => { k with engs := modAt k.engs 1 fun e =>
      { e with st := 3, rx := [7, 8] } }).core.tkComplete 8 1 0xF9040302 1).eng1 1
    e.st = 2 ∧ e.outs = 3 ∧ e.rx = [8] ∧ e.sr = 7 ∧ field 0xF9040302 39 24 = 249 := by decide +kernel

/-- The bands of 16 R487: 41.9 degrees in B2, 50.9 degrees in B3. -/
theorem test_bands : bandOf 4190 = 2 ∧ bandOf 5090 = 3 := by decide +kernel

/-- The two-wire register in STANDBY with the host link up, POWER_FAIL not acknowledged and a record present reads
D9h (16). -/
theorem test_two_wire_register :
    (st .standby fun c => ((c.put 0x3340 1 1).mapCxl fun x => { x with hostUp := true }).mapEv fun v =>
      { v with active := [(0x3110, 0xFF)] }).core.twRegister = 0xD9 := by decide +kernel

/-- Lane 5 of SEG3 spared (14): its map, its retired lanes, and the link's word after the retrain. -/
theorem test_lane_spared :
    (match exec (.laneSpare 1 none true 3 5) (st .standby fun c => (c.put 0x3110 4 1).mapLink 3 fun l =>
        { l with st := 2, rate := 3, dataSleep := false, bcSleep := false }) with
      | .next u => ((u.core.link 3).mapWord, u.core.obj 0x3104 4, ((u.core.retrainEnds 3).link 3).word)
      | _ => (0, 0, 0)) = (0x76843210, 0x0020, 0x031A) := by decide +kernel

/-- The record of the mains failure of 16: six pending entries of 24 bytes and seventeen records make 1 440 bytes
with the seal of 16. -/
theorem test_record_size :
    (List.replicate 6 (⟨1, key 0x2618 1, 7, []⟩ : JEntry)).map JEntry.size = List.replicate 6 24 ∧
    64 + 128 + 512 + (16 + 6 * 24) + (16 + 17 * 32) + 16 = 1440 ∧
    (sealBlock []).length = 16 ∧ (recBlock 5 17 (zeros (17 * 32))).length = 16 + 17 * 32 := by decide +kernel

/-- A converter that never flipped gives full scale, and a signal count below the reset count gives 0 (04 R107,
R108). -/
theorem test_raw_codes :
    rawCode 12 ⟨100, 200, false⟩ = 4095 ∧ rawCode 12 ⟨100, 90, true⟩ = 0 ∧ rawCode 8 ⟨0, 999, true⟩ = 255 := by
  decide +kernel

/-- The CRCs of 00 R513 over the nine digits, whose values are those of the published codes. -/
theorem test_crcs :
    crc32 [0x31, 0x32, 0x33, 0x34, 0x35, 0x36, 0x37, 0x38, 0x39] = 0xCBF43926 ∧
    crc16 [0x31, 0x32, 0x33, 0x34, 0x35, 0x36, 0x37, 0x38, 0x39] = 0x29B1 := by decide +kernel

/-- The rows of the book-block job: stripe rows 16 and 17 are rows 24 and 25, 76 and 77, and 284 and 285 (03). -/
theorem test_window_rows : stripeRow 0 + 16 = 24 ∧ stripeRow 1 + 17 = 77 ∧ stripeRow 5 + 16 = 284 := by
  decide +kernel

/-! ### Every hypothesis is met -/

theorem test_step_takes_front_1 : ∃ (s : State), s.pending = [] :=
  ⟨State.reset, by decide +kernel⟩

theorem test_every_command_answers_0 : ∃ (i : Instr), (∀ t p a op, i = .dramRequest t p a op → a < dpaEnd) ∧ (∀ t a op, i = .cxlMemRequest t a op → a < hdmEnd) :=
  ⟨.flr 0, fun _ _ _ _ h => (by cases h), fun _ _ _ h => by cases h⟩

theorem test_every_command_answers_1 : ∃ (a : Nat), dpaEnd ≤ a :=
  ⟨dpaEnd, by decide +kernel⟩

theorem test_every_command_answers_2 : ∃ (a : Nat), hdmEnd ≤ a :=
  ⟨hdmEnd, by decide +kernel⟩

theorem test_every_command_answers_3 : ∃ (i : Instr) (s : State) (u : State), exec i s = .next u :=
  ⟨.flr 0, State.reset, _, rfl⟩

theorem test_dram_form_kept_0 : ∃ (s : State) (u : State), Memory.wf s.mem = true ∧ step s = .next u :=
  ⟨{ State.reset with pending := [.flr 0] }, _, ⟨rfl, rfl⟩⟩

theorem test_dram_only_by_its_commands_0 : ∃ (i : Instr) (s : State) (u : State), exec i s = .next u ∧ (∀ t ch r, i ≠ .dramCommand t ch r) ∧ (∀ t ok d, i ≠ .refLineArrival t ok d) ∧ (∀ t ok d l, i ≠ .pglDescriptorRead t ok d l) ∧ (∀ t p l, i ≠ .boot t p l) :=
  ⟨.flr 0, State.reset, _, ⟨rfl, fun _ _ _ h => (by cases h), fun _ _ _ h => (by cases h), fun _ _ _ _ h => (by cases h), fun _ _ _ h => (by cases h)⟩⟩

theorem test_non_owner_refused_0 : ∃ (o : Orig) (idx : Nat) (sub : Nat) (d : Nat) (r : ObjRow) (s : State), s.core.absent idx = false ∧ s.core.pw.resetDue = false ∧ rowOf idx sub = some r ∧ r.acc ≠ .ro ∧ domainOf idx sub = some d ∧ s.core.owns o d = false :=
  ⟨.mbx, 0x2420, 0, 1, (rowOf 0x2420 0).getD (subZeroRow 0 0), (st .standby), by decide +kernel⟩

theorem test_refused_write_changes_nothing_0 : ∃ (t : Nat) (o : Orig) (idx : Nat) (sub : Nat) (k : Nat) (data : List Byte) (s : State), s.core.pw.resetDue = false ∧ s.core.wordOk idx sub = true ∧ (s.core.writeOne (s.at_ t) o idx sub data).1 = k ∧ k ≠ 0 :=
  ⟨1, .mbx, 0x2420, 0, 0x08000020, [1], (st .standby), by decide +kernel⟩

theorem test_code_precedence_0 : ∃ (l : List Nat) (k : Nat), firstCode l = some k :=
  ⟨[0x08000021], 0x08000021, by decide +kernel⟩

theorem test_code_precedence_1 : ∃ (l : List Nat) (k : Nat), firstCode l = some k ∧ 0x06020000 ∈ l :=
  ⟨[0x06020000], 0x06020000, by decide +kernel⟩

theorem test_code_precedence_2 : ∃ (l : List Nat) (k : Nat), firstCode l = some k ∧ k = 0x08000021 :=
  ⟨[0x08000021], 0x08000021, by decide +kernel⟩

theorem test_code_precedence_3 : ∃ (l : List Nat) (k : Nat), firstCode l = some k ∧ k = 0x08000022 :=
  ⟨[0x08000022], 0x08000022, by decide +kernel⟩

theorem test_code_precedence_4 : ∃ (l : List Nat) (k : Nat), firstCode l = some k ∧ k = 0x08000031 :=
  ⟨[0x08000031], 0x08000031, by decide +kernel⟩

theorem test_code_precedence_5 : ∃ (l : List Nat) (k : Nat) (j : Nat), firstCode l = some k ∧ k ∉ codeOrder ∧ j ∈ codeOrder :=
  ⟨[0x08000029], 0x08000029, 0x0800002B, by decide +kernel⟩

theorem test_code_precedence_6 : ∃ (l : List Nat) (k : Nat) (j : Nat), firstCode l = some k ∧ k ∉ codeOrder ∧ j ∈ l :=
  ⟨[0x08000029], 0x08000029, 0x08000029, by decide +kernel⟩

theorem test_accepted_writes_0 : ∃ (t : Nat) (o : Orig) (idx : Nat) (sub : Nat) (data : List Byte) (s : State), s.core.pw.resetDue = false ∧ 0x2400 ≤ idx ∧ idx ≤ 0x27FF ∧ idx ≠ 0x2404 ∧ idx ≠ 0x2490 ∧ sub < 256 ∧ bankOf idx sub = none ∧ s.core.wordOk idx sub = true ∧ (s.core.writeOne (s.at_ t) o idx sub data).1 = 0 :=
  ⟨1, .sdo, 0x2440, 4, [51], (st .standby), by decide +kernel⟩

theorem test_accepted_writes_1 : ∃ (t : Nat) (o : Orig) (idx : Nat) (sub : Nat) (b : Nat) (data : List Byte) (s : State), s.core.pw.resetDue = false ∧ bankOf idx sub = some b ∧ (s.core.writeOne (s.at_ t) o idx sub data).1 = 0 :=
  ⟨1, .sdo, 0x2420, 0, 4, [33, 0], (st .standby), by decide +kernel⟩

theorem test_ownership_moves_0 : ∃ (o : Orig) (dom : Nat) (v : Byte) (s : State), 1 ≤ dom ∧ dom ≤ 10 ∧ (v = 1 ∨ v = 2) ∧ o ≠ .pdo ∧ s.core.owns o (dom - 1) = true ∧ s.core.mode ≠ .compline ∧ (dom ≠ 2 ∨ s.core.job.running = false) ∧ s.core.isMapped 0x2100 dom = false ∧ s.core.wordOk 0x2100 dom = true :=
  ⟨.sdo, 1, 2, (st .standby), by decide +kernel⟩

theorem test_ownership_moves_1 : ∃ (t : Nat) (s : State), s.core.ec.al ≠ .safeop ∧ s.core.ec.al ≠ .op ∧ s.core.ec.alLowSince + 1000000000 ≤ s.at_ t ∧ s.core.mode ≠ .compline ∧ s.core.wordOk 0x2101 0 = true ∧ (s.core.job.running = false ∨ s.core.owner 1 = .host) :=
  ⟨1000000000, (st .standby), by decide +kernel⟩

theorem test_ownership_moves_2 : ∃ (t : Nat) (s : State), s.core.cxl.hostUp = false ∧ s.core.cxl.downAt + 1000000000 ≤ s.at_ t ∧ s.core.mode ≠ .compline ∧ (s.core.job.running = false ∨ s.core.owner 1 = .press) ∧ s.core.isMapped 0x2101 0 = false ∧ s.core.wordOk 0x2101 0 = true :=
  ⟨1000000000, (st .standby), by decide +kernel⟩

theorem test_ownership_moves_3 : ∃ (t : Nat) (s : State), s.core.mode ≠ .compline ∧ (s.core.job.running = false ∨ s.core.owner 1 = .host) ∧ s.core.isMapped 0x2101 0 = false ∧ (s.core.ec.al = .safeop ∨ s.core.ec.al = .op ∨ s.at_ t < s.core.ec.alLowSince + 1000000000) :=
  ⟨999999999, (st .standby), by decide +kernel⟩

theorem test_ownership_moves_4 : ∃ (t : Nat) (s : State), s.core.mode ≠ .compline ∧ (s.core.job.running = false ∨ s.core.owner 1 = .press) ∧ s.core.isMapped 0x2101 0 = false ∧ (s.core.cxl.hostUp = true ∨ s.at_ t < s.core.cxl.downAt + 1000000000) :=
  ⟨999999999, (st .standby), by decide +kernel⟩

theorem test_dictionary_commands_0 : ∃ (idx : Nat) (sub : Nat) (o : Orig) (r : ObjRow) (s : State), rowOf idx sub = some r ∧ s.core.absent idx = false ∧ r.acc = .rwc ∧ idx < 65536 ∧ sub < 256 ∧ s.core.mode ≠ .compline ∧ s.core.isMapped 0x2102 1 = false ∧ s.core.wordOk 0x2102 1 = true ∧ o ≠ .mbx :=
  ⟨0x2420, 0, .sdo, (rowOf 0x2420 0).getD (subZeroRow 0 0), (st .standby), by decide +kernel⟩

theorem test_dictionary_commands_1 : ∃ (s : State), s.core.mode ≠ .compline ∧ s.core.isMapped 0x1010 1 = false ∧ s.core.wordOk 0x1010 1 = true :=
  ⟨(st .standby), by decide +kernel⟩

theorem test_dictionary_commands_2 : ∃ (s : State), s.core.mode ≠ .compline ∧ s.core.isMapped 0x1010 1 = false :=
  ⟨(st .standby), by decide +kernel⟩

theorem test_dictionary_commands_3 : ∃ (s : State), s.core.mode ≠ .compline ∧ s.core.isMapped 0x1011 1 = false ∧ s.core.wordOk 0x1011 1 = true :=
  ⟨(st .standby), by decide +kernel⟩

theorem test_dictionary_commands_4 : ∃ (s : State), s.core.mode ≠ .compline ∧ s.core.isMapped 0x1003 0 = false ∧ s.core.wordOk 0x1003 0 = true :=
  ⟨(st .standby), by decide +kernel⟩

theorem test_dictionary_commands_5 : ∃ (s : State), s.core.mode ≠ .compline ∧ s.core.isMapped 0x3200 6 = false ∧ s.core.wordOk 0x3200 6 = true :=
  ⟨(st .standby), by decide +kernel⟩

theorem test_dictionary_commands_6 : ∃ (idx : Nat) (sub : Nat) (r : ObjRow) (s : State), rowOf idx sub = some r ∧ s.core.absent idx = false ∧ r.acc = .rwc ∧ idx < 65536 ∧ sub < 256 :=
  ⟨0x2420, 0, (rowOf 0x2420 0).getD (subZeroRow 0 0), (st .standby), by decide +kernel⟩

theorem test_sdo_access_0 : ∃ (t : Nat) (idx : Nat) (sub : Nat) (k : Nat) (data : List Byte) (s : State) (d : Core), s.core.coeOn = true ∧ s.core.dropXfer.writeOne (s.at_ t) .sdo idx sub data = (k, d) ∧ d.pw.resetDue = false :=
  ⟨1, 0x2440, 4, 0, [51], (st .standby fun c => c.mapEc fun e => { e with al := .preop }), _, ⟨by decide +kernel, rfl, by decide +kernel⟩⟩

theorem test_sdo_access_1 : ∃ (t : Nat) (idx : Nat) (k : Nat) (data : List Byte) (s : State) (d : Core), s.core.coeOn = true ∧ s.core.dropXfer.writeAll (s.at_ t) .sdo idx data = (k, d) ∧ d.pw.resetDue = false :=
  ⟨1, 0x2440, (((st .standby fun c => c.mapEc fun e => { e with al := .preop })).core.dropXfer.writeAll 1 .sdo 0x2440 [1]).1, [1], (st .standby fun c => c.mapEc fun e => { e with al := .preop }), (((st .standby fun c => c.mapEc fun e => { e with al := .preop })).core.dropXfer.writeAll 1 .sdo 0x2440 [1]).2, ⟨by decide +kernel, rfl, by decide +kernel⟩⟩

theorem test_sdo_access_2 : ∃ (t : Nat) (k : Nat) (x : SegXfer) (data : List Byte) (s : State) (d : Core), s.core.coeOn = true ∧ s.core.ec.xfer = some x ∧ s.at_ t ≤ x.last + 1000000000 ∧ s.core.dropXfer.writeOne (s.at_ t) .sdo x.idx x.sub (x.data ++ data) = (k, d) ∧ d.pw.resetDue = false :=
  ⟨6, (((st .standby fun c => c.mapEc fun e => { e with al := .preop, xfer := some ⟨0x2420, 0, true, [1], 5⟩ })).core.dropXfer.writeOne 6 .sdo 0x2420 0 [1, 2]).1, ⟨0x2420, 0, true, [1], 5⟩, [2], (st .standby fun c => c.mapEc fun e => { e with al := .preop, xfer := some ⟨0x2420, 0, true, [1], 5⟩ }), (((st .standby fun c => c.mapEc fun e => { e with al := .preop, xfer := some ⟨0x2420, 0, true, [1], 5⟩ })).core.dropXfer.writeOne 6 .sdo 0x2420 0 [1, 2]).2, ⟨by decide +kernel, rfl, by decide +kernel, rfl, by decide +kernel⟩⟩

theorem test_sdo_access_3 : ∃ (idx : Nat) (sub : Nat) (data : List Byte) (r : ObjRow) (s : State), s.core.coeOn = true ∧ s.core.ec.xfer = none ∧ s.core.absent idx = false ∧ s.core.pw.resetDue = false ∧ rowOf idx sub = some r ∧ (r.ty = .dom ∨ data.length ≤ transferMax idx sub) :=
  ⟨0x2420, 0, [33, 0], (rowOf 0x2420 0).getD (subZeroRow 0 0), (st .standby fun c => c.mapEc fun e => { e with al := .preop }), by decide +kernel⟩

theorem test_sdo_access_4 : ∃ (t : Nat) (idx : Nat) (sub : Nat) (k : Nat) (data : List Byte) (s : State) (d : Core), s.core.coeOn = true ∧ s.core.readOne (s.at_ t) .sdo idx sub = (k, data, d) :=
  ⟨1, 0x2420, 0, _, _, (st .standby fun c => c.mapEc fun e => { e with al := .preop }), _, ⟨by decide +kernel, rfl⟩⟩

theorem test_sdo_access_5 : ∃ (t : Nat) (idx : Nat) (k : Nat) (data : List Byte) (s : State) (d : Core), s.core.coeOn = true ∧ s.core.readAll (s.at_ t) .sdo idx = (k, data, d) :=
  ⟨1, 0x2440, (((st .standby fun c => c.mapEc fun e => { e with al := .preop })).core.readAll 1 .sdo 0x2440).1, (((st .standby fun c => c.mapEc fun e => { e with al := .preop })).core.readAll 1 .sdo 0x2440).2.1, (st .standby fun c => c.mapEc fun e => { e with al := .preop }), (((st .standby fun c => c.mapEc fun e => { e with al := .preop })).core.readAll 1 .sdo 0x2440).2.2, ⟨by decide +kernel, rfl⟩⟩

theorem test_sdo_access_6 : ∃ (s : State), s.core.coeOn = true :=
  ⟨(st .standby fun c => c.mapEc fun e => { e with al := .preop }), by decide +kernel⟩

theorem test_sdo_access_7 : ∃ (t : Nat) (x : SegXfer) (s : State), s.core.coeOn = true ∧ s.core.ec.xfer = some x ∧ x.last + 1000000000 < s.at_ t :=
  ⟨1000000006, ⟨0x2420, 0, true, [1], 5⟩, (st .standby fun c => c.mapEc fun e => { e with al := .preop, xfer := some ⟨0x2420, 0, true, [1], 5⟩ }), by decide +kernel⟩

theorem test_sdo_access_8 : ∃ (s : State), s.core.coeOn = true :=
  ⟨(st .standby fun c => c.mapEc fun e => { e with al := .preop }), by decide +kernel⟩

theorem test_sdo_access_9 : ∃ (t : Nat) (x : SegXfer) (s : State), s.core.coeOn = true ∧ s.core.pw.resetDue = false ∧ s.core.ec.xfer = some x ∧ s.at_ t ≤ x.last + 1000000000 :=
  ⟨1000000005, ⟨0x2420, 0, true, [1], 5⟩, (st .standby fun c => c.mapEc fun e => { e with al := .preop, xfer := some ⟨0x2420, 0, true, [1], 5⟩ }), by decide +kernel⟩

theorem test_sdo_access_10 : ∃ (t : Nat) (x : SegXfer) (r : ObjRow) (data : List Byte) (s : State), s.core.coeOn = true ∧ s.core.pw.resetDue = false ∧ s.core.ec.xfer = some x ∧ s.at_ t ≤ x.last + 1000000000 ∧ s.core.absent x.idx = false ∧ rowOf x.idx x.sub = some r ∧ r.ty ≠ .dom ∧ transferMax x.idx x.sub < x.data.length + data.length :=
  ⟨6, ⟨0x2420, 0, true, [1], 5⟩, (rowOf 0x2420 0).getD (subZeroRow 0 0), [2, 3], (st .standby fun c => c.mapEc fun e => { e with al := .preop, xfer := some ⟨0x2420, 0, true, [1], 5⟩ }), by decide +kernel⟩

theorem test_al_states_0 : ∃ (w : AlState) (s : State), s.core.coeOn = true ∧ (w ≠ .bootstrap ∨ s.core.mode = .standby) :=
  ⟨.safeop, (st .standby fun c => c.mapEc fun e => { e with al := .preop }), by decide +kernel⟩

theorem test_al_states_1 : ∃ (s : State), s.core.coeOn = true :=
  ⟨(st .standby fun c => c.mapEc fun e => { e with al := .preop }), by decide +kernel⟩

theorem test_al_states_2 : ∃ (stopped : Bool) (diff : Int) (s : State), s.core.coeOn = true ∧ (stopped = true ∨ diff < -100 ∨ 100 < diff) :=
  ⟨false, 101, (st .standby fun c => c.mapEc fun e => { e with al := .preop }), by decide +kernel⟩

theorem test_al_states_3 : ∃ (diff : Int) (s : State), s.core.coeOn = true ∧ -100 ≤ diff ∧ diff ≤ 100 :=
  ⟨100, (st .standby fun c => c.mapEc fun e => { e with al := .preop }), by decide +kernel⟩

theorem test_firmware_download_0 : ∃ (s : State), s.core.coeOn = true ∧ s.core.ec.al = .bootstrap ∧ s.core.pw.foeBusy = none :=
  ⟨(st .standby fun c => c.mapEc fun e => { e with al := .bootstrap }), by decide +kernel⟩

theorem test_firmware_download_1 : ∃ (i : Nat) (s : State), s.core.coeOn = true ∧ s.core.pw.foeBusy = some i :=
  ⟨1, (st .standby fun c => (c.mapEc fun e => { e with al := .bootstrap }).mapPw fun p => { p with foeBusy := some 1 }), by decide +kernel⟩

theorem test_firmware_download_2 : ∃ (s : State), s.core.coeOn = true ∧ s.core.mode ≠ .standby :=
  ⟨(st .dusk), by decide +kernel⟩

theorem test_firmware_download_3 : ∃ (s : State), s.core.ec.al ≠ .bootstrap :=
  ⟨(st .standby), by decide +kernel⟩

theorem test_process_data_0 : ∃ (ev : SyncEvent) (data : List Byte) (s : State), s.core.coeOn = true ∧ s.core.ec.al = .op ∧ s.core.rxEvent ev = true ∧ data.length = s.core.pdoBytes 0x1C12 :=
  ⟨.sm2, (zeros ((st .standby).core.pdoBytes 0x1C12)), (st .standby fun c => (c.mapEc fun e => { e with al := .op }).put 0x1C32 1 1), by decide +kernel⟩

theorem test_process_data_1 : ∃ (p : Nat) (ev : SyncEvent) (s : State), s.core.coeOn = true ∧ s.core.ec.al = .op ∧ s.core.rxEvent ev = true ∧ s.core.ec.cycleAt = some p ∧ 0 < s.core.pdoBytes 0x1C12 ∧ s.core.obj 0x1C32 11 < 65535 ∧ s.core.obj 0x1C32 12 < 65535 :=
  ⟨0, .sm2, (st .standby fun c => (c.mapEc fun e => { e with al := .op, cycleAt := some 0 }).put 0x1C32 1 1), by decide +kernel⟩

theorem test_process_data_2 : ∃ (data : List Byte) (s : State), s.core.coeOn = true ∧ s.core.ec.al = .op ∧ s.core.obj 0x1C32 1 = 1 ∧ s.core.pdoEntries 0x1C12 = [(0x6000, 2, 32)] ∧ data.length = 4 ∧ f32Finite (leNat data) = true ∧ s.core.owner 3 = .press ∧ s.core.pw.running ≠ 2 ∧ s.core.wordOk 0x6000 2 = true :=
  ⟨[0, 0, 128, 63], (st .standby fun c => ((((c.mapEc fun e => { e with al := .op }).put 0x1C32 1 1).put 0x1C12 0 1).put 0x1600 0 1).put 0x1600 1 0x60000220), by decide +kernel⟩

theorem test_process_data_3 : ∃ (data : List Byte) (s : State), s.core.coeOn = true ∧ s.core.ec.al = .op ∧ s.core.obj 0x1C32 1 = 1 ∧ s.core.pdoEntries 0x1C12 = [(0x6000, 2, 32)] ∧ data.length = 4 ∧ s.core.owner 3 = .host :=
  ⟨[0, 0, 128, 63], (st .standby fun c => ((((c.mapEc fun e => { e with al := .op }).put 0x1C32 1 1).put 0x1C12 0 1).put 0x1600 0 1).put 0x1600 1 0x60000220 |> fun c => { c with owners := c.owners.map fun _ => .host }), by decide +kernel⟩

theorem test_process_data_4 : ∃ (ev : SyncEvent) (s : State), s.core.coeOn = true ∧ (s.core.ec.al = .safeop ∨ s.core.ec.al = .op) ∧ s.core.txEvent ev = true :=
  ⟨.sync0, (st .standby fun c => (c.mapEc fun e => { e with al := .safeop }).put 0x1C32 1 2), by decide +kernel⟩

theorem test_bus_frame_0 : ∃ (i : Instr) (s : State) (u : State), exec i s = .next u ∧ ((∃ t r, i = .sdoInformation t r) ∨ (∃ t v, i = .mailboxServiceUnsupported t v) ∨ (∃ t, i = .sdoProtocolTimeout t) ∨ (∃ t w a, i = .alStateRequest t w a) ∨ (∃ t l, i = .sm2WatchdogExpiry t l) ∨ (∃ t p a d, i = .dcSyncLost t p a d) ∨ (∃ t a d, i = .dcSyncRegained t a d) ∨ (∃ t e, i = .txpdoLatch t e) ∨ (∃ t n m, i = .foeDownload t n m) ∨ (∃ t, i = .foeVerifyComplete t)) :=
  ⟨.alStateRequest 1 .preop true, State.reset, _, ⟨rfl, Or.inr (Or.inr (Or.inr (Or.inl ⟨1, .preop, true, rfl⟩)))⟩⟩

theorem test_bus_frame_1 : ∃ (i : Instr) (s : State) (u : State) (a : Nat) (b : Nat), exec i s = .next u ∧ ((∃ t r, i = .sdoInformation t r) ∨ (∃ t v, i = .mailboxServiceUnsupported t v) ∨ (∃ t, i = .sdoProtocolTimeout t) ∨ (∃ t w a, i = .alStateRequest t w a) ∨ (∃ t l, i = .sm2WatchdogExpiry t l) ∨ (∃ t p a d, i = .dcSyncLost t p a d) ∨ (∃ t a d, i = .dcSyncRegained t a d) ∨ (∃ t e, i = .txpdoLatch t e) ∨ (∃ t n m, i = .foeDownload t n m) ∨ (∃ t, i = .foeVerifyComplete t)) ∧ b < 256 ∧ a ≠ 0x2D20 ∧ a ≠ 0x3200 ∧ a ≠ 0x6100 :=
  ⟨.alStateRequest 1 .preop true, State.reset, _, 0x2420, 0, ⟨rfl, Or.inr (Or.inr (Or.inr (Or.inl ⟨1, .preop, true, rfl⟩))), by decide, by decide, by decide, by decide⟩⟩

theorem test_mailbox_requests_0 : ∃ (s : State), s.core.mbx.busy = false :=
  ⟨(st .standby), by decide +kernel⟩

theorem test_mailbox_requests_1 : ∃ (t : Nat) (op : Nat) (i : Instr) (a : MbxAnswer) (s : State), s.core.mbxAt op = true ∧ ((i = .mbxRead t ∧ op = 1 ∧ a = s.core.mbxReadOp (s.at_ t)) ∨ (i = .mbxWrite t ∧ op = 2 ∧ a = s.core.mbxWriteOp (s.at_ t)) ∨ (i = .mbxReadPending t ∧ op = 3 ∧ a = s.core.mbxPendingOp (s.at_ t)) ∨ (i = .mbxReadAll t ∧ op = 4 ∧ a = s.core.mbxReadAllOp (s.at_ t)) ∨ (i = .mbxWriteAll t ∧ op = 5 ∧ a = s.core.mbxWriteAllOp (s.at_ t)) ∨ (i = .mbxDescribe t ∧ op = 6 ∧ a = s.core.mbxDescribeOp)) ∧ a.core.pw.resetDue = false :=
  ⟨1, 1, .mbxRead 1, _, (st .standby fun c => c.mapMbx fun m => { m with busy := true, taken := [(0, 1)] }), ⟨by decide +kernel, Or.inl ⟨rfl, rfl, rfl⟩, by decide +kernel⟩⟩

theorem test_mailbox_requests_2 : ∃ (op : Nat) (s : State), s.core.mbxAt op = true ∧ (op = 0 ∨ 6 < op) ∧ s.core.pw.resetDue = false :=
  ⟨7, (st .standby fun c => c.mapMbx fun m => { m with busy := true, taken := [(0, 7)] }), by decide +kernel⟩

theorem test_mailbox_requests_3 : ∃ (s : State), s.core.mbx.busy = true :=
  ⟨(st .standby fun c => c.mapMbx fun m => { m with busy := true, taken := [(0, 1)] }), by decide +kernel⟩

theorem test_mailbox_requests_4 : ∃ (s : State), s.core.mbx.busy = false :=
  ⟨(st .standby), by decide +kernel⟩

theorem test_mailbox_requests_5 : ∃ (t : Nat) (s : State), s.core.mbx.busy = true ∧ (s.core.mbxCarry (s.at_ t)).core.pw.resetDue = false :=
  ⟨1, (st .standby fun c => c.mapMbx fun m => { m with busy := true, taken := [(0, 7)] }), by decide +kernel⟩

theorem test_mailbox_requests_7 : ∃ (idx : Nat) (sub : Nat) (s : State), s.core.pw.resetDue = false ∧ s.core.faulty = [] ∧ s.core.reqIdx = idx ∧ s.core.reqSub = sub ∧ s.core.reqOff = 0 ∧ s.core.reqLen = 0 ∧ isDomain idx sub = false ∧ s.core.readCodes .mbx idx sub = [] ∧ s.core.mbxAt 1 = true :=
  ⟨0x2420, 0, (st .standby fun c => ((c.mapSram fun x => { x with init := [(0, 0x4FFFF)] }).mapMbx fun m => { m with busy := true, taken := [(0, 1), (4, 32), (5, 36), (6, 0)] })), by decide +kernel⟩

theorem test_mailbox_requests_8 : ∃ (idx : Nat) (sub : Nat) (s : State), s.core.pw.resetDue = false ∧ s.core.faulty = [] ∧ s.core.reqIdx = idx ∧ s.core.reqSub = sub ∧ s.core.reqOff = 0 ∧ s.core.reqLen = 0 ∧ isDomain idx sub = false ∧ s.core.readCodes .mbx idx sub = [] ∧ s.core.mbxAt 3 = true ∧ (bankOf idx sub).isSome = true :=
  ⟨0x2420, 0, (st .standby fun c => ((c.mapSram fun x => { x with init := [(0, 0x4FFFF)] }).mapMbx fun m => { m with busy := true, taken := [(0, 3), (4, 32), (5, 36), (6, 0)] })), by decide +kernel⟩

theorem test_mailbox_requests_9 : ∃ (t : Nat) (idx : Nat) (data : List Byte) (c : Core) (s : State), s.core.pw.resetDue = false ∧ s.core.reqIdx = idx ∧ s.core.reqOff = 0 ∧ s.core.reqLen = 0 ∧ s.core.mbxAt 4 = true ∧ s.core.readAll (s.at_ t) .mbx idx = (0, data, c) ∧ c.pw.resetDue = false :=
  ⟨1, 0x2440, (((st .standby fun c => ((c.mapSram fun x => { x with init := [(0, 0x4FFFF)] }).mapMbx fun m => { m with busy := true, taken := [(0, 4), (4, 64), (5, 36), (6, 0)] }))).core.readAll 1 .mbx 0x2440).2.1, (((st .standby fun c => ((c.mapSram fun x => { x with init := [(0, 0x4FFFF)] }).mapMbx fun m => { m with busy := true, taken := [(0, 4), (4, 64), (5, 36), (6, 0)] }))).core.readAll 1 .mbx 0x2440).2.2, (st .standby fun c => ((c.mapSram fun x => { x with init := [(0, 0x4FFFF)] }).mapMbx fun m => { m with busy := true, taken := [(0, 4), (4, 64), (5, 36), (6, 0)] })), by decide +kernel⟩

theorem test_mailbox_requests_10 : ∃ (t : Nat) (idx : Nat) (sub : Nat) (s : State), s.core.pw.resetDue = false ∧ s.core.reqIdx = idx ∧ s.core.reqSub = sub ∧ s.core.reqOff = 0 ∧ s.core.mbx.xfer = none ∧ 0x2400 ≤ idx ∧ idx ≤ 0x27FF ∧ idx ≠ 0x2404 ∧ idx ≠ 0x2490 ∧ bankOf idx sub = none ∧ s.core.wordOk idx sub = true ∧ s.core.mbxAt 2 = true ∧ (s.core.writeOne (s.at_ t) .mbx idx sub s.core.reqData).1 = 0 :=
  ⟨1, 0x2440, 4, (st .standby fun c => ({ c with owners := c.owners.map fun _ => .host }.mapSram fun x => { x with init := [(0, 0x4FFFF)] }).mapMbx fun m => { m with busy := true, taken := [(0, 2), (4, 0x40), (5, 0x24), (6, 4), (12, 1), (16, 51)] }), by decide +kernel⟩

theorem test_mailbox_requests_11 : ∃ (t : Nat) (idx : Nat) (c : Core) (s : State), s.core.reqIdx = idx ∧ s.core.reqOff = 0 ∧ s.core.mbx.xfer = none ∧ s.core.mbxAt 5 = true ∧ s.core.writeAll (s.at_ t) .mbx idx s.core.reqData = (0, c) ∧ c.pw.resetDue = false :=
  ⟨1, 0x2220, (((st .standby fun c => ({ c with owners := c.owners.map fun _ => .host }.mapSram fun x => { x with init := [(0, 0x4FFFF)] }).mapMbx fun m => { m with busy := true, taken := [(0, 5), (4, 0x20), (5, 0x22), (12, 4), (16, 2), (18, 1), (19, 1)] })).core.writeAll 1 .mbx 0x2220 ((st .standby fun c => ({ c with owners := c.owners.map fun _ => .host }.mapSram fun x => { x with init := [(0, 0x4FFFF)] }).mapMbx fun m => { m with busy := true, taken := [(0, 5), (4, 0x20), (5, 0x22), (12, 4), (16, 2), (18, 1), (19, 1)] })).core.reqData).2, (st .standby fun c => ({ c with owners := c.owners.map fun _ => .host }.mapSram fun x => { x with init := [(0, 0x4FFFF)] }).mapMbx fun m => { m with busy := true, taken := [(0, 5), (4, 0x20), (5, 0x22), (12, 4), (16, 2), (18, 1), (19, 1)] }), by decide +kernel⟩

theorem test_mailbox_requests_12 : ∃ (idx : Nat) (s : State), s.core.pw.resetDue = false ∧ s.core.reqIdx = idx ∧ s.core.reqOff = 0 ∧ s.core.reqLen = 0 ∧ s.core.mbxAt 6 = true ∧ s.core.absent idx = false ∧ (topSub idx).isSome = true :=
  ⟨0x2440, (st .standby fun c => ((c.mapSram fun x => { x with init := [(0, 0x4FFFF)] }).mapMbx fun m => { m with busy := true, taken := [(0, 6), (4, 64), (5, 36), (6, 0)] })), by decide +kernel⟩

theorem test_two_wire_bytes_0 : ∃ (s : State), s.core.twOn = true :=
  ⟨(st .standby fun c => c.put 0x3400 3 1), by decide +kernel⟩

theorem test_two_wire_bytes_1 : ∃ (s : State), s.core.twOn = true ∧ s.core.job.running = false :=
  ⟨(st .standby fun c => c.put 0x3400 3 1), by decide +kernel⟩

theorem test_two_wire_bytes_2 : ∃ (t : Nat) (e : Nat) (s : State), s.core.tw.testUntil = some e ∧ e ≤ s.at_ t :=
  ⟨9, 9, (st .standby fun c => c.mapTw fun x => { x with testUntil := some 9 }), by decide +kernel⟩

theorem test_two_wire_bytes_3 : ∃ (t : Nat) (s : State), s.core.pw.bootZero + 5000000 ≤ s.at_ t ∧ s.core.pw.heldReset = false :=
  ⟨5000000, (st .standby), by decide +kernel⟩

theorem test_two_wire_bytes_4 : ∃ (t : Nat) (s : State), s.core.pw.bootZero + 5000000 ≤ s.at_ t ∧ s.core.pw.heldReset = false :=
  ⟨5000000, (st .standby), by decide +kernel⟩

theorem test_two_wire_bytes_5 : ∃ (r : TwRead) (s : State), s.core.tw.cut = some r :=
  ⟨⟨0, 4, 7⟩, (st .standby fun c => c.mapTw fun x => { x with cut := some ⟨0, 4, 7⟩ }), by decide +kernel⟩

theorem test_two_wire_bytes_6 : ∃ (r : TwRead) (s : State), s.core.tw.cut = some r :=
  ⟨⟨0, 4, 7⟩, (st .standby fun c => c.mapTw fun x => { x with cut := some ⟨0, 4, 7⟩ }), by decide +kernel⟩

theorem test_two_wire_bytes_7 : ∃ (o : Orig) (v : Byte) (s : State), (v = 0 ∨ v = 1) ∧ o ≠ .pdo ∧ s.core.mode ≠ .compline ∧ s.core.isMapped 0x3400 2 = false ∧ s.core.wordOk 0x3400 2 = true ∧ s.core.pw.running ≠ 2 :=
  ⟨.mbx, 1, (st .standby), by decide +kernel⟩

theorem test_two_wire_bytes_8 : ∃ (first : Bool) (v : Byte) (s : State), (first = false ∨ s.core.twOn = false ∨ (v ≠ 0xA5 ∧ v ≠ 0x3C ∧ v ≠ 0x0F) ∨ (v = 0x0F ∧ s.core.job.running = true)) :=
  ⟨true, 0x0F, (jb .web fun c => c.put 0x3400 3 1), by decide +kernel⟩

theorem test_two_wire_bytes_9 : ∃ (t : Nat) (i : Instr) (s : State), (i = .twSafeSet t ∨ i = .twSafeClear t ∨ i = .twLiveTest t) ∧ (s.core.flag 0x3400 3 = false ∨ s.core.pw.fwRuns = false ∨ s.core.mode = .compline) :=
  ⟨1, .twSafeSet 1, (st .standby fun c => c.put 0x3400 3 0), by decide +kernel⟩

theorem test_two_wire_bytes_10 : ∃ (s : State), s.core.job.running = true :=
  ⟨(jb .web), by decide +kernel⟩

theorem test_two_wire_bytes_11 : ∃ (t : Nat) (s : State), s.core.pw.bootZero + 5000000 ≤ s.at_ t ∧ s.core.pw.heldReset = false :=
  ⟨5000000, (st .standby), by decide +kernel⟩

theorem test_bar_access_0 : ∃ (off : Nat) (size : Nat) (sp : Space), (sp = .bar0 ∨ sp = .bar2) ∧ barOk off size = false :=
  ⟨2, 4, .bar2, by decide +kernel⟩

theorem test_bar_access_1 : ∃ (i : Nat) (s : State), i < 10 ∧ s.core.owner 7 = .host ∧ (s.core.ring i).enable = false :=
  ⟨9, (st .standby), by decide +kernel⟩

theorem test_bar_access_2 : ∃ (i : Nat) (lo : Nat) (s : State), i < 10 ∧ s.core.owner 7 = .host ∧ (s.core.ring i).enable = false ∧ alook s.core.cxl.half (0x3000 + 0x40 * i) = some lo :=
  ⟨0, 7, (st .standby fun c => c.mapCxl fun x => { x with half := [(0x3000, 7)] }), by decide +kernel⟩

theorem test_bar_access_4 : ∃ (x : Nat) (s : State), alook s.core.cxl.shadow 0x6000 = some x :=
  ⟨3, (st .standby fun c => c.mapCxl fun x => { x with shadow := [(0x6000, 3)] }), by decide +kernel⟩

theorem test_bar_access_5 : ∃ (off : Nat) (size : Nat) (sp : Space), (sp = .bar0 ∨ sp = .bar2) ∧ barOk off size = false :=
  ⟨2, 4, .bar0, by decide +kernel⟩

theorem test_bar_access_6 : ∃ (off : Nat) (sp : Space) (s : State), (sp = .config ∨ sp = .cdat) ∧ off % 4 = 0 ∧ s.core.cxl.memActive = false :=
  ⟨0, .config, (st .standby), by decide +kernel⟩

theorem test_bar_access_7 : ∃ (off : Nat) (s : State), off % 4 = 0 ∧ s.core.cxl.memActive = true :=
  ⟨0, (st .standby fun c => c.mapCxl fun x => { x with memActive := true }), by decide +kernel⟩

theorem test_bar_access_8 : ∃ (off : Nat), off % 4 = 0 ∧ (off < 0x1000 ∨ 0x2000 ≤ off) :=
  ⟨0, by decide +kernel⟩

theorem test_bar_access_10 : ∃ (v : Word64), v.toNat % 2 ^ 32 = 128 :=
  ⟨128, by decide +kernel⟩

theorem test_job_control_0 : ∃ (o : Orig) (s : State), s.core.owns o 0 = true ∧ s.core.mayWrite o 0x6000 1 3 ∧ s.core.inspecting = true ∧ s.core.trans = none ∧ s.core.job.running = false ∧ (s.core.obj 0x6000 1).testBit 4 = false :=
  ⟨.sdo, (st .web), by decide +kernel⟩

theorem test_job_control_1 : ∃ (o : Orig) (s : State), s.core.owns o 0 = true ∧ s.core.mayWrite o 0x6000 1 3 ∧ s.core.inspecting = true ∧ s.core.trans = none ∧ s.core.job.running = false ∧ s.core.ec.dcRunning = true ∧ s.core.ec.sync1On = true :=
  ⟨.sdo, (st .web fun c => c.mapEc fun e => { e with dcRunning := true, sync1On := true }), by decide +kernel⟩

theorem test_job_control_2 : ∃ (a : Nat) (s : State), s.core.ec.waitSync1 = some a ∧ s.core.inspecting = true ∧ s.core.trans = none ∧ s.core.job.running = false :=
  ⟨3, (st .web fun c => c.mapEc fun e => { e with waitSync1 := some 3 }), by decide +kernel⟩

theorem test_job_control_3 : ∃ (s : State), s.core.ec.waitSync1 = none :=
  ⟨(st .standby), by decide +kernel⟩

theorem test_job_control_4 : ∃ (t : Nat) (a : Nat) (s : State), s.core.ec.waitSync1 = some a ∧ a + 100000000 ≤ s.at_ t :=
  ⟨100000003, 3, (st .web fun c => c.mapEc fun e => { e with waitSync1 := some 3 }), by decide +kernel⟩

theorem test_job_control_5 : ∃ (o : Orig) (s : State), s.core.owns o 0 = true ∧ s.core.mayWrite o 0x6000 1 3 ∧ s.core.job.running = true ∧ s.core.job.ending = none ∧ s.core.job.again = none :=
  ⟨.sdo, (jb .web), by decide +kernel⟩

theorem test_job_control_6 : ∃ (t : Nat) (l : Nat) (a : Nat) (s : State), s.core.job.ending = some (l, a) ∧ s.core.job.lineLast = some l ∧ a + s.core.obj 0x2413 2 * 1000 ≤ s.at_ t ∧ s.core.pipe.nextRes ≤ l :=
  ⟨20000005, 9, 5, (jb .web fun c => c.mapJob fun j => { j with ending := some (9, 5), lineLast := some 9 }), by decide +kernel⟩

theorem test_job_control_7 : ∃ (s : State), s.core.jobFinished = true ∧ s.core.job.again = none :=
  ⟨(jb .web fun c => ((c.mapJob fun j => { j with ending := some (0, 5), lineLast := some 0 }).mapPipe fun p => { p with nextRes := 1, nextLine := 1 }).mapEng fun e => { e with front := 1 }), by decide +kernel⟩

theorem test_job_control_8 : ∃ (o : Orig) (s : State), s.core.mayWrite o 0x6000 1 3 :=
  ⟨.sdo, (st .standby), by decide +kernel⟩

theorem test_job_control_9 : ∃ (o : Orig) (s : State), s.core.mayWrite o 0x6000 1 3 :=
  ⟨.sdo, (st .standby), by decide +kernel⟩

theorem test_job_control_10 : ∃ (t : Nat) (b : Nat) (k : Nat) (i : Instr) (o : Orig) (s : State), s.core.mayWrite o 0x6000 1 3 ∧ s.core.ringOpen 4 = true ∧ (s.core.ring 4).held = [] ∧ ((i = .jobStart t o ∧ b = 0 ∧ s.core.owns o 0 = true ∧ s.core.job.running = true ∧ k = 0x0800002C) ∨ (i = .jobStart t o ∧ b = 0 ∧ s.core.owns o 0 = true ∧ s.core.job.running = false ∧ s.core.inspecting = false ∧ k = 0x08000021) ∨ (i = .jobEnd t o ∧ b = 1 ∧ s.core.owns o 0 = true ∧ s.core.job.running = false ∧ k = 0) ∨ (i = .jobStart t o ∧ b = 0 ∧ s.core.owns o 0 = false ∧ k = 0x08000020)) :=
  ⟨1, 0, 0x0800002C, .jobStart 1 .sdo, .sdo, (jb .web fun c => c.mapCxl fun x => { x with hostUp := true, rings := modAt x.rings 4 fun r => { r with enable := true, size := 4 } }), ⟨by decide +kernel, by decide +kernel, by decide +kernel, Or.inl ⟨rfl, rfl, by decide +kernel, by decide +kernel, rfl⟩⟩⟩

theorem test_mode_requests_0 : ∃ (o : Orig) (v : Byte) (s : State), s.core.owns o 0 = true ∧ s.core.trans = none ∧ (o = .pdo ∨ s.core.isMapped 0x2000 0 = false) ∧ s.core.wordOk 0x2000 0 = true ∧ s.core.mode ≠ .boot ∧ s.core.mode ≠ .compline ∧ v.toNat % 16 = s.core.mode.code :=
  ⟨.sdo, 1, (st .standby), by decide +kernel⟩

theorem test_mode_requests_1 : ∃ (o : Orig) (v : Byte) (m : Mode) (s : State), s.core.owns o 0 = true ∧ s.core.mode ≠ .compline ∧ (o = .pdo ∨ s.core.isMapped 0x2000 0 = false) ∧ s.core.wordOk 0x2000 0 = true ∧ modeAsked (v.toNat % 16) = some m ∧ m ≠ s.core.mode ∧ firstCode (s.core.modeCodes (v.toNat % 16)) = none :=
  ⟨.sdo, 6, .service, (st .standby), by decide +kernel⟩

theorem test_mode_requests_2 : ∃ (k : Nat) (o : Orig) (v : Byte) (m : Mode) (s : State), s.core.owns o 0 = true ∧ s.core.mode ≠ .compline ∧ (o = .pdo ∨ s.core.isMapped 0x2000 0 = false) ∧ modeAsked (v.toNat % 16) = some m ∧ firstCode (s.core.modeCodes (v.toNat % 16)) = some k :=
  ⟨0x0800002B, .sdo, 4, .web, (st .standby fun c => { c with trans := some ⟨.standby, .dusk, 0, true⟩ }), by decide +kernel⟩

theorem test_mode_requests_3 : ∃ (o : Orig) (v : Byte) (s : State), s.core.owns o 0 = true ∧ s.core.mode ≠ .compline ∧ s.core.mode ≠ .boot ∧ s.core.trans = none ∧ o ≠ .pdo ∧ s.core.isMapped 0x2000 0 = false ∧ modeAsked (v.toNat % 16) = none :=
  ⟨.sdo, 0, (st .standby), by decide +kernel⟩

theorem test_mode_requests_4 : ∃ (v : Byte) (s : State), s.core.owns .mbx 0 = true ∧ s.core.mode = .standby ∧ s.core.trans = none ∧ s.core.pw.running ≠ 2 ∧ s.core.isMapped 0x2000 0 = false ∧ s.core.wordOk 0x2000 0 = true ∧ v.toNat % 16 = 6 :=
  ⟨6, (st .standby fun c => { c with owners := c.owners.map fun _ => .host }), by decide +kernel⟩

theorem test_mode_requests_5 : ∃ (o : Orig) (v : Byte) (m : Mode) (s : State), s.core.owns o 0 = true ∧ s.core.trans = none ∧ o ≠ .pdo ∧ s.core.isMapped 0x2000 0 = false ∧ s.core.mode ≠ .boot ∧ s.core.mode ≠ .compline ∧ s.core.mode ≠ .standby ∧ modeAsked (v.toNat % 16) = some m ∧ m ≠ .standby ∧ m ≠ s.core.mode :=
  ⟨.sdo, 4, .web, (st .service), by decide +kernel⟩

theorem test_mode_entered_0 : ∃ (tr : Transition) (s : State), s.core.trans = some tr ∧ tr.source ≠ .dusk ∧ tr.target ≠ .dusk ∧ s.core.job.running = false :=
  ⟨{ source := .standby, target := .service, start := 1 }, (st .standby fun c => { c with trans := some { source := .standby, target := .service, start := 1 } }), by decide +kernel⟩

theorem test_mode_entered_1 : ∃ (s : State), s.core.job.running = true :=
  ⟨(jb .web), by decide +kernel⟩

theorem test_mode_entered_2 : ∃ (s : State), 10500 ≤ s.core.tj ∧ s.core.sensing 16 = true ∧ s.core.mode ≠ .boot ∧ s.core.mode ≠ .dusk ∧ s.core.active 0x4230 0 = false ∧ s.core.job.again = none :=
  ⟨(st .standby fun c => c.put 0x3330 0x11 10500), by decide +kernel⟩

theorem test_reference_buffers_0 : ∃ (o : Orig) (s : State), s.core.mayWrite o 0x2301 0 4 ∧ s.core.mode ≠ .dusk ∧ s.core.flag 0x2301 0 = false :=
  ⟨.mbx, (st .standby), by decide +kernel⟩

theorem test_reference_buffers_1 : ∃ (o : Orig) (s : State), s.core.mayWrite o 0x2301 0 4 ∧ s.core.mode ≠ .dusk ∧ s.core.flag 0x2301 0 = true :=
  ⟨.mbx, (st .standby fun c => c.put 0x2301 0 1), by decide +kernel⟩

theorem test_reference_buffers_2 : ∃ (o : Orig) (s : State), s.core.mayWrite o 0x2301 0 4 ∧ s.core.mode ≠ .calibrate ∧ s.core.mode ≠ .dusk ∧ s.core.inspecting = false :=
  ⟨.mbx, (st .standby), by decide +kernel⟩

theorem test_reference_buffers_3 : ∃ (o : Orig) (s : State), s.core.mayWrite o 0x2301 0 4 ∧ o ≠ .pdo ∧ (s.core.mode = .calibrate ∨ s.core.inspecting = true) :=
  ⟨.mbx, (st .calibrate), by decide +kernel⟩

theorem test_reference_buffers_4 : ∃ (a : Nat) (q : Fin 16) (s : State), (s.core.refBuf q.val).enabledAt = some a :=
  ⟨7, 3, (st .standby fun c => { c with refs := modAt c.refs 3 fun r => { r with enabledAt := some 7 } }), by decide +kernel⟩

theorem test_reference_buffers_5 : ∃ (a : Nat) (q : Fin 16) (s : State), (s.core.refBuf q.val).enabledAt = some a ∧ (s.core.refBuf q.val).inWindow = true :=
  ⟨7, 3, (st .standby fun c => { c with refs := modAt c.refs 3 fun r => { r with enabledAt := some 7 } }), by decide +kernel⟩

theorem test_reference_buffers_7 : ∃ (o : Orig) (s : State), s.core.mayWrite o 0x2301 0 4 ∧ s.core.mode = .dusk :=
  ⟨.mbx, (st .dusk), by decide +kernel⟩

theorem test_journeyman_step_0 : ∃ (q : Fin 16) (s : State), s.core.walkRuns q.val = true ∧ (s.core.walk q.val).phase = .idle :=
  ⟨3, (jb .web), by decide +kernel⟩

theorem test_journeyman_step_1 : ∃ (q : Fin 16) (s : State), (s.core.walk q.val).phase = .settle :=
  ⟨3, (st .standby fun c => { c with walks := modAt c.walks 3 fun w => { w with phase := .settle } }), by decide +kernel⟩

theorem test_journeyman_step_2 : ∃ (q : Fin 16) (s : State), (s.core.walk q.val).phase = .measure :=
  ⟨3, (st .standby fun c => { c with walks := modAt c.walks 3 fun w => { w with phase := .measure } }), by decide +kernel⟩

theorem test_journeyman_step_3 : ∃ (q : Fin 16) (w : ConvWalk) (s : State), s.core.walk q.val = w ∧ w.phase = .verify ∧ 36864 ≤ w.cycles :=
  ⟨3, { phase := .verify, cycles := 36864 }, (st .standby fun c => { c with walks := modAt c.walks 3 fun w => { w with phase := .verify, cycles := 36864 } }), by decide +kernel⟩

theorem test_journeyman_step_4 : ∃ (q : Fin 16) (w : ConvWalk) (s : State), s.core.walk q.val = w ∧ w.phase = .handback :=
  ⟨3, { phase := .handback }, (st .standby fun c => { c with walks := modAt c.walks 3 fun w => { w with phase := .handback } }), by decide +kernel⟩

theorem test_foreground_calibration_0 : ∃ (o : Orig) (s : State), s.core.mayWrite o 0x2340 1 4 ∧ s.core.mode = .calibrate ∧ s.core.calRun = false :=
  ⟨.mbx, (st .calibrate), by decide +kernel⟩

theorem test_foreground_calibration_1 : ∃ (o : Orig) (s : State), s.core.mayWrite o 0x2340 1 4 ∧ o ≠ .pdo ∧ (s.core.mode ≠ .calibrate ∨ s.core.calRun = true) :=
  ⟨.mbx, (st .calibrate fun c => { c with calRun := true }), by decide +kernel⟩

theorem test_foreground_calibration_2 : ∃ (t : Nat) (res : List (Nat × Nat × List (ConvResult × MidResult))) (s : State), s.core.calRun = true ∧ s.core.calPassOver (s.at_ t) = true ∧ s.core.calSlices.all (calPasses res) = true :=
  ⟨1000000000, [(0, 3, List.replicate 128 (⟨0, 0, 209715, 0, false⟩, ⟨131072, 0, false⟩))], (st .calibrate fun c => { c with calRun := true, calFailed := some [(0, 3)] }), by decide +kernel⟩

theorem test_foreground_calibration_3 : ∃ (t : Nat) (res : List (Nat × Nat × List (ConvResult × MidResult))) (s : State), s.core.calRun = true ∧ s.core.calPassOver (s.at_ t) = true ∧ s.core.calSlices.all (fun k => (calFound res k).isSome) = true ∧ s.core.calSlices.all (calPasses res) = false :=
  ⟨1000000000, [(0, 3, List.replicate 128 (⟨0, 0, 0, 0, true⟩, ⟨0, 0, true⟩))], (st .calibrate fun c => { c with calRun := true, calFailed := some [(0, 3)] }), by decide +kernel⟩

theorem test_foreground_calibration_4 : ∃ (t : Nat) (s : State), s.core.calPassOver (s.at_ t) = false :=
  ⟨1, (st .calibrate fun c => { c with calRun := true, calFailed := some [(15, 64)] }), by decide +kernel⟩

theorem test_foreground_calibration_5 : ∃ (o : Orig) (s : State), s.core.mayWrite o 0x2340 1 4 ∧ (s.core.mode = .standby ∨ s.core.mode = .calibrate) :=
  ⟨.mbx, (st .standby), by decide +kernel⟩

theorem test_foreground_calibration_6 : ∃ (s : State), s.core.calSaving = true ∧ s.core.calStatus = 4 :=
  ⟨(st .standby fun c => { (c.put 0x2340 2 4) with calSaving := true }), by decide +kernel⟩

theorem test_foreground_calibration_7 : ∃ (o : Orig) (s : State), s.core.mayWrite o 0x2340 1 4 ∧ s.core.calRun = true :=
  ⟨.mbx, (st .calibrate fun c => { c with calRun := true }), by decide +kernel⟩

theorem test_foreground_calibration_8 : ∃ (t : Nat) (o : Orig) (s : State), s.core.mayWrite o 0x2340 1 4 ∧ s.core.calRun = false ∧ s.core.calFinished (s.at_ t) false = false :=
  ⟨1, .mbx, (st .calibrate), by decide +kernel⟩

theorem test_foreground_calibration_9 : ∃ (o : Orig) (s : State), s.core.mayWrite o 0x2340 1 4 ∧ s.core.calRun = false ∧ s.core.obj 0x2340 2 = 2 :=
  ⟨.mbx, (st .calibrate fun c => c.put 0x2340 2 2), by decide +kernel⟩

theorem test_foreground_calibration_10 : ∃ (o : Orig) (s : State), s.core.mayWrite o 0x2340 1 4 :=
  ⟨.mbx, (st .calibrate), by decide +kernel⟩

theorem test_encoder_edges_1 : ∃ (t : Nat) (i : Fin 2) (k : EdgeKind) (s : State), (k = .forward ∨ k = .backward) ∧ s.core.clk.tHeld = true ∧ s.core.tooFast (s.at_ t) i.val = false :=
  ⟨5, 0, .forward, (st .standby), by decide +kernel⟩

theorem test_encoder_edges_3 : ∃ (t : Nat) (i : Fin 2) (k : EdgeKind) (e : Rat) (s : State), (k = .forward ∨ k = .backward) ∧ s.core.tooFast (s.at_ t) i.val = false ∧ s.core.clk.tHeld = false ∧ s.core.blocksOn = true ∧ i.val = s.core.mot.encInUse ∧ s.core.loopRuns = true ∧ s.core.obj 0x2402 0 ≠ 2 ∧ s.core.mot.loop = .seeding ∧ s.core.mot.seedEdge = none ∧ e = (s.core.encCount i.val (k == .forward)).rawPos i.val :=
  ⟨5, 0, .forward, _, (jb .web fun c => (c.mapClk fun k => { k with tHeld := false }).mapMot fun m => { m with loop := .seeding }), ⟨Or.inl rfl, by decide +kernel, by decide +kernel, by decide +kernel, by decide +kernel, by decide +kernel, by decide +kernel, by decide +kernel, by decide +kernel, rfl⟩⟩

theorem test_encoder_edges_4 : ∃ (t : Nat) (i : Fin 2) (k : EdgeKind) (e : Rat) (dt : Rat) (xp : Rat) (s : State), (k = .forward ∨ k = .backward) ∧ s.core.tooFast (s.at_ t) i.val = false ∧ s.core.clk.tHeld = false ∧ s.core.blocksOn = true ∧ i.val = s.core.mot.encInUse ∧ s.core.loopRuns = true ∧ s.core.obj 0x2402 0 ≠ 2 ∧ s.core.mot.loop = .tracking ∧ s.core.mot.tPrev < s.at_ t ∧ e = (s.core.encCount i.val (k == .forward)).rawPos i.val + (s.core.enc i.val).off ∧ dt = (s.at_ t : Rat) - (s.core.mot.tPrev : Rat) ∧ xp = s.core.mot.xHat + s.core.mot.vHat * dt :=
  ⟨5, 0, .forward, _, _, _, (jb .web fun c => (c.mapClk fun k => { k with tHeld := false }).mapMot fun m => { m with loop := .tracking }), ⟨Or.inl rfl, by decide +kernel, by decide +kernel, by decide +kernel, by decide +kernel, by decide +kernel, by decide +kernel, by decide +kernel, by decide +kernel, rfl, rfl, rfl⟩⟩

theorem test_encoder_edges_6 : ∃ (t : Nat) (i : Fin 2) (k : EdgeKind) (s : State), (k = .forward ∨ k = .backward) ∧ s.core.tooFast (s.at_ t) i.val = true :=
  ⟨5, 0, .forward, (st .standby fun c => c.mapMot fun m => { m with encs := modAt m.encs 0 fun e => { e with decodedAt := some 0 } }), by decide +kernel⟩

theorem test_loss_stop_and_velocimetry_0 : ∃ (t : Nat) (last : Nat) (s : State), s.core.loopRuns = true ∧ [LoopState.seeding, .tracking, .slewing, .overspeed, .reversed].contains s.core.mot.loop = true ∧ last = max (max s.core.edgeA.2 s.core.mot.tPrev) ((s.core.enc s.core.mot.encInUse).lastAt.getD 0) ∧ s.core.lossTime s.core.mot.encInUse ≤ (s.at_ t : Rat) - (last : Rat) ∧ s.core.stopSpeed ≤ absR (s.core.speed s.core.mot.vHat) ∧ s.core.obj 0x2402 0 ≠ 2 :=
  ⟨1000000000, 0, (jb .web fun c => (c.mapClk fun k => { k with tHeld := false }).mapMot fun m => { m with lastEdge := some (0, 0), tPrev := 0, loop := .tracking, vHat := 1 }), by decide +kernel⟩

theorem test_loss_stop_and_velocimetry_1 : ∃ (t : Nat) (a : Nat) (last : Nat) (s : State), s.core.loopRuns = true ∧ [LoopState.seeding, .tracking, .slewing, .overspeed, .reversed].contains s.core.mot.loop = true ∧ last = max (max s.core.edgeA.2 s.core.mot.tPrev) ((s.core.enc s.core.mot.encInUse).lastAt.getD 0) ∧ s.core.lossTime s.core.mot.encInUse ≤ (s.at_ t : Rat) - (last : Rat) ∧ s.core.stopSpeed ≤ absR (s.core.speed s.core.mot.vHat) ∧ s.core.obj 0x2402 0 = 2 ∧ s.core.mot.encInUse = 0 ∧ (s.core.enc 1).lastAt = some a ∧ (s.at_ t : Rat) - (a : Rat) < s.core.lossTime 1 :=
  ⟨1000000000, 999999999, 0, (jb .web fun c => ((c.mapClk fun k => { k with tHeld := false }).put 0x2402 0 2).mapMot fun m => { m with lastEdge := some (0, 0), tPrev := 0, loop := .tracking, vHat := 1, encs := [{}, { lastAt := some 999999999 }] }), by decide +kernel⟩

theorem test_loss_stop_and_velocimetry_2 : ∃ (t : Nat) (last : Nat) (s : State), s.core.loopRuns = true ∧ [LoopState.seeding, .tracking, .slewing, .overspeed, .reversed].contains s.core.mot.loop = true ∧ last = max (max s.core.edgeA.2 s.core.mot.tPrev) ((s.core.enc s.core.mot.encInUse).lastAt.getD 0) ∧ s.core.lossTime s.core.mot.encInUse ≤ (s.at_ t : Rat) - (last : Rat) ∧ absR (s.core.speed s.core.mot.vHat) < s.core.stopSpeed :=
  ⟨1000000000, 0, (jb .web fun c => (c.mapClk fun k => { k with tHeld := false }).mapMot fun m => { m with lastEdge := some (0, 0), tPrev := 0, loop := .tracking, vHat := 0 }), by decide +kernel⟩

theorem test_loss_stop_and_velocimetry_3 : ∃ (t : Nat) (s : State), s.core.mot.loop = .coasting ∧ s.core.mode ≠ .compline ∧ s.core.mot.coastFrom + s.core.obj 0x2413 2 * 1000 < s.at_ t :=
  ⟨20000001, (jb .web fun c => c.mapMot fun m => { m with loop := .coasting }), by decide +kernel⟩

theorem test_loss_stop_and_velocimetry_4 : ∃ (s : State), s.core.job.running = true ∧ s.core.inspecting = true ∧ s.core.flag 0x2440 1 = true ∧ s.core.coasting = false :=
  ⟨(jb .web fun c => ((c.put 0x2440 1 1).put 0x2201 0 0 |>.put 0x2440 4 0).mapMot fun m => { m with expos := [{ m := 0, b := false, target := 0, centre := 1000, entry := 0 }, { m := 46, b := false, target := 0, centre := 46000, entry := 0 }, { m := 47, b := false, target := 0, centre := 48000, entry := 0 }, { m := 48, b := false, target := 0, centre := 49000, entry := 0 }] }), by decide +kernel⟩

theorem test_loss_stop_and_velocimetry_5 : ∃ (s : State), s.core.flag 0x2440 1 = false :=
  ⟨(st .web fun c => c.put 0x2440 1 0), by decide +kernel⟩

theorem test_loss_stop_and_velocimetry_6 : ∃ (s : State), s.core.coasting = false :=
  ⟨(st .standby), by decide +kernel⟩

theorem test_sheets_and_triggers_0 : ∃ (i : Fin 4) (rising : Bool) (s : State), s.core.mode = .sheet ∧ s.core.job.running = true ∧ s.core.job.ending = none ∧ s.core.clk.tHeld = false ∧ s.core.obj 0x2460 2 = i.val ∧ (s.core.obj 0x2460 3 == 0) = rising ∧ s.core.timedJob = false ∧ s.core.mot.lastTrig = none :=
  ⟨0, true, (jb .sheet fun c => c.mapClk fun k => { k with tHeld := false }), by decide +kernel⟩

theorem test_sheets_and_triggers_1 : ∃ (t : Nat) (i : Fin 4) (rising : Bool) (y : Rat) (s : State), s.core.mode = .sheet ∧ s.core.job.running = true ∧ s.core.job.ending = none ∧ s.core.clk.tHeld = false ∧ s.core.obj 0x2460 2 = i.val ∧ (s.core.obj 0x2460 3 == 0) = rising ∧ s.core.timedJob = false ∧ s.core.noDebug = true ∧ s.core.mot.lastTrig = some y ∧ s.core.xAt (s.at_ t) - y < (s.core.obj 0x2460 7 : Rat) :=
  ⟨5, 0, true, 0, (jb .sheet fun c => (c.mapClk fun k => { k with tHeld := false }).mapMot fun m => { m with lastTrig := some 0 }), by decide +kernel⟩

theorem test_sheets_and_triggers_2 : ∃ (t : Nat) (i : Fin 4) (rising : Bool) (s : State), s.core.mode = .sheet ∧ s.core.job.running = true ∧ s.core.job.ending = none ∧ s.core.clk.tHeld = false ∧ s.core.obj 0x2460 2 = i.val ∧ (s.core.obj 0x2460 3 == 0) = rising ∧ s.core.timedJob = true ∧ s.core.mot.burstLeft = 0 ∧ s.core.mot.burstEnd ≤ s.at_ t :=
  ⟨5, 0, true, (jb .sheet fun c => ((c.mapClk fun k => { k with tHeld := false }).put 0x2460 1 1).mapJob fun j => { j with timed := true, sheet := true }), by decide +kernel⟩

theorem test_exposures_0 : ∃ (t : Nat) (c : Rat) (held : Bool) (e : Nat → Nat) (s : State), s.core.timedJob = false ∧ s.core.exposes = true ∧ s.core.exposDone = false ∧ s.core.coasting = false ∧ s.core.centreFor = some (c, held) ∧ c - s.core.commitLead s.core.nextTarget s.core.mot.nextB ≤ (s.at_ t : Rat) ∧ s.core.unitDue (s.at_ t) = false ∧ s.core.mot.slewLeft = 0 ∧ (∀ k, e k = (s.core.expoTicks s.core.nextTarget s.core.mot.nextB).getD k 0) :=
  ⟨1, (1 / 2), false, (fun k => (((jb .web fun c => ((c.mapClk fun k => { k with tHeld := false }).mapPipe fun p => { p with curUnit := 1 }).mapMot fun m => { m with loop := .tracking, vHat := 1 })).core.expoTicks ((jb .web fun c => ((c.mapClk fun k => { k with tHeld := false }).mapPipe fun p => { p with curUnit := 1 }).mapMot fun m => { m with loop := .tracking, vHat := 1 })).core.nextTarget ((jb .web fun c => ((c.mapClk fun k => { k with tHeld := false }).mapPipe fun p => { p with curUnit := 1 }).mapMot fun m => { m with loop := .tracking, vHat := 1 })).core.mot.nextB).getD k 0), (jb .web fun c => ((c.mapClk fun k => { k with tHeld := false }).mapPipe fun p => { p with curUnit := 1 }).mapMot fun m => { m with loop := .tracking, vHat := 1 }), ⟨by decide +kernel, by decide +kernel, by decide +kernel, by decide +kernel, by decide +kernel, by decide +kernel, by decide +kernel, by decide +kernel, fun _ => rfl⟩⟩

theorem test_exposures_1 : ∃ (t : Nat) (s : State), s.core.timedJob = true ∧ s.core.mot.burstLeft ≠ 0 ∧ s.core.clk.tHeld = false ∧ s.core.job.running = true ∧ s.core.burstReset - ((4 * (s.core.obj 0x2450 0 + 16) : Nat) : Rat) ≤ (s.at_ t : Rat) :=
  ⟨1000, (jb .sheet fun c => ((c.mapClk fun k => { k with tHeld := false }).mapMot fun m => { m with burstLeft := 1 }).mapJob fun j => { j with sheet := true, timed := true }), by decide +kernel⟩

theorem test_exposures_2 : ∃ (s : State), s.core.clk.tHeld = false :=
  ⟨(jb .web fun c => c.mapClk fun k => { k with tHeld := false }), by decide +kernel⟩

theorem test_exposures_3 : ∃ (m : Nat) (a : Nat) (b : Bool) (k : Fin 6) (y : Expo) (s : State), s.core.clk.tHeld = false ∧ s.core.findExpo m b = some y ∧ y.xferAt.getD k.val 0 = a :=
  ⟨7, 0, false, 0, { m := 7, b := false, target := 0, centre := 900, entry := 0, xfers := [some 5, none, none, none, none, none] }, (jb .web fun c => (c.mapClk fun k => { k with tHeld := false }).mapMot fun m => { m with expos := [{ m := 7, b := false, target := 0, centre := 900, entry := 0, xfers := [some 5, none, none, none, none, none] }] }), by decide +kernel⟩

theorem test_exposures_4 : ∃ (t : Nat) (n : Nat) (s : State), s.core.loopRuns = true ∧ s.core.unitDue (s.at_ t) = true ∧ s.core.nextUnit = some n :=
  ⟨1, 0, (jb .web fun c => (c.mapClk fun k => { k with tHeld := false }).mapMot fun m => { m with loop := .tracking, vHat := 1 }), by decide +kernel⟩

theorem test_exposures_5 : ∃ (t : Nat) (south : Bool) (s : State), s.core.job.running = true ∧ s.core.slotFree3 (s.at_ t) south = true :=
  ⟨1, false, (jb .web), by decide +kernel⟩

theorem test_alarm_deadlines_and_motion_commit_0 : ∃ (s : State), s.core.clk.tHeld = false :=
  ⟨(st .standby fun c => c.mapClk fun k => { k with tHeld := false }), by decide +kernel⟩

theorem test_alarm_deadlines_and_motion_commit_1 : ∃ (t : Nat) (ch : Fin 64) (a : OpenAlarm) (s : State), s.core.clk.tHeld = false ∧ s.core.eng.opens.filter (fun x => x.ch == ch.val) = [a] ∧ a.deadline ≤ s.at_ t ∧ a.known = none :=
  ⟨5, 63, { ch := 63, num := 4, first := 1, line := 2, deadline := 5, known := none, early := 0, late := 0 }, (jb .web fun c => (c.mapClk fun k => { k with tHeld := false }).mapEng fun e => { e with opens := [{ ch := 63, num := 4, first := 1, line := 2, deadline := 5, known := none, early := 0, late := 0 }] }), by decide +kernel⟩

theorem test_alarm_deadlines_and_motion_commit_2 : ∃ (o : Orig) (s : State), s.core.mayWrite o 0x2490 0 1 ∧ (s.core.bank 4).latch = none ∧ s.core.exposFit (fun i k => (s.core.pendingView i k).1) = true ∧ s.core.commitWaits = true :=
  ⟨.sdo, (jb .web), by decide +kernel⟩

theorem test_alarm_deadlines_and_motion_commit_3 : ∃ (idx : Nat) (sub : Nat) (v : Nat) (o : Orig) (s : State), s.core.mayWrite o 0x2490 0 1 ∧ (s.core.bank 4).latch = none ∧ s.core.exposFit (fun i k => (s.core.pendingView i k).1) = true ∧ s.core.commitWaits = false ∧ (s.core.bank 4).pend = [(key idx sub, v)] ∧ sub < 256 ∧ idx ∈ [0x2420, 0x2430, 0x2431] :=
  ⟨0x2420, 0, 33, .sdo, (st .standby fun c => { c with banks := modAt c.banks 4 fun b => { b with pend := [(key 0x2420 0, 33)] } }), by decide +kernel⟩

theorem test_alarm_deadlines_and_motion_commit_4 : ∃ (o : Orig) (s : State), s.core.mayWrite o 0x2490 0 1 ∧ o ≠ .pdo ∧ (s.core.bank 4).latch.isSome = true ∧ s.core.exposFit (fun i k => (s.core.pendingView i k).1) = true :=
  ⟨.sdo, (st .standby fun c => { c with banks := modAt c.banks 4 fun b => { b with latch := some [] } }), by decide +kernel⟩

theorem test_motion_frame_0 : ∃ (i : Instr) (s : State) (u : State), exec i s = .next u ∧ ((∃ t e k, i = .encoderEdge t e k) ∨ (∃ t e, i = .encoderZ t e) ∨ (∃ t, i = .encoderLost t) ∨ (∃ t, i = .stopDeclared t) ∨ (∃ t, i = .coastingLimit t) ∨ (∃ t w m, i = .velocimetrySample t w m) ∨ (∃ t, i = .velocimetryValidityLapse t) ∨ (∃ t k r, i = .sheetTrigger t k r ∧ s.core.noDebug = true) ∨ (∃ t, i = .sheetLimitReached t) ∨ (∃ t k r, i = .trigEdge t k r ∧ s.core.noDebug = true) ∨ (∃ t, i = .exposureCommitPoint t) ∨ (∃ t m b k, i = .exposureReset t m b k) ∨ (∃ t m b k, i = .exposureTransfer t m b k) ∨ (∃ t g w k a l, i = .rowConversion t g w k a l) ∨ (∃ t w a, i = .freeRowSlot t w a) ∨ (∃ t, i = .epochStart t) ∨ (∃ t c, i = .alarmDeadline t c)) :=
  ⟨.encoderZ 1 0, State.reset, _, ⟨rfl, Or.inr (Or.inl ⟨1, 0, rfl⟩)⟩⟩

theorem test_rows_to_lines_0 : ∃ (t : Nat) (m : Nat) (row : Nat) (start : Nat) (tx : Nat) (seg : Fin 8) (south : Bool) (b : Bool) (k : Fin 6) (x : Expo) (s : State), s.core.segOn seg.val = true ∧ s.core.inspecting = true ∧ s.core.job.running = true ∧ s.core.coasting = false ∧ start + s.core.convTime seg.val ≤ s.at_ t ∧ s.core.activeDue seg.val south m b k.val row start = some (x, tx) :=
  ⟨2000, 7, 16, 6, 5, 0, false, false, 0, { m := 7, b := false, target := 0, centre := 900, entry := 0, xfers := [some 5, none, none, none, none, none] }, (jb .web fun c => { (c.mapPipe fun p => { p with gens := [{ first := 0, start := 0, g0 := 0, g1 := 0, gm := 0, band := 0, params := [] }] }) with mot := { expos := [{ m := 7, b := false, target := 0, centre := 900, entry := 0, xfers := [some 5, none, none, none, none, none] }] }, walks := modAt c.walks 0 fun w => { w with darkFirst := true }, links := modAt c.links 0 fun l => { l with st := 2, dataSleep := false, lock := 0x1FF } }), by decide +kernel⟩

theorem test_rows_to_lines_1 : ∃ (t : Nat) (start : Nat) (seg : Fin 8) (south : Bool) (kind : RowKind) (s : State), s.core.segOn seg.val = true ∧ s.core.inspecting = true ∧ s.core.job.running = true ∧ s.core.coasting = false ∧ start + s.core.convTime seg.val ≤ s.at_ t ∧ ((∃ j : Fin 8, kind = .black j ∧ s.core.blackDue seg.val south j.val start = true) ∨ (∃ m r47, kind = .velo m r47 ∧ s.core.veloDue seg.val south m r47 start = true)) :=
  ⟨2000, 6, 0, false, (.black 0), (jb .web fun c => c.mapMot fun m => { m with expos := [{ m := 7, b := false, target := 0, centre := 900, entry := 0, xfers := [some 5, none, none, none, none, none] }] }), ⟨by decide +kernel, by decide +kernel, by decide +kernel, by decide +kernel, by decide +kernel, Or.inl ⟨0, rfl, by decide +kernel⟩⟩⟩

theorem test_rows_to_lines_2 : ∃ (line : Nat) (seg : Fin 8) (k : Fin 6) (p : RowPkt) (x : Expo) (row : Nat) (l : List (Expo × Nat × Nat)) (s : State), s.core.pipe.inFlight.find? (fun q => q.seg == seg.val) = some p ∧ p.kind = .active x.m x.b k row ∧ s.core.job.running = true ∧ s.core.schedule p.south = (x, k.val, row) :: l ∧ alook s.core.pipe.lastRow (2 * seg.val + b2n p.south) = none ∧ 0 ≤ s.core.tagCoord x (s.core.rowCoord x k.val row) ∧ s.core.lineOf (s.core.rowCoord x k.val row).floor = some line ∧ s.core.linkCarries seg.val = true :=
  ⟨16, 0, 0, ⟨0, false, .active 7 false 0 16, 0, 0, 900, 0, {}, some 16, false, 50, false, []⟩, { m := 7, b := false, target := 0, centre := 900, entry := 0, xfers := [some 5, none, none, none, none, none] }, 16, (((jb .web fun c => { (c.mapPipe fun p => { p with gens := [{ first := 0, start := 0, g0 := 0, g1 := 0, gm := 0, band := 0, params := [] }], inFlight := [⟨0, false, .active 7 false 0 16, 0, 0, 900, 0, {}, some 16, false, 50, false, []⟩] }) with mot := { expos := [{ m := 7, b := false, target := 0, centre := 900, entry := 0, xfers := [some 5, none, none, none, none, none] }] }, walks := modAt c.walks 0 fun w => { w with darkFirst := true }, links := modAt c.links 0 fun l => { l with st := 2, dataSleep := false, lock := 0x1FF } })).core.schedule false).tail, (jb .web fun c => { (c.mapPipe fun p => { p with gens := [{ first := 0, start := 0, g0 := 0, g1 := 0, gm := 0, band := 0, params := [] }], inFlight := [⟨0, false, .active 7 false 0 16, 0, 0, 900, 0, {}, some 16, false, 50, false, []⟩] }) with mot := { expos := [{ m := 7, b := false, target := 0, centre := 900, entry := 0, xfers := [some 5, none, none, none, none, none] }] }, walks := modAt c.walks 0 fun w => { w with darkFirst := true }, links := modAt c.links 0 fun l => { l with st := 2, dataSleep := false, lock := 0x1FF } }), by decide +kernel⟩

theorem test_rows_to_lines_3 : ∃ (t : Nat) (line : Nat) (seg : Fin 8) (k : Fin 6) (p : RowPkt) (x : Expo) (row : Nat) (l : List (Expo × Nat × Nat)) (s : State), s.core.pipe.inFlight.find? (fun q => q.seg == seg.val) = some p ∧ p.kind = .active x.m x.b k row ∧ s.core.job.running = true ∧ s.core.schedule p.south = (x, k.val, row) :: l ∧ alook s.core.pipe.lastRow (2 * seg.val + b2n p.south) = none ∧ 0 ≤ s.core.tagCoord x (s.core.rowCoord x k.val row) ∧ s.core.lineOf (s.core.rowCoord x k.val row).floor = some line ∧ s.core.linkCarries seg.val = true ∧ p.due ≤ s.at_ t :=
  ⟨50, 16, 0, 0, ⟨0, false, .active 7 false 0 16, 0, 0, 900, 0, {}, some 16, false, 50, false, []⟩, { m := 7, b := false, target := 0, centre := 900, entry := 0, xfers := [some 5, none, none, none, none, none] }, 16, (((jb .web fun c => { (c.mapPipe fun p => { p with gens := [{ first := 0, start := 0, g0 := 0, g1 := 0, gm := 0, band := 0, params := [] }], inFlight := [⟨0, false, .active 7 false 0 16, 0, 0, 900, 0, {}, some 16, false, 50, false, []⟩] }) with mot := { expos := [{ m := 7, b := false, target := 0, centre := 900, entry := 0, xfers := [some 5, none, none, none, none, none] }] }, walks := modAt c.walks 0 fun w => { w with darkFirst := true }, links := modAt c.links 0 fun l => { l with st := 2, dataSleep := false, lock := 0x1FF } })).core.schedule false).tail, (jb .web fun c => { (c.mapPipe fun p => { p with gens := [{ first := 0, start := 0, g0 := 0, g1 := 0, gm := 0, band := 0, params := [] }], inFlight := [⟨0, false, .active 7 false 0 16, 0, 0, 900, 0, {}, some 16, false, 50, false, []⟩] }) with mot := { expos := [{ m := 7, b := false, target := 0, centre := 900, entry := 0, xfers := [some 5, none, none, none, none, none] }] }, walks := modAt c.walks 0 fun w => { w with darkFirst := true }, links := modAt c.links 0 fun l => { l with st := 2, dataSleep := false, lock := 0x1FF } }), by decide +kernel⟩

theorem test_rows_to_lines_4 : ∃ (t : Nat) (line : Nat) (seg : Fin 8) (k : Fin 6) (p : RowPkt) (x : Expo) (row : Nat) (l : List (Expo × Nat × Nat)) (s : State), s.core.pipe.inFlight.find? (fun q => q.seg == seg.val) = some p ∧ p.kind = .active x.m x.b k row ∧ s.core.job.running = true ∧ s.core.schedule p.south = (x, k.val, row) :: l ∧ alook s.core.pipe.lastRow (2 * seg.val + b2n p.south) = none ∧ 0 ≤ s.core.tagCoord x (s.core.rowCoord x k.val row) ∧ s.core.lineOf (s.core.rowCoord x k.val row).floor = some line ∧ s.core.linkCarries seg.val = true ∧ s.at_ t < p.due :=
  ⟨49, 16, 0, 0, ⟨0, false, .active 7 false 0 16, 0, 0, 900, 0, {}, some 16, false, 50, false, []⟩, { m := 7, b := false, target := 0, centre := 900, entry := 0, xfers := [some 5, none, none, none, none, none] }, 16, (((jb .web fun c => { (c.mapPipe fun p => { p with gens := [{ first := 0, start := 0, g0 := 0, g1 := 0, gm := 0, band := 0, params := [] }], inFlight := [⟨0, false, .active 7 false 0 16, 0, 0, 900, 0, {}, some 16, false, 50, false, []⟩] }) with mot := { expos := [{ m := 7, b := false, target := 0, centre := 900, entry := 0, xfers := [some 5, none, none, none, none, none] }] }, walks := modAt c.walks 0 fun w => { w with darkFirst := true }, links := modAt c.links 0 fun l => { l with st := 2, dataSleep := false, lock := 0x1FF } })).core.schedule false).tail, (jb .web fun c => { (c.mapPipe fun p => { p with gens := [{ first := 0, start := 0, g0 := 0, g1 := 0, gm := 0, band := 0, params := [] }], inFlight := [⟨0, false, .active 7 false 0 16, 0, 0, 900, 0, {}, some 16, false, 50, false, []⟩] }) with mot := { expos := [{ m := 7, b := false, target := 0, centre := 900, entry := 0, xfers := [some 5, none, none, none, none, none] }] }, walks := modAt c.walks 0 fun w => { w with darkFirst := true }, links := modAt c.links 0 fun l => { l with st := 2, dataSleep := false, lock := 0x1FF } }), by decide +kernel⟩

theorem test_rows_to_lines_5 : ∃ (n : Nat) (s : State), s.core.pipe.nextLine = n ∧ s.core.lineWanted n = true ∧ (∀ x ∈ s.core.lineCtxs, s.core.lineDone x n = true) :=
  ⟨0, (jb .web fun c => c.put 0x2201 0 0), by decide +kernel⟩

theorem test_rows_to_lines_6 : ∃ (n : Nat) (s : State), s.core.pipe.nextRes = n ∧ (∃ l ∈ s.core.pipe.lines, l.n = n ∧ l.res = none) ∧ (∀ l ∈ s.core.pipe.lines, l.n = n → l.res = none → s.core.lineSettled l.ctx n = true) :=
  ⟨0, (jb .web fun c => (c.put 0x2201 0 0).mapPipe fun p => { p with nextLine := 1, lines := [⟨0, 0, 0, none, false, false, 9, []⟩] }), by decide +kernel⟩

theorem test_context_commits_0 : ∃ (o : Orig) (n : Fin 4) (s : State), s.core.mayWrite o 0x2801 (n.val + 1) 5 ∧ (s.core.bank n.val).latch = none ∧ (n.val = 0 → (s.core.pendingView 0x2630 2).1 < (s.core.pendingView 0x2630 3).1) ∧ (if n.val < 2 then s.core.commitWaits else s.core.carries n.val) = true :=
  ⟨.mbx, 0, (jb .web), by decide +kernel⟩

theorem test_context_commits_1 : ∃ (idx : Nat) (sub : Nat) (v : Nat) (o : Orig) (n : Fin 4) (s : State), s.core.mayWrite o 0x2801 (n.val + 1) 5 ∧ (s.core.bank n.val).latch = none ∧ (n.val = 0 → (s.core.pendingView 0x2630 2).1 < (s.core.pendingView 0x2630 3).1) ∧ (if n.val < 2 then s.core.commitWaits else s.core.carries n.val) = false ∧ (s.core.bank n.val).pend = [(key idx sub, v)] ∧ sub < 256 ∧ bankOf idx sub = some n.val :=
  ⟨0x2611, 0, 0, .mbx, 0, (st .standby fun c => { c with banks := modAt c.banks 0 fun b => { b with pend := [(key 0x2611 0, 0)] } }), by decide +kernel⟩

theorem test_context_commits_2 : ∃ (o : Orig) (n : Fin 4) (s : State), s.core.mayWrite o 0x2801 (n.val + 1) 5 :=
  ⟨.mbx, 3, (st .standby), by decide +kernel⟩

theorem test_auxiliary_frames_0 : ∃ (o : Orig) (p : Fin 2) (s : State), s.core.mayWrite o (0x2810 + p.val) 1 5 ∧ s.core.mode ≠ .dusk :=
  ⟨.mbx, 1, (st .standby), by decide +kernel⟩

theorem test_auxiliary_frames_1 : ∃ (p : Fin 2) (vs : Bool) (a : AuxPort) (s : State), s.core.ctx.ports.getD p.val {} = a ∧ a.on = true ∧ a.want = none ∧ a.inFrame = false ∧ s.core.job.running = true ∧ s.core.inspecting = true ∧ s.core.job.ending = none ∧ (s.core.bank (p.val + 2)).latch = none ∧ s.core.auxActive p.val 2 vs = true :=
  ⟨0, true, { on := true }, (jb .web fun c => c.mapCtx fun x => { x with ports := [{ on := true }, {}] }), by decide +kernel⟩

theorem test_auxiliary_frames_2 : ∃ (p : Fin 2) (r : AuxFrame) (smp : List AuxSample) (px : List AuxSample) (s : State), s.core.openFrame p.val = some r ∧ r.trunc = false ∧ r.count < s.core.obj (0x2810 + p.val) 4 ∧ px = smp.filter (fun q => q.falling == (s.core.obj (0x2810 + p.val) 5).testBit 0 && s.core.auxActive p.val 1 q.hs && s.core.auxActive p.val 2 q.vs) :=
  ⟨0, { port := 0, seqNo := 2, start := 1, pos := none, gen := 0, k := 0, g := 4096, slot := false, statsDue := true, mvDue := false }, (List.replicate 3 ⟨false, true, true, 7, false⟩), (List.replicate 3 ⟨false, true, true, 7, false⟩), (jb .web fun c => c.mapCtx fun x => { x with frames := [{ port := 0, seqNo := 2, start := 1, pos := none, gen := 0, k := 0, g := 4096, slot := false, statsDue := true, mvDue := false }], ports := [{ on := true, inFrame := true, seqNo := 2 }, {}] }), by decide +kernel⟩

theorem test_auxiliary_frames_3 : ∃ (p : Fin 2) (vs : Bool) (r : AuxFrame) (s : State), s.core.openFrame p.val = some r ∧ s.core.auxActive p.val 2 vs = false :=
  ⟨0, false, { port := 0, seqNo := 2, start := 1, pos := none, gen := 0, k := 0, g := 4096, slot := false, statsDue := true, mvDue := false }, (jb .web fun c => c.mapCtx fun x => { x with frames := [{ port := 0, seqNo := 2, start := 1, pos := none, gen := 0, k := 0, g := 4096, slot := false, statsDue := true, mvDue := false }], ports := [{ on := true, inFrame := true, seqNo := 2 }, {}] }), by decide +kernel⟩

theorem test_auxiliary_frames_4 : ∃ (r : AuxFrame) (s : State), s.core.ctx.sideBusy = none ∧ s.core.ctx.frames.filter (fun f => !f.side) = [r] :=
  ⟨{ port := 0, seqNo := 2, start := 1, pos := none, gen := 0, k := 0, g := 4096, slot := false, statsDue := true, mvDue := false }, (jb .web fun c => c.mapCtx fun x => { x with frames := [{ port := 0, seqNo := 2, start := 1, pos := none, gen := 0, k := 0, g := 4096, slot := false, statsDue := true, mvDue := false }], ports := [{ on := true, inFrame := true, seqNo := 2 }, {}] }), by decide +kernel⟩

theorem test_auxiliary_frames_5 : ∃ (p : Nat) (k : Nat) (n : Nat) (s : State), s.core.ctx.sideBusy = some (p, k, n) ∧ (∃ f ∈ s.core.ctx.frames, f.port = p ∧ f.run = k ∧ f.seqNo = n ∧ f.ended = true) :=
  ⟨0, 0, 2, (jb .web fun c => c.mapCtx fun x => { x with frames := [{ port := 0, seqNo := 2, start := 1, pos := none, gen := 0, k := 0, g := 4096, slot := false, ended := true, statsDue := true, mvDue := false }], ports := [{ on := true, inFrame := true, seqNo := 2 }, {}], sideBusy := some (0, 0, 2) }), by decide +kernel⟩

theorem test_output_streams_0 : ∃ (n : Fin 4) (d : Nat × StatAcc) (s : State), n.val < 2 ∧ s.core.ctx.due.find? (fun x => x.1 == n.val) = some d :=
  ⟨1, (1, {}), (jb .web fun c => c.mapCtx fun x => { x with due := [(1, {})] }), by decide +kernel⟩

theorem test_output_streams_1 : ∃ (p : Fin 2) (n : Fin 4) (r : AuxFrame) (s : State), n.val = p.val + 2 ∧ s.core.ctx.frames.find? (fun f => f.port == p.val && f.statsDue) = some r ∧ r.side = true ∧ r.run = s.core.ctx.run ∧ s.core.slotFree 2 false = true :=
  ⟨0, 2, { port := 0, seqNo := 2, start := 1, pos := none, gen := 0, k := 0, g := 4096, slot := false, ended := true, side := true, statsDue := true, mvDue := false }, (jb .web fun c => c.mapCtx fun x => { x with frames := [{ port := 0, seqNo := 2, start := 1, pos := none, gen := 0, k := 0, g := 4096, slot := false, ended := true, side := true, statsDue := true, mvDue := false }], ports := [{ on := true, inFrame := true, seqNo := 2 }, {}] }), by decide +kernel⟩

theorem test_output_streams_2 : ∃ (ls : List LineRec) (s : State), s.core.tileRow = some ls :=
  ⟨[⟨0, 0, 0, some .pass, false, false, 9, []⟩], (jb .web fun c => (c.mapJob fun j => { j with ending := some (0, 5), lineLast := some 0 }).mapCtx fun x => { x with disp := [⟨0, 0, 0, some .pass, false, false, 9, []⟩] }), by decide +kernel⟩

theorem test_output_streams_3 : ∃ (ls : List LineRec) (s : State), s.core.pictureLines = some ls ∧ s.core.slotFree 5 false = false :=
  ⟨[⟨0, 0, 0, some .pass, false, false, 9, []⟩], (jb .web fun c => ((c.mapJob fun j => { j with ending := some (0, 5), lineLast := some 0 }).mapCtx fun x => { x with arch := [⟨0, 0, 0, some .pass, false, false, 9, []⟩] }).mapCxl fun x => { x with rings := [{}, {}, {}, {}, {}, { held := List.replicate 49152 [] }, {}, {}, {}, {}] }), ⟨by decide +kernel, full_part _ 5 false (by decide +kernel) (Nat.le_of_eq (List.length_replicate (n := 49152)).symm)⟩⟩

theorem test_output_streams_4 : ∃ (s : State), s.core.ctx.suspended = false ∧ s.core.flag 0x2840 1 = true ∧ s.core.cxl.hostUp = false :=
  ⟨(st .web fun c => c.put 0x2840 1 1), by decide +kernel⟩

theorem test_output_streams_5 : ∃ (s : State), s.core.ctx.suspended = true ∧ s.core.cxl.hostUp = true ∧ s.core.stagingFits 2 = true ∧ s.core.ctx.gapFrom = none ∧ s.core.ctx.staged = [] :=
  ⟨(st .web fun c => (c.mapCtx fun x => { x with suspended := true }).mapCxl fun x => { x with hostUp := true }), by decide +kernel⟩

theorem test_output_streams_6 : ∃ (f : Nat) (s : State), s.core.ctx.suspended = true ∧ s.core.cxl.hostUp = true ∧ s.core.stagingFits 2 = true ∧ s.core.ctx.gapFrom = some f ∧ s.core.lastOf s.core.ctx.gapTo = true ∧ s.core.slotFree 5 false = false :=
  ⟨0, (jb .web fun c => ((c.mapJob fun j => { j with ending := some (0, 5), lineLast := some 0 }).mapCtx fun x => { x with suspended := true, gapFrom := some 0, gapTo := 0 }).mapCxl fun x => { x with hostUp := true, rings := [{}, {}, {}, {}, {}, { held := List.replicate 49152 [] }, {}, {}, {}, {}] }), ⟨by decide +kernel, by decide +kernel, by decide +kernel, by decide +kernel, by decide +kernel, full_part _ 5 false (by decide +kernel) (Nat.le_of_eq (List.length_replicate (n := 49152)).symm)⟩⟩

theorem test_output_streams_7 : ∃ (n : Fin 2) (l : LineRec) (s : State), s.core.ctx.mv = [none, none] ∧ s.core.ctx.mvQ.getD n.val [] = [l] ∧ s.core.throttle = 0 ∧ s.core.slotFree 3 false = true ∧ s.core.lastOf l.n = false ∧ 1 < s.core.obj (0x2850 + n.val) 6 :=
  ⟨0, ⟨0, 0, 0, some .pass, true, true, 0, []⟩, (jb .web fun c => (c.put 0x2850 6 100).mapCtx fun x => { x with mvQ := [[⟨0, 0, 0, some .pass, true, true, 0, []⟩], []] }), by decide +kernel⟩

theorem test_output_streams_8 : ∃ (n : Fin 2) (l : LineRec) (s : State), s.core.ctx.mv = [none, none] ∧ s.core.ctx.mvQ.getD n.val [] = [l] ∧ s.core.throttle ≠ 0 :=
  ⟨1, ⟨0, 0, 0, some .pass, true, true, 0, []⟩, (jb .web fun c => (c.put 0x3330 0x1D 1).mapCtx fun x => { x with mvQ := [[], [⟨0, 0, 0, some .pass, true, true, 0, []⟩]] }), by decide +kernel⟩

theorem test_output_frame_0 : ∃ (i : Instr) (s : State) (u : State), exec i s = .next u ∧ ((∃ t o n, i = .contextCommit t o n) ∨ (∃ t o n, i = .contextDiscard t o n) ∨ (∃ t o p v, i = .auxEnable t o p v) ∨ (∃ t p v, i = .auxStartOfFrame t p v) ∨ (∃ t p l, i = .auxLine t p l) ∨ (∃ t p v, i = .auxEndOfFrame t p v) ∨ (∃ t, i = .sidePathFrameStart t) ∨ (∃ t, i = .sidePathFrameEnd t) ∨ (∃ t n, i = .statsBlockWrite t n) ∨ (∃ t, i = .displayTileRow t) ∨ (∃ t, i = .archivePicture t) ∨ (∃ t, i = .archiveSuspend t) ∨ (∃ t, i = .archiveResume t) ∨ (∃ t n, i = .mvFrameStart t n)) :=
  ⟨.auxEndOfFrame 1 0 true, State.reset, _, ⟨rfl, Or.inr (Or.inr (Or.inr (Or.inr (Or.inr (Or.inl ⟨1, 0, true, rfl⟩)))))⟩⟩

theorem test_output_frame_1 : ∃ (i : Instr) (s : State) (u : State), exec i s = .next u ∧ ((∃ t o n, i = .contextCommit t o n) ∨ (∃ t o n, i = .contextDiscard t o n) ∨ (∃ t o p v, i = .auxEnable t o p v) ∨ (∃ t p v, i = .auxStartOfFrame t p v) ∨ (∃ t p l, i = .auxLine t p l) ∨ (∃ t p v, i = .auxEndOfFrame t p v) ∨ (∃ t, i = .sidePathFrameStart t) ∨ (∃ t, i = .sidePathFrameEnd t) ∨ (∃ t n, i = .statsBlockWrite t n) ∨ (∃ t, i = .displayTileRow t) ∨ (∃ t, i = .archivePicture t) ∨ (∃ t, i = .archiveSuspend t) ∨ (∃ t, i = .archiveResume t) ∨ (∃ t n, i = .mvFrameStart t n)) ∧ (∀ t o n, i = .contextCommit t o n ∨ i = .contextDiscard t o n → s.core.wordOk 0x2801 (n.val + 1) = true) ∧ (∀ t o p v, i = .auxEnable t o p v → s.core.wordOk (auxIdx p.val) 1 = true) :=
  ⟨.auxEndOfFrame 1 0 true, State.reset, _, ⟨rfl, Or.inr (Or.inr (Or.inr (Or.inr (Or.inr (Or.inl ⟨1, 0, true, rfl⟩))))), fun _ _ _ h => (by rcases h with h | h <;> cases h), fun _ _ _ _ h => (by cases h)⟩⟩

theorem test_output_frame_2 : ∃ (i : Instr) (s : State) (u : State), exec i s = .next u ∧ ((∃ t o n, i = .contextCommit t o n) ∨ (∃ t o n, i = .contextDiscard t o n) ∨ (∃ t o p v, i = .auxEnable t o p v) ∨ (∃ t p v, i = .auxStartOfFrame t p v) ∨ (∃ t p l, i = .auxLine t p l) ∨ (∃ t p v, i = .auxEndOfFrame t p v) ∨ (∃ t, i = .sidePathFrameStart t) ∨ (∃ t, i = .sidePathFrameEnd t) ∨ (∃ t n, i = .statsBlockWrite t n) ∨ (∃ t, i = .displayTileRow t) ∨ (∃ t, i = .archivePicture t) ∨ (∃ t, i = .archiveSuspend t) ∨ (∃ t, i = .archiveResume t) ∨ (∃ t n, i = .mvFrameStart t n)) :=
  ⟨.auxEndOfFrame 1 0 true, State.reset, _, ⟨rfl, Or.inr (Or.inr (Or.inr (Or.inr (Or.inr (Or.inl ⟨1, 0, true, rfl⟩)))))⟩⟩

theorem test_engine_stages_0 : ∃ (k : Nat) (n : Nat) (l : LineRec) (s : State), s.core.inspLine n = some l ∧ s.core.job.running = true ∧ s.core.sliceOn k = true ∧ s.core.earlyNext k = n ∧ s.core.carryReady k n = true :=
  ⟨0, 0, ⟨0, 0, 0, some .pass, false, false, 9, []⟩, (jb .web fun c => c.mapPipe fun p => { p with lines := [⟨0, 0, 0, some .pass, false, false, 9, []⟩] }), by decide +kernel⟩

theorem test_engine_stages_1 : ∃ (k : Nat) (n : Nat) (s : State), s.core.earlyNext k ≠ n :=
  ⟨0, 5, (st .standby), by decide +kernel⟩

theorem test_engine_stages_2 : ∃ (k : Nat) (n : Nat) (l : LineRec) (e : SliceLine) (s : State), s.core.verdictNext k = n ∧ s.core.inspLine n = some l ∧ s.core.sliceLine k n = some e ∧ l.res.isSome = true ∧ s.core.job.running = true ∧ s.core.sliceOn k = true ∧ s.core.carryReady k n = true :=
  ⟨0, 0, ⟨0, 0, 0, some .pass, false, false, 9, []⟩, ⟨0, 0, 0, false, 0, [], [], [], []⟩, (jb .web fun c => (c.mapPipe fun p => { p with lines := [⟨0, 0, 0, some .pass, false, false, 9, []⟩] }).mapEng fun e => { e with lines := [⟨0, 0, 0, false, 0, [], [], [], []⟩] }), by decide +kernel⟩

theorem test_engine_stages_3 : ∃ (q : NbrMsg) (m : Msg) (s : State), s.core.eng.msgs.find? (fun m => m.fromS == q.fromSlice && m.toS == q.toSlice && m.line == q.line && m.label == q.label) = some m :=
  ⟨{ fromSlice := 0, toSlice := 1, line := 5, label := 0 }, ⟨0, 1, 5, 0, 3, 4, 2, 9, 3, 4, 9, false⟩, (jb .web fun c => c.mapEng fun e => { e with msgs := [⟨0, 1, 5, 0, 3, 4, 2, 9, 3, 4, 9, false⟩] }), by decide +kernel⟩

theorem test_engine_stages_4 : ∃ (r : Rec) (s : State), s.core.firstRec = some r ∧ s.core.settledTo r.first = true ∧ s.core.ev.loss = none :=
  ⟨⟨0, 1, 0, 5, 2, 3, 77, 0, 0, 0, 0⟩, (jb .web fun c => c.mapEng fun e => { e with front := 1, recs := [⟨0, 1, 0, 5, 2, 3, 77, 0, 0, 0, 0⟩] }), by decide +kernel⟩

theorem test_pages_and_references_0 : ∃ (t : Nat) (s : State), s.core.pglReady (s.at_ t) = false :=
  ⟨5, (st .standby), by decide +kernel⟩

theorem test_pages_and_references_1 : ∃ (t : Nat) (s : State), s.core.pglReady (s.at_ t) = true :=
  ⟨1, (jb .web fun c => c.mapCxl fun x => { x with hostUp := true, rings := modAt x.rings 6 fun r => { r with enable := true, size := 4, prod := 1 } }), by decide +kernel⟩

theorem test_pages_and_references_2 : ∃ (t : Nat) (d : List Byte) (l : List Byte) (s : State), s.core.pglReady (s.at_ t) = true ∧ leAt d 40 2 = 0 ∧ s.core.descReason d (s.core.pageOfDesc (s.at_ t) d l) true = none :=
  ⟨1, ([1, 0, 0, 0, 16] ++ zeros 59), [], (jb .web fun c => c.mapCxl fun x => { x with hostUp := true, rings := modAt x.rings 6 fun r => { r with enable := true, size := 4, prod := 1 } }), by decide +kernel⟩

theorem test_pages_and_references_3 : ∃ (t : Nat) (i : Nat) (k : Nat) (p : Page) (s : State), s.core.nextRequest = some (p, i) ∧ s.core.job.running = true ∧ (p.start + p.nextReq : Nat) - (s.core.obj 0x2A20 1 : Int) ≤ s.core.entryLine (s.at_ t) ∧ p.hostSrc = true ∧ s.core.cxl.hostUp = true ∧ s.core.cxl.d3Want = false ∧ s.core.allAsked = true ∧ s.core.outstanding < s.core.readLimit ∧ s.core.refAt i p.nextReq = none ∧ s.core.pages[i]? = some p ∧ k = min ((s.core.readLimit - s.core.outstanding) * s.core.readUnit) (s.core.refSpan p).2 :=
  ⟨1, 0, _, { id := 1, cookie := 0, gap := 0, len := 16, absolute := none, aligned := false, raster := 0, stride := 0, format := 1, hostSrc := true, noComp := false, col := 0, width := 4096, prof := [], targets := [], regions := [], readAt := 0 }, (jb .web fun c => ((c.put 0x2A10 1 1).mapCxl fun x => { x with hostUp := true }).mapEng fun e => { e with pages := [{ id := 1, cookie := 0, gap := 0, len := 16, absolute := none, aligned := false, raster := 0, stride := 0, format := 1, hostSrc := true, noComp := false, col := 0, width := 4096, prof := [], targets := [], regions := [], readAt := 0 }] }), ⟨by decide +kernel, by decide +kernel, by decide +kernel, by decide +kernel, by decide +kernel, by decide +kernel, by decide +kernel, by decide +kernel, by decide +kernel, by decide +kernel, rfl⟩⟩

theorem test_pages_and_references_4 : ∃ (r : RefLine) (p : Page) (s : State), s.core.eng.refs.find? (fun x => decide (x.got < x.asked)) = some r ∧ s.core.pages[r.page]? = some p ∧ s.core.cxl.d3Want = false :=
  ⟨{ page := 0, line := 0, state := 1, asked := 64 }, { id := 1, cookie := 0, gap := 0, len := 16, absolute := none, aligned := false, raster := 0, stride := 0, format := 1, hostSrc := true, noComp := false, col := 0, width := 4096, prof := [], targets := [], regions := [], readAt := 0 }, (jb .web fun c => ((c.put 0x2A10 1 1).mapCxl fun x => { x with hostUp := true }).mapEng fun e => { e with pages := [{ id := 1, cookie := 0, gap := 0, len := 16, absolute := none, aligned := false, raster := 0, stride := 0, format := 1, hostSrc := true, noComp := false, col := 0, width := 4096, prof := [], targets := [], regions := [], readAt := 0 }], refs := [{ page := 0, line := 0, state := 1, asked := 64 }] }), by decide +kernel⟩

theorem test_pages_and_references_5 : ∃ (data : List Byte) (r : RefLine) (p : Page) (s : State), s.core.eng.refs.find? (fun x => decide (x.got < x.asked)) = some r ∧ s.core.pages[r.page]? = some p ∧ s.core.cxl.d3Want = false ∧ data.length = min (r.asked - r.got) s.core.readUnit :=
  ⟨(zeros 64), { page := 0, line := 0, state := 1, asked := 64 }, { id := 1, cookie := 0, gap := 0, len := 16, absolute := none, aligned := false, raster := 0, stride := 0, format := 1, hostSrc := true, noComp := false, col := 0, width := 4096, prof := [], targets := [], regions := [], readAt := 0 }, (jb .web fun c => ((c.put 0x2A10 1 1).mapCxl fun x => { x with hostUp := true }).mapEng fun e => { e with pages := [{ id := 1, cookie := 0, gap := 0, len := 16, absolute := none, aligned := false, raster := 0, stride := 0, format := 1, hostSrc := true, noComp := false, col := 0, width := 4096, prof := [], targets := [], regions := [], readAt := 0 }], refs := [{ page := 0, line := 0, state := 1, asked := 64 }] }), by decide +kernel⟩

theorem test_pages_and_references_6 : ∃ (t : Nat) (i : Nat) (p : Page) (s : State), s.core.nextPlacement = some (p, i) ∧ s.core.job.running = true ∧ ((p.start + p.nextPlace : Nat) : Int) - 80 ≤ s.core.engineLine (s.at_ t) :=
  ⟨1, 0, { id := 1, cookie := 0, gap := 0, len := 16, absolute := none, aligned := false, raster := 0, stride := 0, format := 1, hostSrc := true, noComp := false, col := 0, width := 4096, prof := [], targets := [], regions := [], readAt := 0 }, (jb .web fun c => ((c.put 0x2A10 1 1).mapCxl fun x => { x with hostUp := true }).mapEng fun e => { e with pages := [{ id := 1, cookie := 0, gap := 0, len := 16, absolute := none, aligned := false, raster := 0, stride := 0, format := 1, hostSrc := true, noComp := false, col := 0, width := 4096, prof := [], targets := [], regions := [], readAt := 0 }], front := 16 }), by decide +kernel⟩

theorem test_pages_and_references_7 : ∃ (i : Nat) (p : Page) (s : State), s.core.pages.zipIdx.find? (fun q => !q.1.done) = some (p, i) ∧ s.core.pageReached p = true ∧ s.core.settledTo (s.core.pageLast p) = true ∧ (∀ r ∈ s.core.eng.recs, s.core.pageLast p < r.first) ∧ s.core.ev.loss = none ∧ s.core.mode ≠ .compline :=
  ⟨0, { id := 1, cookie := 0, gap := 0, len := 16, absolute := none, aligned := false, raster := 0, stride := 0, format := 1, hostSrc := true, noComp := false, col := 0, width := 4096, prof := [], targets := [], regions := [], readAt := 0 }, (jb .web fun c => (((c.mapMot fun m => { m with xHat := 100 }).put 0x2A10 1 1).mapCxl fun x => { x with hostUp := true }).mapEng fun e => { e with pages := [{ id := 1, cookie := 0, gap := 0, len := 16, absolute := none, aligned := false, raster := 0, stride := 0, format := 1, hostSrc := true, noComp := false, col := 0, width := 4096, prof := [], targets := [], regions := [], readAt := 0 }], front := 16 }), by decide +kernel⟩

theorem test_pages_and_references_8 : ∃ (t : Nat) (i : Nat) (p : Page) (s : State), s.core.nextRequest = some (p, i) ∧ s.core.job.running = true ∧ (p.start + p.nextReq : Nat) - (s.core.obj 0x2A20 1 : Int) ≤ s.core.entryLine (s.at_ t) ∧ p.hostSrc = false ∧ s.core.runBias (p.raster + p.nextReq * p.stride + (s.core.refSpan p).1) (s.core.refSpan p).2 = true :=
  ⟨1, 0, { id := 1, cookie := 0, gap := 0, len := 16, absolute := none, aligned := false, raster := 0, stride := 0, format := 1, hostSrc := false, noComp := false, col := 0, width := 4096, prof := [], targets := [], regions := [], readAt := 0 }, (jb .web fun c => ((c.put 0x2A10 1 1).mapCxl fun x => { x with hostUp := true }).mapEng fun e => { e with pages := [{ id := 1, cookie := 0, gap := 0, len := 16, absolute := none, aligned := false, raster := 0, stride := 0, format := 1, hostSrc := false, noComp := false, col := 0, width := 4096, prof := [], targets := [], regions := [], readAt := 0 }], front := 16 }), by decide +kernel⟩

theorem test_pages_and_references_9 : ∃ (t : Nat) (d : List Byte) (s : State), s.core.pglReady (s.at_ t) = true ∧ leAt d 40 2 ≠ 0 ∧ leAt d 21 1 ≠ 0 ∧ s.core.runBias (leAt d 32 8) (32 * leAt d 40 2) = true :=
  ⟨1, ([1, 0, 0, 0, 16] ++ zeros 16 ++ [1] ++ zeros 18 ++ [1] ++ zeros 23), (jb .web fun c => c.mapCxl fun x => { x with hostUp := true, rings := modAt x.rings 6 fun r => { r with enable := true, size := 4, prod := 1 } }), by decide +kernel⟩

theorem test_journeyman_engines_0 : ∃ (g : Fin 8) (s : State), s.core.flag 0x2A80 1 = true ∧ s.core.job.running = true ∧ s.core.inspecting = true ∧ s.core.segOn g.val = true ∧ (s.core.engWalk g.val).phase = 0 ∧ (s.core.engWalk g.val).stopped = false ∧ (s.core.engWalk g.val).stepStart = none :=
  ⟨7, (jb .web), by decide +kernel⟩

theorem test_journeyman_engines_1 : ∃ (g : Fin 8) (b : Nat × Nat) (s : State), s.core.boundary g.val 1 = some b :=
  ⟨0, (0, 47), (jb .web fun c => c.mapEng fun e => { e with verdict := [(0, 48), (1, 48)], walks := modAt e.walks 0 fun w => { w with phase := 1 } }), by decide +kernel⟩

theorem test_journeyman_engines_2 : ∃ (g : Fin 8) (w : EngWalk) (s : State), s.core.engWalk g.val = w ∧ w.phase = 2 ∧ w.cur ≠ 64 :=
  ⟨0, { phase := 2 }, (jb .web fun c => c.mapEng fun e => { e with walks := modAt e.walks 0 fun w => { w with phase := 2 } }), by decide +kernel⟩

theorem test_journeyman_engines_3 : ∃ (g : Fin 8) (w : EngWalk) (s : State), s.core.engWalk g.val = w ∧ w.phase = 2 ∧ w.cur = 64 :=
  ⟨0, { phase := 2, cur := 64 }, (jb .web fun c => c.mapEng fun e => { e with walks := modAt e.walks 0 fun w => { w with phase := 2, cur := 64 } }), by decide +kernel⟩

theorem test_journeyman_engines_4 : ∃ (g : Fin 8) (w : EngWalk) (s : State), s.core.engWalk g.val = w ∧ w.phase = 2 :=
  ⟨0, { phase := 2 }, (jb .web fun c => c.mapEng fun e => { e with walks := modAt e.walks 0 fun w => { w with phase := 2 } }), by decide +kernel⟩

theorem test_journeyman_engines_5 : ∃ (g : Fin 8) (b : Nat × Nat) (s : State), s.core.boundary g.val 3 = some b :=
  ⟨0, (0, 47), (jb .web fun c => c.mapEng fun e => { e with verdict := [(0, 48), (1, 48)], walks := modAt e.walks 0 fun w => { w with phase := 3 } }), by decide +kernel⟩

theorem test_journeyman_engines_6 : ∃ (k : Nat) (g : Fin 8) (n : Fin 65) (s : State), s.core.servedBy g.val n.val = some k ∧ s.core.job.running = true ∧ s.core.segOn g.val = true ∧ n.val < 64 ∧ s.core.eng.walks.length = 8 ∧ (s.core.engWalk g.val).stopped = false ∧ (s.core.engWalk g.val).phase = 0 :=
  ⟨63, 0, 63, (jb .web), by decide +kernel⟩

theorem test_journeyman_engines_7 : ∃ (k : Nat) (g : Fin 8) (s : State), (s.core.engWalk g.val).jServes = some k ∧ s.core.job.running = true ∧ s.core.segOn g.val = true ∧ s.core.eng.walks.length = 8 ∧ (s.core.engWalk g.val).permanent = false :=
  ⟨7, 0, (jb .web fun c => c.mapEng fun e => { e with walks := modAt e.walks 0 fun w => { w with jServes := some 7 } }), by decide +kernel⟩

theorem test_journeyman_engines_8 : ∃ (o : Orig) (data : List Byte) (s : State), s.core.mayWrite o 0x2A01 0 6 ∧ s.core.mode = .standby ∧ data ≠ [] ∧ data.length ≤ 4194304 :=
  ⟨.mbx, [1, 2], (st .standby), by decide +kernel⟩

theorem test_journeyman_engines_9 : ∃ (o : Orig) (data : List Byte) (s : State), s.core.mayWrite o 0x2A01 0 6 ∧ s.core.mode = .standby ∧ data ≠ [] ∧ data.length ≤ 4194304 ∧ o ≠ .pdo :=
  ⟨.mbx, [1, 2], (st .standby), by decide +kernel⟩

theorem test_engine_frame_0 : ∃ (i : Instr) (s : State) (u : State), exec i s = .next u ∧ ((∃ t k n, i = .engineEarlyStage t k n) ∨ (∃ t k, i = .verdictStage t k) ∨ (∃ t q, i = .neighbourMessage t q) ∨ (∃ t, i = .recordCollectorWrite t) ∨ (∃ t k d l, i = .pglDescriptorRead t k d l) ∨ (∃ t, i = .refLineRequest t) ∨ (∃ t k d, i = .refLineArrival t k d ∧ s.core.cxl.d3Want = false) ∨ (∃ t, i = .refLinePlace t) ∨ (∃ t, i = .pageDone t) ∨ (∃ t g, i = .engineStepStart t g) ∨ (∃ t g, i = .engineTakeover t g) ∨ (∃ t g p, i = .engineSelfTestEnd t g p) ∨ (∃ t g, i = .engineHandback t g) ∨ (∃ t g n a b, i = .engineStall t g n a b)) :=
  ⟨.refLinePlace 1, State.reset, _, ⟨rfl, Or.inr (Or.inr (Or.inr (Or.inr (Or.inr (Or.inr (Or.inr (Or.inl ⟨1, rfl⟩)))))))⟩⟩

theorem test_engine_frame_1 : ∃ (i : Instr) (s : State) (u : State), exec i s = .next u ∧ ((∃ t k n, i = .engineEarlyStage t k n) ∨ (∃ t k, i = .verdictStage t k) ∨ (∃ t q, i = .neighbourMessage t q) ∨ (∃ t, i = .recordCollectorWrite t) ∨ (∃ t k d l, i = .pglDescriptorRead t k d l) ∨ (∃ t, i = .refLineRequest t) ∨ (∃ t k d, i = .refLineArrival t k d ∧ s.core.cxl.d3Want = false) ∨ (∃ t, i = .refLinePlace t) ∨ (∃ t, i = .pageDone t) ∨ (∃ t g, i = .engineStepStart t g) ∨ (∃ t g, i = .engineTakeover t g) ∨ (∃ t g p, i = .engineSelfTestEnd t g p) ∨ (∃ t g, i = .engineHandback t g) ∨ (∃ t g n a b, i = .engineStall t g n a b)) ∧ (∀ t k d, i ≠ .refLineArrival t k d) ∧ (∀ t k d l, i ≠ .pglDescriptorRead t k d l) ∧ (∀ t, i ≠ .refLineRequest t) :=
  ⟨.refLinePlace 1, State.reset, _, ⟨rfl, Or.inr (Or.inr (Or.inr (Or.inr (Or.inr (Or.inr (Or.inr (Or.inl ⟨1, rfl⟩))))))), fun _ _ _ h => (by cases h), fun _ _ _ _ h => (by cases h), fun _ h => by cases h⟩⟩

theorem test_tinker_steps_0 : ∃ (t : Nat) (a : Nat) (b : Nat) (k : Nat) (n : Fin 16) (x : Word32) (c : Core) (d : Core) (s : State), d = s.core.tkEnter (s.at_ t) x ∧ d.tkReady (s.at_ t) n.val = true ∧ (d.eng1 n.val).held = none ∧ b = d.inputs (s.at_ t) n.val ∧ a = lutAddr n.val ((d.eng1 n.val).st.toNat * 16 + b) ∧ d.sramLook (s.at_ t) a .clean = (true, c) ∧ k = c.sramData a ∧ canComplete (d.eng1 n.val) k = true :=
  ⟨8, (lutAddr 3 15), 15, 0, 3, 0xFFFFFFFF, (tkIn (tkSt (0) (fun e => { e with running := true }) (id))), (tkIn (tkSt (0) (fun e => { e with running := true }) (id))), (tkSt (0) (fun e => { e with running := true }) (id)), ⟨rfl, by decide +kernel, by decide +kernel, by decide +kernel, by decide +kernel, by decide +kernel, by decide +kernel, by decide +kernel⟩⟩

theorem test_tinker_steps_1 : ∃ (t : Nat) (a : Nat) (b : Nat) (k : Nat) (n : Fin 16) (x : Word32) (c : Core) (d : Core) (s : State), d = s.core.tkEnter (s.at_ t) x ∧ d.tkReady (s.at_ t) n.val = true ∧ (d.eng1 n.val).held = none ∧ b = d.inputs (s.at_ t) n.val ∧ a = lutAddr n.val ((d.eng1 n.val).st.toNat * 16 + b) ∧ d.sramLook (s.at_ t) a .clean = (true, c) ∧ k = c.sramData a ∧ field k 18 16 = 1 :=
  ⟨8, (lutAddr 3 15), 15, 1 * 2 ^ 16, 3, 0xFFFFFFFF, (tkIn (tkSt (1 * 2 ^ 16) (fun e => { e with running := true }) (id))), (tkIn (tkSt (1 * 2 ^ 16) (fun e => { e with running := true }) (id))), (tkSt (1 * 2 ^ 16) (fun e => { e with running := true }) (id)), ⟨rfl, by decide +kernel, by decide +kernel, by decide +kernel, by decide +kernel, by decide +kernel, by decide +kernel, by decide +kernel⟩⟩

theorem test_tinker_steps_2 : ∃ (t : Nat) (a : Nat) (b : Nat) (k : Nat) (n : Fin 16) (x : Word32) (c : Core) (d : Core) (s : State), d = s.core.tkEnter (s.at_ t) x ∧ d.tkReady (s.at_ t) n.val = true ∧ (d.eng1 n.val).held = none ∧ b = d.inputs (s.at_ t) n.val ∧ a = lutAddr n.val ((d.eng1 n.val).st.toNat * 16 + b) ∧ d.sramLook (s.at_ t) a .clean = (true, c) ∧ k = c.sramData a ∧ field k 18 16 = 2 :=
  ⟨8, (lutAddr 3 15), 15, 2 * 2 ^ 16, 3, 0xFFFFFFFF, (tkIn (tkSt (2 * 2 ^ 16) (fun e => { e with running := true }) (id))), (tkIn (tkSt (2 * 2 ^ 16) (fun e => { e with running := true }) (id))), (tkSt (2 * 2 ^ 16) (fun e => { e with running := true }) (id)), ⟨rfl, by decide +kernel, by decide +kernel, by decide +kernel, by decide +kernel, by decide +kernel, by decide +kernel, by decide +kernel⟩⟩

theorem test_tinker_steps_3 : ∃ (t : Nat) (a : Nat) (b : Nat) (k : Nat) (n : Fin 16) (x : Word32) (c : Core) (d : Core) (s : State), d = s.core.tkEnter (s.at_ t) x ∧ d.tkReady (s.at_ t) n.val = true ∧ (d.eng1 n.val).held = none ∧ b = d.inputs (s.at_ t) n.val ∧ a = lutAddr n.val ((d.eng1 n.val).st.toNat * 16 + b) ∧ d.sramLook (s.at_ t) a .clean = (true, c) ∧ k = c.sramData a ∧ field k 18 16 = 3 ∧ (d.eng1 n.val).tx.length < 8 :=
  ⟨8, (lutAddr 3 15), 15, 3 * 2 ^ 16, 3, 0xFFFFFFFF, (tkIn (tkSt (3 * 2 ^ 16) (fun e => { e with running := true }) (id))), (tkIn (tkSt (3 * 2 ^ 16) (fun e => { e with running := true }) (id))), (tkSt (3 * 2 ^ 16) (fun e => { e with running := true }) (id)), ⟨rfl, by decide +kernel, by decide +kernel, by decide +kernel, by decide +kernel, by decide +kernel, by decide +kernel, by decide +kernel, by decide +kernel⟩⟩

theorem test_tinker_steps_4 : ∃ (t : Nat) (a : Nat) (b : Nat) (k : Nat) (n : Fin 16) (x : Word32) (c : Core) (d : Core) (s : State), d = s.core.tkEnter (s.at_ t) x ∧ d.tkReady (s.at_ t) n.val = true ∧ (d.eng1 n.val).held = none ∧ b = d.inputs (s.at_ t) n.val ∧ a = lutAddr n.val ((d.eng1 n.val).st.toNat * 16 + b) ∧ d.sramLook (s.at_ t) a .clean = (true, c) ∧ k = c.sramData a ∧ field k 18 16 = 4 ∧ (d.eng1 n.val).rx ≠ [] :=
  ⟨8, (lutAddr 3 15), 15, 4 * 2 ^ 16, 3, 0xFFFFFFFF, (tkIn (tkSt (4 * 2 ^ 16) (fun e => { e with running := true, rx := [9] }) (id))), (tkIn (tkSt (4 * 2 ^ 16) (fun e => { e with running := true, rx := [9] }) (id))), (tkSt (4 * 2 ^ 16) (fun e => { e with running := true, rx := [9] }) (id)), ⟨rfl, by decide +kernel, by decide +kernel, by decide +kernel, by decide +kernel, by decide +kernel, by decide +kernel, by decide +kernel, by decide +kernel⟩⟩

theorem test_tinker_steps_5 : ∃ (t : Nat) (a : Nat) (b : Nat) (k : Nat) (n : Fin 16) (x : Word32) (c : Core) (d : Core) (s : State), d = s.core.tkEnter (s.at_ t) x ∧ d.tkReady (s.at_ t) n.val = true ∧ (d.eng1 n.val).held = none ∧ b = d.inputs (s.at_ t) n.val ∧ a = lutAddr n.val ((d.eng1 n.val).st.toNat * 16 + b) ∧ d.sramLook (s.at_ t) a .clean = (true, c) ∧ k = c.sramData a ∧ field k 18 16 = 5 :=
  ⟨8, (lutAddr 3 15), 15, 5 * 2 ^ 16, 3, 0xFFFFFFFF, (tkIn (tkSt (5 * 2 ^ 16) (fun e => { e with running := true }) (id))), (tkIn (tkSt (5 * 2 ^ 16) (fun e => { e with running := true }) (id))), (tkSt (5 * 2 ^ 16) (fun e => { e with running := true }) (id)), ⟨rfl, by decide +kernel, by decide +kernel, by decide +kernel, by decide +kernel, by decide +kernel, by decide +kernel, by decide +kernel⟩⟩

theorem test_tinker_steps_6 : ∃ (t : Nat) (a : Nat) (b : Nat) (k : Nat) (n : Fin 16) (x : Word32) (c : Core) (d : Core) (s : State), d = s.core.tkEnter (s.at_ t) x ∧ d.tkReady (s.at_ t) n.val = true ∧ (d.eng1 n.val).held = none ∧ b = d.inputs (s.at_ t) n.val ∧ a = lutAddr n.val ((d.eng1 n.val).st.toNat * 16 + b) ∧ d.sramLook (s.at_ t) a .clean = (true, c) ∧ k = c.sramData a ∧ field k 18 16 = 6 :=
  ⟨8, (lutAddr 3 15), 15, 6 * 2 ^ 16, 3, 0xFFFFFFFF, (tkIn (tkSt (6 * 2 ^ 16) (fun e => { e with running := true }) (id))), (tkIn (tkSt (6 * 2 ^ 16) (fun e => { e with running := true }) (id))), (tkSt (6 * 2 ^ 16) (fun e => { e with running := true }) (id)), ⟨rfl, by decide +kernel, by decide +kernel, by decide +kernel, by decide +kernel, by decide +kernel, by decide +kernel, by decide +kernel⟩⟩

theorem test_tinker_steps_7 : ∃ (t : Nat) (a : Nat) (b : Nat) (k : Nat) (n : Fin 16) (x : Word32) (c : Core) (d : Core) (s : State), d = s.core.tkEnter (s.at_ t) x ∧ d.tkReady (s.at_ t) n.val = true ∧ (d.eng1 n.val).held = none ∧ b = d.inputs (s.at_ t) n.val ∧ a = lutAddr n.val ((d.eng1 n.val).st.toNat * 16 + b) ∧ d.sramLook (s.at_ t) a .clean = (true, c) ∧ k = c.sramData a ∧ canComplete (d.eng1 n.val) k = false :=
  ⟨8, (lutAddr 3 15), 15, 4 * 2 ^ 16, 3, 0xFFFFFFFF, (tkIn (tkSt (4 * 2 ^ 16) (fun e => { e with running := true }) (id))), (tkIn (tkSt (4 * 2 ^ 16) (fun e => { e with running := true }) (id))), (tkSt (4 * 2 ^ 16) (fun e => { e with running := true }) (id)), ⟨rfl, by decide +kernel, by decide +kernel, by decide +kernel, by decide +kernel, by decide +kernel, by decide +kernel, by decide +kernel⟩⟩

theorem test_tinker_steps_8 : ∃ (t : Nat) (n : Fin 16) (x : Word32) (c : Core) (d : Core) (s : State), d = s.core.tkEnter (s.at_ t) x ∧ d.tkReady (s.at_ t) n.val = true ∧ (d.eng1 n.val).held = none ∧ d.sramLook (s.at_ t) (lutAddr n.val ((d.eng1 n.val).st.toNat * 16 + d.inputs (s.at_ t) n.val)) .clean = (false, c) :=
  ⟨8, 3, 0xFFFFFFFF, ((tkIn (st .standby fun c => (c.mapClk fun k => { k with tHeld := false }).mapTk fun k => { k with engs := modAt k.engs 3 fun e => { e with running := true } })).sramLook 8 (lutAddr 3 ((tkIn (st .standby fun c => (c.mapClk fun k => { k with tHeld := false }).mapTk fun k => { k with engs := modAt k.engs 3 fun e => { e with running := true } })).inputs 8 3)) .clean).2, (tkIn (st .standby fun c => (c.mapClk fun k => { k with tHeld := false }).mapTk fun k => { k with engs := modAt k.engs 3 fun e => { e with running := true } })), (st .standby fun c => (c.mapClk fun k => { k with tHeld := false }).mapTk fun k => { k with engs := modAt k.engs 3 fun e => { e with running := true } }), ⟨rfl, by decide +kernel, by decide +kernel, by decide +kernel⟩⟩

theorem test_tinker_steps_9 : ∃ (t : Nat) (n : Fin 16) (x : Word32) (s : State), (s.core.tkEnter (s.at_ t) x).tkReady (s.at_ t) n.val = false :=
  ⟨8, 3, 0, (st .standby), by decide +kernel⟩

theorem test_tinker_steps_10 : ∃ (t : Nat) (n : Fin 16) (s : State), (s.core.tkEnter (s.at_ t) s.core.tk.ext).tkReady (s.at_ t) n.val = false :=
  ⟨8, 3, (st .standby), by decide +kernel⟩

theorem test_tinker_steps_11 : ∃ (t : Nat) (n : Fin 16) (w : Word64) (d : Core) (s : State), d = s.core.tkEnter (s.at_ t) s.core.tk.ext ∧ d.tkReady (s.at_ t) n.val = true ∧ (d.eng1 n.val).held = some w ∧ field w.toNat 18 16 = 4 ∧ (d.eng1 n.val).rx ≠ [] :=
  ⟨8, 3, (4 * 2 ^ 16), (tkIn (tkSt (0) (fun e => { e with running := true, held := some (4 * 2 ^ 16), rx := [9] }) (id))), (tkSt (0) (fun e => { e with running := true, held := some (4 * 2 ^ 16), rx := [9] }) (id)), ⟨rfl, by decide +kernel, by decide +kernel, by decide +kernel, by decide +kernel⟩⟩

theorem test_tinker_steps_12 : ∃ (t : Nat) (n : Fin 16) (w : Word64) (d : Core) (s : State), d = s.core.tkEnter (s.at_ t) s.core.tk.ext ∧ d.tkReady (s.at_ t) n.val = true ∧ (d.eng1 n.val).held = some w ∧ field w.toNat 18 16 = 3 ∧ (d.eng1 n.val).tx.length < 8 :=
  ⟨8, 3, (3 * 2 ^ 16), (tkIn (tkSt (0) (fun e => { e with running := true, held := some (3 * 2 ^ 16) }) (id))), (tkSt (0) (fun e => { e with running := true, held := some (3 * 2 ^ 16) }) (id)), ⟨rfl, by decide +kernel, by decide +kernel, by decide +kernel, by decide +kernel⟩⟩

theorem test_tinker_steps_13 : ∃ (t : Nat) (n : Fin 16) (w : Word64) (d : Core) (s : State), d = s.core.tkEnter (s.at_ t) s.core.tk.ext ∧ d.tkReady (s.at_ t) n.val = true ∧ (d.eng1 n.val).held = some w ∧ canComplete (d.eng1 n.val) w.toNat = false :=
  ⟨8, 3, (4 * 2 ^ 16), (tkIn (tkSt (0) (fun e => { e with running := true, held := some (4 * 2 ^ 16) }) (id))), (tkSt (0) (fun e => { e with running := true, held := some (4 * 2 ^ 16) }) (id)), ⟨rfl, by decide +kernel, by decide +kernel, by decide +kernel⟩⟩

theorem test_tinker_commands_0 : ∃ (t : Nat) (t0 : Nat) (o : Orig) (bar : Bool) (d : Core) (s : State), d = s.core.tkSync (s.at_ t) ∧ (bar = true → s.core.barOwns = true) ∧ (bar = false → s.core.mayWrite o 0x2C00 2 2) ∧ s.core.startAt (s.at_ t) = some t0 ∧ s.core.blocksOn = true :=
  ⟨1, (((st .standby)).core.startGrid 1), .sdo, false, (((st .standby)).core.tkSync 1), (st .standby), by decide +kernel⟩

theorem test_tinker_commands_1 : ∃ (t : Nat) (o : Orig) (s : State), s.core.mayWrite o 0x2C00 2 2 ∧ o ≠ .pdo ∧ s.core.startAt (s.at_ t) = none :=
  ⟨100, .sdo, (st .standby fun c => c.put 0x2C00 5 128), by decide +kernel⟩

theorem test_tinker_commands_2 : ∃ (t : Nat) (o : Orig) (bar : Bool) (d : Core) (s : State), d = s.core.tkSync (s.at_ t) ∧ (bar = true → s.core.barOwns = true) ∧ (bar = false → s.core.mayWrite o 0x2C00 3 2) :=
  ⟨1, .mbx, true, (((st .standby fun c => { c with owners := c.owners.map fun _ => .host })).core.tkSync 1), (st .standby fun c => { c with owners := c.owners.map fun _ => .host }), by decide +kernel⟩

theorem test_tinker_commands_3 : ∃ (now : Nat) (t0 : Nat) (e : Tk), e.starts = [t0] ∧ e.stopAt = none ∧ t0 ≤ now :=
  ⟨5, 5, { starts := [5] }, by decide +kernel⟩

theorem test_tinker_commands_4 : ∃ (now : Nat) (t0 : Nat) (e : Tk), e.starts = [t0] ∧ e.stopAt = none ∧ now < t0 :=
  ⟨4, 5, { starts := [5] }, by decide +kernel⟩

theorem test_tinker_commands_5 : ∃ (now : Nat) (a : Nat) (e : Tk), e.starts = [] ∧ e.stopAt = some a ∧ a ≤ now :=
  ⟨7, 7, { stopAt := some 7 }, by decide +kernel⟩

theorem test_tinker_commands_6 : ∃ (now : Nat) (a : Nat) (e : Tk), e.starts = [] ∧ e.stopAt = some a ∧ now < a :=
  ⟨6, 7, { stopAt := some 7 }, by decide +kernel⟩

theorem test_tinker_commands_7 : ∃ (t : Nat) (d : Core) (s : State), d = s.core.tkSync (s.at_ t) ∧ s.core.tk.autoDone = false ∧ s.core.mode = .standby :=
  ⟨1, (((st .standby)).core.tkSync 1), (st .standby), by decide +kernel⟩

theorem test_tinker_commands_8 : ∃ (s : State), s.core.tk.autoDone = true :=
  ⟨(st .standby fun c => c.mapTk fun k => { k with autoDone := true }), by decide +kernel⟩

theorem test_tinker_commands_9 : ∃ (t : Nat) (n : Fin 16) (x : Word32) (d : Core) (s : State), s.core.barOwns = true ∧ d = (s.core.tkSync (s.at_ t)).pinsTake (s.at_ t) x ∧ (d.tkAt (s.at_ t) n.val).running = false :=
  ⟨8, 3, 0xFFFFFFFF, (tkDb (tkSt (0) (fun e => { e with running := false }) (fun c => { c with owners := c.owners.map fun _ => .host }))), (tkSt (0) (fun e => { e with running := false }) (fun c => { c with owners := c.owners.map fun _ => .host })), by decide +kernel⟩

theorem test_tinker_commands_10 : ∃ (t : Nat) (n : Nat) (k : Nat) (c : Core) (a : Nat) (b : Nat) (d : Core), n < c.tk.engs.length ∧ (c.eng1 n).running = false ∧ (c.eng1 n).dbg = [(t, false)] ∧ b = c.inputs t n ∧ a = lutAddr n ((c.eng1 n).st.toNat * 16 + b) ∧ c.sramLook t a .clean = (true, d) ∧ k = d.sramData a ∧ field k 18 16 = 0 :=
  ⟨8, 3, 0, (tkSt (0) (fun e => { e with running := false, dbg := [(8, false)] }) (id)).core, (lutAddr 3 15), 15, (tkSt (0) (fun e => { e with running := false, dbg := [(8, false)] }) (id)).core, ⟨by decide +kernel, by decide +kernel, by decide +kernel, by decide +kernel, by decide +kernel, by decide +kernel, by decide +kernel, by decide +kernel⟩⟩

theorem test_tinker_commands_11 : ∃ (t : Nat) (n : Nat) (k : Nat) (c : Core) (a : Nat) (b : Nat) (d : Core), n < c.tk.engs.length ∧ (c.eng1 n).running = false ∧ (c.eng1 n).dbg = [(t, false)] ∧ b = c.inputs t n ∧ a = lutAddr n ((c.eng1 n).st.toNat * 16 + b) ∧ c.sramLook t a .clean = (true, d) ∧ k = d.sramData a ∧ canComplete (c.eng1 n) k = false :=
  ⟨8, 3, 4 * 2 ^ 16, (tkSt (4 * 2 ^ 16) (fun e => { e with running := false, dbg := [(8, false)] }) (id)).core, (lutAddr 3 15), 15, (tkSt (4 * 2 ^ 16) (fun e => { e with running := false, dbg := [(8, false)] }) (id)).core, ⟨by decide +kernel, by decide +kernel, by decide +kernel, by decide +kernel, by decide +kernel, by decide +kernel, by decide +kernel, by decide +kernel⟩⟩

theorem test_tinker_commands_12 : ∃ (t : Nat) (n : Nat) (k : Nat) (c : Core), n < c.tk.engs.length ∧ (c.eng1 n).running = false ∧ (c.eng1 n).dbg = [(t, true)] ∧ k = (c.eng1 n).inj.toNat ∧ field k 18 16 = 0 :=
  ⟨8, 3, 0, (tkSt (0) (fun e => { e with running := false, dbg := [(8, true)] }) (id)).core, by decide +kernel⟩

theorem test_tinker_commands_13 : ∃ (s : State), s.core.barOwns = true :=
  ⟨(st .standby fun c => { c with owners := c.owners.map fun _ => .host }), by decide +kernel⟩

theorem test_tinker_commands_14 : ∃ (t : Nat) (i : Instr) (n : Fin 16) (x : Word32) (d : Core) (s : State), d = s.core.tkSync (s.at_ t) ∧ ((s.core.barOwns = false ∧ i = .tkClearErr t n) ∨ ((s.core.barOwns = false ∨ (d.tkAt (s.at_ t) n.val).running = true) ∧ (i = .tkDoStep t n x ∨ i = .tkInject t n x))) :=
  ⟨8, .tkInject 8 3 0, 3, 0, (((st .standby)).core.tkSync 8), (st .standby), ⟨rfl, Or.inr ⟨Or.inl (by decide +kernel), Or.inr rfl⟩⟩⟩

theorem test_tinker_commands_15 : ∃ (n : Nat) (c : Core), c.noDebug = true ∧ n < 16 ∧ n < c.tk.engs.length :=
  ⟨3, (st .standby).core, by decide +kernel⟩

theorem test_tinker_words_0 : ∃ (t : Nat) (bar : Bool) (o : Orig) (n : Fin 16) (d : Core) (s : State), d = s.core.tkSync (s.at_ t) ∧ (bar = false → s.core.mayWrite o (0x2C10 + n.val) 10 2) ∧ d.obj (0x2C10 + n.val) 5 = 0 ∧ (d.eng1 n.val).rx.length < 8 :=
  ⟨1, false, .sdo, 15, (((st .standby)).core.tkSync 1), (st .standby), by decide +kernel⟩

theorem test_tinker_words_1 : ∃ (t : Nat) (bar : Bool) (o : Orig) (n : Fin 16) (d : Core) (s : State), d = s.core.tkSync (s.at_ t) ∧ (bar = false → s.core.mayWrite o (0x2C10 + n.val) 10 2) ∧ (d.obj (0x2C10 + n.val) 5 ≠ 0 ∨ 8 ≤ (d.eng1 n.val).rx.length) :=
  ⟨1, true, .mbx, 15, (((st .standby fun c => c.mapTk fun k => { k with engs := modAt k.engs 15 fun e => { e with rx := List.replicate 8 1 } })).core.tkSync 1), (st .standby fun c => c.mapTk fun k => { k with engs := modAt k.engs 15 fun e => { e with rx := List.replicate 8 1 } }), by decide +kernel⟩

theorem test_tinker_words_2 : ∃ (t : Nat) (n : Fin 16) (d : Core) (s : State) (w : Word32) (l : List Word32), d = s.core.tkSync (s.at_ t) ∧ (d.eng1 n.val).tx = w :: l :=
  ⟨1, 0, (((st .standby fun c => (c.mapEc fun e => { e with al := .op }).mapTk fun k => { k with engs := modAt k.engs 0 fun e => { e with tx := [7] } })).core.tkSync 1), (st .standby fun c => (c.mapEc fun e => { e with al := .op }).mapTk fun k => { k with engs := modAt k.engs 0 fun e => { e with tx := [7] } }), 7, [], by decide +kernel⟩

theorem test_tinker_words_3 : ∃ (t : Nat) (n : Fin 16) (d : Core) (s : State), d = s.core.tkSync (s.at_ t) ∧ (d.eng1 n.val).tx = [] :=
  ⟨1, 0, (((st .standby)).core.tkSync 1), (st .standby), by decide +kernel⟩

theorem test_tinker_words_4 : ∃ (t : Nat) (o : Orig) (n : Fin 16) (d : Core) (s : State) (w : Word32) (l : List Word32), d = s.core.tkSync (s.at_ t) ∧ (d.eng1 n.val).tx = w :: l ∧ (o ≠ .sdo ∨ s.core.emergencyOn = true) :=
  ⟨1, .sdo, 0, (((st .standby fun c => (c.mapEc fun e => { e with al := .op }).mapTk fun k => { k with engs := modAt k.engs 0 fun e => { e with tx := [7] } })).core.tkSync 1), (st .standby fun c => (c.mapEc fun e => { e with al := .op }).mapTk fun k => { k with engs := modAt k.engs 0 fun e => { e with tx := [7] } }), 7, [], by decide +kernel⟩

theorem test_tinker_words_5 : ∃ (t : Nat) (d : Core) (s : State), d = s.core.tkSync (s.at_ t) :=
  ⟨1, (((st .standby)).core.tkSync 1), (st .standby), by decide +kernel⟩

theorem test_tinker_words_6 : ∃ (t : Nat) (w : BusWord) (l : List BusWord) (d : Core) (s : State), s.core.ticks = true ∧ d = s.core.tkSync (s.at_ t) ∧ d.tk.withheld ≠ some (tickOf (s.at_ t)) ∧ d.eng.bus = w :: l ∧ (∀ x ∈ d.eng.bus, routeWord x.ch ∉ d.faulty) :=
  ⟨1, ⟨7, 3, 8⟩, [], (((st .standby fun c => (c.mapClk fun k => { k with tHeld := false }).mapEng fun e => { e with bus := [⟨7, 3, 8⟩] })).core.tkSync 1), (st .standby fun c => (c.mapClk fun k => { k with tHeld := false }).mapEng fun e => { e with bus := [⟨7, 3, 8⟩] }), by decide +kernel⟩

theorem test_tinker_words_7 : ∃ (s : State), s.core.ticks = false :=
  ⟨(st .standby fun c => c.mapClk fun k => { k with tHeld := true }), by decide +kernel⟩

theorem test_tinker_words_8 : ∃ (t : Nat) (d : Core) (s : State), s.core.ticks = true ∧ d = s.core.tkSync (s.at_ t) ∧ (d.tk.withheld = some (tickOf (s.at_ t)) ∨ (∀ w ∈ d.eng.bus, routeWord w.ch ∈ d.sram.poison)) :=
  ⟨1, (((st .standby fun c => (c.mapClk fun k => { k with tHeld := false }).mapTk fun k => { k with withheld := some 0 })).core.tkSync 1), (st .standby fun c => (c.mapClk fun k => { k with tHeld := false }).mapTk fun k => { k with withheld := some 0 }), by decide +kernel⟩

theorem test_tinker_words_9 : ∃ (t : Nat) (x : RouteChange) (s : State), s.core.tk.changes = [x] ∧ s.core.ticks = true ∧ tickOf x.at_ < tickOf (s.at_ t) ∧ s.core.tk.busTick ≠ some (tickOf (s.at_ t)) ∧ (s.core.busDelivers (s.at_ t) = false ∨ tickOf x.at_ + 256 ≤ tickOf (s.at_ t)) :=
  ⟨8, { at_ := 0, key := 3, value := 7 }, (st .standby fun c => (c.mapClk fun k => { k with tHeld := false }).mapTk fun k => { k with changes := [{ at_ := 0, key := 3, value := 7 }] }), by decide +kernel⟩

theorem test_tinker_words_10 : ∃ (t : Nat) (x : RouteChange) (s : State), s.core.tk.changes = [x] ∧ (s.core.ticks = false ∨ tickOf (s.at_ t) ≤ tickOf x.at_ ∨ s.core.tk.busTick = some (tickOf (s.at_ t)) ∨ (s.core.busDelivers (s.at_ t) = true ∧ tickOf (s.at_ t) < tickOf x.at_ + 256)) :=
  ⟨3, { at_ := 0, key := 3, value := 7 }, (st .standby fun c => (c.mapClk fun k => { k with tHeld := false }).mapTk fun k => { k with changes := [{ at_ := 0, key := 3, value := 7 }] }), by decide +kernel⟩

theorem test_tinker_words_11 : ∃ (w : BusWord) (l : List BusWord) (c : Core), c.eng.bus = w :: l ∧ c.routeBad w.ch = false :=
  ⟨⟨7, 3, 8⟩, [], (st .standby fun c => c.mapEng fun e => { e with bus := [⟨7, 3, 8⟩] }).core, by decide +kernel⟩

theorem test_tinker_frame_0 : ∃ (i : Instr) (s : State) (u : State), exec i s = .next u ∧ ((∃ t n x, i = .tinkerStep t n x) ∨ (∃ t n, i = .tinkerStallRetry t n) ∨ (∃ t b o m, i = .tkStart t b o m) ∨ (∃ t b o m, i = .tkStop t b o m) ∨ (∃ t, i = .tkAutostart t) ∨ (∃ t n x, i = .tkDoStep t n x) ∨ (∃ t n x, i = .tkInject t n x) ∨ (∃ t n, i = .tkClearErr t n) ∨ (∃ t b o n w, i = .tkRxWrite t b o n w) ∨ (∃ t b o n, i = .tkTxRead t b o n) ∨ (∃ t m, i = .tkIrqClear t m) ∨ (∃ t, i = .alarmDelivery t) ∨ (∃ t, i = .routeChange t)) :=
  ⟨.tkIrqClear 1 0, State.reset, _, ⟨rfl, Or.inr (Or.inr (Or.inr (Or.inr (Or.inr (Or.inr (Or.inr (Or.inr (Or.inr (Or.inr (Or.inl ⟨1, 0, rfl⟩))))))))))⟩⟩

theorem test_on_die_memory_0 : ∃ (t : Nat) (a : Nat) (p : Nat) (e : Merge) (s : State), s.core.mergeAt p a = some e ∧ e.last + 64 ≤ s.at_ t ∧ s.core.sram.isInit (pageOf a) = true ∧ a ∉ s.core.sram.poison ∧ s.core.wordFound a .clean = .clean :=
  ⟨64, 0x20000000, 0, ⟨0, 0x20000000, 0xFF, 5, 0⟩, (st .standby fun c => c.mapSram fun m => { m with merge := [⟨0, 0x20000000, 0xFF, 5, 0⟩], init := [(0x20000, 0x20000)] }), by decide +kernel⟩

theorem test_on_die_memory_1 : ∃ (t : Nat) (a : Nat) (p : Nat) (e : Merge) (s : State), s.core.mergeAt p a = some e ∧ s.at_ t < e.last + 64 :=
  ⟨63, 0x20000000, 0, ⟨0, 0x20000000, 0xFF, 5, 0⟩, (st .standby fun c => c.mapSram fun m => { m with merge := [⟨0, 0x20000000, 0xFF, 5, 0⟩], init := [(0x20000, 0x20000)] }), by decide +kernel⟩

theorem test_on_die_memory_2 : ∃ (off : Nat) (bank : Nat) (key : Nat) (r : Fin 5) (s : State), s.core.sweepsRun = true ∧ bank < sweepsOf r.val ∧ key = sweepKey r.val bank ∧ s.core.nextSwept r.val bank (regionBytes r.val / 8) ((alook s.core.sram.sweepPos key).getD 0) = some off ∧ off + 8 < regionBytes r.val ∧ s.core.sram.isInit (pageOf (sramAddr r.val off)) = true ∧ sramAddr r.val off ∉ s.core.sram.poison ∧ (∀ p ∈ s.core.sram.flips, p.1 ≠ sramAddr r.val off) :=
  ⟨0, 0, (sweepKey 4 0), 4, (st .standby fun c => c.mapSram fun m => { m with init := [(4 * 2 ^ 16, 4 * 2 ^ 16)] }), by decide +kernel⟩

theorem test_on_die_memory_3 : ∃ (t : Nat) (bank : Nat) (key : Nat) (us : Nat) (r : Fin 5) (s : State), s.core.sweepsRun = true ∧ bank < sweepsOf r.val ∧ key = sweepKey r.val bank ∧ us = (s.at_ t - (alook s.core.sram.sweepAt key).getD s.core.sram.sweepFrom) / 1000 ∧ s.core.nextSwept r.val bank (regionBytes r.val / 8) ((alook s.core.sram.sweepPos key).getD 0) = none :=
  ⟨1, 0, (sweepKey 4 0), 0, 4, (st .standby), by decide +kernel⟩

theorem test_on_die_memory_4 : ∃ (s : State), s.core.flag 0x2F20 1 = true ∧ s.core.blocksOn = true ∧ s.core.mode ≠ .boot ∧ s.core.sram.lampPos + 1 < 221184 :=
  ⟨(st .standby fun c => (c.put 0x2F20 1 1).mapSram fun m => { m with lampPos := 0 }), by decide +kernel⟩

theorem test_on_die_memory_5 : ∃ (s : State), s.core.flag 0x2F20 1 = true ∧ s.core.blocksOn = true ∧ s.core.mode ≠ .boot ∧ s.core.sram.lampPos + 1 = 221184 :=
  ⟨(st .standby fun c => (c.put 0x2F20 1 1).mapSram fun m => { m with lampPos := 221183 }), by decide +kernel⟩

theorem test_on_die_memory_6 : ∃ (a : Nat) (s : State), pageOf a ∈ s.core.sram.rewrite ∧ s.core.flag 0x2F30 4 = false :=
  ⟨4096, (st .standby fun c => c.mapSram fun m => { m with rewrite := [1] }), by decide +kernel⟩

theorem test_on_die_memory_7 : ∃ (o : Orig) (s : State), s.core.mayWrite o 0x2F30 5 8 ∧ s.core.mode = .service ∧ inRegion (s.core.obj 0x2F30 1) = true ∧ (s.core.flag 0x2F20 1 = false ∨ privileged (s.core.obj 0x2F30 1) = false) :=
  ⟨.mbx, (st .service), by decide +kernel⟩

theorem test_on_die_memory_8 : ∃ (o : Orig) (s : State), s.core.mayWrite o 0x2F30 5 8 ∧ s.core.mode = .service :=
  ⟨.mbx, (st .service), by decide +kernel⟩

theorem test_on_die_memory_9 : ∃ (t : Nat) (o : Orig) (i : Instr) (s : State), s.core.mayWrite o 0x2F30 5 8 ∧ s.core.mode ≠ .service ∧ o ≠ .pdo ∧ (i = .injectionArm t o ∨ i = .injectionDisarm t o) :=
  ⟨1, .mbx, .injectionArm 1 .mbx, (st .standby), by decide +kernel⟩

theorem test_clock_synthesis_0 : ∃ (o : Orig) (s : State), s.core.mayWrite o 0x2D01 4 9 ∧ (s.core.mode = .standby ∨ s.core.mode = .calibrate ∨ s.core.applyRelocks = []) ∧ s.core.flag 0x2D01 5 = false :=
  ⟨.mbx, (st .standby), by decide +kernel⟩

theorem test_clock_synthesis_1 : ∃ (p : Bool) (x : Pll) (s : State), s.core.clk.refOn = true ∧ s.core.pll (b2n p) = x ∧ x.locked = false ∧ x.st = 1 ∧ x.step < 5 :=
  ⟨false, { st := 1 }, (st .standby fun c => c.mapClk fun k => { k with pllC := { st := 1 } }), by decide +kernel⟩

theorem test_clock_synthesis_2 : ∃ (p : Bool) (ppm : Int) (x : Pll) (s : State), s.core.clk.refOn = true ∧ s.core.pll (b2n p) = x ∧ x.locked = false ∧ x.st = 1 ∧ x.step = 5 ∧ ppmOk ppm = true :=
  ⟨false, 500, { st := 1, step := 5, band := 40 }, (st .standby fun c => c.mapClk fun k => { k with pllC := { st := 1, step := 5, band := 40 } }), by decide +kernel⟩

theorem test_clock_synthesis_3 : ∃ (p : Bool) (ppm : Int) (x : Pll) (s : State) (b : Nat), s.core.clk.refOn = true ∧ s.core.pll (b2n p) = x ∧ x.locked = false ∧ x.st = 1 ∧ x.step = 5 ∧ ppmOk ppm = false ∧ x.okBand = some b :=
  ⟨false, 501, { st := 1, step := 5, okBand := some 7 }, (st .standby fun c => c.mapClk fun k => { k with pllC := { st := 1, step := 5, okBand := some 7 } }), 7, by decide +kernel⟩

theorem test_clock_synthesis_4 : ∃ (p : Bool) (ppm : Int) (x : Pll) (s : State), s.core.clk.refOn = true ∧ s.core.pll (b2n p) = x ∧ x.locked = false ∧ x.st = 1 ∧ x.step = 5 ∧ 500 < ppm ∧ x.okBand = none :=
  ⟨false, 501, { st := 1, step := 5, band := 33 }, (st .standby fun c => c.mapClk fun k => { k with pllC := { st := 1, step := 5, band := 33 } }), by decide +kernel⟩

theorem test_clock_synthesis_5 : ∃ (p : Bool) (ppm : Int) (x : Pll) (s : State), s.core.clk.refOn = true ∧ s.core.pll (b2n p) = x ∧ x.locked = false ∧ x.st = 1 ∧ x.step = 5 ∧ ppm < -500 ∧ x.okBand = none ∧ x.fails < 2 :=
  ⟨true, -501, { st := 1, step := 5, fails := 1 }, (st .standby fun c => c.mapClk fun k => { k with pllT := { st := 1, step := 5, fails := 1 } }), by decide +kernel⟩

theorem test_clock_synthesis_6 : ∃ (p : Bool) (ppm : Int) (x : Pll) (s : State), s.core.clk.refOn = true ∧ s.core.pll (b2n p) = x ∧ x.locked = false ∧ x.st = 1 ∧ x.step = 5 ∧ ppm < -500 ∧ x.okBand = none ∧ 2 ≤ x.fails :=
  ⟨false, -501, { st := 1, step := 5, fails := 2 }, (st .standby fun c => c.mapClk fun k => { k with pllC := { st := 1, step := 5, fails := 2 } }), by decide +kernel⟩

theorem test_clock_synthesis_7 : ∃ (p : Bool) (ppm : Int) (x : Pll) (s : State), s.core.clk.refOn = true ∧ s.core.pll (b2n p) = x ∧ x.locked = false ∧ x.st = 2 ∧ x.guess = true ∧ ppmOk ppm = true :=
  ⟨false, -500, { st := 2, guess := true }, (st .standby fun c => c.mapClk fun k => { k with pllC := { st := 2, guess := true } }), by decide +kernel⟩

theorem test_clock_synthesis_8 : ∃ (p : Bool) (ppm : Int) (x : Pll) (s : State), s.core.clk.refOn = true ∧ s.core.pll (b2n p) = x ∧ x.locked = false ∧ x.st = 2 ∧ x.guess = true ∧ ppmOk ppm = false ∧ x.fails < 2 :=
  ⟨false, 501, { st := 2, guess := true, fails := 1 }, (st .standby fun c => c.mapClk fun k => { k with pllC := { st := 2, guess := true, fails := 1 } }), by decide +kernel⟩

theorem test_clock_synthesis_9 : ∃ (p : Bool) (ppm : Int) (x : Pll) (s : State), s.core.clk.refOn = true ∧ s.core.pll (b2n p) = x ∧ x.locked = false ∧ x.st = 2 ∧ x.guess = true ∧ ppmOk ppm = false ∧ 2 ≤ x.fails :=
  ⟨true, 501, { st := 2, guess := true, fails := 2 }, (st .standby fun c => c.mapClk fun k => { k with pllT := { st := 2, guess := true, fails := 2 } }), by decide +kernel⟩

theorem test_clock_synthesis_10 : ∃ (p : Bool) (ppm : Int) (x : Pll) (s : State), s.core.clk.refOn = true ∧ s.core.pll (b2n p) = x ∧ x.locked = false ∧ x.st = 2 ∧ x.guess = false ∧ ppmOk ppm = false :=
  ⟨false, 501, { st := 2 }, (st .standby fun c => c.mapClk fun k => { k with pllC := { st := 2 } }), by decide +kernel⟩

theorem test_clock_synthesis_11 : ∃ (p : Bool) (ppm : Int) (ok : Bool) (x : Pll) (s : State), s.core.clk.refOn = true ∧ s.core.pll (b2n p) = x ∧ x.locked = false ∧ x.st = 2 ∧ x.guess = false ∧ ppmOk ppm = true ∧ (x.good = 0 ∨ ok = false) :=
  ⟨false, -500, true, { st := 2 }, (st .standby fun c => c.mapClk fun k => { k with pllC := { st := 2 } }), by decide +kernel⟩

theorem test_clock_synthesis_12 : ∃ (p : Bool) (ppm : Int) (ok : Bool) (x : Pll) (s : State), s.core.clk.refOn = true ∧ s.core.pll (b2n p) = x ∧ x.locked = false ∧ x.st = 2 ∧ x.guess = false ∧ ppmOk ppm = true ∧ x.good ≠ 0 ∧ ok = true :=
  ⟨false, -500, true, { st := 2, good := 1 }, (st .standby fun c => c.mapClk fun k => { k with pllC := { st := 2, good := 1 } }), by decide +kernel⟩

theorem test_clock_synthesis_13 : ∃ (s : State), s.core.clk.pllT.st = 2 ∧ s.core.clk.pllT.locked = true ∧ s.core.clk.refOn = true :=
  ⟨(st .standby fun c => c.mapClk fun k => { k with pllT := { st := 2, locked := true } }), by decide +kernel⟩

theorem test_clock_synthesis_14 : ∃ (s : State), s.core.clk.pllC.st = 2 ∧ s.core.clk.pllC.locked = true ∧ s.core.clk.refOn = true :=
  ⟨(st .standby fun c => c.mapClk fun k => { k with pllC := { st := 2, locked := true } }), by decide +kernel⟩

theorem test_clock_synthesis_15 : ∃ (p : Bool) (s : State), ((s.core.pll (b2n p)).st = 3 ∨ (s.core.pll (b2n p)).st = 5) :=
  ⟨true, (st .standby fun c => c.mapClk fun k => { k with pllT := { st := 5 } }), by decide +kernel⟩

theorem test_clock_synthesis_16 : ∃ (s : State), s.core.clk.refOn = true :=
  ⟨(st .standby fun c => c.mapClk fun k => { k with pllC := { st := 3 } }), by decide +kernel⟩

theorem test_clock_synthesis_17 : ∃ (ppm : Int) (s : State), s.core.clk.refLost = true ∧ s.core.pw.fwRuns = true ∧ ppmOk ppm = false :=
  ⟨501, (st .standby fun c => c.mapClk fun k => { k with refOn := false, refLost := true, pllC := { st := 4 } }), by decide +kernel⟩

theorem test_clock_synthesis_18 : ∃ (ppm : Int) (s : State), s.core.clk.refLost = true ∧ s.core.pw.fwRuns = true ∧ ppmOk ppm = true :=
  ⟨500, (st .standby fun c => c.mapClk fun k => { k with refOn := false, refLost := true, pllC := { st := 4 } }), by decide +kernel⟩

theorem test_clock_synthesis_19 : ∃ (t : Nat) (p : Bool) (s : State), (s.core.pll (b2n p)).st = 5 ∧ s.core.clk.slewAt + 10 * s.core.clk.phaseErr.natAbs ≤ s.at_ t :=
  ⟨70, false, (st .standby fun c => c.mapClk fun k => { k with pllC := { st := 5 }, phaseErr := -7 }), by decide +kernel⟩

theorem test_clock_synthesis_20 : ∃ (t : Nat) (a : Nat) (s : State), s.core.clk.coastAt = some a ∧ a + s.core.obj 0x2D04 1 * 1000 ≤ s.at_ t ∧ (s.core.clk.pllC.st = 4 ∨ s.core.clk.pllT.st = 4) :=
  ⟨1000, 0, (st .standby fun c => (c.put 0x2D04 1 1).mapClk fun k => { k with pllT := { st := 4 }, coastAt := some 0 }), by decide +kernel⟩

theorem test_clock_synthesis_21 : ∃ (s : State), s.core.clk.tHeld = true ∧ s.core.clk.pllT.st = 3 :=
  ⟨(st .standby fun c => c.mapClk fun k => { k with pllT := { st := 3 } }), by decide +kernel⟩

theorem test_clock_synthesis_22 : ∃ (n : Fin 8) (s : State), (s.core.obj 0x2D13 0).testBit n.val = true :=
  ⟨7, (st .standby fun c => c.put 0x2D13 0 128), by decide +kernel⟩

theorem test_clock_synthesis_23 : ∃ (t : Nat) (n : Nat) (e : Tk) (s : State), s.core.clk.tHeld = true ∧ s.core.clk.pllT.st = 3 ∧ (s.core.tkSync (s.at_ t)).tk.engs[n]? = some e ∧ e.running = true ∧ tickOf s.core.clk.heldAt < tickOf e.next :=
  ⟨9, 3, (((st .standby fun c => (c.mapClk fun k => { k with tHeld := true, heldAt := 4, pllT := { st := 3 } }).mapTk fun k => { k with engs := modAt k.engs 3 fun e => { e with running := true, next := 40 } })).core.tkSync (((st .standby fun c => (c.mapClk fun k => { k with tHeld := true, heldAt := 4, pllT := { st := 3 } }).mapTk fun k => { k with engs := modAt k.engs 3 fun e => { e with running := true, next := 40 } })).at_ 9)).eng1 3, (st .standby fun c => (c.mapClk fun k => { k with tHeld := true, heldAt := 4, pllT := { st := 3 } }).mapTk fun k => { k with engs := modAt k.engs 3 fun e => { e with running := true, next := 40 } }), by decide +kernel⟩

theorem test_dram_controller_0 : ∃ (dpa : Nat), dpaEnd ≤ dpa :=
  ⟨dpaEnd, by decide +kernel⟩

theorem test_dram_controller_1 : ∃ (dpa : Nat) (s : State), dpa < dpaEnd ∧ s.core.dramReady = true ∧ s.core.toDusk = false :=
  ⟨dpaEnd - 1, (st .standby fun c => c.put 0x2E00 4 2), by decide +kernel⟩

theorem test_dram_controller_2 : ∃ (t : Nat) (n : Fin 5) (r : DramReq) (s : State), s.core.dramReady = true ∧ s.core.pick (s.at_ t) n.val = some r ∧ r.id ≠ s.core.dram.nextId ∧ r.op = .read ∧ s.core.poisoned r.dpa 64 = false ∧ r.port < 6 ∧ s.core.dram.owed = [(r.port, r.id)] ∧ s.core.dram.done = [] ∧ (r.port = 0 → s.core.dram.jobs = []) :=
  ⟨1, 0, ⟨3, 2, 128, .read, 0, 5⟩, (st .standby fun c => (c.put 0x2E00 4 2).mapDram fun d => { d with queue := [⟨3, 2, 128, .read, 0, 5⟩, ⟨4, 2, 128, .read, 0, 5⟩], nextId := 5, owed := [(2, 3)] }), by decide +kernel⟩

theorem test_dram_controller_3 : ∃ (t : Nat) (n : Fin 5) (r : DramReq) (mask : BitVec 64) (data : List Byte) (s : State), s.core.dramReady = true ∧ s.core.pick (s.at_ t) n.val = some r ∧ r.op = .write mask data ∧ (mask = BitVec.allOnes 64 ∨ s.core.poisoned r.dpa 64 = false) :=
  ⟨1, 0, ⟨3, 2, 128, .write 1 (List.replicate 64 9), 0, 5⟩, 1, (List.replicate 64 9), (st .standby fun c => (c.put 0x2E00 4 2).mapDram fun d => { d with queue := [⟨3, 2, 128, .write 1 (List.replicate 64 9), 0, 5⟩, ⟨4, 2, 128, .read, 0, 5⟩], nextId := 5 }), by decide +kernel⟩

theorem test_dram_controller_4 : ∃ (t : Nat) (n : Fin 5) (r : DramReq) (g : Migration) (s : State), s.core.dramReady = true ∧ s.core.pick (s.at_ t) n.val = some r ∧ r.id = s.core.dram.nextId ∧ s.core.dram.mig = some g ∧ g.pend = none :=
  ⟨1000000, 0, ((((st .standby fun c => (c.put 0x2E00 4 2).mapDram fun d => { d with mig := some ⟨0, 8, 0, 3, 0, none⟩ })).core.pick 1000000 0).getD ⟨3, 2, 128, .read, 0, 5⟩), ⟨0, 8, 0, 3, 0, none⟩, (st .standby fun c => (c.put 0x2E00 4 2).mapDram fun d => { d with mig := some ⟨0, 8, 0, 3, 0, none⟩ }), by decide +kernel⟩

theorem test_dram_controller_5 : ∃ (t : Nat) (n : Fin 5) (r : DramReq) (g : Migration) (s : State) (a : Nat) (b : List Byte), s.core.dramReady = true ∧ s.core.pick (s.at_ t) n.val = some r ∧ r.id = s.core.dram.nextId ∧ s.core.dram.mig = some g ∧ g.pend = some (a, b) :=
  ⟨1000000, 4, ((((st .standby fun c => (c.put 0x2E00 4 2).mapDram fun d => { d with mig := some ⟨0, 8, 0, 3, 0, some (5, zeros 64)⟩ })).core.pick 1000000 4).getD ⟨3, 2, 128, .read, 0, 5⟩), ⟨0, 8, 0, 3, 0, some (5, zeros 64)⟩, (st .standby fun c => (c.put 0x2E00 4 2).mapDram fun d => { d with mig := some ⟨0, 8, 0, 3, 0, some (5, zeros 64)⟩ }), 5, (zeros 64), by decide +kernel⟩

theorem test_dram_controller_6 : ∃ (t : Nat) (n : Fin 5) (s : State), s.core.dramReady = true ∧ s.core.pick (s.at_ t) n.val = none :=
  ⟨1, 0, (st .standby fun c => c.put 0x2E00 4 2), by decide +kernel⟩

theorem test_dram_controller_7 : ∃ (s : State), s.core.dramReady = true :=
  ⟨(st .standby fun c => c.put 0x2E00 4 2), by decide +kernel⟩

theorem test_dram_controller_9 : ∃ (s : State), s.core.dramReady = true :=
  ⟨(st .standby fun c => c.put 0x2E00 4 2), by decide +kernel⟩

theorem test_dram_controller_10 : ∃ (s : State), s.core.dramReady = true ∧ s.core.dram.mr4.length = 10 :=
  ⟨(st .standby fun c => c.put 0x2E00 4 2), by decide +kernel⟩

theorem test_dram_controller_11 : ∃ (t : Nat) (s : State), s.at_ t < s.core.dram.winAt + s.core.obj 0x2E40 2 * 1000000000 :=
  ⟨1, (st .standby fun c => c.put 0x2E40 2 1), by decide +kernel⟩

theorem test_dram_controller_12 : ∃ (t : Nat) (s : State), s.core.dram.winAt + s.core.obj 0x2E40 2 * 1000000000 ≤ s.at_ t :=
  ⟨1000000000, (st .standby fun c => c.put 0x2E40 2 1), by decide +kernel⟩

theorem test_dram_controller_13 : ∃ (d : Nat) (o : Orig) (v : Byte) (s : State), s.core.mayWrite o 0x2E45 1 8 ∧ 1 ≤ v.toNat ∧ v.toNat ≤ 8 ∧ s.core.dram.mig = none ∧ s.core.dram.retiring = [] ∧ s.core.freeSpare = some d ∧ s.core.logicalOf (s.core.rankOf (v.toNat - 1)) = some (v.toNat - 1) ∧ s.core.rankOf (v.toNat - 1) < 10 ∧ s.core.rankState (s.core.rankOf (v.toNat - 1)) % 16 = 0 :=
  ⟨8, .mbx, 8, (st .standby), by decide +kernel⟩

theorem test_dram_controller_14 : ∃ (o : Orig) (g : Migration) (s : State), s.core.mayWrite o 0x2E45 1 8 ∧ s.core.dram.mig = some g ∧ s.core.dram.retiring = [] ∧ g.src < 10 ∧ g.dst < 10 ∧ g.src ≠ g.dst :=
  ⟨.mbx, ⟨0, 8, 0, 3, 0, none⟩, (st .standby fun c => (c.put 0x2E00 4 2).mapDram fun d => { d with mig := some ⟨0, 8, 0, 3, 0, none⟩ }), by decide +kernel⟩

theorem test_dram_controller_15 : ∃ (g : Migration) (s : State), s.core.dram.mig = some g ∧ s.core.dramReady = true ∧ rankLines ≤ g.ptr ∧ s.core.dram.retiring = [] ∧ g.src < 10 ∧ g.dst < 10 ∧ g.src ≠ g.dst ∧ g.logical < 8 :=
  ⟨⟨0, 8, 0, 67108864, 0, none⟩, (st .standby fun c => (c.put 0x2E00 4 2).mapDram fun d => { d with mig := some ⟨0, 8, 0, 67108864, 0, none⟩ }), by decide +kernel⟩

theorem test_dram_controller_16 : ∃ (dpa : Nat) (s : State), dpa < dpaEnd ∧ s.core.dramAccepts = false :=
  ⟨dpaEnd - 1, (st .standby fun c => { (c.put 0x2E00 4 2) with trans := some ⟨.standby, .dusk, 0, true⟩ }), by decide +kernel⟩

theorem test_host_link_1 : ∃ (s : State), s.core.cxl.perst = true :=
  ⟨(st .standby), by decide +kernel⟩

theorem test_host_link_3 : ∃ (s : State), s.core.cxl.hostUp = true :=
  ⟨(st .standby fun c => c.mapCxl fun x => { x with hostUp := true, dlUp := true, perst := false, recSince := some 5 }), by decide +kernel⟩

theorem test_host_link_4 : ∃ (s : State), s.core.cxl.hostUp = true ∧ (∀ r ∈ s.core.eng.refs, r.asked ≤ r.got) :=
  ⟨(st .standby fun c => c.mapCxl fun x => { x with hostUp := true, dlUp := true, perst := false, recSince := some 5 }), by decide +kernel⟩

theorem test_host_link_5 : ∃ (s : State), s.core.cxl.hostUp = true ∧ (∃ r ∈ s.core.eng.refs, r.got < r.asked) :=
  ⟨(st .standby fun c => (c.mapEng fun e => { e with refs := [{ page := 0, line := 0, state := 1, asked := 64 }] }).mapCxl fun x => { x with hostUp := true, dlUp := true, perst := false, recSince := some 5 }), ⟨by decide +kernel, { page := 0, line := 0, state := 1, asked := 64 }, by decide +kernel, by decide +kernel⟩⟩

theorem test_host_link_6 : ∃ (s : State), s.core.cxl.hostUp = true :=
  ⟨(st .standby fun c => c.mapCxl fun x => { x with hostUp := true, dlUp := true, perst := false, recSince := some 5 }), by decide +kernel⟩

theorem test_host_link_7 : ∃ (s : State) (a : Nat), s.core.cxl.hostUp = true ∧ s.core.cxl.recSince = some a :=
  ⟨(st .standby fun c => c.mapCxl fun x => { x with hostUp := true, dlUp := true, perst := false, recSince := some 5 }), 5, by decide +kernel⟩

theorem test_host_link_8 : ∃ (s : State), s.core.cxl.hostUp = false ∧ s.core.cxl.dlUp = true ∧ s.core.cxl.perst = false :=
  ⟨(st .standby fun c => c.mapCxl fun x => { x with dlUp := true, perst := false }), by decide +kernel⟩

theorem test_host_link_9 : ∃ (s : State), s.core.mayTrain = true :=
  ⟨(st .standby fun c => (c.put 0x2E00 4 2).mapCxl fun x => { x with perst := false }), by decide +kernel⟩

theorem test_host_link_10 : ∃ (s : State), s.core.cxl.dlUp = true ∧ s.core.cxl.recSince = none :=
  ⟨(st .standby fun c => c.mapCxl fun x => { x with dlUp := true }), by decide +kernel⟩

theorem test_host_link_11 : ∃ (i : Instr) (s : State) (u : State), exec i s = .next u ∧ ((∃ t k, i = .perstNAssert t k) ∨ (∃ t, i = .perstNRelease t) ∨ (∃ t, i = .flr t) ∨ (∃ t k, i = .hostLinkDown t k) ∨ (∃ t, i = .hostLinkUp t) ∨ (∃ t w r x, i = .linkTrained t w r x) ∨ (∃ t, i = .linkRecovery t)) :=
  ⟨.flr 1, State.reset, _, ⟨rfl, Or.inr (Or.inr (Or.inl ⟨1, rfl⟩))⟩⟩

theorem test_rings_and_hold_0 : ∃ (i : Fin 10) (s : State), s.core.ringOwned = true ∧ s.core.cxl.rings.length = 10 ∧ (s.core.ring i.val).enable = false ∧ s.core.ringValid i.val = true :=
  ⟨9, (st .standby fun c => c.mapCxl fun x => { x with rings := modAt x.rings 9 fun r => { r with size := 14 } }), by decide +kernel⟩

theorem test_rings_and_hold_1 : ∃ (i : Fin 10) (s : State), s.core.ringOwned = true ∧ s.core.cxl.rings.length = 10 ∧ (s.core.ring i.val).enable = false ∧ s.core.ringValid i.val = false :=
  ⟨9, (st .standby fun c => c.mapCxl fun x => { x with rings := modAt x.rings 9 fun r => { r with size := 13 } }), by decide +kernel⟩

theorem test_rings_and_hold_2 : ∃ (s : State), s.core.ringOwned = true :=
  ⟨(st .standby), by decide +kernel⟩

theorem test_rings_and_hold_3 : ∃ (s : State), s.core.ringOwned = false :=
  ⟨(st .standby fun c => { c with owners := c.owners.map fun _ => .press }), by decide +kernel⟩

theorem test_rings_and_hold_4 : ∃ (i : Fin 10) (v : Word32) (s : State), s.core.ringOwned = true ∧ s.core.cxl.rings.length = 10 ∧ i.val = 6 ∧ (v.toNat + 2 ^ 32 - (s.core.ring 6).prod) % 2 ^ 32 ≤ 2 ^ (s.core.ring 6).size - (s.core.ring 6).used :=
  ⟨6, 16, (st .standby fun c => c.mapCxl fun x => { x with rings := modAt x.rings 6 fun r => { r with size := 4, enable := true } }), by decide +kernel⟩

theorem test_rings_and_hold_5 : ∃ (i : Fin 10) (v : Word32) (s : State), s.core.ringOwned = true ∧ s.core.cxl.rings.length = 10 ∧ i.val ≠ 6 ∧ (v.toNat + 2 ^ 32 - (s.core.ring i.val).cons) % 2 ^ 32 ≤ (s.core.ring i.val).used :=
  ⟨9, 3, (st .standby fun c => c.mapCxl fun x => { x with rings := modAt x.rings 9 fun r => { r with size := 14, enable := true, prod := 3 } }), by decide +kernel⟩

theorem test_rings_and_hold_6 : ∃ (i : Fin 10) (v : Word32) (s : State), s.core.ringOwned = true ∧ s.core.cxl.rings.length = 10 ∧ i.val ≠ 6 ∧ (s.core.ring i.val).used < (v.toNat + 2 ^ 32 - (s.core.ring i.val).cons) % 2 ^ 32 :=
  ⟨9, 4, (st .standby fun c => c.mapCxl fun x => { x with rings := modAt x.rings 9 fun r => { r with size := 14, enable := true, prod := 3 } }), by decide +kernel⟩

theorem test_rings_and_hold_7 : ∃ (i : Fin 6) (e : List Byte) (l : List (List Byte)) (r : Ring) (s : State), s.core.ring i.val = r ∧ s.core.cxl.rings.length = 10 ∧ s.core.ringOpen i.val = true ∧ r.held = e :: l :=
  ⟨5, [7], [], { enable := true, size := 4, held := [[7]] }, (st .standby fun c => c.mapCxl fun x => { x with rings := modAt x.rings 5 fun r => { r with enable := true, size := 4, held := [[7]] }, hostUp := true }), by decide +kernel⟩

theorem test_rings_and_hold_8 : ∃ (x : Rec) (y : Rec) (r : Ring) (s : State), s.core.ring 0 = r ∧ s.core.cxl.rings.length = 10 ∧ s.core.firstRec = some x ∧ s.core.settledTo x.first = true ∧ s.core.ev.loss = none ∧ y = (if s.core.mot.uncertain.any (fun p => p.1 < x.first + x.ext && x.first ≤ p.2) then { x with flags := x.flags ||| 16 } else x) ∧ s.core.ringOpen 0 = true ∧ r.held = [] :=
  ⟨⟨0, 1, 0, 5, 2, 3, 77, 0, 0, 0, 0⟩, ⟨0, 1, 0, 5, 2, 3, 77, 0, 0, 0, 0⟩, { enable := true, size := 4 }, (jb .web fun c => (c.mapEng fun e => { e with front := 1, recs := [⟨0, 1, 0, 5, 2, 3, 77, 0, 0, 0, 0⟩] }).mapCxl fun x => { x with rings := modAt x.rings 0 fun r => { r with enable := true, size := 4 }, hostUp := true }), by decide +kernel⟩

theorem test_rings_and_hold_9 : ∃ (x : Rec) (y : Rec) (r : Ring) (s : State), s.core.ring 0 = r ∧ s.core.cxl.rings.length = 10 ∧ s.core.firstRec = some x ∧ s.core.settledTo x.first = true ∧ s.core.ev.loss = none ∧ y = (if s.core.mot.uncertain.any (fun p => p.1 < x.first + x.ext && x.first ≤ p.2) then { x with flags := x.flags ||| 16 } else x) ∧ s.core.ringOpen 0 = false ∧ s.core.slotFree 0 false = true :=
  ⟨⟨0, 1, 0, 5, 2, 3, 77, 0, 0, 0, 0⟩, ⟨0, 1, 0, 5, 2, 3, 77, 0, 0, 0, 0⟩, {}, (jb .web fun c => (c.mapEng fun e => { e with front := 1, recs := [⟨0, 1, 0, 5, 2, 3, 77, 0, 0, 0, 0⟩] }).mapCxl fun x => { x with hostUp := false }), by decide +kernel⟩

theorem test_rings_and_hold_10 : ∃ (x : Rec) (y : Rec) (r : Ring) (s : State), s.core.ring 0 = r ∧ s.core.cxl.rings.length = 10 ∧ s.core.firstRec = some x ∧ s.core.settledTo x.first = true ∧ s.core.ev.loss = none ∧ y = (if s.core.mot.uncertain.any (fun p => p.1 < x.first + x.ext && x.first ≤ p.2) then { x with flags := x.flags ||| 16 } else x) ∧ s.core.ringOpen 0 = false ∧ s.core.slotFree 0 true = false :=
  ⟨⟨0, 1, 0, 5, 2, 3, 77, 0, 0, 0, 0⟩, ⟨0, 1, 0, 5, 2, 3, 77, 0, 0, 0, 0⟩, { held := List.replicate 4194304 [] }, (jb .web fun c => (c.mapEng fun e => { e with front := 1, recs := [⟨0, 1, 0, 5, 2, 3, 77, 0, 0, 0, 0⟩] }).mapCxl fun x => { x with rings := [{ held := List.replicate 4194304 [] }, {}, {}, {}, {}, {}, {}, {}, {}, {}] }), ⟨rfl, rfl, by decide +kernel, by decide +kernel, by decide +kernel, by decide +kernel, by decide +kernel, full_part _ 0 true (by decide +kernel) (Nat.le_of_eq (List.length_replicate (n := 4194304)).symm)⟩⟩

theorem test_rings_and_hold_11 : ∃ (p : Picture) (l : List Picture) (r : Ring) (s : State), s.core.ring 5 = r ∧ s.core.cxl.rings.length = 10 ∧ s.core.ringOpen 5 = true ∧ r.held = [] ∧ s.core.ctx.staged = p :: l ∧ p.gap = true :=
  ⟨{ gap := true, first := 0, last := 0 }, [], { enable := true, size := 4 }, (jb .web fun c => (c.mapCtx fun x => { x with staged := [{ gap := true, first := 0, last := 0 }] }).mapCxl fun x => { x with rings := modAt x.rings 5 fun r => { r with enable := true, size := 4 }, hostUp := true }), by decide +kernel⟩

theorem test_rings_and_hold_12 : ∃ (i : Fin 6) (s : State), (s.core.ringOpen i.val = false ∨ (s.core.ring i.val).held = []) ∧ (i.val = 0 → s.core.firstRec = none) ∧ (i.val = 5 → s.core.ctx.staged = []) ∧ s.core.ev.sumLost = none ∧ s.core.ev.notStarted = [] ∧ s.core.ev.notKept = 0 :=
  ⟨5, (st .standby), by decide +kernel⟩

theorem test_rings_and_hold_13 : ∃ (i : Fin 6) (e : List Byte) (l : List (List Byte)) (r : Ring) (s : State), s.core.ring i.val = r ∧ s.core.cxl.rings.length = 10 ∧ r.held = e :: l ∧ s.core.ringOpen i.val = true :=
  ⟨5, [7], [], { enable := true, size := 4, held := [[7]] }, (st .standby fun c => c.mapCxl fun x => { x with rings := modAt x.rings 5 fun r => { r with enable := true, size := 4, held := [[7]] }, hostUp := true }), by decide +kernel⟩

theorem test_rings_and_hold_14 : ∃ (i : Fin 6) (e : List Byte) (l : List (List Byte)) (r : Ring) (s : State), s.core.ring i.val = r ∧ s.core.cxl.rings.length = 10 ∧ r.held = e :: l ∧ s.core.ringOpen i.val = true ∧ i.val ≠ 2 :=
  ⟨5, [7], [], { enable := true, size := 4, held := [[7]] }, (st .standby fun c => c.mapCxl fun x => { x with rings := modAt x.rings 5 fun r => { r with enable := true, size := 4, held := [[7]] }, hostUp := true }), by decide +kernel⟩

theorem test_rings_and_hold_15 : ∃ (i : Fin 6) (e : List Byte) (l : List (List Byte)) (r : Ring) (s : State), s.core.ring i.val = r ∧ s.core.cxl.rings.length = 10 ∧ r.held = e :: l ∧ s.core.ringOpen i.val = true ∧ i.val = 2 :=
  ⟨2, [7], [], { enable := true, size := 4, held := [[7]] }, (st .standby fun c => c.mapCxl fun x => { x with rings := modAt x.rings 2 fun r => { r with enable := true, size := 4, held := [[7]] }, hostUp := true }), by decide +kernel⟩

theorem test_rings_and_hold_16 : ∃ (i : Fin 6) (e : List Byte) (l : List (List Byte)) (r : Ring) (s : State), s.core.ring i.val = r ∧ s.core.cxl.rings.length = 10 ∧ r.held = e :: l ∧ s.core.ringOpen i.val = true ∧ i.val = 1 :=
  ⟨1, [7], [], { enable := true, size := 4, held := [[7]] }, (st .standby fun c => c.mapCxl fun x => { x with rings := modAt x.rings 1 fun r => { r with enable := true, size := 4, held := [[7]] }, hostUp := true }), by decide +kernel⟩

theorem test_rings_and_hold_17 : ∃ (i : Fin 6) (e : List Byte) (l : List (List Byte)) (r : Ring) (s : State), s.core.ring i.val = r ∧ s.core.cxl.rings.length = 10 ∧ r.held = e :: l ∧ s.core.ringOpen i.val = true ∧ 2 ≤ i.val :=
  ⟨5, [7], [], { enable := true, size := 4, held := [[7]] }, (st .standby fun c => c.mapCxl fun x => { x with rings := modAt x.rings 5 fun r => { r with enable := true, size := 4, held := [[7]] }, hostUp := true }), by decide +kernel⟩

theorem test_rings_and_hold_18 : ∃ (s : State), s.core.cxl.drained = false ∧ s.core.cxl.rings.all (fun r => r.held.isEmpty) = true ∧ (s.core.flag 0x3200 5 = false ∨ s.core.ringOpen 4 = true) :=
  ⟨(st .standby fun c => (c.put 0x3200 5 0).mapCxl fun x => { x with drained := false }), by decide +kernel⟩

theorem test_rings_and_hold_19 : ∃ (i : Fin 6), i.val ≠ 0 :=
  ⟨5, by decide +kernel⟩

theorem test_rings_and_hold_20 : ∃ (s : State), s.core.ev.maskOverflow.getD 0 false = false ∧ s.core.slotFree 0 true = false ∧ s.core.mode ≠ .compline :=
  ⟨(st .standby fun c => c.mapCxl fun x => { x with rings := [{ held := List.replicate 4194304 [] }, {}, {}, {}, {}, {}, {}, {}, {}, {}] }), ⟨by decide +kernel, full_part _ 0 true (by decide +kernel) (Nat.le_of_eq (List.length_replicate (n := 4194304)).symm), by decide +kernel⟩⟩

theorem test_rings_and_hold_21 : ∃ (t : Nat) (a : Nat) (i : Fin 7) (s : State), (s.core.ring i.val).since = some a ∧ (s.core.ring i.val).irqEn = true ∧ (s.core.ring i.val).irqUs ≠ 0 ∧ a + (s.core.ring i.val).irqUs * 1000 ≤ s.at_ t :=
  ⟨1000, 0, 6, (st .standby fun c => c.mapCxl fun x => { x with rings := modAt x.rings 6 fun r => { r with since := some 0, irqEn := true, irqUs := 1 }, hostUp := true }), by decide +kernel⟩

theorem test_host_memory_0 : ∃ (o : Orig) (s : State), s.core.mayWrite o 0x3010 3 7 ∧ s.core.flipCodes = [] :=
  ⟨.mbx, (st .standby fun c => c.put 0x3010 2 1), by decide +kernel⟩

theorem test_host_memory_1 : ∃ (t : Nat) (o : Orig) (i : Instr) (s : State), s.core.mayWrite o 0x3010 3 7 ∧ o ≠ .pdo ∧ s.core.flipCodes = [0x08000031] ∧ (i = .biasFlipDevice t o ∨ i = .biasFlipHost t o) :=
  ⟨1, .mbx, .biasFlipHost 1 .mbx, (st .standby fun c => (c.put 0x3010 2 1).mapCxl fun x => { x with flip := some ⟨0, 1, true⟩ }), ⟨by decide +kernel, by decide +kernel, by decide +kernel, Or.inr rfl⟩⟩

theorem test_host_memory_2 : ∃ (f : Flip) (s : State), s.core.cxl.flip = some f ∧ f.toDev = false ∧ s.core.readsIn f.first f.pages = true :=
  ⟨⟨0, 1, false⟩, (st .standby fun c => (c.mapDram fun d => { d with jobs := [{ line := none, addr := 0, first := 0, count := 1 }] }).mapCxl fun x => { x with flip := some ⟨0, 1, false⟩ }), by decide +kernel⟩

theorem test_host_memory_3 : ∃ (f : Flip) (s : State), s.core.cxl.flip = some f ∧ (f.toDev = true ∨ s.core.readsIn f.first f.pages = false) :=
  ⟨⟨0, 1, true⟩, (st .standby fun c => (c.put 0x3010 2 1).mapCxl fun x => { x with flip := some ⟨0, 1, true⟩ }), by decide +kernel⟩

theorem test_host_memory_4 : ∃ (off : Nat), hdmEnd ≤ off :=
  ⟨hdmEnd, by decide +kernel⟩

theorem test_host_memory_5 : ∃ (off : Nat) (s : State), off < hdmEnd ∧ s.core.memOpen = true ∧ s.core.hdmAsleep = false :=
  ⟨hdmEnd - 1, (st .standby fun c => c.mapCxl fun x => { x with dlUp := true, hdmOk := true, memActive := true }), by decide +kernel⟩

theorem test_host_memory_6 : ∃ (off : Nat) (s : State), off < hdmEnd ∧ s.core.memOpen = true ∧ s.core.hdmAsleep = true :=
  ⟨0, (st .dusk fun c => c.mapCxl fun x => { x with dlUp := true, hdmOk := true, memActive := true }), by decide +kernel⟩

theorem test_host_memory_7 : ∃ (off : Nat) (s : State), off < hdmEnd ∧ s.core.memOpen = false :=
  ⟨0, (st .standby), by decide +kernel⟩

theorem test_host_memory_8 : ∃ (s : State), s.core.cxl.dlUp = true ∧ s.core.cxl.cxlMode = true :=
  ⟨(st .standby fun c => c.mapCxl fun x => { x with dlUp := true }), by decide +kernel⟩

theorem test_segment_links_0 : ∃ (n : Fin 8) (s : State), s.core.segOn n.val = true ∧ (s.core.link n.val).st = 1 ∧ s.core.clk.tHeld = false ∧ (s.core.link n.val).keep = true :=
  ⟨7, (st .standby fun c => { (c.mapClk fun k => { k with tHeld := false }) with links := modAt c.links 7 fun l => { l with st := 1, keep := true } }), by decide +kernel⟩

theorem test_segment_links_1 : ∃ (w : Nat) (r : Nat) (n : Fin 8) (ls : List LaneResult) (s : State), s.core.segOn n.val = true ∧ (s.core.link n.val).st = 1 ∧ s.core.clk.tHeld = false ∧ (s.core.link n.val).keep = false ∧ linkConfigs.find? (fun k => decide (k.1 ≤ (s.core.passing n.val k.2 ls).length)) = some (w, r) :=
  ⟨7, 3, 7, (List.replicate 7 ⟨some (24, 40), some (24, 40), some (24, 40)⟩), (st .standby fun c => { (c.mapClk fun k => { k with tHeld := false }) with links := modAt c.links 7 fun l => { l with st := 1 } }), by decide +kernel⟩

theorem test_segment_links_2 : ∃ (n : Fin 8) (ls : List LaneResult) (s : State), s.core.segOn n.val = true ∧ (s.core.link n.val).st = 1 ∧ s.core.clk.tHeld = false ∧ (s.core.link n.val).keep = false ∧ linkConfigs.find? (fun k => decide (k.1 ≤ (s.core.passing n.val k.2 ls).length)) = none ∧ s.core.links.length = 8 :=
  ⟨7, (List.replicate 6 ⟨some (24, 40), some (24, 40), some (24, 40)⟩), (st .standby fun c => { (c.mapClk fun k => { k with tHeld := false }) with links := modAt c.links 7 fun l => { l with st := 1 } }), by decide +kernel⟩

theorem test_segment_links_3 : ∃ (n : Fin 8) (l : Fin 9) (s : State), s.core.laneUsed n.val l.val = true ∧ s.core.flag 0x3110 5 = true :=
  ⟨7, 8, (st .web fun c => { (c.put 0x3110 5 1) with links := modAt c.links 7 fun l => { l with st := 2, dataSleep := false } }), by decide +kernel⟩

theorem test_segment_links_4 : ∃ (n : Fin 8) (l : Fin 9) (s : State), s.core.laneUsed n.val l.val = false :=
  ⟨7, 8, (st .standby), by decide +kernel⟩

theorem test_segment_links_5 : ∃ (p : Nat) (k : Bool) (n : Fin 8) (l : Fin 9) (s : State), (s.core.link n.val).st = 2 ∧ s.core.flag 0x3110 4 = true ∧ (k = true ∨ (s.core.link n.val).failed[l.val]? = some true) ∧ (s.core.link n.val).failed.length = 9 ∧ s.core.laneRetired n.val l.val = false ∧ (s.core.link n.val).map.contains (some l.val) = true ∧ (s.core.link n.val).spare = some p ∧ s.core.links.length = 8 :=
  ⟨8, true, 7, 0, (st .standby fun c => { (c.put 0x3110 4 1) with links := modAt c.links 7 fun l => { l with st := 2 } }), by decide +kernel⟩

theorem test_segment_links_6 : ∃ (k : Bool) (n : Fin 8) (l : Fin 9) (s : State), (s.core.link n.val).st = 2 ∧ (k = true ∨ (s.core.link n.val).failed[l.val]? = some true) ∧ (s.core.link n.val).failed.length = 9 ∧ s.core.laneRetired n.val l.val = false ∧ s.core.links.length = 8 ∧ (s.core.link n.val).map.contains (some l.val) = true ∧ (s.core.link n.val).spare = none ∧ 7 < (s.core.link n.val).lanes :=
  ⟨true, 7, 0, (st .standby fun c => { (c) with links := modAt c.links 7 fun l => { l with st := 2, spare := none } }), by decide +kernel⟩

theorem test_segment_links_7 : ∃ (k : Bool) (n : Fin 8) (l : Fin 9) (s : State), (s.core.link n.val).st = 2 ∧ (k = true ∨ (s.core.link n.val).failed[l.val]? = some true) ∧ (s.core.link n.val).failed.length = 9 ∧ s.core.laneRetired n.val l.val = false ∧ s.core.links.length = 8 ∧ (s.core.link n.val).map.contains (some l.val) = true ∧ (s.core.link n.val).spare = none ∧ (s.core.link n.val).lanes ≤ 7 :=
  ⟨true, 7, 0, (st .standby fun c => { (c) with links := modAt c.links 7 fun l => { l with st := 2, spare := none, map := [some 0, some 1, some 2, some 3, some 4, some 5, some 6, none] } }), by decide +kernel⟩

theorem test_segment_links_8 : ∃ (k : Bool) (n : Fin 8) (l : Fin 9) (s : State), (s.core.link n.val).st = 2 ∧ (k = true ∨ (s.core.link n.val).failed[l.val]? = some true) ∧ (s.core.link n.val).failed.length = 9 ∧ s.core.laneRetired n.val l.val = false ∧ s.core.links.length = 8 ∧ (s.core.link n.val).map.contains (some l.val) = false ∧ (s.core.link n.val).spare = some l.val :=
  ⟨true, 7, 8, (st .standby fun c => { (c) with links := modAt c.links 7 fun l => { l with st := 2 } }), by decide +kernel⟩

theorem test_segment_links_9 : ∃ (p : Nat) (n : Fin 8) (l : Fin 9) (o : Orig) (s : State), s.core.mayWrite o 0x3111 0 9 ∧ l.val < 8 ∧ (s.core.link n.val).st = 2 ∧ s.core.laneRetired n.val l.val = false ∧ (s.core.link n.val).map.contains (some l.val) = true ∧ (s.core.link n.val).spare = some p ∧ s.core.links.length = 8 :=
  ⟨8, 7, 0, .mbx, (st .standby fun c => { (c) with links := modAt c.links 7 fun l => { l with st := 2 } }), by decide +kernel⟩

theorem test_segment_links_10 : ∃ (l : Fin 9) (o : Orig) (s : State), s.core.mayWrite o 0x3111 0 9 ∧ o ≠ .pdo ∧ l.val = 8 :=
  ⟨8, .mbx, (st .standby), by decide +kernel⟩

theorem test_segment_links_11 : ∃ (n : Fin 8) (l : Fin 9) (o : Orig) (s : State), s.core.mayWrite o 0x3111 0 9 ∧ o ≠ .pdo ∧ l.val < 8 ∧ (s.core.laneRetired n.val l.val = true ∨ (s.core.link n.val).st = 3 ∨ (s.core.link n.val).map.contains (some l.val) = false) :=
  ⟨7, 7, .mbx, (st .standby fun c => { (c) with links := modAt c.links 7 fun l => { l with st := 3 } }), by decide +kernel⟩

theorem test_segment_links_12 : ∃ (n : Fin 8) (s : State), (s.core.link n.val).st = 2 :=
  ⟨7, (st .standby fun c => { (c) with links := modAt c.links 7 fun l => { l with st := 2 } }), by decide +kernel⟩

theorem test_segment_links_13 : ∃ (t : Nat) (n : Fin 8) (s : State), (s.core.link n.val).st = 3 ∧ (s.core.link n.val).since + 1000000 ≤ s.at_ t ∧ (s.core.link n.val).attempts < 2 :=
  ⟨1000000, 7, (st .standby fun c => { (c) with links := modAt c.links 7 fun l => { l with st := 3, attempts := 1 } }), by decide +kernel⟩

theorem test_segment_links_14 : ∃ (t : Nat) (n : Fin 8) (s : State), (s.core.link n.val).st = 3 ∧ (s.core.link n.val).since + 1000000 ≤ s.at_ t ∧ 2 ≤ (s.core.link n.val).attempts :=
  ⟨1000000, 7, (st .standby fun c => { (c) with links := modAt c.links 7 fun l => { l with st := 3, attempts := 2 } }), by decide +kernel⟩

theorem test_segment_links_15 : ∃ (t : Nat) (n : Fin 8) (s : State), (s.core.link n.val).st = 3 ∧ s.at_ t < (s.core.link n.val).since + 1000000 :=
  ⟨999999, 7, (st .standby fun c => { (c) with links := modAt c.links 7 fun l => { l with st := 3 } }), by decide +kernel⟩

theorem test_segment_links_16 : ∃ (n : Fin 8) (s : State), (s.core.link n.val).st = 3 :=
  ⟨7, (st .standby fun c => { (c) with links := modAt c.links 7 fun l => { l with st := 3 } }), by decide +kernel⟩

theorem test_segment_links_17 : ∃ (n : Fin 8) (s : State), s.core.segOn n.val = true :=
  ⟨7, (st .standby), by decide +kernel⟩

theorem test_segment_links_18 : ∃ (n : Fin 8) (s : State), (s.core.link n.val).st = 2 ∧ (s.core.link n.val).dataSleep = false ∧ s.core.sensing 0 = true :=
  ⟨7, (st .standby fun c => { (c) with links := modAt c.links 7 fun l => { l with st := 2, dataSleep := false } }), by decide +kernel⟩

theorem test_segment_links_19 : ∃ (o : Orig) (s : State), s.core.mayWrite o 0x3120 5 9 ∧ s.core.mode = .service :=
  ⟨.mbx, (st .service), by decide +kernel⟩

theorem test_segment_links_20 : ∃ (o : Orig) (s : State) (q : Nat) (k : LinkTest), s.core.mayWrite o 0x3120 5 9 ∧ s.core.mode = .service ∧ s.core.testing = some q ∧ (s.core.link q).test = some k :=
  ⟨.mbx, (st .service fun c => { (c) with links := modAt c.links 0 fun l => { l with st := 4, test := some ⟨0, 0, 2, 511⟩ } }), 0, ⟨0, 0, 2, 511⟩, by decide +kernel⟩

theorem test_segment_links_21 : ∃ (o : Orig) (s : State), s.core.mayWrite o 0x3120 5 9 ∧ s.core.mode = .service ∧ s.core.testing = none :=
  ⟨.mbx, (st .service), by decide +kernel⟩

theorem test_segment_links_22 : ∃ (o : Orig) (v : Byte) (s : State), s.core.mayWrite o 0x3121 2 9 ∧ s.core.mode = .service ∧ v.toNat ≤ 8 ∧ s.core.flag 0x3121 1 = true ∧ s.core.links.length = 8 ∧ s.core.testSeg < 8 :=
  ⟨.mbx, 8, (st .service fun c => c.put 0x3121 1 1), by decide +kernel⟩

theorem test_segment_links_23 : ∃ (o : Orig) (v : Byte) (s : State), s.core.mayWrite o 0x3121 2 9 ∧ s.core.mode = .service ∧ v.toNat ≤ 8 ∧ s.core.flag 0x3121 1 = false :=
  ⟨.mbx, 8, (st .service), by decide +kernel⟩

theorem test_segment_links_24 : ∃ (o : Orig) (s : State), s.core.mayWrite o 0x3122 1 9 ∧ s.core.mode = .service :=
  ⟨.mbx, (st .service), by decide +kernel⟩

theorem test_segment_links_25 : ∃ (o : Orig) (s : State), s.core.mode ≠ .service ∧ o ≠ .pdo ∧ s.core.mayWrite o 0x3120 5 9 :=
  ⟨.mbx, (st .standby), by decide +kernel⟩

theorem test_segment_links_26 : ∃ (o : Orig) (s : State), s.core.mode ≠ .service ∧ o ≠ .pdo ∧ s.core.mayWrite o 0x3121 2 9 :=
  ⟨.mbx, (st .standby), by decide +kernel⟩

theorem test_segment_links_27 : ∃ (o : Orig) (s : State), s.core.mode ≠ .service ∧ o ≠ .pdo ∧ s.core.mayWrite o 0x3122 1 9 :=
  ⟨.mbx, (st .standby), by decide +kernel⟩

theorem test_events_and_heartbeat_0 : ∃ (code : Nat) (d : List Byte) (s : State), s.core.pw.fwRuns = true ∧ evCodes.contains code = true ∧ s.core.mode ≠ .compline ∧ (evCondition code = false ∨ s.core.active code (evUnit code d) = false) :=
  ⟨0x5010, [], (st .standby), by decide +kernel⟩

theorem test_events_and_heartbeat_1 : ∃ (code : Nat) (d : List Byte) (s : State), evCondition code = true ∧ s.core.active code (evUnit code d) = true :=
  ⟨0x5061, [], (st .standby fun c => c.mapEv fun v => { v with active := [(0x5061, 0)] }), by decide +kernel⟩

theorem test_events_and_heartbeat_2 : ∃ (s : State), s.core.healthy = true :=
  ⟨(st .standby), by decide +kernel⟩

theorem test_events_and_heartbeat_3 : ∃ (t : Nat) (a : Nat) (s : State), s.core.ev.hbFailed = some a ∧ a + 10000000 ≤ s.at_ t ∧ s.core.mode ≠ .compline :=
  ⟨10000000, 0, (st .standby fun c => c.mapEv fun v => { v with hbFailed := some 0 }), by decide +kernel⟩

theorem test_events_and_heartbeat_4 : ∃ (t : Nat) (a : Nat) (s : State), s.core.ev.hbFailed = some a ∧ (s.at_ t < a + 10000000 ∨ s.core.mode = .compline) :=
  ⟨9999999, 0, (st .standby fun c => c.mapEv fun v => { v with hbFailed := some 0 }), by decide +kernel⟩

theorem test_thermal_control_0 : ∃ (n : Fin 24) (s : State), s.core.sensing n.val = true :=
  ⟨15, (st .standby), by decide +kernel⟩

theorem test_thermal_control_1 : ∃ (t : Nat) (a : Nat) (s : State), s.core.pw.candAt = some a ∧ s.core.sensing 0 = true ∧ a + 200000000 ≤ s.at_ t ∧ s.core.pw.lastDec + 200000000 ≤ s.at_ t ∧ s.core.candidate ≠ s.core.pw.decided :=
  ⟨200000000, 0, (st .standby fun c => (c.put 0x3330 1 2500).mapPw fun p => { p with candAt := some 0 }), by decide +kernel⟩

theorem test_thermal_control_2 : ∃ (t : Nat) (s : State), s.core.sensing 16 = true ∧ 10000 ≤ s.core.tj ∧ s.core.throttle < 4 ∧ (s.core.throttle = 0 ∨ s.core.ev.hotAt + 50000000 ≤ s.at_ t) :=
  ⟨1, (st .standby fun c => c.put 0x3330 0x11 10000), by decide +kernel⟩

theorem test_thermal_control_3 : ∃ (t : Nat) (s : State) (a : Nat), s.core.sensing 16 = true ∧ s.core.ev.coolFrom = some a ∧ s.core.tj < 9850 ∧ 0 < s.core.throttle ∧ s.core.throttle ≤ 4 ∧ a + 50000000 ≤ s.at_ t ∧ s.core.ev.hotAt + 50000000 ≤ s.at_ t :=
  ⟨50000000, (st .standby fun c => (c.put 0x3330 0x1D 4).mapEv fun v => { v with coolFrom := some 0 }), 0, by decide +kernel⟩

theorem test_thermal_control_4 : ∃ (b : Fin 14) (s : State), s.core.blocksOn = true ∧ b.val < 6 :=
  ⟨5, (st .standby), by decide +kernel⟩

theorem test_thermal_control_5 : ∃ (b : Fin 14) (s : State), s.core.blocksOn = true ∧ 6 ≤ b.val ∧ s.core.job.running = true :=
  ⟨13, (jb .web), by decide +kernel⟩

theorem test_reset_and_boot_0 : ∃ (k : ResetCause) (s : State), s.core.resetHeldOff k = true :=
  ⟨.resetN, (st .compline), by decide +kernel⟩

theorem test_reset_and_boot_1 : ∃ (k : ResetCause) (s : State), s.core.resetHeldOff k = false :=
  ⟨.powerOn, (st .standby), by decide +kernel⟩

theorem test_reset_and_boot_2 : ∃ (t : Nat) (s : State), s.core.mayBoot (s.at_ t) = true :=
  ⟨0, State.reset, by decide +kernel⟩

theorem test_reset_and_boot_3 : ∃ (t : Nat) (s : State), s.core.mayBoot (s.at_ t) = false :=
  ⟨0, (st .standby), by decide +kernel⟩

theorem test_reset_and_boot_4 : ∃ (t : Nat) (a : Nat) (s : State), s.core.pw.stdbyAt = some a ∧ s.core.mode = .standby ∧ (s.core.slot s.core.pw.running).st = 3 ∧ a + 60000000000 ≤ s.at_ t :=
  ⟨60000000000, 0, (st .standby fun c => (c.mapPw fun p => { p with stdbyAt := some 0 }).mapNv fun n => { n with slots := modAt n.slots 0 fun k => { k with st := 3 } }), by decide +kernel⟩

theorem test_reset_and_boot_5 : ∃ (t : Nat) (a : Nat) (s : State), s.core.pw.stdbyAt = some a ∧ s.core.mode = .standby ∧ (s.core.slot s.core.pw.running).st = 3 ∧ s.at_ t < a + 60000000000 :=
  ⟨59999999999, 0, (st .standby fun c => (c.mapPw fun p => { p with stdbyAt := some 0 }).mapNv fun n => { n with slots := modAt n.slots 0 fun k => { k with st := 3 } }), by decide +kernel⟩

theorem test_reset_and_boot_6 : ∃ (o : Orig) (s : State), s.core.isMapped 0x3310 8 = false ∧ o ≠ .pdo ∧ s.core.pw.resetDue = false ∧ s.core.mode = .standby ∧ s.core.wordOk 0x3310 8 = true :=
  ⟨.mbx, (st .standby), by decide +kernel⟩

theorem test_reset_and_boot_7 : ∃ (o : Orig) (s : State), s.core.isMapped 0x3310 8 = false ∧ o ≠ .pdo ∧ s.core.pw.resetDue = false ∧ s.core.mode ≠ .standby ∧ s.core.mode ≠ .compline :=
  ⟨.mbx, (st .service), by decide +kernel⟩

theorem test_reset_and_boot_8 : ∃ (tr : Transition) (s : State), s.core.trans = some tr ∧ tr.target = .dusk ∧ s.core.dram.queue = [] :=
  ⟨{ source := .standby, target := .dusk, start := 0 }, (st .standby fun c => { c with trans := some { source := .standby, target := .dusk, start := 0 } }), by decide +kernel⟩

theorem test_reset_and_boot_9 : ∃ (tr : Transition) (s : State), s.core.trans = some tr ∧ tr.target = .dusk ∧ s.core.dram.queue ≠ [] :=
  ⟨{ source := .standby, target := .dusk, start := 0 }, (st .standby fun c => { (c.mapDram fun d => { d with queue := [⟨3, 2, 128, .read, 0, 5⟩] }) with trans := some { source := .standby, target := .dusk, start := 0 } }), by decide +kernel⟩

theorem test_reset_and_boot_10 : ∃ (t : Nat) (tr : Transition) (s : State), s.core.trans = some tr ∧ tr.source = .dusk ∧ tr.start + 39900000 ≤ s.at_ t :=
  ⟨39900000, { source := .dusk, target := .standby, start := 0 }, (st .dusk fun c => { c with trans := some { source := .dusk, target := .standby, start := 0 } }), by decide +kernel⟩

theorem test_reset_and_boot_11 : ∃ (t : Nat) (tr : Transition) (s : State), s.core.trans = some tr ∧ tr.source = .dusk ∧ s.at_ t < tr.start + 39900000 :=
  ⟨39899999, { source := .dusk, target := .standby, start := 0 }, (st .dusk fun c => { c with trans := some { source := .dusk, target := .standby, start := 0 } }), by decide +kernel⟩

theorem test_power_and_journal_0 : ∃ (s : State), s.core.flashRuns = true :=
  ⟨(st .standby), by decide +kernel⟩

theorem test_power_and_journal_1 : ∃ (s : State), s.core.mode ≠ .compline ∧ s.core.pw.heldReset = false ∧ s.core.healthy = true ∧ s.core.flag 0x3300 8 = true :=
  ⟨(jb .web fun c => c.put 0x3300 8 1), by decide +kernel⟩

theorem test_power_and_journal_2 : ∃ (s : State), s.core.mode ≠ .compline ∧ s.core.pw.heldReset = false ∧ (s.core.healthy = false ∨ s.core.flag 0x3300 8 = false) :=
  ⟨(st .standby), by decide +kernel⟩

theorem test_power_and_journal_3 : ∃ (r : ComplineRec) (s : State), s.core.mode = .compline ∧ s.core.nv.area = some r ∧ r.sealed = false :=
  ⟨{ at_ := 1, byPin := true, line := 0, web := 0, bytes := [], journal := [], left := 0, sealed := false }, (st .compline fun c => c.mapNv fun n => { n with area := some { at_ := 1, byPin := true, line := 0, web := 0, bytes := [], journal := [], left := 0, sealed := false } }), by decide +kernel⟩

theorem test_power_and_journal_4 : ∃ (r : ComplineRec) (s : State), s.core.mode = .compline ∧ s.core.nv.area = some r ∧ r.sealed = true :=
  ⟨{ at_ := 1, byPin := true, line := 0, web := 0, bytes := [], journal := [], left := 0, sealed := true }, (st .compline fun c => c.mapNv fun n => { n with area := some { at_ := 1, byPin := true, line := 0, web := 0, bytes := [], journal := [], left := 0, sealed := true } }), by decide +kernel⟩

theorem test_power_and_journal_5 : ∃ (r : ComplineRec) (s : State), s.core.mode = .compline ∧ s.core.nv.area = some r ∧ r.sealed = false :=
  ⟨{ at_ := 1, byPin := true, line := 0, web := 0, bytes := [], journal := [], left := 0, sealed := false }, (st .compline fun c => c.mapNv fun n => { n with area := some { at_ := 1, byPin := true, line := 0, web := 0, bytes := [], journal := [], left := 0, sealed := false } }), by decide +kernel⟩

theorem test_power_and_journal_6 : ∃ (s : State), s.core.mode ≠ .compline ∧ s.core.isMapped 0x3340 8 = false ∧ s.core.wordOk 0x3340 8 = true :=
  ⟨(st .standby), by decide +kernel⟩

theorem test_power_and_journal_7 : ∃ (ok : Bool) (s : State), ok = true ∧ s.core.flashRuns = true :=
  ⟨true, (st .standby), by decide +kernel⟩

theorem test_power_and_journal_8 : ∃ (ok : Bool), ok = false :=
  ⟨false, by decide +kernel⟩

theorem test_power_and_journal_9 : ∃ (s : State), s.core.flashRuns = true ∧ s.core.mode ≠ .dusk ∧ s.core.pw.compact = 0 ∧ 75 ≤ (s.core.region s.core.activeRegion).fill :=
  ⟨(st .standby fun c => c.mapNv fun n => { n with regions := [{ sealed := true, entries := [⟨0, 0x2C8000, 0, List.replicate 2000000 0⟩] }, {}] }), ⟨by decide +kernel, by decide +kernel, by decide +kernel, full_region ⟨0, 0x2C8000, 0, List.replicate 2000000 0⟩ _ _ rfl rfl (by decide +kernel) (by rw [List.length_replicate]; decide)⟩⟩

theorem test_power_and_journal_10 : ∃ (o : Orig) (s : State), s.core.mode ≠ .compline ∧ s.core.isMapped 0x3320 6 = false ∧ o ≠ .pdo ∧ s.core.pw.compact = 0 ∧ s.core.wordOk 0x3320 6 = true :=
  ⟨.mbx, (st .standby), by decide +kernel⟩

theorem test_power_and_journal_11 : ∃ (o : Orig) (s : State), s.core.mode ≠ .compline ∧ s.core.isMapped 0x3320 6 = false ∧ o ≠ .pdo ∧ s.core.pw.compact ≠ 0 :=
  ⟨.mbx, (st .standby fun c => c.mapPw fun p => { p with compact := 1 }), by decide +kernel⟩

theorem test_power_and_journal_12 : ∃ (s : State), s.core.flashRuns = true ∧ s.core.pw.compact = 1 ∧ s.core.nv.regions.length = 2 :=
  ⟨(st .standby fun c => c.mapPw fun p => { p with compact := 1 }), by decide +kernel⟩

theorem test_platform_frame_0 : ∃ (i : Instr) (s : State) (u : State), exec i s = .next u ∧ ((∃ t p x b, i = .pllSearchWindow t p x b) ∨ (∃ t p, i = .outputRestart t p) ∨ (∃ t p, i = .pllUnlock t p) ∨ (∃ t, i = .refinLost t) ∨ (∃ t x e, i = .refinReturn t x e) ∨ (∃ t p, i = .slewComplete t p) ∨ (∃ t, i = .holdoverExpired t) ∨ (∃ t, i = .pllTRestart t) ∨ (∃ t n, i = .fineDelayStep t n) ∨ (∃ t r k, i = .perBankRefresh t r k) ∨ (∃ t r b, i = .rowIdleClose t r b) ∨ (∃ t d, i = .wckDqMeasure t d) ∨ (∃ t l, i = .mr4Read t l) ∨ (∃ t, i = .errorWindowRestart t) ∨ (∃ t o v, i = .retireLogicalRank t o v) ∨ (∃ t o, i = .migrationAbort t o) ∨ (∃ t, i = .migrationDone t) ∨ (∃ t n l, i = .linkBringUp t n l) ∨ (∃ t n l h v b, i = .eyeScan t n l h v b) ∨ (∃ t o k n l, i = .laneSpare t o k n l) ∨ (∃ t n k, i = .linkRetrain t n k) ∨ (∃ t n, i = .retrainTimeout t n) ∨ (∃ t n, i = .retrainComplete t n) ∨ (∃ t n w e, i = .statusBlock t n w e) ∨ (∃ t n x, i = .thermalSample t n x) ∨ (∃ t, i = .bandDecided t) ∨ (∃ t, i = .throttleLevelStep t) ∨ (∃ t b m, i = .throughputReplicaMeasure t b m) ∨ (∃ t a b c, i = .holdupMeasure t a b c) ∨ (∃ t b, i = .scrivenerJournal t b) ∨ (∃ t, i = .compactionAuto t) ∨ (∃ t, i = .compactionComplete t)) :=
  ⟨.fineDelayStep 1 0, State.reset, _, ⟨rfl, Or.inr (Or.inr (Or.inr (Or.inr (Or.inr (Or.inr (Or.inr (Or.inr (Or.inl ⟨1, 0, rfl⟩))))))))⟩⟩

theorem test_platform_frame_1 : ∃ (i : Instr) (s : State) (u : State), exec i s = .next u ∧ ((∃ t p x b, i = .pllSearchWindow t p x b) ∨ (∃ t p, i = .outputRestart t p) ∨ (∃ t p, i = .pllUnlock t p) ∨ (∃ t, i = .refinLost t) ∨ (∃ t x e, i = .refinReturn t x e) ∨ (∃ t p, i = .slewComplete t p) ∨ (∃ t, i = .holdoverExpired t) ∨ (∃ t, i = .pllTRestart t) ∨ (∃ t n, i = .fineDelayStep t n) ∨ (∃ t r k, i = .perBankRefresh t r k) ∨ (∃ t r b, i = .rowIdleClose t r b) ∨ (∃ t d, i = .wckDqMeasure t d) ∨ (∃ t l, i = .mr4Read t l) ∨ (∃ t, i = .errorWindowRestart t) ∨ (∃ t o v, i = .retireLogicalRank t o v) ∨ (∃ t o, i = .migrationAbort t o) ∨ (∃ t, i = .migrationDone t) ∨ (∃ t n l, i = .linkBringUp t n l) ∨ (∃ t n l h v b, i = .eyeScan t n l h v b) ∨ (∃ t o k n l, i = .laneSpare t o k n l) ∨ (∃ t n k, i = .linkRetrain t n k) ∨ (∃ t n, i = .retrainTimeout t n) ∨ (∃ t n, i = .retrainComplete t n) ∨ (∃ t n w e, i = .statusBlock t n w e) ∨ (∃ t n x, i = .thermalSample t n x) ∨ (∃ t, i = .bandDecided t) ∨ (∃ t, i = .throttleLevelStep t) ∨ (∃ t b m, i = .throughputReplicaMeasure t b m) ∨ (∃ t a b c, i = .holdupMeasure t a b c) ∨ (∃ t b, i = .scrivenerJournal t b) ∨ (∃ t, i = .compactionAuto t) ∨ (∃ t, i = .compactionComplete t)) ∧ (∀ t, i ≠ .bandDecided t) ∧ (∀ t, i ≠ .pllTRestart t) ∧ (∀ t o v, i = .retireLogicalRank t o v ∨ i = .migrationAbort t o → s.core.wordOk 0x2E45 1 = true) ∧ (∀ t o k n l, i = .laneSpare t (some o) k n l → s.core.wordOk 0x3111 0 = true) :=
  ⟨.fineDelayStep 1 0, State.reset, _, ⟨rfl, Or.inr (Or.inr (Or.inr (Or.inr (Or.inr (Or.inr (Or.inr (Or.inr (Or.inl ⟨1, 0, rfl⟩)))))))), fun _ h => (by cases h), fun _ h => (by cases h), fun _ _ _ h => (by rcases h with h | h <;> cases h), fun _ _ _ _ _ h => (by cases h)⟩⟩

theorem test_platform_frame_2 : ∃ (i : Instr) (s : State) (u : State), exec i s = .next u ∧ ((∃ t p x b, i = .pllSearchWindow t p x b) ∨ (∃ t p, i = .outputRestart t p) ∨ (∃ t p, i = .pllUnlock t p) ∨ (∃ t, i = .refinLost t) ∨ (∃ t x e, i = .refinReturn t x e) ∨ (∃ t p, i = .slewComplete t p) ∨ (∃ t, i = .holdoverExpired t) ∨ (∃ t, i = .pllTRestart t) ∨ (∃ t n, i = .fineDelayStep t n) ∨ (∃ t r k, i = .perBankRefresh t r k) ∨ (∃ t r b, i = .rowIdleClose t r b) ∨ (∃ t d, i = .wckDqMeasure t d) ∨ (∃ t l, i = .mr4Read t l) ∨ (∃ t, i = .errorWindowRestart t) ∨ (∃ t o v, i = .retireLogicalRank t o v) ∨ (∃ t o, i = .migrationAbort t o) ∨ (∃ t, i = .migrationDone t) ∨ (∃ t n l, i = .linkBringUp t n l) ∨ (∃ t n l h v b, i = .eyeScan t n l h v b) ∨ (∃ t o k n l, i = .laneSpare t o k n l) ∨ (∃ t n k, i = .linkRetrain t n k) ∨ (∃ t n, i = .retrainTimeout t n) ∨ (∃ t n, i = .retrainComplete t n) ∨ (∃ t n w e, i = .statusBlock t n w e) ∨ (∃ t n x, i = .thermalSample t n x) ∨ (∃ t, i = .bandDecided t) ∨ (∃ t, i = .throttleLevelStep t) ∨ (∃ t b m, i = .throughputReplicaMeasure t b m) ∨ (∃ t a b c, i = .holdupMeasure t a b c) ∨ (∃ t b, i = .scrivenerJournal t b) ∨ (∃ t, i = .compactionAuto t) ∨ (∃ t, i = .compactionComplete t)) :=
  ⟨.fineDelayStep 1 0, State.reset, _, ⟨rfl, Or.inr (Or.inr (Or.inr (Or.inr (Or.inr (Or.inr (Or.inr (Or.inr (Or.inl ⟨1, 0, rfl⟩))))))))⟩⟩

theorem test_motion_held_by_job_0 : ∃ (o : Orig) (v : Byte) (s : State), s.core.job.running = true ∧ s.core.owns o 1 = true ∧ o ≠ .pdo ∧ s.core.mode ≠ .compline ∧ s.core.isMapped 0x2100 2 = false ∧ v = (if s.core.owner 1 == .press then 2 else 1) :=
  ⟨.sdo, 2, (jb .web), by decide +kernel⟩

theorem test_motion_held_by_job_1 : ∃ (o : Orig) (s : State), s.core.job.running = true ∧ s.core.owns o 1 = false ∧ (o = .sdo ∨ o = .mbx) ∧ s.core.mode ≠ .compline ∧ s.core.isMapped 0x2101 0 = false :=
  ⟨.mbx, (jb .web), by decide +kernel⟩

theorem test_motion_held_by_job_2 : ∃ (o : Orig) (v : Byte) (s : State), s.core.owns o 1 = true ∧ o ≠ .pdo ∧ s.core.mode ≠ .compline ∧ s.core.isMapped 0x2100 2 = false ∧ s.core.wordOk 0x2100 2 = true ∧ v = (if s.core.owner 1 == .press then 1 else 2) :=
  ⟨.sdo, 1, (jb .web), by decide +kernel⟩

theorem test_motion_held_by_job_3 : ∃ (o : Orig) (v : Byte) (s : State), s.core.owns o 1 = true ∧ o ≠ .pdo ∧ s.core.mode ≠ .compline ∧ s.core.isMapped 0x2100 2 = false ∧ v ≠ 1 ∧ v ≠ 2 :=
  ⟨.sdo, 3, (jb .web), by decide +kernel⟩

theorem test_converter_depth_0 : ∃ (o : Orig) (v : Byte) (s : State), s.core.mayWrite o 0x2300 0 4 ∧ s.core.pw.resetDue = false ∧ (s.core.mode = .standby ∨ s.core.mode = .calibrate) ∧ (v = 8 ∨ v = 10 ∨ v = 12) :=
  ⟨.mbx, 10, (st .standby), by decide +kernel⟩

theorem test_converter_depth_1 : ∃ (o : Orig) (v : Byte) (s : State), s.core.mayWrite o 0x2300 0 4 ∧ s.core.pw.resetDue = false ∧ (s.core.mode = .standby ∨ s.core.mode = .calibrate) ∧ v ≠ 8 ∧ v ≠ 10 ∧ v ≠ 12 :=
  ⟨.mbx, 9, (st .standby), by decide +kernel⟩

theorem test_converter_depth_2 : ∃ (o : Orig) (s : State), s.core.mayWrite o 0x2300 0 4 ∧ s.core.pw.resetDue = false ∧ s.core.mode ≠ .standby ∧ s.core.mode ≠ .calibrate :=
  ⟨.mbx, (st .service), by decide +kernel⟩

theorem test_masked_writes_0 : ∃ (t : Nat) (n : Fin 5) (r : DramReq) (mask : BitVec 64) (data : List Byte) (s : State), Memory.wf s.mem = true ∧ s.core.dramReady = true ∧ s.core.pick (s.at_ t) n.val = some r ∧ r.op = .write mask data ∧ data.length = 64 ∧ (mask = BitVec.allOnes 64 ∨ s.core.poisoned r.dpa 64 = false) :=
  ⟨1, 0, ⟨3, 2, 128, .write 1 (List.replicate 64 9), 0, 5⟩, 1, (List.replicate 64 9), (st .standby fun c => (c.put 0x2E00 4 2).mapDram fun d => { d with queue := [⟨3, 2, 128, .write 1 (List.replicate 64 9), 0, 5⟩, ⟨4, 2, 128, .read, 0, 5⟩], nextId := 5 }), by decide +kernel⟩

theorem test_masked_writes_1 : ∃ (t : Nat) (n : Fin 5) (r : DramReq) (mask : BitVec 64) (data : List Byte) (s : State), s.core.dramReady = true ∧ s.core.pick (s.at_ t) n.val = some r ∧ r.op = .write mask data ∧ mask ≠ BitVec.allOnes 64 ∧ s.core.poisoned r.dpa 64 = true :=
  ⟨1, 0, ⟨3, 2, 128, .write 1 (List.replicate 64 9), 0, 5⟩, 1, (List.replicate 64 9), (st .standby fun c => (c.put 0x2E00 4 2).mapDram fun d => { d with queue := [⟨3, 2, 128, .write 1 (List.replicate 64 9), 0, 5⟩, ⟨4, 2, 128, .read, 0, 5⟩], nextId := 5, poison := [2] }), by decide +kernel⟩

end Sys2Proof.Tests
end

section
namespace Sys2Proof.Machine

/-! ### The abort code that comes first -/

/-- Which of two cases gives the first code: the earliest of the order, or without one of the order the lowest. -/
theorem firstCode_eq_some {l : List Nat} {k : Nat} (h : firstCode l = some k) :
    (∃ as bs, codeOrder = as ++ k :: bs ∧ k ∈ l ∧ ∀ j ∈ as, j ∉ l) ∨
    ((∀ j ∈ codeOrder, j ∉ l) ∧ k ∈ l ∧ ∀ j ∈ l, k ≤ j) := by
  unfold firstCode at h
  split at h
  case h_1 j hj =>
    obtain rfl : j = k := Option.some.inj h
    obtain ⟨hm, as, bs, ho, hb⟩ := List.find?_eq_some_iff_append.mp hj
    exact .inl ⟨as, bs, ho, by simpa using hm, fun i hi => by simpa using hb i hi⟩
  case h_2 hn =>
    obtain ⟨hk, hle⟩ := List.min?_eq_some_iff.mp h
    exact .inr ⟨fun j hj => by simpa using List.find?_eq_none.mp hn j hj, hk, hle⟩

theorem firstCode_mem {l : List Nat} {k : Nat} (h : firstCode l = some k) : k ∈ l := by
  obtain ⟨-, -, -, hk, -⟩ | ⟨-, hk, -⟩ := firstCode_eq_some h <;> exact hk

/-- No reason that applies stands before the first code in the order. -/
theorem firstCode_idxOf_le {l : List Nat} {k j : Nat} (h : firstCode l = some k) (ho : j ∈ codeOrder) (hj : j ∈ l) :
    codeOrder.idxOf k ≤ codeOrder.idxOf j := by
  obtain ⟨as, bs, e, -, hb⟩ | ⟨hn, -, -⟩ := firstCode_eq_some h
  · have hja : j ∉ as := fun m => hb j m hj
    rw [e, List.idxOf_append_of_notMem hja]
    by_cases hka : k ∈ as
    · exact (List.idxOf_append_of_mem hka).le.trans ((List.idxOf_le_length).trans (Nat.le_add_right _ _))
    · rw [List.idxOf_append_of_notMem hka]
      simp
  · exact absurd hj (hn j ho)

theorem firstCode_eq_none {l : List Nat} : firstCode l = none ↔ l = [] := by
  constructor
  · intro h
    unfold firstCode at h
    split at h
    · cases h
    · exact List.min?_eq_none_iff.mp h
  · rintro rfl
    exact firstCode_nil

/-- A code of the order is the first one where it applies and none before it does. -/
theorem firstCode_of_order {l : List Nat} {k : Nat} (as bs : List Nat) (ho : codeOrder = as ++ k :: bs) (hk : k ∈ l)
    (hb : ∀ j ∈ as, j ∉ l) : firstCode l = some k := by
  have h : codeOrder.find? (fun k => l.contains k) = some k :=
    List.find?_eq_some_iff_append.mpr ⟨by simpa using hk, as, bs, ho, fun j hj => by simpa using hb j hj⟩
  simp only [firstCode, h]

/-- Settles O9: the first code is the earliest of the order of R51 among the reasons, and the lowest where the order
has none of them. -/
theorem codePrecedence : Obligations.CodePrecedence := by
  unfold Obligations.CodePrecedence
  intro l k h
  have before : ∀ j, j ∈ codeOrder → codeOrder.idxOf j < codeOrder.idxOf k → j ∉ l := fun j ho hlt hj =>
    absurd (firstCode_idxOf_le h ho hj) (Nat.not_le.mpr hlt)
  refine ⟨firstCode_mem h, fun hj => ?_, ?_, ?_, ?_, fun hn => ?_⟩
  · have h0 : codeOrder.idxOf 0x06020000 = codeOrder.idxOf k :=
      (Nat.zero_le _).antisymm (firstCode_idxOf_le h (by decide) hj)
    exact ((List.idxOf_inj (by decide)).mp h0).symm
  · rintro rfl
    refine ⟨before _ ?_ ?_, before _ ?_ ?_, before _ ?_ ?_, before _ ?_ ?_, before _ ?_ ?_⟩ <;> decide
  · rintro rfl
    refine ⟨before _ ?_ ?_, before _ ?_ ?_⟩ <;> decide
  · rintro rfl
    refine ⟨before _ ?_ ?_, before _ ?_ ?_, before _ ?_ ?_⟩ <;> decide
  · obtain ⟨as, bs, e, -, -⟩ | ⟨hno, -, hle⟩ := firstCode_eq_some h
    · exact absurd (e ▸ by simp) hn
    · exact ⟨hno, hle⟩

end Sys2Proof.Machine
end

section
namespace Sys2Proof.Machine

/-! ### What the frame of a command leaves -/

/-- A command's end: the DRAM stands, and the effect stands under the frame. -/
theorem State.run_ends (t : Nat) (f : Nat → Core → Core) (s : State) :
    ∃ u, State.run t f s = .next u ∧ u.mem = s.mem ∧ u.core = (f (s.at_ t) s.core).under u.core ∧
      (f (s.at_ t) s.core).out <+: u.core.out :=
  ⟨_, rfl, rfl, Core.settle_under _ _, Core.settle_out _ _⟩

@[simp] theorem Core.under_dict (c e : Core) : (c.under e).dict = c.dict := rfl
@[simp] theorem Core.under_doms (c e : Core) : (c.under e).doms = c.doms := rfl
@[simp] theorem Core.under_banks (c e : Core) : (c.under e).banks = c.banks := rfl
@[simp] theorem Core.under_owners (c e : Core) : (c.under e).owners = c.owners := rfl
@[simp] theorem Core.under_mode (c e : Core) : (c.under e).mode = c.mode := rfl
@[simp] theorem Core.under_trans (c e : Core) : (c.under e).trans = c.trans := rfl
@[simp] theorem Core.under_ec (c e : Core) : (c.under e).ec = c.ec := rfl
@[simp] theorem Core.under_mbx (c e : Core) : (c.under e).mbx = c.mbx := rfl
@[simp] theorem Core.under_tw (c e : Core) : (c.under e).tw = c.tw := rfl
@[simp] theorem Core.under_mot (c e : Core) : (c.under e).mot = c.mot := rfl
@[simp] theorem Core.under_job (c e : Core) : (c.under e).job = c.job := rfl
@[simp] theorem Core.under_ev (c e : Core) : (c.under e).ev = c.ev := rfl
@[simp] theorem Core.under_nv (c e : Core) : (c.under e).nv = c.nv := rfl
@[simp] theorem Core.under_pw (c e : Core) : (c.under e).pw = c.pw := rfl
@[simp] theorem Core.under_clk (c e : Core) : (c.under e).clk = c.clk := rfl
@[simp] theorem Core.under_sram (c e : Core) : (c.under e).sram = c.sram := rfl
@[simp] theorem Core.under_obj (c e : Core) (i s : Nat) : (c.under e).obj i s = c.obj i s := rfl
@[simp] theorem Core.under_under (c d e : Core) : (c.under d).under e = c.under e := rfl

/-! ### Rows of the dictionary -/

theorem findRow_covers {i s : Nat} {r : ObjRow} (h : findRow i s = some r) :
    r ∈ tabFor i ∧ r.lo ≤ i ∧ i ≤ r.hi ∧ r.s0 ≤ s ∧ s ≤ r.s1 := by
  refine ⟨List.mem_of_find?_eq_some h, ?_⟩
  simpa [and_assoc] using List.find?_some h

/-- An object that has a row exists. -/
theorem topSub_isSome {i s : Nat} {r : ObjRow} (h : rowOf i s = some r) : (topSub i).isSome = true := by
  unfold rowOf at h
  split at h
  case h_1 _ _ q hq =>
    obtain ⟨hm, h1, h2, -⟩ := findRow_covers hq
    have hf : q ∈ (tabFor i).filter (fun r => r.lo ≤ i && i ≤ r.hi) := by simp [hm, h1, h2]
    unfold topSub
    split
    · next he => rw [he] at hf; cases hf
    · rfl
  case h_2 ht => simp [ht]
  case h_3 => cases h

theorem forall_mem_ite {α : Type} {q : α → Prop} {p : Prop} [Decidable p] {a b : List α} (ha : ∀ x ∈ a, q x)
    (hb : ∀ x ∈ b, q x) : ∀ x ∈ (if p then a else b), q x := by split <;> assumption

/-- No object has a sub beyond 255. -/
theorem tabFor_s1_lt (i : Nat) : ∀ r ∈ tabFor i, r.s1 < 256 := by
  unfold tabFor
  iterate 17 refine forall_mem_ite ?_ ?_; rotate_left
  all_goals decide +kernel

theorem rowOf_sub_lt {i s : Nat} {r : ObjRow} (h : rowOf i s = some r) : s < 256 := by
  unfold rowOf at h
  split at h
  case h_1 _ _ q hq =>
    obtain ⟨hm, -, -, -, hs⟩ := findRow_covers hq
    exact hs.trans_lt (tabFor_s1_lt i q hm)
  case h_2 =>
    split at h
    · omega
    · cases h
  case h_3 => cases h

/-! ### The codes that an object's own reasons give -/

/-- Every code that an object can have of its own to refuse a value, 2102h apart. -/
def ownReasons : List Nat :=
  [0x06040041, 0x06040042, 0x06090030, 0x06090032, 0x08000000, 0x08000020, 0x08000021, 0x08000022, 0x08000023,
   0x08000026, 0x08000027, 0x08000028, 0x08000029, 0x0800002A, 0x0800002C, 0x0800002E, 0x08000030, 0x08000031]

theorem reason_subset {b : Bool} {k : Nat} {l : List Nat} : reason b k ⊆ l ↔ (b = true → k ∈ l) := by
  unfold reason; split <;> simp [*]

theorem ite_subset {p : Prop} [Decidable p] {a b l : List Nat} :
    (if p then a else b) ⊆ l ↔ (p → a ⊆ l) ∧ (¬p → b ⊆ l) := by split <;> simp [*]

theorem Core.pathCodes_subset (c : Core) (m : Mode) : c.pathCodes m ⊆ ownReasons.erase 0x08000020 := by
  unfold Core.pathCodes
  split <;>
    simp [Core.runCodes, Core.jobCodes, Core.linkCodes, Core.areaCodes, reason_subset, ownReasons]

theorem Core.commCodes_subset (c new : Core) (now : Nat) (o : Orig) (i s v : Nat) (h : i ≠ 0x2102) :
    c.commCodes new now o i s v ⊆ ownReasons := by
  simp [Core.commCodes, Core.mapCodes, h, ite_subset, reason_subset, ownReasons]

theorem Core.imageCodes_subset (c new : Core) (i s v : Nat) (data : List Byte) :
    c.imageCodes new i s v data ⊆ ownReasons := by
  simp [Core.imageCodes, Core.refCodes, Core.calCodes, Core.motionCodes, Core.calStartCodes, Core.calSaveCodes,
    ite_subset, reason_subset, ownReasons]

theorem Core.unitCodes_subset (c new : Core) (now i s v : Nat) (data : List Byte) :
    c.unitCodes new now i s v data ⊆ ownReasons := by
  simp [Core.unitCodes, Core.contextCodes, Core.outputCodes, Core.packageCodes, Core.tkStartCodes, Core.tkCodes,
    Core.applyCodes, Core.rankCodes, Core.injectCodes, Core.flipCodes, Core.spareCodes, Core.serviceCodes,
    Core.resetCodes, Core.compactCodes, ite_subset, reason_subset, ownReasons]

/-- An object other than 2102h refuses a value with one of these codes. -/
theorem Core.ownCodes_subset (c new : Core) (now : Nat) (o : Orig) (i s : Nat) (data : List Byte) (h : i ≠ 0x2102) :
    c.ownCodes new now o i s data ⊆ ownReasons := by
  simp only [Core.ownCodes, List.append_subset]
  exact ⟨⟨c.commCodes_subset _ _ _ _ _ _ h, c.imageCodes_subset _ _ _ _ _⟩, c.unitCodes_subset _ _ _ _ _ _⟩

end Sys2Proof.Machine
end

section
namespace Sys2Proof.Machine

/-! ### A write that is refused, and one that is taken -/

/-- A command that ends by answering: its effect stands under the frame, and the answer comes after what the effect
put out. -/
theorem State.run_answered {t : Nat} {o : Orig} {i s k : Nat} {d : Core} {f : Nat → Core → Core} {x : State}
    (hf : f (x.at_ t) x.core = Core.answered o i s (k, d)) :
    ∃ u, State.run t f x = .next u ∧ u.mem = x.mem ∧ u.core = d.under u.core ∧
      (o ≠ .pdo → d.out ++ [.answer o i s k] <+: u.core.out) := by
  obtain ⟨u, hu, hm, hc, ho⟩ := State.run_ends t f x
  rw [hf] at hc ho
  refine ⟨u, hu, hm, ?_, fun hp => ?_⟩
  · unfold Core.answered at hc
    split at hc
    · exact hc
    · exact hc
  · unfold Core.answered at ho
    rw [if_neg hp] at ho
    exact ho

/-- The reasons of its own that a write of an object meets. -/
def Core.writeReasons (c : Core) (now : Nat) (o : Orig) (i s : Nat) (data : List Byte) : List Nat :=
  if i = 0x2000 ∧ s = 0 then c.modeCodes (leNat data % 16)
  else if i = 0x3010 ∧ s = 3 then c.flipCodes
  else c.ownCodes (c.stand i s data) now o i s data

/-- The first code that stands against a write. -/
def Core.writeRefusal (c : Core) (now : Nat) (o : Orig) (i s : Nat) (data : List Byte) : Option Nat :=
  firstCode (c.writeCodes o i s data (c.writeReasons now o i s data))

/-- A write refused changes nothing but the status object of a mode request or of a bias flip. -/
theorem Core.writeOne_no {c : Core} {now : Nat} {o : Orig} {i s k : Nat} {data : List Byte}
    (h : c.writeRefusal now o i s data = some k) :
    c.writeOne now o i s data = (k, c) ∨
    (i = 0x2000 ∧ k ∈ c.modeCodes (leNat data % 16) ∧
      c.writeOne now o i s data = (k, c.modeStatus 3 (leNat data % 16) k)) ∨
    (i = 0x3010 ∧ k ∈ c.flipCodes ∧ c.writeOne now o i s data = (k, c.put 0x3010 4 3)) := by
  unfold Core.writeRefusal Core.writeReasons at h
  unfold Core.writeOne
  by_cases h1 : i = 0x2000 ∧ s = 0
  · obtain ⟨rfl, rfl⟩ := h1
    simp only [and_self, if_true] at h
    simp only [Core.modeWrite, h, decide_true, Bool.and_self, if_true]
    cases modeAsked (leNat data % 16) with
    | none => exact .inl rfl
    | some m =>
      by_cases hk : k ∈ c.modeCodes (leNat data % 16) <;> simp [hk]
  · by_cases h2 : i = 0x3010 ∧ s = 3
    · obtain ⟨rfl, rfl⟩ := h2
      simp at h
      by_cases hk : k ∈ c.flipCodes <;> cases hf : c.cxl.flip.isNone <;>
        simp [Core.flipWrite, Core.judged_no h, hk, hf]
    · rw [if_neg h1, if_neg h2] at h
      simp only [← Bool.decide_and, decide_eq_true_eq, h1, h2, if_false]
      exact .inl (Core.judged_no h now)

/-- A write that nothing refuses is answered 0 where the object's word holds no error. -/
theorem Core.writeOne_yes {c : Core} {now : Nat} {o : Orig} {i s : Nat} {data : List Byte} (hw : c.wordOk i s = true)
    (h : c.writeRefusal now o i s data = none) : (c.writeOne now o i s data).1 = 0 := by
  unfold Core.writeRefusal Core.writeReasons at h
  unfold Core.writeOne
  by_cases h1 : i = 0x2000 ∧ s = 0
  · obtain ⟨rfl, rfl⟩ := h1
    simp only [and_self, if_true] at h
    simp only [Core.modeWrite, h, Core.storageWrite_ok hw, decide_true, Bool.and_self, if_true]
    split <;> simp_all
  · by_cases h2 : i = 0x3010 ∧ s = 3
    · obtain ⟨rfl, rfl⟩ := h2
      simp at h
      simp [Core.flipWrite, Core.judged_ok hw h]
    · rw [if_neg h1, if_neg h2] at h
      simp only [← Bool.decide_and, decide_eq_true_eq, h1, h2, if_false]
      rw [Core.judged_ok hw h]

@[simp] theorem Core.msix_pw (v : Nat) (c : Core) : (c.msix v).pw = c.pw :=
  Core.of_rest Core.pw (fun _ => rfl) (c.rest_msix v)

/-- The status of a mode request is one object, and a vector where it is complete or refused. -/
theorem Core.under_modeStatus (st code k : Nat) (c e : Core) :
    (c.modeStatus st code k).under e = (c.put 0x2002 0 (st + code * 256 + k % 256 * 65536)).under e := by
  unfold Core.modeStatus Core.when
  split
  · exact Core.under_msix _ _ _
  · rfl

theorem Core.out_modeStatus (st code k : Nat) (c : Core) : c.out <+: (c.modeStatus st code k).out :=
  Core.when_of (P := fun d => c.out <+: d.out) _ _ _ (List.prefix_refl _)
    (Core.out_msix 9 (c.put 0x2002 0 _))

/-- OBJECT_WRITE where no reset is due. -/
theorem exec_objectWrite {t : Nat} {o : Orig} {i s k : Nat} {data : List Byte} {x : State} {d : Core}
    (h : x.core.writeOne (x.at_ t) o i s data = (k, d)) (hr : d.pw.resetDue = false) :
    ∃ u, exec (.objectWrite t o i s data) x = .next u ∧ u.mem = x.mem ∧ u.core = d.under u.core ∧
      (o ≠ .pdo → d.out ++ [.answer o i s k] <+: u.core.out) := by
  refine State.run_answered (f := fun now c => (Core.answered o i s (c.writeOne now o i s data)).resetIfDue now) ?_
  have hp : (Core.answered o i s (k, d)).pw.resetDue = false := by
    unfold Core.answered
    split <;> exact hr
  simp only [h, Core.resetIfDue, hp, Core.when_false]

/-- What the frame leaves, a core has of the effect it ends. -/
theorem Core.of_under {α : Type} {u d : Core} (h : u = d.under u) (f : Core → α)
    (hf : ∀ c e, f (Core.under c e) = f c := by intros; rfl) : f u = f d := by
  rw [h]
  exact hf d u

/-- A core that differs from another in its objects alone. -/
theorem Core.under_of_dict {u c d : Core} (h : u = d.under u) (hd : d = { c with dict := d.dict }) :
    u = ({ c with dict := u.dict } : Core).under u := by
  have e := Core.of_under h Core.dict
  rw [e, ← hd]
  exact h

theorem Core.keeps_put {c u : Core} {i s v : Nat} (hs : s < 256) (h : u.dict = (c.put i s v).dict) :
    c.keeps u [(i, s)] := by
  intro j k hk hn
  have e : u.obj j k = (c.put i s v).obj j k := congrArg (fun d => sget dfltOf d (key j k)) h
  rw [e]
  exact c.obj_keep _ _ _ _ _ hs hk (by simpa using hn)

theorem Core.keeps_of_dict {c u : Core} {l : List (Nat × Nat)} (h : u.dict = c.dict) : c.keeps u l := by
  intro j k _ _
  exact congrArg (fun d => sget dfltOf d (key j k)) h

/-! ### O8 -/

/-- Settles O8: a code that is not 0 comes from the reasons against the write, and a refusal is noted in the status
objects alone. -/
theorem refusedWriteChangesNothing : Obligations.RefusedWriteChangesNothing := by
  unfold Obligations.RefusedWriteChangesNothing
  intro t o i s k data x hd hw hk h0
  obtain ⟨j, hj⟩ : ∃ j, x.core.writeRefusal (x.at_ t) o i s data = some j := by
    cases h : x.core.writeRefusal (x.at_ t) o i s data with
    | none => exact absurd (hk.symm.trans (Core.writeOne_yes hw h)) h0
    | some j => exact ⟨j, rfl⟩
  obtain e | ⟨rfl, -, e⟩ | ⟨rfl, -, e⟩ := Core.writeOne_no hj
  · obtain rfl : j = k := by rw [← hk, e]
    obtain ⟨u, hu, hm, hc, ho⟩ := exec_objectWrite e hd
    have hdict := Core.of_under hc Core.dict
    refine ⟨u, hu, hm, fun hp => ⟨[], ho hp⟩, fun _ _ => hc, fun _ => ?_, fun _ => ?_⟩ <;>
      exact ⟨Core.under_of_dict hc rfl, Core.keeps_of_dict hdict⟩
  · obtain rfl : j = k := by rw [← hk, e]
    obtain ⟨u, hu, hm, hc, ho⟩ := exec_objectWrite e (by
      rw [show (x.core.modeStatus 3 (leNat data % 16) j).pw = x.core.pw from by simp [Core.modeStatus]]; exact hd)
    rw [Core.under_modeStatus] at hc
    have hdict := Core.of_under hc Core.dict
    refine ⟨u, hu, hm, fun hp => ?_, by simp, fun _ => ?_, by simp⟩
    · obtain ⟨l, hl⟩ := x.core.out_modeStatus 3 (leNat data % 16) j
      exact ⟨l, by simpa [State.puts, ← hl] using ho hp⟩
    · exact ⟨Core.under_of_dict hc rfl, Core.keeps_put (by decide) hdict⟩
  · obtain rfl : j = k := by rw [← hk, e]
    obtain ⟨u, hu, hm, hc, ho⟩ := exec_objectWrite e hd
    have hdict := Core.of_under hc Core.dict
    refine ⟨u, hu, hm, fun hp => ⟨[], ho hp⟩, by simp, by simp, fun _ => ?_⟩
    exact ⟨Core.under_of_dict hc rfl, Core.keeps_put (by decide) hdict⟩

/-! ### O7 -/

theorem mem_reason {b : Bool} {j k : Nat} : k ∈ reason b j ↔ b = true ∧ k = j := by
  unfold reason; split <;> simp [*]

theorem Core.writeCodes_row {c : Core} {o : Orig} {i s : Nat} {data : List Byte} {own : List Nat} {r : ObjRow}
    (ha : c.absent i = false) (hr : rowOf i s = some r) :
    c.writeCodes o i s data own = c.rowCodes o i s r data ++ own := by
  obtain ⟨k, hk⟩ := Option.isSome_iff_exists.mp (topSub_isSome hr)
  simp [Core.writeCodes, ha, hk, hr]

/-- The mode machine's reasons are not ownership's. -/
theorem Core.modeCodes_subset (c : Core) (code : Nat) :
    c.modeCodes code ⊆ 0x0800002B :: ownReasons.erase 0x08000020 := by
  unfold Core.modeCodes
  simp only [List.append_subset, reason_subset]
  refine ⟨fun _ => by simp, ?_⟩
  split
  · decide
  · refine ite_subset.mpr ⟨fun _ => List.nil_subset _, fun _ => ?_⟩
    exact List.Subset.trans (c.pathCodes_subset _) (List.subset_cons_self _ _)

theorem Core.flipCodes_subset (c : Core) : c.flipCodes ⊆ ownReasons.erase 0x08000020 := by
  simp [Core.flipCodes, reason_subset, ownReasons]

theorem Core.writeReasons_subset (c : Core) (now : Nat) (o : Orig) (i s : Nat) (data : List Byte) (h : i ≠ 0x2102) :
    c.writeReasons now o i s data ⊆ 0x0800002B :: ownReasons := by
  unfold Core.writeReasons
  refine ite_subset.mpr ⟨fun _ => List.Subset.trans (c.modeCodes_subset _) (by decide), fun _ => ?_⟩
  refine ite_subset.mpr ⟨fun _ => List.Subset.trans c.flipCodes_subset (by decide), fun _ => ?_⟩
  exact List.Subset.trans (c.ownCodes_subset _ _ _ _ _ _ h) (List.subset_cons_self _ _)

/-- A party that does not own an object's domain is refused for that, whatever else stands against the write, where the
object exists and is not read-only. -/
theorem Core.writeRefusal_notOwned {c : Core} {now : Nat} {o : Orig} {i s d : Nat} {data : List Byte} {r : ObjRow}
    (ha : c.absent i = false) (hr : rowOf i s = some r) (hacc : r.acc ≠ .ro) (hd : domainOf i s = some d)
    (ho : c.owns o d = false) : c.writeRefusal now o i s data = some 0x08000020 := by
  have h2 : i ≠ 0x2102 := by
    rintro rfl
    simp [domainOf] at hd
  have hsub := c.writeReasons_subset now o i s data h2
  refine firstCode_of_order (codeOrder.take 5) (codeOrder.drop 6) (by decide) ?_ fun j hj hm => ?_
  all_goals rw [Core.writeCodes_row ha hr] at *
  · simp [Core.rowCodes, hd, ho, mem_reason]
  · rw [List.mem_append] at hm
    obtain hm | hm := hm
    · have hj' : j ∉ [0x08000020, 0x0800002D, 0x0800002F, 0x08000021, 0x06070010, 0x06090030] :=
        (by decide : ∀ j ∈ codeOrder.take 5,
          j ∉ [0x08000020, 0x0800002D, 0x0800002F, 0x08000021, 0x06070010, 0x06090030]) j hj
      simp [Core.rowCodes, mem_reason, hacc, h2] at hm hj'
      tauto
    · have hj' : j ∉ 0x0800002B :: ownReasons :=
        (by decide : ∀ j ∈ codeOrder.take 5, j ∉ 0x0800002B :: ownReasons) j hj
      exact hj' (hsub hm)

/-- Settles O7: ownership comes before every reason of the object's own, and the status objects of mode requests and
bias flips note no refusal for it. -/
theorem nonOwnerRefused : Obligations.NonOwnerRefused := by
  unfold Obligations.NonOwnerRefused
  intro t o i s d data r x ha hd hr hacc hdom ho
  have e : x.core.writeOne (x.at_ t) o i s data = (0x08000020, x.core) := by
    obtain e | ⟨-, hk, -⟩ | ⟨-, hk, -⟩ := Core.writeOne_no (Core.writeRefusal_notOwned ha hr hacc hdom ho)
    · exact e
    · exact absurd (x.core.modeCodes_subset _ hk) (by decide)
    · exact absurd (x.core.flipCodes_subset hk) (by decide)
  obtain ⟨u, hu, hm, hc, hp⟩ := exec_objectWrite e hd
  exact ⟨u, hu, hc, hm, hp⟩

/-! ### O1 and O3 -/

/-- Settles O1: both cases of `step`. -/
theorem stepTakesFront : Obligations.StepTakesFront := by
  unfold Obligations.StepTakesFront
  refine ⟨fun c rest s => rfl, fun s h => ?_⟩
  simp only [step, h]

/-- Settles O3: the fields of the reset state, read off. -/
theorem resetState : Obligations.ResetState := by
  unfold Obligations.ResetState
  refine ⟨rfl, rfl, rfl, rfl, rfl, rfl, fun i s => rfl, rfl, ?_, ?_, ?_⟩ <;> decide +kernel

end Sys2Proof.Machine
end

section
namespace Sys2Proof.Machine

/-! ### Little-endian numbers -/

theorem leNat_leBytes (n v : Nat) : leNat (leBytes n v) = v % 256 ^ n := by
  induction n generalizing v with
  | zero => simp [leBytes, leNat, Nat.mod_one]
  | succ n ih =>
    have h : 256 ^ (n + 1) = 256 * 256 ^ n := pow_succ' _ _
    rw [leBytes, leNat, ih, BitVec.toNat_ofNat, h, Nat.mod_mul]

@[simp] theorem length_leBytes (n v : Nat) : (leBytes n v).length = n := by
  induction n generalizing v with
  | zero => rfl
  | succ n ih => rw [leBytes, List.length_cons, ih]

@[simp] theorem leNat_single (v : Byte) : leNat [v] = v.toNat := by simp [leNat]

/-! ### Objects of no domain -/

theorem Core.absent_low (c : Core) {i : Nat} (h1 : 0x1000 ≤ i) (h2 : i ≤ 0x21FF) : c.absent i = false := by
  simp [Core.absent, h1, h2]

/-- What stands against a write of an object that either party may write: its own reasons, and a value or a party that
its row does not permit. -/
theorem Core.writeCodes_either {c : Core} {o : Orig} {i s : Nat} {data : List Byte} {own : List Nat} {r : ObjRow}
    (ha : c.absent i = false) (hr : rowOf i s = some r) (hd : domainOf i s = none)
    (hacc : (r.acc == .ro || r.acc == .rws) = false)
    (hmap : o = .pdo ∨ c.isMapped i s = false) (hm : c.mode ≠ .compline) (hl : lengthOk r data.length = true) :
    c.writeCodes o i s data own = reason (i == 0x2102 && o == .mbx) 0x06010000 ++
      (reason (r.ty != .dom && r.ty != .oct && r.ty != .str && !permits r.ty r.perm (leNat data)) 0x06090030 ++ own) := by
  have hmap' : (o != .pdo && c.isMapped i s) = false := by
    rcases hmap with rfl | h
    · rfl
    · simp [h]
  simp only [Bool.or_eq_false_iff] at hacc
  have hc : (c.mode == .compline) = false := by simpa using hm
  rw [Core.writeCodes_row ha hr]
  simp [Core.rowCodes, hacc.1, hacc.2, hd, hmap', hc, hl, reason]

/-- A write that nothing refuses, of an object whose word holds no error, has its effect. -/
theorem Core.writeOne_taken {c : Core} {now : Nat} {o : Orig} {i s : Nat} {data : List Byte} (h0 : i ≠ 0x2000)
    (h1 : i ≠ 0x3010) (hw : c.wordOk i s = true)
    (h : firstCode (c.writeCodes o i s data (c.ownCodes (c.stand i s data) now o i s data)) = none) :
    c.writeOne now o i s data = (0, c.ownEffect now o i s data) := by
  simp [Core.writeOne, h0, h1, Core.judged_ok hw h]

theorem Core.writeOne_judgedNo {c : Core} {now : Nat} {o : Orig} {i s k : Nat} {data : List Byte} (h0 : i ≠ 0x2000)
    (h1 : i ≠ 0x3010)
    (h : firstCode (c.writeCodes o i s data (c.ownCodes (c.stand i s data) now o i s data)) = some k) :
    c.writeOne now o i s data = (k, c) := by
  simp [Core.writeOne, h0, h1, Core.judged_no h]

/-! ### Ownership: 2100h and 2101h -/

/-- The row of a domain's owner. -/
theorem rowOf_owner {dom : Nat} (h1 : 1 ≤ dom) (h2 : dom ≤ 10) :
    rowOf 0x2100 dom = some (row 0x2100 0x2100 1 10 .u8 .rw (.list [1,1,1,1,2,2,2,2,2,2]) false (.rng 1 2) 0 false) := by
  interval_cases dom <;> rfl

theorem writeValue_owner {dom : Nat} (h1 : 1 ≤ dom) (h2 : dom ≤ 10) (v : Byte) : writeValue 0x2100 dom [v] = v.toNat := by
  simp [writeValue, rowOf_owner h1 h2, row, Perm.strip]

/-- What stands against a write of a domain's owner. -/
theorem Core.writeCodes_owner {c : Core} {o : Orig} {now dom : Nat} {v : Byte} (h1 : 1 ≤ dom) (h2 : dom ≤ 10)
    (ho : c.owns o (dom - 1) = true) (hmap : c.isMapped 0x2100 dom = false) (hm : c.mode ≠ .compline) :
    c.writeCodes o 0x2100 dom [v] (c.ownCodes (c.stand 0x2100 dom [v]) now o 0x2100 dom [v]) =
      reason (!(decide (1 ≤ v.toNat) && decide (v.toNat ≤ 2))) 0x06090030 ++
      reason (dom == 2 && c.job.running && (v == 1 || v == 2) && (v == 1) != (c.owner 1 == .press)) 0x0800002C := by
  have hv : ∀ k : Nat, k < 256 → (v.toNat == k) = (v == BitVec.ofNat 8 k) := by
    intro k hk
    rw [Bool.eq_iff_iff, beq_iff_eq, beq_iff_eq, BitVec.toNat_eq, BitVec.toNat_ofNat, Nat.mod_eq_of_lt hk]
  rw [Core.writeCodes_either (c.absent_low (by decide) (by decide)) (rowOf_owner h1 h2) rfl rfl (.inr hmap) hm rfl]
  simp [Core.ownCodes, Core.commCodes, Core.imageCodes, Core.unitCodes, writeValue_owner h1 h2, isMap, isAssign, ho,
    reason, row, permits, hv]

/-- A domain's owner is what a write of its code leaves. -/
theorem Core.ownEffect_owner (c : Core) (now : Nat) (o : Orig) {dom : Nat} (h1 : 1 ≤ dom) (h2 : dom ≤ 10) (v : Byte) :
    c.ownEffect now o 0x2100 dom [v] = c.giveDomain (dom - 1) v.toNat := by
  simp [Core.ownEffect, Core.waitsDawn, duskBlock, Core.commEffect, writeValue_owner h1 h2]

/-- OWNERSHIP_TRANSFER that nothing stands against. -/
theorem exec_ownershipTransfer_taken {t dom : Nat} {o : Orig} {v : Byte} {x : State} (h1 : 1 ≤ dom) (h2 : dom ≤ 10)
    (hv : v = 1 ∨ v = 2) (ho : x.core.owns o (dom - 1) = true) (hmap : x.core.isMapped 0x2100 dom = false)
    (hm : x.core.mode ≠ .compline) (hw : x.core.wordOk 0x2100 dom = true)
    (hj : (dom == 2 && x.core.job.running && (v == 1) != (x.core.owner 1 == .press)) = false) :
    ∃ u, exec (.ownershipTransfer t o dom v) x = .next u ∧ u.mem = x.mem ∧
      u.core = (x.core.giveDomain (dom - 1) v.toNat).under u.core ∧
      (o ≠ .pdo → x.puts u [.answer o 0x2100 dom 0]) := by
  refine State.run_answered (f := fun now c => Core.answered o 0x2100 dom (c.writeOne now o 0x2100 dom [v])) ?_
  rw [Core.writeOne_taken (by decide) (by decide) hw, Core.ownEffect_owner _ _ _ h1 h2]
  rw [Core.writeCodes_owner h1 h2 ho hmap hm, firstCode_eq_none]
  rcases hv with rfl | rfl <;> simpa [reason] using hj

/-- OWNERSHIP_TRANSFER that is refused. -/
theorem exec_ownershipTransfer_refused {t dom k : Nat} {o : Orig} {v : Byte} {x : State} (h1 : 1 ≤ dom) (h2 : dom ≤ 10)
    (ho : x.core.owns o (dom - 1) = true) (hmap : x.core.isMapped 0x2100 dom = false) (hm : x.core.mode ≠ .compline)
    (hk : firstCode (reason (!(decide (1 ≤ v.toNat) && decide (v.toNat ≤ 2))) 0x06090030 ++
      reason (dom == 2 && x.core.job.running && (v == 1 || v == 2) && (v == 1) != (x.core.owner 1 == .press))
        0x0800002C) = some k) :
    ∃ u, exec (.ownershipTransfer t o dom v) x = .next u ∧ u.mem = x.mem ∧ u.core = x.core.under u.core ∧
      (o ≠ .pdo → x.puts u [.answer o 0x2100 dom k]) := by
  refine State.run_answered (f := fun now c => Core.answered o 0x2100 dom (c.writeOne now o 0x2100 dom [v])) ?_
  rw [Core.writeOne_judgedNo (by decide) (by decide)]
  rw [Core.writeCodes_owner h1 h2 ho hmap hm, hk]

/-- The takeover signature. -/
def takeoverSig : Word32 := 0x54414B45

/-- The party that the writer's party holds to be away has been away for 1.0 s (02 R42). -/
def Core.counterpartAway (c : Core) (now : Nat) (o : Orig) : Bool := match Orig.party o with
  | some .host => (c.ec.al != .safeop && c.ec.al != .op) && decide (c.ec.alLowSince + 1000000000 ≤ now)
  | some .press => !c.cxl.hostUp && decide (c.cxl.downAt + 1000000000 ≤ now)
  | none => false

theorem Core.writeCodes_takeover {c : Core} {o : Orig} {now : Nat} (hmap : c.isMapped 0x2101 0 = false)
    (hm : c.mode ≠ .compline) :
    let data := leBytes 4 takeoverSig.toNat
    c.writeCodes o 0x2101 0 data (c.ownCodes (c.stand 0x2101 0 data) now o 0x2101 0 data) =
      reason (!c.counterpartAway now o) 0x0800002E ++ reason (c.job.running && !c.owns o 1) 0x0800002C := by
  intro data
  have hr : rowOf 0x2101 0 = some (row 0x2101 0x2101 0 0 .u32 .wo (.val 0) false (.oneOf [0x54414B45]) 0 false) := rfl
  rw [Core.writeCodes_either (c.absent_low (by decide) (by decide)) hr rfl rfl (.inr hmap) hm rfl]
  have hp : permits .u32 (.oneOf [0x54414B45]) (leNat data) = true := by decide
  simp only [row, hp]
  simp [Core.ownCodes, Core.commCodes, Core.imageCodes, Core.unitCodes, isMap, isAssign, Core.counterpartAway,
    reason] <;> rfl

theorem exec_takeover_taken {t : Nat} {o : Orig} {x : State} (hmap : x.core.isMapped 0x2101 0 = false)
    (hm : x.core.mode ≠ .compline) (hw : x.core.wordOk 0x2101 0 = true)
    (haway : x.core.counterpartAway (x.at_ t) o = true) (hj : (x.core.job.running && !x.core.owns o 1) = false) :
    ∃ u, exec (.takeover t o takeoverSig) x = .next u ∧ u.mem = x.mem ∧ u.core = (x.core.takeAll o).under u.core ∧
      (o ≠ .pdo → (x.core.takeAll o).out ++ [.answer o 0x2101 0 0] <+: u.core.out) := by
  refine State.run_answered
    (f := fun now c => Core.answered o 0x2101 0 (c.writeOne now o 0x2101 0 (leBytes 4 takeoverSig.toNat))) ?_
  rw [Core.writeOne_taken (by decide) (by decide) hw]
  · simp [Core.ownEffect, Core.waitsDawn, duskBlock, Core.commEffect]
  · rw [Core.writeCodes_takeover hmap hm, haway, hj]
    decide

theorem exec_takeover_refused {t k : Nat} {o : Orig} {x : State} (hmap : x.core.isMapped 0x2101 0 = false)
    (hm : x.core.mode ≠ .compline)
    (hk : firstCode (reason (!x.core.counterpartAway (x.at_ t) o) 0x0800002E ++
      reason (x.core.job.running && !x.core.owns o 1) 0x0800002C) = some k) :
    ∃ u, exec (.takeover t o takeoverSig) x = .next u ∧ u.mem = x.mem ∧ u.core = x.core.under u.core ∧
      (o ≠ .pdo → x.puts u [.answer o 0x2101 0 k]) := by
  refine State.run_answered
    (f := fun now c => Core.answered o 0x2101 0 (c.writeOne now o 0x2101 0 (leBytes 4 takeoverSig.toNat))) ?_
  rw [Core.writeOne_judgedNo (by decide) (by decide)]
  rw [Core.writeCodes_takeover hmap hm, hk]

/-- Nothing is mapped below SAFEOP. -/
theorem Core.isMapped_low {c : Core} (h1 : c.ec.al ≠ .safeop) (h2 : c.ec.al ≠ .op) (i s : Nat) :
    c.isMapped i s = false := by
  simp [Core.isMapped, h1, h2]

theorem Core.owns_mbx {c : Core} {d : Nat} : c.owns .mbx d = true ↔ c.owner d = .host := by
  unfold Core.owns
  cases c.owner d <;> decide

theorem Core.owns_sdo {c : Core} {d : Nat} : c.owns .sdo d = true ↔ c.owner d = .press := by
  unfold Core.owns
  cases c.owner d <;> decide

/-- Settles O11: the reasons against a write of 2100h and of 2101h are each the one that the clause names, or none. -/
theorem ownershipMoves : Obligations.OwnershipMoves := by
  unfold Obligations.OwnershipMoves
  refine ⟨?_, ?_, ?_, ?_, ?_⟩
  · intro t o dom v x h1 h2 hv hp ho hm hj hmap hw
    obtain ⟨u, hu, hmem, hc, hout⟩ := exec_ownershipTransfer_taken (t := t) h1 h2 hv ho hmap hm hw (by
      rcases hj with h | h <;> simp [h])
    refine ⟨u, hu, hmem, hout hp, ?_⟩
    rcases hv with rfl | rfl <;> exact hc
  · intro t x h1 h2 ht hm hw hj
    have hj' : (x.core.job.running && !x.core.owns .mbx 1) = false := by
      rcases hj with h | h
      · simp [h]
      · simp [Core.owns_mbx.mpr h]
    obtain ⟨u, hu, hmem, hc, hout⟩ := exec_takeover_taken (t := t) (o := .mbx) (Core.isMapped_low h1 h2 _ _) hm hw
      (by simp [Core.counterpartAway, Orig.party, h1, h2, ht]) hj'
    exact ⟨u, hu, hmem, hout (by decide), hc⟩
  · intro t x h1 ht hm hj hmap hw
    have hj' : (x.core.job.running && !x.core.owns .sdo 1) = false := by
      rcases hj with h | h
      · simp [h]
      · simp [Core.owns_sdo.mpr h]
    obtain ⟨u, hu, hmem, hc, hout⟩ := exec_takeover_taken (t := t) (o := .sdo) hmap hm hw
      (by simp [Core.counterpartAway, Orig.party, h1, ht]) hj'
    exact ⟨u, hu, hmem, hout (by decide), hc⟩
  · intro t x hm hj hmap haway
    have hj' : (x.core.job.running && !x.core.owns .mbx 1) = false := by
      rcases hj with h | h
      · simp [h]
      · simp [Core.owns_mbx.mpr h]
    have ha : x.core.counterpartAway (x.at_ t) .mbx = false := by
      rcases haway with h | h | h <;> simp [Core.counterpartAway, Orig.party, h]
    obtain ⟨u, hu, -, hc, hout⟩ := exec_takeover_refused (t := t) (o := .mbx) (k := 0x0800002E) hmap hm
      (by rw [ha, hj']; decide)
    exact ⟨u, hu, hout (by decide), hc⟩
  · intro t x hm hj hmap haway
    have hj' : (x.core.job.running && !x.core.owns .sdo 1) = false := by
      rcases hj with h | h
      · simp [h]
      · simp [Core.owns_sdo.mpr h]
    have ha : x.core.counterpartAway (x.at_ t) .sdo = false := by
      rcases haway with h | h <;> simp [Core.counterpartAway, Orig.party, h]
    obtain ⟨u, hu, -, hc, hout⟩ := exec_takeover_refused (t := t) (o := .sdo) (k := 0x0800002E) hmap hm
      (by rw [ha, hj']; decide)
    exact ⟨u, hu, hout (by decide), hc⟩

/-- A domain given to the party that has it stays. -/
theorem Core.giveDomain_self (c : Core) (d v : Nat) (h : c.owner d = if v = 1 then .press else .host) :
    c.giveDomain d v = c := by
  have e : modAt c.owners d (fun _ => if v = 1 then .press else .host) = c.owners := by
    unfold modAt
    rw [← h]
    apply List.ext_getElem (List.length_modify _ _ _)
    intro n h1 h2
    rw [List.getElem_modify]
    split
    · next e => subst e; simp [Core.owner, List.getD_eq_getElem?_getD, h2]
    · rfl
  simp only [Core.giveDomain, e]

/-- Settles O58: the reasons against a write of 2100h.02 and of 2101h while a job runs. -/
theorem motionHeldByJob : Obligations.MotionHeldByJob := by
  unfold Obligations.MotionHeldByJob
  refine ⟨?_, ?_, ?_, ?_⟩
  · intro t o v x hj ho hp hm hmap hv
    obtain ⟨u, hu, hmem, hc, hout⟩ := exec_ownershipTransfer_refused (t := t) (dom := 2) (v := v) (k := 0x0800002C)
      (by decide) (by decide) ho hmap hm (by
        cases h : x.core.owner 1 <;> simp only [h, hj] at hv ⊢ <;> subst hv <;> decide)
    exact ⟨u, hu, hmem, hc, hout hp⟩
  · intro t o x hj ho horig hm hmap
    obtain ⟨u, hu, hmem, hc, hout⟩ := exec_takeover_refused (t := t) (o := o) (k := 0x0800002C) hmap hm (by
      rw [hj, ho]
      cases x.core.counterpartAway (x.at_ t) o <;> decide)
    exact ⟨u, hu, hmem, hc, hout (by rcases horig with rfl | rfl <;> decide)⟩
  · intro t o v x ho hp hm hmap hw hv
    obtain ⟨u, hu, hmem, hc, hout⟩ := exec_ownershipTransfer_taken (t := t) (dom := 2) (v := v) (by decide) (by decide)
      (by rw [hv]; split <;> simp) ho hmap hm hw (by
        cases h : x.core.owner 1 <;> simp [h] at hv <;> subst hv <;> simp)
    rw [Core.giveDomain_self _ _ _ (by cases h : x.core.owner 1 <;> simp [h] at hv <;> subst hv <;> simp)] at hc
    exact ⟨u, hu, hmem, hc, hout hp⟩
  · intro t o v x ho hp hm hmap h1 h2
    obtain ⟨u, hu, hmem, hc, hout⟩ := exec_ownershipTransfer_refused (t := t) (dom := 2) (v := v) (k := 0x06090030)
      (by decide) (by decide) ho hmap hm (by
        have hr : (decide (1 ≤ v.toNat) && decide (v.toNat ≤ 2)) = false := by
          have a1 : v.toNat ≠ 1 := fun h => h1 (BitVec.eq_of_toNat_eq h)
          have a2 : v.toNat ≠ 2 := fun h => h2 (BitVec.eq_of_toNat_eq h)
          simp only [Bool.and_eq_false_iff, decide_eq_false_iff_not]
          omega
        have hv : (v == 1 || v == 2) = false := by
          rw [Bool.or_eq_false_iff, beq_eq_false_iff_ne, beq_eq_false_iff_ne]
          exact ⟨h1, h2⟩
        rw [hr, hv, Bool.and_false, Bool.false_and]
        decide)
    exact ⟨u, hu, hmem, hc, hout hp⟩

end Sys2Proof.Machine
end

section
namespace Sys2Proof.Machine

/-! ### Commands of one object of the dictionary -/

/-- A command of one object that nothing stands against. -/
theorem Core.command_taken {c : Core} {now : Nat} {o : Orig} {i s n v : Nat} {own : List Nat} {eff : Core → Core}
    (hw : c.wordOk i s = true) (h : c.writeCodes o i s (leBytes n v) own = []) :
    c.command now o i s n v own eff = Core.answered o i s (0, eff c) := by
  rw [Core.command, Core.judged_ok hw (firstCode_eq_none.mpr h)]

theorem Core.command_refused {c : Core} {now : Nat} {o : Orig} {i s n v k : Nat} {own : List Nat} {eff : Core → Core}
    (h : firstCode (c.writeCodes o i s (leBytes n v) own) = some k) :
    c.command now o i s n v own eff = Core.answered o i s (k, c) := by
  rw [Core.command, Core.judged_no h]

/-- What a counter reads after `n` more (00 R9). -/
def Core.counted (c : Core) (i s n : Nat) : Nat :=
  let v := c.obj i s + n
  if v < 2 ^ objBits i s then v else Config.counterAfterFull (key i s * 2 ^ 65 + v) % 2 ^ objBits i s

/-- A count is a value written. -/
theorem Core.bump_eq (c : Core) (i s : Nat) : c.bump i s = c.put i s (c.counted i s 1) := by
  unfold Core.bump Core.bumpBy Core.counted
  dsimp only
  split <;> rfl

@[simp] theorem Core.emergencyClear_active (b : Bool) (c : Core) : (c.emergencyClear b).ev = c.ev := by
  unfold Core.emergencyClear
  split
  · split <;> rw [Core.bump_eq] <;> rfl
  · rfl

/-- Acknowledgement ends the events that are no condition, but ALARM_LOST of an engine that still shows it. -/
theorem Core.acknowledge_active (c : Core) : c.acknowledge.ev.active = c.ev.active.filter (fun p =>
    evCondition p.1 || (p.1 == 0x5071 && (c.eng1 p.2).alarmLost)) := by
  simp [Core.acknowledge]

theorem Core.out_acknowledge (c : Core) : c.out <+: c.acknowledge.out :=
  Core.out_le (Core.out_emergencyClear _ _)

theorem Core.ownEffect_comm (c : Core) (now : Nat) (o : Orig) {i : Nat} (s : Nat) (data : List Byte) (h : i < 0x2200) :
    c.ownEffect now o i s data = c.commEffect o i s (writeValue i s data) := by
  have hd : duskBlock i s = false := by
    simp only [duskBlock, Bool.or_eq_false_iff, Bool.and_eq_false_iff, decide_eq_false_iff_not]
    omega
  have h6 : i ≠ 0x6000 := by omega
  simp [Core.ownEffect, Core.waitsDawn, hd, h6, h]

/-- The selector of a pending view spells an index and a sub. -/
theorem leNat_selector {idx sub : Nat} (hi : idx < 65536) (hs : sub < 256) :
    leNat (leBytes 4 (BitVec.ofNat 32 (idx + 65536 * sub)).toNat) = idx + 65536 * sub := by
  rw [leNat_leBytes, BitVec.toNat_ofNat]
  omega

theorem selector_index {idx sub : Nat} (hi : idx < 65536) : (idx + 65536 * sub) % 65536 = idx := by omega

theorem selector_sub {idx sub : Nat} (hi : idx < 65536) (hs : sub < 256) : field (idx + 65536 * sub) 23 16 = sub := by
  simp only [field, Nat.shiftRight_eq_div_pow]
  omega

theorem rowOf_pendingView : rowOf 0x2102 1 = some (row 0x2102 0x2102 1 1 .u32 .rw (.val 0) false (.mask 0x00FFFFFF) 0
    false) := rfl

theorem writeValue_selector {idx sub : Nat} (hi : idx < 65536) (hs : sub < 256) :
    writeValue 0x2102 1 (leBytes 4 (BitVec.ofNat 32 (idx + 65536 * sub)).toNat) = idx + 65536 * sub := by
  have h : idx + 65536 * sub < 2 ^ 24 := by omega
  simp only [writeValue, rowOf_pendingView, row, Perm.strip, leNat_selector hi hs]
  exact (Nat.and_two_pow_sub_one_eq_mod _ 24).trans (Nat.mod_eq_of_lt h)

/-- The selector of an object that the running image has, and that a bank holds, is refused to no one for itself. -/
theorem Core.ownCodes_selector {c new : Core} {now idx sub : Nat} {o : Orig} {r : ObjRow} (hr : rowOf idx sub = some r)
    (ha : c.absent idx = false) (hacc : r.acc = .rwc) (hi : idx < 65536) (hs : sub < 256) :
    c.ownCodes new now o 0x2102 1 (leBytes 4 (BitVec.ofNat 32 (idx + 65536 * sub)).toNat) = [] := by
  obtain ⟨k, hk⟩ := Option.isSome_iff_exists.mp (topSub_isSome hr)
  unfold Core.ownCodes
  rw [writeValue_selector hi hs]
  simp [Core.commCodes, Core.imageCodes, Core.unitCodes, isMap, isAssign, selector_index hi, selector_sub hi hs, ha, hk, hr, hacc, reason]

/-- Settles O12: nothing stands against each command but what its clause names, and its effect is read off. -/
theorem dictionaryCommands : Obligations.DictionaryCommands := by
  unfold Obligations.DictionaryCommands
  refine ⟨?_, ?_, ?_, ?_, ?_, ?_, ?_⟩
  · intro t idx sub o r x hr ha hacc hi hs hm hmap hw ho
    obtain ⟨u, hu, -, hc, hout⟩ := State.run_answered (t := t) (x := x) (o := o) (i := 0x2102) (s := 1) (k := 0)
      (d := x.core.put 0x2102 1 (idx + 65536 * sub))
      (f := fun now c => Core.answered o 0x2102 1
        (c.writeOne now o 0x2102 1 (leBytes 4 (BitVec.ofNat 32 (idx + 65536 * sub)).toNat))) (by
        have hl : lengthOk (row 0x2102 0x2102 1 1 .u32 .rw (.val 0) false (.mask 0x00FFFFFF) 0 false)
            (leBytes 4 (BitVec.ofNat 32 (idx + 65536 * sub)).toNat).length = true := by
          rw [length_leBytes]; rfl
        rw [Core.writeOne_taken (by decide) (by decide) hw]
        · rw [Core.ownEffect_comm _ _ _ _ _ (by decide), writeValue_selector hi hs]
          rfl
        · rw [Core.ownCodes_selector hr ha hacc hi hs, Core.writeCodes_either (x.core.absent_low (by decide) (by decide))
            rowOf_pendingView rfl rfl (.inr hmap) hm hl]
          simp [reason, row, permits, ho])
    refine ⟨u, hu, ?_, Core.keeps_put (by decide) (Core.of_under hc Core.dict), hout⟩
    rw [Core.of_under hc (Core.obj · 0x2102 1)]
    exact Core.obj_put_self _ _ _ _
  · intro t o x hm hmap hw
    obtain ⟨u, hu, -, hc, hout⟩ := State.run_answered (t := t) (x := x) (o := o) (i := 0x1010) (s := 1) (k := 0)
      (d := x.core.flush) (f := fun now c => c.storeAll now o 0x65766173 true) (by
        refine Core.command_taken hw ?_
        rw [Core.writeCodes_either (r := row 0x1010 0x1010 1 1 .u32 .rw (.val 3) false (.any) 0 false)
          (x.core.absent_low (by decide) (by decide)) rfl rfl rfl (.inr hmap) hm rfl]
        simp [reason, row, permits])
    exact ⟨u, hu, Core.of_under hc (·.pw.pendJ), Core.of_under hc (·.nv.regions), Core.of_under hc Core.dict, hout⟩
  · intro t o x hm hmap
    obtain ⟨u, hu, -, hc, hout⟩ := State.run_answered (t := t) (x := x) (o := o) (i := 0x1010) (s := 1)
      (k := 0x08000034) (d := x.core) (f := fun now c => c.storeAll now o 0x65766173 false) (by
        refine Core.command_refused ?_
        rw [Core.writeCodes_either (r := row 0x1010 0x1010 1 1 .u32 .rw (.val 3) false (.any) 0 false)
          (x.core.absent_low (by decide) (by decide)) rfl rfl rfl (.inr hmap) hm rfl]
        simp [reason, row, permits]
        decide)
    exact ⟨u, hu, hc, hout⟩
  · intro t o x hm hmap hw
    obtain ⟨u, hu, -, hc, hout⟩ := State.run_answered (t := t) (x := x) (o := o) (i := 0x1011) (s := 1) (k := 0)
      (d := x.core.journal 0x1011 1 0x64616F6C [])
      (f := fun now c => Core.answered o 0x1011 1 (c.writeOne now o 0x1011 1 (leBytes 4 0x64616F6C))) (by
        have hv : writeValue 0x1011 1 (leBytes 4 0x64616F6C) = 0x64616F6C := by decide
        rw [Core.writeOne_taken (by decide) (by decide) hw]
        · rw [Core.ownEffect_comm _ _ _ _ _ (by decide), hv]
          rfl
        · rw [Core.writeCodes_either (r := row 0x1011 0x1011 1 1 .u32 .rw (.val 1) false (.any) 0 false)
            (x.core.absent_low (by decide) (by decide)) rfl rfl rfl (.inr hmap) hm rfl]
          simp [reason, row, permits, Core.ownCodes, Core.commCodes, Core.imageCodes, Core.unitCodes, hv])
    exact ⟨u, _, hu, Core.of_under hc (·.pw.pendJ), rfl, Core.of_under hc Core.dict, hout⟩
  · intro t o x hm hmap hw
    obtain ⟨u, hu, -, hc, hout⟩ := State.run_answered (t := t) (x := x) (o := o) (i := 0x1003) (s := 0) (k := 0)
      (d := x.core.historyClear) (f := fun now c => c.command now o 0x1003 0 1 0 [] Core.historyClear) (by
        refine Core.command_taken hw ?_
        rw [Core.writeCodes_either (r := row 0x1003 0x1003 0 0 .u8 .rw (.val 0) false (.oneOf [0]) 0 false)
          (x.core.absent_low (by decide) (by decide)) rfl rfl rfl (.inr hmap) hm rfl]
        rfl)
    exact ⟨u, hu, Core.of_under hc (·.ev.hist), Core.of_under hc (·.ev.active), hout⟩
  · intro t o x hm hmap hw
    obtain ⟨u, hu, -, hc, hout⟩ := State.run_answered (t := t) (x := x) (o := o) (i := 0x3200) (s := 6) (k := 0)
      (d := x.core.acknowledge) (f := fun now c => c.command now o 0x3200 6 1 1 [] Core.acknowledge) (by
        refine Core.command_taken hw ?_
        rw [Core.writeCodes_either (r := row 0x3200 0x3200 6 6 .u8 .wo (.val 0) false (.oneOf [1]) 0 false)
          (by simp [Core.absent]) rfl rfl rfl (.inr hmap) hm rfl]
        rfl)
    refine ⟨u, hu, fun hp => ?_, (Core.of_under hc (·.ev.active)).trans (Core.acknowledge_active _)⟩
    obtain ⟨l, hl⟩ := x.core.out_acknowledge
    exact ⟨l, by simpa [State.puts, ← hl] using hout hp⟩
  · intro t idx sub r x hr ha hacc hi hs
    obtain ⟨u, hu, -, hc, hout⟩ := State.run_answered (t := t) (x := x) (o := .mbx) (i := 0x2102) (s := 1)
      (k := 0x06010000) (d := x.core)
      (f := fun now c => Core.answered .mbx 0x2102 1
        (c.writeOne now .mbx 0x2102 1 (leBytes 4 (BitVec.ofNat 32 (idx + 65536 * sub)).toNat))) (by
        rw [Core.writeOne_judgedNo (by decide) (by decide)]
        rw [Core.ownCodes_selector hr ha hacc hi hs, Core.writeCodes_row (x.core.absent_low (by decide) (by decide))
          rowOf_pendingView]
        refine firstCode_of_order (codeOrder.take 2) (codeOrder.drop 3) (by decide) ?_ fun j hj hm => ?_
        · simp [Core.rowCodes, mem_reason]
        · have hj' : j = 0x06020000 ∨ j = 0x06090011 := by simpa [codeOrder] using hj
          rcases hj' with rfl | rfl <;> simp [Core.rowCodes, mem_reason] at hm)
    exact ⟨u, hu, hc, hout (by decide)⟩

end Sys2Proof.Machine
end

section
namespace Sys2Proof.Machine

/-! ### The words behind an object -/

/-- A core without what a use of on-die words touches. -/
def Core.restWords (c : Core) : Core := { c.rest with sram := {} }

theorem Core.of_restWords {α : Type} (f : Core → α) {c d : Core} (h : d.restWords = c.restWords)
    (hf : ∀ c : Core, f c.restWords = f c := by intros; rfl) : f d = f c := by rw [← hf d, h, hf c]

@[simp] theorem Core.restWords_put (i s v : Nat) (c : Core) : (c.put i s v).restWords = c.restWords := rfl
@[simp] theorem Core.restWords_mapSram (f : Sram → Sram) (c : Core) : (c.mapSram f).restWords = c.restWords := rfl
@[simp] theorem Core.restWords_bump (i s : Nat) (c : Core) : (c.bump i s).restWords = c.restWords := by
  rw [Core.bump_eq, Core.restWords_put]
@[simp] theorem Core.restWords_event (now code seg : Nat) (tail : List Byte) (c : Core) :
    (c.event now code seg tail).restWords = c.restWords := by
  have h := c.rest_event now code seg tail
  unfold Core.restWords
  rw [h]
@[simp] theorem Core.restWords_wordsWritten (p : Nat → Bool) (c : Core) : (c.wordsWritten p).restWords = c.restWords := by
  unfold Core.wordsWritten Core.when
  dsimp only
  split <;> split <;> rfl
@[simp] theorem Core.restWords_sramCorrect (a : Nat) (c : Core) : (c.sramCorrect a).restWords = c.restWords := by
  simp [Core.sramCorrect, Core.dropFlips]
@[simp] theorem Core.restWords_wantRewrite (a : Nat) (c : Core) : (c.wantRewrite a).restWords = c.restWords := by
  unfold Core.wantRewrite
  split <;> rfl
@[simp] theorem Core.restWords_sramPoison (now a : Nat) (c : Core) : (c.sramPoison now a).restWords = c.restWords := by
  unfold Core.sramPoison Core.when
  dsimp only
  split
  · split <;> simp [Core.poisonCount]
  · simp

/-- A write of an object's word leaves all but on-die words, objects and what events touch. -/
theorem Core.restWords_storageWrite (now i s n : Nat) (c : Core) :
    (c.storageWrite now i s n).2.restWords = c.restWords := by
  unfold Core.storageWrite
  split
  · repeat' split
    all_goals simp [Core.busLogged]
  · rfl

/-- An object below the counters of on-die memory (12 R381). -/
theorem Core.obj_put_low (c : Core) {i s j r : Nat} (v : Nat) (hs : s < 256) (hi : i < 0x2F00) (hj : 0x2F00 ≤ j) :
    (c.put j r v).obj i s = c.obj i s := by
  refine c.obj_put_ne _ _ _ _ _ ?_
  simp only [key]
  omega

theorem Core.obj_bump_low (c : Core) {i s j r : Nat} (hs : s < 256) (hi : i < 0x2F00) (hj : 0x2F00 ≤ j) :
    (c.bump j r).obj i s = c.obj i s := by
  rw [Core.bump_eq, Core.obj_put_low _ _ hs hi hj]

theorem Core.obj_wordsWritten_low (c : Core) (p : Nat → Bool) {i s : Nat} (hs : s < 256) (hi : i < 0x2F00) :
    (c.wordsWritten p).obj i s = c.obj i s := by
  unfold Core.wordsWritten Core.when Core.poisonCount
  dsimp only
  split <;> split <;> simp [Core.obj_put_low, hs, hi]

theorem Core.obj_sramCorrect_low (c : Core) (a : Nat) {i s : Nat} (hs : s < 256) (hi : i < 0x2F00) :
    (c.sramCorrect a).obj i s = c.obj i s := by
  unfold Core.sramCorrect Core.dropFlips
  rw [Core.obj_put_low _ _ hs hi (by decide), Core.obj_bump_low _ hs hi (by decide),
    Core.obj_bump_low _ hs hi (by decide), Core.mapSram_obj]

/-- A write of an object's word that is taken leaves the objects below 2F00h. -/
theorem Core.obj_storageWrite_low {c : Core} {now i s n : Nat} (h : (c.storageWrite now i s n).1 = true) {j r : Nat}
    (hr : r < 256) (hj : j < 0x2F00) : (c.storageWrite now i s n).2.obj j r = c.obj j r := by
  unfold Core.storageWrite at h ⊢
  split
  · next a _ q hs hq =>
    rw [hs, hq] at h
    dsimp only at h ⊢
    split at h
    · simp [*]
    · split at h
      · simp [*, Core.obj_wordsWritten_low]
      · split at h
        · cases h
        · simp only [*, if_false]
          split at h
          · simp [*]
          · simp [*, Core.obj_bump_low, Core.obj_sramCorrect_low]
          · cases h
  · rfl

/-! ### Writes of objects of the pipeline and of a bank -/

/-- No reason against a write is the code of an accepted one. -/
theorem Core.zero_notMem_writeCodes (c : Core) {now : Nat} {o : Orig} {i s : Nat} {data : List Byte} (h : i ≠ 0x2102) :
    0 ∉ c.writeCodes o i s data (c.writeReasons now o i s data) := by
  have hown : 0 ∉ c.writeReasons now o i s data := fun hm =>
    absurd (c.writeReasons_subset now o i s data h hm) (by decide)
  unfold Core.writeCodes
  repeat' split
  · decide
  · decide
  · decide
  · simp [Core.rowCodes, mem_reason, hown]

/-- A write that is answered 0 was refused by nothing, and its word took it. -/
theorem Core.writeOne_zero {c : Core} {now : Nat} {o : Orig} {i s : Nat} {data : List Byte} (h0 : i ≠ 0x2000)
    (h1 : i ≠ 0x3010) (h2 : i ≠ 0x2102) (h : (c.writeOne now o i s data).1 = 0) :
    (rowOf i s).isSome = true ∧ (c.storageWrite now i s data.length).1 = true ∧
      c.writeOne now o i s data = (0, (c.storageWrite now i s data.length).2.ownEffect now o i s data) := by
  have hn : c.writeRefusal now o i s data = none := by
    cases hk : c.writeRefusal now o i s data with
    | none => rfl
    | some k =>
      obtain e | ⟨e, -⟩ | ⟨e, -⟩ := Core.writeOne_no hk
      · rw [e] at h
        obtain rfl : k = 0 := h
        exact absurd (firstCode_mem hk) (c.zero_notMem_writeCodes h2)
      · exact absurd e h0
      · exact absurd e h1
  have hrow : (rowOf i s).isSome = true := by
    have hnil := firstCode_eq_none.mp hn
    unfold Core.writeCodes at hnil
    repeat' split at hnil
    · cases hnil
    · cases hnil
    · cases hnil
    · simp [*]
  have hn' : firstCode (c.writeCodes o i s data (c.ownCodes (c.stand i s data) now o i s data)) = none := by
    simpa [Core.writeRefusal, Core.writeReasons, h0, h1] using hn
  have hw : c.writeOne now o i s data =
      if (c.storageWrite now i s data.length).1 = true then
        (0, (c.storageWrite now i s data.length).2.ownEffect now o i s data)
      else (0x08000024, (c.storageWrite now i s data.length).2) := by
    simp [Core.writeOne, h0, h1, Core.judged, hn']
  rw [hw] at h ⊢
  split at h
  · next hs => exact ⟨hrow, hs, if_pos hs⟩
  · cases h

/-- A value put in force, and the scrivener's record of it: nothing else. -/
theorem Core.store_eq (c : Core) (i s v : Nat) :
    c.store i s v = { c with dict := (c.put i s v).dict, pw := (c.store i s v).pw, nv := (c.store i s v).nv } := by
  unfold Core.store
  dsimp only
  split
  · split <;> rfl
  · rfl

theorem Core.store_dict (c : Core) (i s v : Nat) : (c.store i s v).dict = (c.put i s v).dict := by
  rw [Core.store_eq]

theorem Core.store_out (c : Core) (i s v : Nat) : (c.store i s v).out = c.out := by
  rw [Core.store_eq]

theorem Core.store_resetDue (c : Core) (i s v : Nat) : (c.store i s v).pw.resetDue = c.pw.resetDue := by
  unfold Core.store
  dsimp only
  split
  · split <;> rfl
  · rfl

/-- An object of the pipeline or of motion is put in force as it is. -/
theorem Core.ownEffect_store (c : Core) (now : Nat) (o : Orig) {i : Nat} (s : Nat) (data : List Byte)
    (h1 : 0x2400 ≤ i) (h2 : i ≤ 0x27FF) (h3 : i ≠ 0x2404) (h4 : i ≠ 0x2490) (hb : bankOf i s = none) :
    c.ownEffect now o i s data = c.store i s (writeValue i s data) := by
  have hd : duskBlock i s = false := by
    simp only [duskBlock, Bool.or_eq_false_iff, Bool.and_eq_false_iff, decide_eq_false_iff_not]
    omega
  have e1 : i ≠ 0x6000 := by omega
  have e2 : ¬ i < 0x2200 := by omega
  have e3 : ¬ 0x5000 ≤ i := by omega
  have e4 : i ≠ 0x2A52 := by omega
  have e5 : i < 0x2800 := by omega
  have e6 : i ≠ 0x2201 ∧ i ≠ 0x2210 ∧ i ≠ 0x2301 ∧ i ≠ 0x2310 ∧ i ≠ 0x2340 := by omega
  simp [Core.ownEffect, Core.waitsDawn, hd, e1, e2, e3, e4, e5, Core.imageEffect, e6, h3, h4, Core.accept, hb]

/-- The objects that a bank holds. -/
theorem bankOf_index {i s b : Nat} (h : bankOf i s = some b) :
    i ∈ [0x2211, 0x2303, 0x2304, 0x2611, 0x2615, 0x2618, 0x2660, 0x2661, 0x2630, 0x2718, 0x2760, 0x2761, 0x2420, 0x2430,
      0x2431] ∨ ((i = 0x2810 ∨ i = 0x2811) ∧ (s = 6 ∨ s = 7)) := by
  unfold bankOf at h
  split_ifs at h with a1 a2 a3 a4 a5 a6 <;> simp at * <;> omega

/-- An object of a bank is buffered. -/
theorem Core.ownEffect_buffer (c : Core) (now : Nat) (o : Orig) {i s b : Nat} (data : List Byte)
    (hb : bankOf i s = some b) : c.ownEffect now o i s data = c.buffer b i s (writeValue i s data) := by
  have hd : duskBlock i s = false := by
    simp only [duskBlock, Bool.or_eq_false_iff, Bool.and_eq_false_iff, decide_eq_false_iff_not]
    obtain h | ⟨h, h'⟩ := bankOf_index hb
    · simp only [List.mem_cons, List.not_mem_nil, or_false] at h
      omega
    · omega
  obtain h | ⟨h, h'⟩ := bankOf_index hb
  · simp only [List.mem_cons, List.not_mem_nil, or_false] at h
    have e : i ≠ 0x6000 ∧ ¬ i < 0x2200 ∧ ¬ 0x5000 ≤ i ∧ i ≠ 0x2A52 ∧ i < 0x2800 ∧ i ≠ 0x2201 ∧ i ≠ 0x2210 ∧
        i ≠ 0x2301 ∧ i ≠ 0x2310 ∧ i ≠ 0x2340 ∧ i ≠ 0x2404 ∧ i ≠ 0x2490 := by omega
    simp [Core.ownEffect, Core.waitsDawn, hd, e, Core.imageEffect, Core.accept, hb]
  · have e : i ≠ 0x6000 ∧ ¬ i < 0x2200 ∧ ¬ 0x5000 ≤ i ∧ i ≠ 0x2A52 ∧ ¬ i < 0x2800 ∧ i ≠ 0x2801 ∧ s ≠ 1 ∧
        0x2810 ≤ i ∧ i ≤ 0x2851 := by omega
    have hc : outputChecked i s = false := by
      simp only [outputChecked, Bool.or_eq_false_iff, Bool.and_eq_false_iff, decide_eq_false_iff_not]
      omega
    simp [Core.ownEffect, Core.waitsDawn, hd, e, Core.unitEffect, Core.outputStore, Core.accept, hb, hc]

theorem Core.buffer_latch (c : Core) (b i s v n : Nat) : ((c.buffer b i s v).bank n).latch = (c.bank n).latch := by
  simp only [Core.buffer, Core.mapBank, Core.bank, modAt, List.getD_eq_getElem?_getD, List.getElem?_modify]
  cases c.banks[n]? with
  | none => rfl
  | some k => simp only [Option.getD_some]; split <;> rfl

theorem Core.committed_congr {c d : Core} {i s : Nat} (hl : ∀ n, (d.bank n).latch = (c.bank n).latch)
    (ho : d.obj i s = c.obj i s) : d.committed i s = c.committed i s := by
  simp only [Core.committed, hl, ho]

/-- Settles O10: a write answered 0 had its effect, which is to store or to buffer the value. -/
theorem acceptedWrites : Obligations.AcceptedWrites := by
  unfold Obligations.AcceptedWrites
  refine ⟨?_, ?_⟩
  · intro t o i s data x hd h1 h2 h3 h4 hs hb hw hz
    obtain ⟨-, -, e⟩ := Core.writeOne_zero (by omega) (by omega) (by omega) hz
    rw [Core.storageWrite_ok hw, Core.ownEffect_store _ _ _ _ _ h1 h2 h3 h4 hb] at e
    obtain ⟨u, hu, hm, hc, ho⟩ := exec_objectWrite e ((x.core.store_resetDue _ _ _).trans hd)
    have hdict := (Core.of_under hc Core.dict).trans (x.core.store_dict _ _ _)
    refine ⟨u, hu, hm, ?_, Core.keeps_put hs hdict, ?_, fun hp => ?_⟩
    · exact (congrArg (fun d => sget dfltOf d (key i s)) hdict).trans (Core.obj_put_self _ _ _ _)
    · rw [hdict, Core.of_under hc Core.pw, Core.of_under hc Core.nv, ← Core.store_eq]
      exact hc
    · rw [Core.store_out] at ho
      exact ho hp
  · intro t o i s b data x hd hb hz
    have hi : i ≠ 0x2000 ∧ i ≠ 0x3010 ∧ i ≠ 0x2102 ∧ i < 0x2F00 := by
      obtain h | ⟨h, -⟩ := bankOf_index hb
      · simp only [List.mem_cons, List.not_mem_nil, or_false] at h
        omega
      · omega
    obtain ⟨h0, h1, h2, hlow⟩ := hi
    obtain ⟨hr, hst, e⟩ := Core.writeOne_zero h0 h1 h2 hz
    obtain ⟨r, hr⟩ := Option.isSome_iff_exists.mp hr
    have hfix := x.core.restWords_storageWrite (x.at_ t) i s data.length
    have hobj := Core.obj_storageWrite_low hst (rowOf_sub_lt hr) hlow
    have hbanks := Core.of_restWords Core.banks hfix
    rw [Core.ownEffect_buffer _ _ _ _ hb] at e
    obtain ⟨u, hu, -, hc, -⟩ := exec_objectWrite e ((Core.of_restWords (·.pw.resetDue) hfix).trans hd)
    refine ⟨u, hu, ?_, (Core.of_under hc (Core.obj · i s)).trans hobj, ?_⟩
    · rw [Core.of_under hc Core.banks, ← hbanks]
      rfl
    · rw [Core.of_under hc (Core.committed · i s)]
      refine Core.committed_congr (fun n => ?_) hobj
      rw [Core.buffer_latch]
      exact congrArg (fun l : List Bank => (l.getD n {}).latch) hbanks

end Sys2Proof.Machine
end

section
namespace Sys2Proof.Machine

/-! ### The two-wire target -/

/-- A count turns on the objects alone. -/
theorem Core.bump_dict_congr {c d : Core} (h : c.dict = d.dict) (i s : Nat) : (c.bump i s).dict = (d.bump i s).dict := by
  have ho : ∀ j k, c.obj j k = d.obj j k := fun j k => congrArg (fun e => sget dfltOf e (key j k)) h
  have hn : c.counted i s 1 = d.counted i s 1 := by simp only [Core.counted, ho]
  rw [Core.bump_eq, Core.bump_eq, hn]
  exact congrArg (fun e => sput dfltOf e (key i s) _) h

theorem Core.bump_mapTw (f : TwoWire → TwoWire) (c : Core) (i s : Nat) :
    ((c.mapTw f).bump i s).dict = (c.bump i s).dict := Core.bump_dict_congr (c := c.mapTw f) (d := c) rfl i s

/-- A count is a change of the objects. -/
theorem Core.bump_with (c : Core) (i s : Nat) : c.bump i s = { c with dict := (c.bump i s).dict } := by
  rw [Core.bump_eq]; rfl

/-- A byte ACKed: counted, and put out. -/
theorem Core.twAck_eq (c : Core) : c.twAck =
    { c with tw := { c.tw with cut := none }, dict := (c.bump 0x3400 4).dict, out := c.out ++ [.twoWire true] } := by
  unfold Core.twAck
  rw [Core.bump_with, Core.bump_dict_congr (c := c.twIdle) (d := c) rfl]
  rfl

/-- A byte NACKed: counted, and put out. -/
theorem Core.twNack_eq (c : Core) : c.twNack =
    { c with tw := { c.tw with cut := none }, dict := (c.bump 0x3400 5).dict, out := c.out ++ [.twoWire false] } := by
  unfold Core.twNack
  rw [Core.bump_with, Core.bump_dict_congr (c := c.twIdle) (d := c) rfl]
  rfl

/-- A command whose effect is a NACK. -/
theorem State.run_twNack {t : Nat} {f : Nat → Core → Core} {x : State} (hf : f (x.at_ t) x.core = x.core.twNack) :
    ∃ u, State.run t f x = .next u ∧ x.puts u [.twoWire false] ∧
      u.core = ({ x.core with
        dict := (x.core.bump 0x3400 5).dict, tw := { x.core.tw with cut := none } } : Core).under u.core := by
  obtain ⟨u, hu, -, hc, ho⟩ := State.run_ends t f x
  rw [hf, Core.twNack_eq] at hc ho
  exact ⟨u, hu, ho, hc⟩

/-- Where bytes are not acted on. -/
theorem Core.twOn_false {c : Core} (h : c.flag 0x3400 3 = false ∨ c.pw.fwRuns = false ∨ c.mode = .compline) :
    c.twOn = false := by
  unfold Core.twOn
  rcases h with h | h | h <;> simp [h]

theorem Core.twAnswers_true {c : Core} {now : Nat} (h1 : c.pw.bootZero + 5000000 ≤ now) (h2 : c.pw.heldReset = false) :
    c.twAnswers now = true := by
  simp [Core.twAnswers, h1, h2]

/-- Writes of the SAFE latch by the object: nothing stands against 0 and 1. -/
theorem Core.writeOne_latch {c : Core} {o : Orig} {now : Nat} {v : Byte} (hv : v = 0 ∨ v = 1) (hm : c.mode ≠ .compline)
    (hmap : c.isMapped 0x3400 2 = false) (hw : c.wordOk 0x3400 2 = true) (hr : c.pw.running ≠ 2) :
    c.writeOne now o 0x3400 2 [v] = (0, c.mapTw (fun w => { w with latch := v == 1 })) := by
  have ha : c.absent 0x3400 = false := by simp [Core.absent, hr]
  have hrow : rowOf 0x3400 2 = some (row 0x3400 0x3400 2 2 .bool .rw (.val 0) false (.any) 0 false) := rfl
  have hval : writeValue 0x3400 2 [v] = v.toNat := by simp [writeValue, hrow, row, Perm.strip]
  have hb : (v.toNat == 1) = (v == 1) := by rcases hv with rfl | rfl <;> rfl
  rw [Core.writeOne_taken (by decide) (by decide) hw]
  · simp [Core.ownEffect, Core.waitsDawn, duskBlock, Core.unitEffect, hval, hb]
  · rw [Core.writeCodes_either ha hrow rfl rfl (.inr hmap) hm rfl, firstCode_eq_none]
    rcases hv with rfl | rfl <;>
      simp [row, permits, reason, Core.ownCodes, Core.commCodes, Core.imageCodes, Core.unitCodes, isMap, isAssign]

/-- Settles O19: each byte, read and pulse is one case of the target, whose effect is read off. -/
theorem twoWireBytes : Obligations.TwoWireBytes := by
  unfold Obligations.TwoWireBytes
  refine ⟨?_, ?_, ?_, ?_, ?_, ?_, ?_, ?_, ?_, ?_, ?_, ?_, ?_⟩
  · intro t x h
    obtain ⟨u, hu, -, hc, ho⟩ := State.run_ends t (fun _ c => c.twLatch true) x
    simp only [Core.twLatch, h, if_true, Core.twAck_eq] at hc ho
    refine ⟨u, hu, Core.of_under hc Core.tw, ?_, (Core.of_under hc Core.dict).trans ?_, ho⟩
    · rw [Core.of_under hc Core.safe]; rfl
    · exact Core.bump_mapTw _ _ _ _
  · intro t x h
    obtain ⟨u, hu, -, hc, ho⟩ := State.run_ends t (fun _ c => c.twLatch false) x
    simp only [Core.twLatch, h, if_true, Core.twAck_eq] at hc ho
    exact ⟨u, hu, Core.of_under hc Core.tw, (Core.of_under hc Core.dict).trans (Core.bump_mapTw _ _ _ _), ho⟩
  · intro t x h hj
    obtain ⟨u, hu, -, hc, ho⟩ := State.run_ends t (fun now c => c.twTest now) x
    simp only [Core.twTest, h, hj, Bool.not_false, Bool.and_self, if_true, Core.twAck_eq] at hc ho
    refine ⟨u, hu, Core.of_under hc Core.tw, ?_, (Core.of_under hc Core.dict).trans (Core.bump_mapTw _ _ _ _), ho⟩
    rw [Core.of_under hc Core.liveOn]
    simp [Core.liveOn, Core.mapTw]
  · intro t e x h he
    obtain ⟨u, hu, -, hc, -⟩ := State.run_ends t (fun now c => c.liveBack now) x
    simp only [Core.liveBack, h, if_pos (he.trans (Nat.le_add_right _ 100000))] at hc
    exact ⟨u, hu, hc⟩
  · intro t x h1 h2
    obtain ⟨u, hu, -, hc, ho⟩ := State.run_ends t (fun now c => c.twBus now .read) x
    simp only [Core.twBus, Core.twAnswers_true h1 h2, Core.when_true] at hc ho
    exact ⟨u, hu, ho, hc⟩
  · intro t k x h1 h2
    obtain ⟨u, hu, -, hc, -⟩ := State.run_ends t (fun now c => c.twBus now (.cut k)) x
    simp only [Core.twBus, Core.twAnswers_true h1 h2, Core.when_true] at hc
    exact ⟨u, hu, hc⟩
  · intro t n r x h
    obtain ⟨u, hu, -, hc, ho⟩ := State.run_ends t (fun now c => c.twBus now (.clocks n)) x
    simp only [Core.twBus, Core.twClocks, h] at hc ho
    by_cases hn : r.bits ≤ n
    · simp only [hn, if_true] at hc ho ⊢
      exact ⟨u, hu, fun _ => ho, hc⟩
    · simp only [hn, if_false] at hc ⊢
      exact ⟨u, hu, fun h => h.elim, hc⟩
  · intro t r x h
    obtain ⟨u, hu, -, hc, ho⟩ := State.run_ends t (fun now c => c.twBus now .still) x
    simp only [Core.twBus, Core.twStill, h] at hc ho
    refine ⟨u, hu, fun h1 h2 => ?_, fun hn => ?_⟩
    · simp only [h1, h2, decide_true, Bool.and_self, if_true] at hc ho
      rw [Core.bump_with, Core.bump_dict_congr (c := x.core.twIdle.emit .sdaReleased) (d := x.core) rfl] at hc ho
      exact ⟨ho, hc⟩
    · have hf : (r.drivesLow && decide (r.since + 23000000 ≤ x.at_ t)) = false := by
        rcases hn with h | h
        · simp [h]
        · simp [Nat.not_le.mpr h]
      simp only [hf, Bool.false_eq_true, if_false] at hc
      exact hc
  · intro t o v x hv hp hm hmap hw hr
    obtain ⟨u, hu, -, hc, ho⟩ := State.run_answered (t := t) (x := x) (o := o) (i := 0x3400) (s := 2) (k := 0)
      (d := x.core.mapTw (fun w => { w with latch := v == 1 }))
      (f := fun now c => Core.answered o 0x3400 2 (c.writeOne now o 0x3400 2 [v]))
      (congrArg _ (Core.writeOne_latch hv hm hmap hw hr))
    exact ⟨u, hu, ho hp, hc⟩
  · intro t first v x h
    refine State.run_twNack (f := fun _ c => c.twRefuse first v) ?_
    refine if_neg ?_
    rcases h with h | h | ⟨h1, h2, h3⟩ | ⟨rfl, h⟩ <;> simp_all
  · intro t i x hi h
    have hoff := Core.twOn_false h
    rcases hi with rfl | rfl | rfl
    · exact State.run_twNack (f := fun _ c => c.twLatch true) (by simp [Core.twLatch, hoff])
    · exact State.run_twNack (f := fun _ c => c.twLatch false) (by simp [Core.twLatch, hoff])
    · exact State.run_twNack (f := fun now c => c.twTest now) (by simp [Core.twTest, hoff])
  · intro t x h
    exact State.run_twNack (f := fun now c => c.twTest now) (by simp [Core.twTest, h])
  · intro t x h1 h2
    obtain ⟨u, hu, -, hc, -⟩ := State.run_ends t (fun now c => c.twBus now .ackCut) x
    simp only [Core.twBus, Core.twAnswers_true h1 h2, Core.when_true] at hc
    exact ⟨u, hu, hc⟩

end Sys2Proof.Machine
end

section
namespace Sys2Proof.Machine

/-! ### What logging can do -/

/-- The EtherCAT side without the moments of the last emergency messages. -/
def Ecat.quiet (e : Ecat) : Ecat := { e with emLast := [] }

/-- The attachment without rings, the event summary, pending vectors and the holding store's mark. -/
def Cxl.quiet (x : Cxl) : Cxl := { x with rings := [], summary := 0, pba := [], drained := false }

/-- `d` is `c` after events were logged: objects of 3200h, rings, the event log, emergency messages, vectors and what
the module puts out may differ, nothing else. -/
structure Core.Logged (c d : Core) : Prop where
  rest : d.rest = c.rest
  obj : ∀ i s, s < 256 → i ≠ 0x3200 → d.obj i s = c.obj i s
  ec : d.ec.quiet = c.ec.quiet
  cxl : d.cxl.quiet = c.cxl.quiet
  out : c.out <+: d.out

namespace Core.Logged

theorem refl (c : Core) : c.Logged c := ⟨rfl, fun _ _ _ _ => rfl, rfl, rfl, List.prefix_refl _⟩

theorem trans {c d e : Core} (h1 : c.Logged d) (h2 : d.Logged e) : c.Logged e :=
  ⟨h2.rest.trans h1.rest, fun i s hs hi => (h2.obj i s hs hi).trans (h1.obj i s hs hi), h2.ec.trans h1.ec,
    h2.cxl.trans h1.cxl, h1.out.trans h2.out⟩

/-- A field that logging leaves. -/
theorem same {c d : Core} (h : c.Logged d) {α : Type} (f : Core → α)
    (hf : ∀ c : Core, f c.rest = f c := by intros; rfl) : f d = f c := Core.of_rest f hf h.rest

/-- A field of the EtherCAT side that logging leaves. -/
theorem ecSame {c d : Core} (h : c.Logged d) {α : Type} (f : Ecat → α)
    (hf : ∀ e : Ecat, f e.quiet = f e := by intros; rfl) : f d.ec = f c.ec := by
  rw [← hf d.ec, h.ec, hf c.ec]

/-- A field of the attachment that logging leaves. -/
theorem cxlSame {c d : Core} (h : c.Logged d) {α : Type} (f : Cxl → α)
    (hf : ∀ x : Cxl, f x.quiet = f x := by intros; rfl) : f d.cxl = f c.cxl := by
  rw [← hf d.cxl, h.cxl, hf c.cxl]

theorem put {c : Core} (s v : Nat) (hs : s < 256) : c.Logged (c.put 0x3200 s v) :=
  ⟨rfl, fun _ _ hr hi => c.obj_keep _ _ _ _ _ hs hr (fun e => hi (Prod.mk.inj e).1), rfl, rfl, List.prefix_refl _⟩

theorem bump {c : Core} (s : Nat) (hs : s < 256) : c.Logged (c.bump 0x3200 s) := by
  rw [Core.bump_eq]
  exact put _ _ hs

theorem mapEv {c : Core} (f : Ev → Ev) : c.Logged (c.mapEv f) :=
  ⟨rfl, fun _ _ _ _ => rfl, rfl, rfl, List.prefix_refl _⟩

theorem emit {c : Core} (o : Out) : c.Logged (c.emit o) :=
  ⟨rfl, fun _ _ _ _ => rfl, rfl, rfl, List.prefix_append _ _⟩

theorem mapRing {c : Core} (i : Nat) (f : Ring → Ring) : c.Logged (c.mapRing i f) :=
  ⟨rfl, fun _ _ _ _ => rfl, rfl, rfl, List.prefix_refl _⟩

theorem mapCxl {c : Core} (f : Cxl → Cxl) (hf : (f c.cxl).quiet = c.cxl.quiet) : c.Logged (c.mapCxl f) :=
  ⟨rfl, fun _ _ _ _ => rfl, rfl, hf, List.prefix_refl _⟩

theorem mapEc {c : Core} (f : Ecat → Ecat) (hf : (f c.ec).quiet = c.ec.quiet) : c.Logged (c.mapEc f) :=
  ⟨rfl, fun _ _ _ _ => rfl, hf, rfl, List.prefix_refl _⟩

theorem when {c : Core} {b : Bool} {f : Core → Core} (h : c.Logged (f c)) : c.Logged (c.when b f) :=
  Core.when_of (P := c.Logged) b f c (refl c) h

theorem msix {c : Core} (v : Nat) : c.Logged (c.msix v) := by
  unfold Core.msix
  split
  · exact mapCxl _ rfl
  · exact emit _

theorem summary {c : Core} (b : Nat) : c.Logged (c.summary b) := by
  have h : c.Logged (c.mapCxl (fun x => { x with summary := x.summary ||| BitVec.ofNat 32 (2 ^ b) })) := mapCxl _ rfl
  unfold Core.summary
  split
  · exact refl c
  · dsimp only
    split
    · exact h.trans (msix _)
    · exact h

theorem writeback {c : Core} (now i : Nat) : c.Logged (c.writeback now i) := by
  have h : c.Logged (c.emit (.hostWrite (c.ring i).wb (c.writebackBytes i))) := emit _
  unfold Core.writeback
  dsimp only
  split
  · exact h
  · split
    · exact h.trans ((mapRing _ _).trans (msix _))
    · exact h.trans (mapRing _ _)

theorem produce {c : Core} (now i : Nat) (e : List Byte) (hi : i ≠ 0) : c.Logged (c.produce now i e) := by
  unfold Core.produce
  dsimp only
  rw [if_neg hi]
  exact (emit _).trans ((mapRing _ _).trans (writeback _ _))

theorem hold {c : Core} (i : Nat) (e : List Byte) : c.Logged (c.hold i e) :=
  (mapRing _ _).trans ((mapCxl _ rfl).trans (summary _))

theorem issue {c : Core} (now i : Nat) (e : List Byte) (hi : i ≠ 0) : c.Logged (c.issue now i e) := by
  unfold Core.issue
  split
  · exact produce _ _ _ hi
  · exact hold _ _

theorem toEvr {c : Core} (now code dc : Nat) (data : List Byte) : c.Logged (c.toEvr now code dc data) := by
  unfold Core.toEvr
  split
  · exact refl c
  · split
    · exact (put _ _ (by decide)).trans (issue _ _ _ (by decide))
    · exact (bump _ (by decide)).trans (mapEv _)

theorem emergency {c : Core} (now code cls seg line : Nat) : c.Logged (c.emergency now code cls seg line) := by
  have hs : c.Logged (c.bump 0x3200 4) := bump _ (by decide)
  have hm : c.Logged (((c.emit (.emergency (c.emergencyBytes code cls seg line))).bump 0x3200 3).mapEc
      (fun e => { e with emLast := modAt e.emLast cls (fun _ => some now) })) :=
    (emit _).trans ((bump _ (by decide)).trans (mapEc _ rfl))
  unfold Core.emergency
  dsimp only
  split
  · split
    · exact hs
    · exact hm
  · split
    · exact hs
    · exact hm

theorem emergencyClear {c : Core} (had : Bool) : c.Logged (c.emergencyClear had) := by
  unfold Core.emergencyClear
  split
  · split
    · exact (emit _).trans (bump _ (by decide))
    · exact bump _ (by decide)
  · exact refl c

theorem eventRaw {c : Core} (now code dc seg unit : Nat) (data : List Byte) :
    c.Logged (c.eventRaw now code dc seg unit data) := by
  have h : c.Logged (c.bump 0x3200 1) := bump _ (by decide)
  unfold Core.eventRaw
  dsimp only
  split
  · exact refl c
  · split
    · exact h.trans ((mapEv _).trans ((toEvr _ _ _ _).trans ((mapEv _).trans (emergency _ _ _ _ _))))
    · exact h.trans (toEvr _ _ _ _)

theorem event {c : Core} (now code seg : Nat) (tail : List Byte) : c.Logged (c.event now code seg tail) :=
  eventRaw _ _ _ _ _ _

theorem condOn {c : Core} (now code seg unit : Nat) (tail : List Byte) : c.Logged (c.condOn now code seg unit tail) := by
  unfold Core.condOn
  split
  · exact refl c
  · exact eventRaw _ _ _ _ _ _

theorem condOff {c : Core} (code unit : Nat) : c.Logged (c.condOff code unit) := (mapEv _).trans (emergencyClear _)

theorem acknowledge (c : Core) : c.Logged c.acknowledge := (mapEv _).trans (emergencyClear _)

end Core.Logged

/-! ### The active events -/

theorem Core.bump_ev (c : Core) (i s : Nat) : (c.bump i s).ev = c.ev := by rw [Core.bump_eq]; rfl

theorem Core.summary_ev (c : Core) (b : Nat) : (c.summary b).ev = c.ev := by
  unfold Core.summary
  split
  · rfl
  · dsimp only
    split
    · exact Core.msix_ev _ _
    · rfl

theorem Core.writeback_ev (c : Core) (now i : Nat) : (c.writeback now i).ev = c.ev := by
  unfold Core.writeback
  dsimp only
  split
  · rfl
  · split
    · exact Core.msix_ev _ _
    · rfl

theorem Core.produce_ev (c : Core) (now i : Nat) (e : List Byte) : (c.produce now i e).ev = c.ev := by
  unfold Core.produce
  dsimp only
  rw [Core.writeback_ev]
  split <;> rfl

theorem Core.issue_ev (c : Core) (now i : Nat) (e : List Byte) : (c.issue now i e).ev = c.ev := by
  unfold Core.issue
  split
  · exact Core.produce_ev _ _ _ _
  · exact Core.summary_ev _ _

theorem Core.toEvr_active (c : Core) (now code dc : Nat) (data : List Byte) :
    (c.toEvr now code dc data).ev.active = c.ev.active := by
  unfold Core.toEvr
  split
  · rfl
  · split
    · rw [Core.issue_ev]; rfl
    · have h := congrArg Ev.active (Core.bump_ev c 0x3200 7)
      exact h

theorem Core.emergency_ev (c : Core) (now code cls seg line : Nat) : (c.emergency now code cls seg line).ev = c.ev := by
  unfold Core.emergency
  dsimp only
  split <;> split
  · exact Core.bump_ev _ _ _
  · exact Core.bump_ev _ _ _
  · exact Core.bump_ev _ _ _
  · exact Core.bump_ev _ _ _

/-- An event of class 2 or 3 is active from its issue on. -/
theorem Core.eventRaw_active {c : Core} (now : Nat) {code : Nat} (dc seg unit : Nat) (data : List Byte)
    (hm : c.mode ≠ .compline) (hc : 2 ≤ evClass code) :
    (c.eventRaw now code dc seg unit data).ev.active = c.ev.active ++ [(code, unit)] := by
  unfold Core.eventRaw
  dsimp only
  rw [if_neg hm, if_pos hc, if_pos hc, Core.emergency_ev]
  exact (Core.toEvr_active _ _ _ _ _).trans (congrArg (fun v : Ev => v.active ++ [(code, unit)]) (Core.bump_ev c _ _))

/-- A condition is active once it has begun. -/
theorem Core.condOn_active {c : Core} (now : Nat) {code : Nat} (seg unit : Nat) (tail : List Byte)
    (hm : c.mode ≠ .compline) (hc : 2 ≤ evClass code) : (c.condOn now code seg unit tail).active code unit = true := by
  unfold Core.condOn
  split
  · assumption
  · unfold Core.active
    rw [Core.eventRaw_active _ _ _ _ _ hm hc]
    simp

theorem Core.condOff_active (c : Core) (code unit : Nat) :
    (c.condOff code unit).ev.active = c.ev.active.filter (· != (code, unit)) := by
  unfold Core.condOff
  rw [Core.emergencyClear_active]
  rfl

end Sys2Proof.Machine
end

section
namespace Sys2Proof.Machine

/-! ### Commands of the EtherCAT side -/

/-- An effect under its condition, where the condition holds. -/
theorem State.run_when {t : Nat} {b : Core → Bool} {f : Nat → Core → Core} {x : State} (h : b x.core = true) :
    ∃ u, State.run t (fun now c => c.when (b c) (f now)) x = .next u ∧ u.mem = x.mem ∧
      u.core = (f (x.at_ t) x.core).under u.core ∧ (f (x.at_ t) x.core).out <+: u.core.out := by
  obtain ⟨u, hu, hm, hc, ho⟩ := State.run_ends t (fun now c => c.when (b c) (f now)) x
  simp only [h, Core.when_true] at hc ho
  exact ⟨u, hu, hm, hc, ho⟩

/-- FIELDBUS_WATCHDOG is active once it is raised. -/
theorem Core.fieldbusLost_active {c : Core} (now cause : Nat) (hm : c.mode ≠ .compline) :
    (c.fieldbusLost now cause).active 0x8120 0 = true := Core.condOn_active _ _ _ _ hm (by decide)

theorem Core.fieldbusLost_logged (c : Core) (now cause : Nat) : c.Logged (c.fieldbusLost now cause) :=
  Core.Logged.condOn _ _ _ _ _

theorem Core.coeOn_mode {c : Core} (h : c.coeOn = true) : c.mode ≠ .compline := by
  simp only [Core.coeOn, Bool.and_eq_true, bne_iff_ne] at h
  exact h.1.2

/-- The rate correction lies within the bounds of drift while Distributed Clocks are in sync (10 R327). -/
theorem toSigned_ofSigned {w : Nat} {i : Int} (hw : 0 < w) (h1 : -(2 : Int) ^ (w - 1) ≤ i) (h2 : i < (2 : Int) ^ (w - 1)) :
    toSigned w (ofSigned w i) = i := by
  obtain ⟨n, rfl⟩ : ∃ n, w = n + 1 := ⟨w - 1, by omega⟩
  have e : (2 : Int) ^ (n + 1) = 2 * 2 ^ n := pow_succ' _ _
  have en : (2 : Nat) ^ (n + 1) = 2 * 2 ^ n := pow_succ' _ _
  have hp : (0 : Int) < 2 ^ n := by positivity
  have hc : ((2 ^ n : Nat) : Int) = (2 : Int) ^ n := by push_cast; rfl
  simp only [Nat.add_sub_cancel] at h1 h2
  have hlt : ofSigned (n + 1) i < 2 ^ (n + 1) := by
    unfold ofSigned
    have := Int.emod_lt_of_pos i (by omega : (0 : Int) < 2 ^ (n + 1))
    have := Int.emod_nonneg i (by omega : (2 : Int) ^ (n + 1) ≠ 0)
    omega
  unfold toSigned
  simp only [Nat.mod_eq_of_lt hlt, Nat.add_sub_cancel]
  unfold ofSigned at hlt ⊢
  by_cases hi : 0 ≤ i
  · have hm : i % 2 ^ (n + 1) = i := Int.emod_eq_of_lt hi (by omega)
    rw [hm] at hlt ⊢
    split <;> omega
  · have hm : i % 2 ^ (n + 1) = i + 2 ^ (n + 1) := by
      rw [← Int.add_emod_right]
      exact Int.emod_eq_of_lt (by omega) (by omega)
    rw [hm] at hlt ⊢
    split <;> omega

end Sys2Proof.Machine
end

section
namespace Sys2Proof.Machine

theorem b2n_le_one (b : Bool) : b2n b ≤ 1 := by cases b <;> decide

/-- Status-word bit [12] is whether Distributed Clocks are in sync (02 R60). -/
theorem Core.statusWord_testBit_twelve (c : Core) : c.statusWord.testBit 12 = c.ec.dcInSync := by
  have hcode : c.mode.code ≤ 7 := by cases c.mode <;> decide
  have hand : c.obj 0x6100 1 &&& 0x20 ≤ 32 := Nat.and_le_right
  have h1 := b2n_le_one c.inspectValid
  have h2 := b2n_le_one c.job.running
  have h3 := b2n_le_one c.faultN
  have h4 := b2n_le_one c.safe
  have h5 := b2n_le_one (c.mot.loop == .coasting || c.mot.loop == .lost)
  have h6 := b2n_le_one c.cxl.hostUp
  have h7 := b2n_le_one c.tempHigh
  have h8 := b2n_le_one c.trans.isSome
  rw [Nat.testBit_eq_decide_div_mod_eq]
  unfold Core.statusWord
  cases hb : c.ec.dcInSync
  · simp only [b2n, Bool.false_eq_true, if_false, decide_eq_false_iff_not]
    simp only [b2n] at *
    omega
  · simp only [b2n, if_true, decide_eq_true_eq]
    simp only [b2n] at *
    omega

/-- Distributed Clocks as reported, before the event of a change. -/
def Core.dcNoted (now : Nat) (running sync1 : Bool) (diff : Int) (c : Core) : Core :=
  let is := running && decide (-100 ≤ diff) && decide (diff ≤ 100)
  (((if running && !c.ec.dcRunning then c.dcLoad now else c.dcBase now).dcRate running is).mapEc (fun e => { e with
    dcRunning := running, dcDiff := diff, dcInSync := is, sync1On := sync1 })).put 0x2D20 2
      (if is then 0 else ofSigned 32 diff)

theorem Core.dcReport_logged (c : Core) (now : Nat) (running sync1 : Bool) (diff : Int) :
    (c.dcNoted now running sync1 diff).Logged (c.dcReport now running sync1 diff) := by
  unfold Core.dcReport
  dsimp only
  split
  · exact Core.Logged.event _ _ _ _
  · split
    · exact Core.Logged.event _ _ _ _
    · exact Core.Logged.refl _

/-- What a report of Distributed Clocks leaves of the EtherCAT side and of 2D20h.02. -/
theorem Core.dcReport_sync (c : Core) (now : Nat) (running sync1 : Bool) (diff : Int) :
    let is := running && decide (-100 ≤ diff) && decide (diff ≤ 100)
    let d := c.dcReport now running sync1 diff
    d.ec.dcInSync = is ∧ d.statusWord.testBit 12 = is ∧ d.ec.dcRunning = running ∧ d.ec.sync1On = sync1 ∧
      d.obj 0x2D20 2 = if is then 0 else ofSigned 32 diff := by
  intro is d
  have h := c.dcReport_logged now running sync1 diff
  have hs : d.ec.dcInSync = is := h.ecSame Ecat.dcInSync
  refine ⟨hs, (Core.statusWord_testBit_twelve d).trans hs, h.ecSame Ecat.dcRunning, h.ecSame Ecat.sync1On, ?_⟩
  rw [h.obj _ _ (by decide) (by decide)]
  exact Core.obj_put_self _ _ _ _

/-- In sync, the rate correction lies within the bounds of drift (10 R327). -/
theorem Core.dcReport_rate (c : Core) (now : Nat) (sync1 : Bool) {diff : Int} (h1 : -100 ≤ diff) (h2 : diff ≤ 100) :
    let d := c.dcReport now true sync1 diff;
    -250000 ≤ toSigned 32 (d.obj 0x2D20 1) ∧ toSigned 32 (d.obj 0x2D20 1) ≤ 250000 := by
  intro d
  obtain ⟨n, hn, ho⟩ : ∃ n : Nat, n ≤ 500000 ∧ d.obj 0x2D20 1 = ofSigned 32 ((n : Int) - 250000) := by
    rw [(c.dcReport_logged now true sync1 diff).obj _ _ (by decide) (by decide)]
    refine ⟨(if true && !c.ec.dcRunning then c.dcLoad now else c.dcBase now).fresh.1 % 500001, by omega, ?_⟩
    unfold Core.dcNoted
    rw [Core.obj_put_ne _ _ _ _ _ _ (by decide)]
    simp [h1, h2, Core.dcRate, Core.mapEc_obj]
  rw [ho, toSigned_ofSigned (by decide) (by norm_num; omega) (by norm_num; omega)]
  omega

/-- Settles O14: an AL request, the watchdog and a report change the EtherCAT side, and log an event. -/
theorem alStates : Obligations.AlStates := by
  unfold Obligations.AlStates
  refine ⟨?_, ?_, ?_, ?_⟩
  · intro t w on x hcoe hw
    obtain ⟨u, hu, -, hc, ho⟩ := State.run_when (t := t) (f := fun now c => c.alRequest now w on) hcoe
    have hw' : ¬ (w = .bootstrap ∧ x.core.mode ≠ .standby) := fun ⟨h1, h2⟩ => hw.elim (· h1) (h2 ·)
    unfold Core.alRequest at hc ho
    dsimp only at hc ho
    rw [if_neg hw'] at hc ho
    have hlog := Core.Logged.when (b := x.core.ec.al == .op && w != .op) (Core.fieldbusLost_logged
      (x.core.mapEc (fun e => { e with
        al := w, sync1On := on,
        alLowSince := if alLow w && !alLow x.core.ec.al then x.at_ t else e.alLowSince })) (x.at_ t) 1)
    refine ⟨u, hu, (Core.of_under hc (·.ec.al)).trans (hlog.ecSame Ecat.al),
      (Core.of_under hc (·.ec.sync1On)).trans (hlog.ecSame Ecat.sync1On),
      (Core.of_under hc Core.mode).trans (hlog.same Core.mode),
      (Core.of_under hc Core.trans).trans (hlog.same Core.trans),
      (Core.of_under hc Core.job).trans (hlog.same Core.job), fun hop hne => ?_, ?_⟩
    · rw [Core.of_under hc (Core.active · 0x8120 0)]
      have hb : (x.core.ec.al == .op && w != .op) = true := by simp [hop, hne]
      rw [hb]
      exact Core.fieldbusLost_active (c := x.core.mapEc _) _ _ (Core.coeOn_mode hcoe)
    · obtain ⟨l, hl⟩ := hlog.out
      refine ⟨l, ?_⟩
      rw [Core.emit_out, ← hl, List.append_assoc] at ho
      exact ho
  · intro t left x hcoe
    obtain ⟨u, hu, -, hc, -⟩ := State.run_when (t := t) (f := fun now c => c.sm2Expiry now left) hcoe
    unfold Core.sm2Expiry at hc
    have hlog := Core.fieldbusLost_logged
      (x.core.when (left && x.core.ec.al == .op) (Core.mapEc (fun e => { e with al := .safeop }))) (x.at_ t) (b2n left)
    have hmode : (x.core.when (left && x.core.ec.al == .op) (Core.mapEc (fun e => { e with al := .safeop }))).mode =
        x.core.mode := Core.when_of (P := fun d => d.mode = x.core.mode) _ _ _ rfl rfl
    refine ⟨u, hu, ?_, ?_, fun n hn => ?_, ?_, ?_⟩
    · rw [Core.of_under hc (Core.active · 0x8120 0)]
      exact Core.fieldbusLost_active _ _ (hmode ▸ Core.coeOn_mode hcoe)
    · rw [Core.of_under hc (·.ec.al), hlog.ecSame Ecat.al]
      cases left
      · simp
      · by_cases h : x.core.ec.al = .op <;> simp [Core.when, h]
    · rw [Core.of_under hc (Core.obj · 0x6000 n), hlog.obj _ _ hn (by decide)]
      exact Core.when_of (P := fun d => d.obj 0x6000 n = x.core.obj 0x6000 n) _ _ _ rfl rfl
    · rw [Core.of_under hc Core.mode, hlog.same Core.mode]
      exact hmode
    · rw [Core.of_under hc Core.job, hlog.same Core.job]
      exact Core.when_of (P := fun d => d.job = x.core.job) _ _ _ rfl rfl
  · intro t stopped on diff x hcoe hd
    obtain ⟨u, hu, -, hc, -⟩ := State.run_when (t := t) (f := fun now c => c.dcReport now (!stopped) on diff) hcoe
    have his : (!stopped && decide (-100 ≤ diff) && decide (diff ≤ 100)) = false := by
      rcases hd with h | h | h
      · simp [h]
      · simp [Int.not_le.mpr h]
      · simp [Int.not_le.mpr h]
    obtain ⟨h1, h2, h3, h4, h5⟩ := x.core.dcReport_sync (x.at_ t) (!stopped) on diff
    rw [his] at h1 h2 h5
    exact ⟨u, hu, (Core.of_under hc (·.ec.dcInSync)).trans h1, (Core.of_under hc (·.statusWord.testBit 12)).trans h2,
      (Core.of_under hc (·.ec.dcRunning)).trans h3, (Core.of_under hc (·.ec.sync1On)).trans h4,
      (Core.of_under hc (Core.obj · 0x2D20 2)).trans h5⟩
  · intro t on diff x hcoe hd1 hd2
    obtain ⟨u, hu, -, hc, -⟩ := State.run_when (t := t) (f := fun now c => c.dcReport now true on diff) hcoe
    have his : (true && decide (-100 ≤ diff) && decide (diff ≤ 100)) = true := by simp [hd1, hd2]
    obtain ⟨h1, h2, h3, h4, h5⟩ := x.core.dcReport_sync (x.at_ t) true on diff
    rw [his] at h1 h2 h5
    refine ⟨u, hu, (Core.of_under hc (·.ec.dcInSync)).trans h1, (Core.of_under hc (·.statusWord.testBit 12)).trans h2,
      (Core.of_under hc (Core.obj · 0x2D20 2)).trans h5, (Core.of_under hc (·.ec.dcRunning)).trans h3,
      (Core.of_under hc (·.ec.sync1On)).trans h4, ?_⟩
    rw [Core.of_under hc (Core.obj · 0x2D20 1)]
    exact x.core.dcReport_rate (x.at_ t) on hd1 hd2

/-- Settles O15: a download, the end of its check, and their refusals, read off. -/
theorem firmwareDownload : Obligations.FirmwareDownload := by
  unfold Obligations.FirmwareDownload
  refine ⟨?_, ?_, ?_, ?_⟩
  · intro t img x hcoe hal hbusy
    obtain ⟨u, hu, -, hc, -⟩ := State.run_when (t := t) (f := fun _ c => c.foeDownload true img) hcoe
    simp only [Core.foeDownload, hal, hbusy] at hc
    refine ⟨u, hu, Core.of_under hc (·.pw.foeBusy), fun hr => ?_, Core.of_under hc (·.nv.slots)⟩
    unfold Core.downloadSlot
    obtain h | h : x.core.pw.running = 0 ∨ x.core.pw.running = 1 := by omega
    · simp [h]
    · simp [h]
  · intro t i x hcoe hbusy
    obtain ⟨u, hu, -, hc, ho⟩ := State.run_when (t := t) (f := fun _ c => c.foeVerified) hcoe
    simp only [Core.foeVerified, hbusy] at hc ho
    exact ⟨u, hu, Core.of_under hc (·.pw.foeBusy), Core.of_under hc (·.nv.slots), ho⟩
  · intro t on x hcoe hm
    obtain ⟨u, hu, -, hc, ho⟩ := State.run_when (t := t) (f := fun now c => c.alRequest now .bootstrap on) hcoe
    simp only [Core.alRequest, hm, ne_eq, not_false_eq_true, and_self, if_true] at hc ho
    exact ⟨u, hu, hc, ho⟩
  · intro t ok img x hal
    obtain ⟨u, hu, -, hc, -⟩ := State.run_ends t (fun _ c => c.when c.coeOn (fun c => c.foeDownload ok img)) x
    have hf : x.core.foeDownload ok img = x.core.foeRefused 0 := by simp [Core.foeDownload, hal]
    have hd : ∀ {α : Type} (f : Core → α), f (x.core.foeRefused 0) = f x.core →
        f (x.core.when x.core.coeOn (fun c => c.foeDownload ok img)) = f x.core := fun f h =>
      Core.when_of (P := fun d => f d = f x.core) _ _ _ rfl (hf ▸ h)
    exact ⟨u, hu, (Core.of_under hc Core.nv).trans (hd _ rfl), (Core.of_under hc Core.pw).trans (hd _ rfl)⟩

end Sys2Proof.Machine
end

section
namespace Sys2Proof.Machine

/-! ### SDO transfers -/

/-- A command of the CoE mailbox that answers an SDO and commands no reset. -/
theorem State.run_sdo {t idx sub k : Nat} {f : Nat → Core → Nat × Core} {x : State} {d : Core}
    (hcoe : x.core.coeOn = true) (hf : f (x.at_ t) x.core = (k, d)) (hr : d.pw.resetDue = false) :
    ∃ u, State.run t (fun now c => c.when c.coeOn (fun c => Core.sdoAnswer now idx sub (f now c))) x = .next u ∧
      u.mem = x.mem ∧ u.core = d.under u.core ∧ d.out ++ [.sdo idx sub k []] <+: u.core.out := by
  obtain ⟨u, hu, hm, hc, ho⟩ := State.run_when (t := t)
    (f := fun now c => Core.sdoAnswer now idx sub (f now c)) hcoe
  have he : Core.sdoAnswer (x.at_ t) idx sub (f (x.at_ t) x.core) = d.emit (.sdo idx sub k []) := by
    have hp : (d.emit (.sdo idx sub k [])).pw.resetDue = false := hr
    rw [hf]
    simp only [Core.sdoAnswer, Core.resetIfDue, hp, Core.when_false]
  rw [he] at hc ho
  exact ⟨u, hu, hm, hc, ho⟩

theorem Core.xferFor_none {c : Core} (now idx sub : Nat) (h : c.ec.xfer = none) :
    c.xferFor now idx sub = ⟨idx, sub, false, [], now⟩ := by simp only [Core.xferFor, h]

theorem Core.xferFor_some {c : Core} {x : SegXfer} (now : Nat) (h : c.ec.xfer = some x) :
    c.xferFor now x.idx x.sub = x := by simp [Core.xferFor, h]

/-- Within 1 s of the segment before, only the toggle bit can be wrong (02 R49). -/
theorem SegXfer.refused_inTime {x : SegXfer} {now : Nat} (h : now ≤ x.last + 1000000000) (toggle : Bool) :
    x.refused now toggle = if x.toggle != toggle then some 0x05030000 else none := by
  rw [SegXfer.refused, if_neg (Nat.not_lt.mpr h)]

/-- A transfer given up is answered with one of the reasons to give it up. -/
theorem Core.sdoGiveUp_eq (c : Core) (now idx sub k : Nat) :
    c.sdoGiveUp now idx sub k = ((firstCode (k :: c.preCodes now .sdo idx sub)).getD 0, c.dropXfer) := by
  have h : firstCode (k :: c.preCodes now .sdo idx sub) ≠ none := fun h => List.cons_ne_nil _ _ (firstCode_eq_none.mp h)
  obtain ⟨j, hj⟩ := Option.ne_none_iff_exists'.mp h
  simp only [Core.sdoGiveUp, hj, Option.getD_some]

theorem isDomain_eq {idx sub : Nat} {r : ObjRow} (h : rowOf idx sub = some r) : isDomain idx sub = (r.ty == .dom) := by
  simp only [isDomain, h]

/-! The kernel must not compare a `match` on `SegXfer.refused` with its unfolding: it would then count the 10⁹ ns of the
gap up one by one. So each function is unfolded before it has its arguments. -/

/-- A download that is no segment is its write (02 R514). -/
theorem Core.sdoDownload_whole (c : Core) (now idx sub : Nat) (complete toggle : Bool) (data : List Byte) :
    c.sdoDownload now idx sub complete false toggle data = c.dropXfer.sdoWrite now idx sub complete data := by
  generalize hf : Core.sdoDownload = f
  delta Core.sdoDownload at hf
  subst hf
  dsimp only
  rw [if_pos (by decide)]

/-- The last segment in turn completes its transfer (02 R514). -/
theorem Core.sdoDownload_last {c : Core} {now idx sub : Nat} {toggle : Bool} (complete : Bool) (data : List Byte)
    (h : (c.xferFor now idx sub).refused now toggle = none) :
    c.sdoDownload now idx sub complete true toggle data =
      c.dropXfer.sdoWrite now idx sub complete ((c.xferFor now idx sub).data ++ data) := by
  generalize hf : Core.sdoDownload = f
  delta Core.sdoDownload at hf
  subst hf
  dsimp only
  rw [if_neg (by decide), h]

/-- A segment with a protocol error gives its transfer up. -/
theorem Core.sdoSegment_refused {c : Core} {now idx sub k : Nat} {toggle : Bool} (data : List Byte)
    (h : (c.xferFor now idx sub).refused now toggle = some k) :
    c.sdoSegment now idx sub toggle data = c.sdoGiveUp now idx sub k := by
  generalize hf : Core.sdoSegment = f
  delta Core.sdoSegment at hf
  subst hf
  dsimp only
  rw [h]

/-- A segment of an object that exists, with the toggle bit it must have: kept within the object's length, or a domain's
(02 R514). -/
theorem Core.sdoSegment_inTurn {c : Core} {now idx sub : Nat} {toggle : Bool} {r : ObjRow} (data : List Byte)
    (hx : (c.xferFor now idx sub).refused now toggle = none) (ha : c.absent idx = false)
    (hr : rowOf idx sub = some r) :
    c.sdoSegment now idx sub toggle data =
      if r.ty ≠ .dom ∧ transferMax idx sub < (c.xferFor now idx sub).data.length + data.length then
        c.sdoGiveUp now idx sub 0x06070010
      else (0, c.mapEc (fun e => { e with
        xfer := some { c.xferFor now idx sub with
          toggle := !(c.xferFor now idx sub).toggle, data := (c.xferFor now idx sub).data ++ data, last := now } })) := by
  have ht : (topSub idx).isNone = false := by simp [← Option.not_isSome, topSub_isSome hr]
  have hn : (rowOf idx sub).isNone = false := by simp [hr]
  generalize hf : Core.sdoSegment = f
  delta Core.sdoSegment at hf
  subst hf
  dsimp only
  rw [hx]
  simp only [ha, ht, hn, isDomain_eq hr, Bool.or_false, Bool.false_eq_true, if_false,
    Bool.and_eq_true, Bool.not_eq_true', beq_eq_false_iff_ne, decide_eq_true_eq]

/-- What giving up a transfer answers and leaves. -/
theorem State.run_sdoGiveUp {t k : Nat} {x : State} {y : SegXfer} {toggle : Bool} {data : List Byte}
    (hcoe : x.core.coeOn = true) (hr : x.core.pw.resetDue = false)
    (h : x.core.sdoSegment (x.at_ t) y.idx y.sub toggle data = x.core.sdoGiveUp (x.at_ t) y.idx y.sub k) :
    ∃ u, exec (.sdoDownloadSegment t y.idx y.sub toggle data) x = .next u ∧ u.core.ec.xfer = none ∧
      x.puts u [.sdo y.idx y.sub
        ((firstCode (k :: x.core.preCodes (x.at_ t) .sdo y.idx y.sub)).getD 0) []] ∧
      u.core.dict = x.core.dict ∧ u.core.doms = x.core.doms := by
  rw [Core.sdoGiveUp_eq] at h
  obtain ⟨u, hu, -, hc, ho⟩ := State.run_sdo (t := t)
    (f := fun now c => c.sdoSegment now y.idx y.sub toggle data) hcoe h hr
  exact ⟨u, hu, Core.of_under hc (·.ec.xfer), ho, Core.of_under hc Core.dict, Core.of_under hc Core.doms⟩

/-- An SDO read answered. -/
theorem State.run_sdoRead {t idx sub k : Nat} {complete : Bool} {data : List Byte} {x : State} {d : Core}
    (hcoe : x.core.coeOn = true) (h : x.core.sdoRead (x.at_ t) idx sub complete = (k, data, d)) :
    ∃ u, exec (.sdoUpload t idx sub complete) x = .next u ∧ u.mem = x.mem ∧ u.core = d.under u.core ∧
      d.out ++ [.sdo idx sub k data] <+: u.core.out := by
  obtain ⟨u, hu, hm, hc, ho⟩ := State.run_when (t := t) (f := fun now c =>
    let r := c.sdoRead now idx sub complete
    r.2.2.emit (.sdo idx sub r.1 r.2.1)) hcoe
  simp only [h] at hc ho
  exact ⟨u, hu, hm, hc, ho⟩

/-- An SDO information request answers and changes nothing (02 R52). -/
theorem Core.sdoInfo_emits (c : Core) (r : SdoInfo) : ∃ o, c.sdoInfo r = c.emit o := by
  cases r with
  | objectList => exact ⟨_, rfl⟩
  | objectDesc idx =>
    unfold Core.sdoInfo
    dsimp only
    split
    · exact ⟨_, rfl⟩
    · exact ⟨_, rfl⟩
  | entryDesc idx sub =>
    unfold Core.sdoInfo
    dsimp only
    split
    · exact ⟨_, rfl⟩
    · split
      · exact ⟨_, rfl⟩
      · exact ⟨_, rfl⟩

/-- Settles O13: each access is the operation of R49 and R514 followed by its answer. -/
theorem sdoAccess : Obligations.SdoAccess := by
  unfold Obligations.SdoAccess
  refine ⟨?_, ?_, ?_, ?_, ?_, ?_, ?_, ?_, ?_, ?_, ?_⟩
  · intro t idx sub k tg data x d hcoe h hr
    exact State.run_sdo (f := fun now c => c.sdoDownload now idx sub false false tg data) hcoe
      (by rw [Core.sdoDownload_whole]; exact h) hr
  · intro t idx k tg data x d hcoe h hr
    exact State.run_sdo (f := fun now c => c.sdoDownload now idx 0 true false tg data) hcoe
      (by rw [Core.sdoDownload_whole]; exact h) hr
  · intro t k y data x d hcoe hx ht h hr
    refine State.run_sdo (f := fun now c => c.sdoDownload now y.idx y.sub false true y.toggle data) hcoe ?_ hr
    have hno : y.refused (x.at_ t) y.toggle = none := by rw [SegXfer.refused_inTime ht, if_neg (by simp)]
    rw [Core.sdoDownload_last _ _ (by rw [Core.xferFor_some _ hx]; exact hno), Core.xferFor_some _ hx]
    exact h
  · intro t idx sub data r x hcoe hx ha hres hr hlen
    have hseg : x.core.sdoSegment (x.at_ t) idx sub false data =
        (0, x.core.mapEc (fun e => { e with xfer := some ⟨idx, sub, true, data, x.at_ t⟩ })) := by
      rw [Core.sdoSegment_inTurn data ?_ ha hr, if_neg]
      · simp [Core.xferFor_none _ _ _ hx]
      · rintro ⟨hd, hl⟩
        obtain h | h := hlen
        · exact hd h
        · rw [Core.xferFor_none _ _ _ hx, List.length_nil] at hl
          omega
      · rw [Core.xferFor_none _ _ _ hx, SegXfer.refused_inTime (Nat.le_add_right _ _)]
        rfl
    obtain ⟨u, hu, -, hc, ho⟩ := State.run_sdo (t := t)
      (f := fun now c => c.sdoSegment now idx sub false data) hcoe hseg hres
    exact ⟨u, hu, Core.of_under hc (·.ec.xfer), ho⟩
  · intro t idx sub k data x d hcoe h
    exact State.run_sdoRead hcoe h
  · intro t idx k data x d hcoe h
    exact State.run_sdoRead hcoe h
  · intro t r x hcoe
    obtain ⟨u, hu, -, hc, ho⟩ := State.run_when (t := t) (f := fun _ c => c.sdoInfo r) hcoe
    refine ⟨u, hu, ?_, ?_, ?_, ?_, ?_⟩
    · obtain ⟨o, e⟩ := x.core.sdoInfo_emits r
      rw [e] at hc
      exact hc
    · rintro rfl
      exact ho
    · rintro i rfl ha ht
      simpa [State.puts, Core.sdoInfo, ha, Option.isSome_iff_ne_none.mp ht] using ho
    · rintro i k rfl ha ht
      have e : x.core.sdoInfo (.entryDesc i k) = x.core.emit
          (if (rowOf i k).isNone then .sdo i k 0x06090011 [] else .info (entryDesc i k)) := by
        simp only [Core.sdoInfo, ha, Option.isNone_eq_false_iff.mpr ht, Bool.or_false, Bool.false_eq_true, if_false]
        split
        · rfl
        · rfl
      rw [e] at ho
      exact ho
    · intro i k hr habs
      have hb : (x.core.absent i || (topSub i).isNone) = true := by
        simpa [Option.isNone_iff_eq_none] using habs
      obtain rfl | rfl := hr
      · simpa [State.puts, Core.sdoInfo, hb] using ho
      · simpa [State.puts, Core.sdoInfo, hb] using ho
  · intro t y x hcoe hx ht
    obtain ⟨u, hu, -, hc, ho⟩ := State.run_ends t (fun now c => c.sdoTimeout now) x
    simp only [Core.sdoTimeout, hx, ht, hcoe, decide_true, Bool.and_self, Core.when_true] at hc ho
    exact ⟨u, hu, Core.of_under hc Core.ec, ho⟩
  · intro t svc x hcoe
    obtain ⟨u, hu, -, hc, ho⟩ := State.run_when (t := t) (f := fun _ => Core.emit (.mailboxError svc)) hcoe
    exact ⟨u, hu, ho, hc⟩
  · intro t y data x hcoe hr hx ht
    refine State.run_sdoGiveUp hcoe hr ?_
    have hno : (y.toggle != !y.toggle) = true := by cases y.toggle <;> rfl
    refine Core.sdoSegment_refused data ?_
    rw [Core.xferFor_some _ hx, SegXfer.refused_inTime ht, if_pos hno]
  · intro t y r data x hcoe hres hx ht ha hr hd hl
    refine State.run_sdoGiveUp hcoe hres ?_
    rw [Core.sdoSegment_inTurn data ?_ ha hr, if_pos]
    · rw [Core.xferFor_some _ hx]
      exact ⟨hd, hl⟩
    · rw [Core.xferFor_some _ hx, SegXfer.refused_inTime ht, if_neg (by simp)]

end Sys2Proof.Machine
end

section
namespace Sys2Proof.Machine

/-! ### What the EtherCAT side's own events leave -/

/-- A core without what the EtherCAT side's own events can change besides the objects. -/
def Core.busWords (c : Core) : Core :=
  { c.rest with pw := {}, nv := {}, free := 0, clk := { c.clk with dcAcc := 0, dcAt := 0 } }

/-- `d` is `c` after an event of the EtherCAT side. -/
structure Core.BusFramed (c d : Core) : Prop where
  words : d.busWords = c.busWords
  obj : ∀ a b, b < 256 → a ≠ 0x2D20 → a ≠ 0x3200 → a ≠ 0x6100 → d.obj a b = c.obj a b

namespace Core.BusFramed

theorem refl (c : Core) : c.BusFramed c := ⟨rfl, fun _ _ _ _ _ _ => rfl⟩

theorem trans {c d e : Core} (h1 : c.BusFramed d) (h2 : d.BusFramed e) : c.BusFramed e :=
  ⟨h2.words.trans h1.words, fun a b hb h h' h'' => (h2.obj a b hb h h' h'').trans (h1.obj a b hb h h' h'')⟩

theorem when {c : Core} {b : Bool} {f : Core → Core} (h : c.BusFramed (f c)) : c.BusFramed (c.when b f) :=
  Core.when_of (P := c.BusFramed) b f c (refl c) h

/-- A field that is none of those hidden. -/
theorem same {c d : Core} (h : c.BusFramed d) {α : Type} (f : Core → α)
    (hf : ∀ c : Core, f c.busWords = f c := by intros; rfl) : f d = f c := by rw [← hf d, h.words, hf c]

/-- A step that leaves the objects as they are. -/
theorem of_words {c d : Core} (h : d.busWords = c.busWords) (hd : d.dict = c.dict) : c.BusFramed d :=
  ⟨h, fun _ _ _ _ _ _ => congrArg (fun l => sget dfltOf l _) hd⟩

theorem of_logged {c d : Core} (h : c.Logged d) : c.BusFramed d :=
  ⟨by simp only [Core.busWords, h.rest, h.same Core.clk], fun a b hb _ h' _ => h.obj a b hb h'⟩

theorem put {c : Core} (s v : Nat) (hs : s < 256) : c.BusFramed (c.put 0x2D20 s v) :=
  ⟨rfl, fun _ _ hr hi _ _ => c.obj_keep _ _ _ _ _ hs hr (fun e => hi (Prod.mk.inj e).1)⟩

theorem sdoInfo (c : Core) (r : SdoInfo) : c.BusFramed (c.sdoInfo r) := by
  obtain ⟨o, e⟩ := c.sdoInfo_emits r
  exact e ▸ of_words rfl rfl

theorem sdoTimeout (c : Core) (now : Nat) : c.BusFramed (c.sdoTimeout now) := by
  unfold Core.sdoTimeout
  split
  · exact when (of_words rfl rfl)
  · exact refl c

theorem alRequest (c : Core) (now : Nat) (w : AlState) (on : Bool) : c.BusFramed (c.alRequest now w on) := by
  unfold Core.alRequest
  dsimp only
  split
  · exact of_words rfl rfl
  · have he : ∀ f : Ecat → Ecat, c.BusFramed (c.mapEc f) := fun f => of_words rfl rfl
    exact (he _).trans ((when (of_logged (Core.fieldbusLost_logged _ _ _))).trans (of_words rfl rfl))

theorem sm2Expiry (c : Core) (now : Nat) (left : Bool) : c.BusFramed (c.sm2Expiry now left) :=
  (when (of_words rfl rfl)).trans (of_logged (Core.fieldbusLost_logged _ _ _))

theorem dcNoted (c : Core) (now : Nat) (running sync1 : Bool) (diff : Int) :
    c.BusFramed (c.dcNoted now running sync1 diff) := by
  have hrate : ∀ (d : Core) (is : Bool), d.BusFramed (d.dcRate running is) := fun d is =>
    (of_words rfl rfl : d.BusFramed d.fresh.2).trans (put 1 _ (by decide))
  have hec : ∀ (d : Core) (f : Ecat → Ecat), d.BusFramed (d.mapEc f) := fun d f => of_words rfl rfl
  unfold Core.dcNoted
  dsimp only
  refine BusFramed.trans ?_ ((hrate _ _).trans ((hec _ _).trans (put 2 _ (by decide))))
  split
  · exact of_words rfl rfl
  · exact of_words rfl rfl

theorem dcReport (c : Core) (now : Nat) (running sync1 : Bool) (diff : Int) :
    c.BusFramed (c.dcReport now running sync1 diff) :=
  (dcNoted c now running sync1 diff).trans (of_logged (c.dcReport_logged now running sync1 diff))

theorem txLatch (c : Core) (now : Nat) : c.BusFramed (c.txLatch now) := of_words rfl rfl

theorem foeDownload (c : Core) (ok : Bool) (img : FwImage) : c.BusFramed (c.foeDownload ok img) := by
  have href : ∀ k, c.BusFramed (c.foeRefused k) := fun _ => of_words rfl rfl
  unfold Core.foeDownload
  split
  · exact href _
  · split
    · exact href _
    · exact of_words rfl rfl

theorem foeVerified (c : Core) : c.BusFramed c.foeVerified := by
  unfold Core.foeVerified
  split
  · exact refl c
  · exact of_words rfl rfl

/-- A command whose effect is framed so is so itself, and leaves the DRAM. -/
theorem run {t : Nat} {s u : State} (f : Nat → Core → Core) (h : ∀ (now : Nat) (c : Core), c.BusFramed (f now c))
    (hu : State.run t f s = .next u) : u.mem = s.mem ∧ s.core.BusFramed u.core := by
  obtain ⟨v, hv, hm, hc, -⟩ := State.run_ends t f s
  obtain rfl : v = u := by simpa [hu] using hv.symm
  exact ⟨hm, (h _ _).trans ⟨Core.of_under hc Core.busWords, fun a b _ _ _ _ => Core.of_under hc (·.obj a b)⟩⟩

end Core.BusFramed

/-- Settles O17: each of these commands frames its effect so. -/
theorem busFrame : Obligations.BusFrame := by
  unfold Obligations.BusFrame
  intro i s u hu hi
  obtain ⟨hm, h⟩ : u.mem = s.mem ∧ s.core.BusFramed u.core := by
    obtain ⟨t, r, rfl⟩ | ⟨t, v, rfl⟩ | ⟨t, rfl⟩ | ⟨t, w, a, rfl⟩ | ⟨t, l, rfl⟩ | ⟨t, p, a, d, rfl⟩ | ⟨t, a, d, rfl⟩ |
      ⟨t, e, rfl⟩ | ⟨t, n, m, rfl⟩ | ⟨t, rfl⟩ := hi
    · exact Core.BusFramed.run (fun _ c => c.when c.coeOn (fun c => c.sdoInfo r)) (fun _ _ => .when (.sdoInfo _ _)) hu
    · exact Core.BusFramed.run (fun _ c => c.when c.coeOn (.emit (.mailboxError v))) (fun _ _ => .when (.of_words rfl rfl)) hu
    · exact Core.BusFramed.run (fun now c => c.sdoTimeout now) (fun _ _ => .sdoTimeout _ _) hu
    · exact Core.BusFramed.run (fun now c => c.when c.coeOn (fun c => c.alRequest now w a)) (fun _ _ => .when (.alRequest _ _ _ _)) hu
    · exact Core.BusFramed.run (fun now c => c.when c.coeOn (fun c => c.sm2Expiry now l)) (fun _ _ => .when (.sm2Expiry _ _ _)) hu
    · exact Core.BusFramed.run (fun now c => c.when c.coeOn (fun c => c.dcReport now (!p) a d)) (fun _ _ => .when (.dcReport _ _ _ _ _)) hu
    · exact Core.BusFramed.run (fun now c => c.when c.coeOn (fun c => c.dcReport now true a d)) (fun _ _ => .when (.dcReport _ _ _ _ _)) hu
    · exact Core.BusFramed.run (fun now c => c.when (c.coeOn && !alLow c.ec.al && c.txEvent e) (fun c => c.txLatch now)) (fun _ _ => .when (.txLatch _ _)) hu
    · exact Core.BusFramed.run (fun _ c => c.when c.coeOn (fun c => c.foeDownload n m)) (fun _ _ => .when (.foeDownload _ _ _)) hu
    · exact Core.BusFramed.run (fun _ c => c.when c.coeOn .foeVerified) (fun _ _ => .when (.foeVerified _)) hu
  refine ⟨hm, h.same Core.owners, h.same Core.mode, h.same Core.trans, h.same Core.job, h.same Core.mot,
    h.same Core.banks, h.same Core.sram, h.same Core.dram, h.same Core.tk, h.same Core.pipe, h.same Core.eng,
    h.same Core.ctx, ?_, h.same Core.links, h.same Core.doms, h.obj⟩
  have hclk := h.same (fun c => { c.clk with dcAcc := 0, dcAt := 0 })
  exact congrArg (fun k : Clk => { k with dcAcc := u.core.clk.dcAcc, dcAt := u.core.clk.dcAt }) hclk

end Sys2Proof.Machine
end

section
namespace Sys2Proof.Machine

/-! ### A cycle counter mapped as if it were an RxPDO map -/

/-- OP with 1C32h assigned as an RxPDO map, so that the low byte of 1C32h.0C counts among the mapped bits: 88 of them,
and FIELDBUS_WATCHDOG active. -/
def counterMapped : State :=
  { State.reset with core :=
      (((({ mode := .standby, pw := { fwRuns := true }, clk := { refOn := true },
            ec := { al := .op, cycleAt := some 0 }, ev := { active := [(0x8120, 0)] } } : Core).put 0x1C12 0 1).put
          0x1C12 1 0x1C32).put 0x1C32 12 5) }

/-- The cycle is too short, which counts in 1C32h.0C before the length is compared: 89 bits no longer fit 11 bytes, and
FIELDBUS_WATCHDOG stays. -/
theorem counterMapped_rxCycle :
    (counterMapped.core.rxCycle (counterMapped.at_ 1) .sm2 (zeros 11)).active 0x8120 0 = true := by decide +kernel

/-- Refutes O16: RxPDO data of the mapped length need not be applied where a cycle's own counter is among the mapped
entries' sizes (`counterMapped`). -/
theorem not_processData : ¬ Obligations.ProcessData := by
  unfold Obligations.ProcessData
  intro h
  obtain ⟨u, hu, hoff, -⟩ := h.1 1 .sm2 (zeros 11) counterMapped (by decide +kernel) rfl (by decide +kernel)
    (by decide +kernel)
  obtain ⟨v, hv, -, hc, -⟩ := State.run_when (t := 1) (x := counterMapped)
    (b := fun c => c.coeOn && c.ec.al == .op && c.rxEvent .sm2) (f := fun now c => c.rxCycle now .sm2 (zeros 11))
    (by decide +kernel)
  obtain rfl : u = v := Host.Outcome.next.inj (hu.symm.trans hv)
  rw [Core.of_under hc (Core.active · 0x8120 0), counterMapped_rxCycle] at hoff
  cases hoff

end Sys2Proof.Machine
end

section
namespace Sys2Proof.Machine

/-! ### What a read of an object can change: tinker engines brought to the moment, measurements, words in error -/

/-- A core without objects, on-die words, tinker engines, segment links and free values, of the attachment only the
states of the links, and of the EtherCAT side only SYNC1: what a read leaves. -/
def Core.readRest (c : Core) : Core :=
  { c.rest with
    sram := {}, tk := {}, links := [], free := 0, cxl := { hostUp := c.cxl.hostUp, dlUp := c.cxl.dlUp },
    ec := { sync1On := c.ec.sync1On, waitSync1 := c.ec.waitSync1 } }

theorem Core.of_readRest {α : Type} (f : Core → α) {c d : Core} (h : d.readRest = c.readRest)
    (hf : ∀ c : Core, f c.readRest = f c := by intros; rfl) : f d = f c := by rw [← hf d, h, hf c]

theorem Core.Logged.readRest {c d : Core} (h : c.Logged d) : d.readRest = c.readRest := by
  simp only [Core.readRest, h.rest, h.cxlSame Cxl.hostUp, h.cxlSame Cxl.dlUp, h.ecSame Ecat.sync1On,
    h.ecSame Ecat.waitSync1]

/-- What each step of a fold over a core leaves, the fold leaves. -/
theorem foldl_leaves {α β γ : Type} (g : β → γ) {f : β → α → β} (h : ∀ b a, g (f b a) = g b) (l : List α) (b : β) :
    g (l.foldl f b) = g b :=
  List.foldlRecOn (motive := fun d => g d = g b) l f rfl fun d hd a _ => (h d a).trans hd

@[simp] theorem Core.readRest_put (i s v : Nat) (c : Core) : (c.put i s v).readRest = c.readRest := rfl
@[simp] theorem Core.readRest_emit (o : Out) (c : Core) : (c.emit o).readRest = c.readRest := rfl
@[simp] theorem Core.readRest_mapSram (f : Sram → Sram) (c : Core) : (c.mapSram f).readRest = c.readRest := rfl
@[simp] theorem Core.readRest_mapTk (f : Tinker → Tinker) (c : Core) : (c.mapTk f).readRest = c.readRest := rfl
@[simp] theorem Core.readRest_mapEng1 (n : Nat) (f : Tk → Tk) (c : Core) : (c.mapEng1 n f).readRest = c.readRest := rfl
@[simp] theorem Core.readRest_mapLink (n : Nat) (f : Link → Link) (c : Core) : (c.mapLink n f).readRest = c.readRest := rfl
@[simp] theorem Core.readRest_fresh (c : Core) : c.fresh.2.readRest = c.readRest := rfl
@[simp] theorem Core.readRest_pinsNote (own : Bool) (since : Nat) (c : Core) :
    (c.pinsNote own since).readRest = c.readRest := rfl
@[simp] theorem Core.readRest_bumpBy (i s n : Nat) (c : Core) : (c.bumpBy i s n).readRest = c.readRest := by
  unfold Core.bumpBy
  dsimp only
  split <;> rfl
@[simp] theorem Core.readRest_bump (i s : Nat) (c : Core) : (c.bump i s).readRest = c.readRest :=
  c.readRest_bumpBy i s 1
@[simp] theorem Core.readRest_event (now code seg : Nat) (tail : List Byte) (c : Core) :
    (c.event now code seg tail).readRest = c.readRest := (Core.Logged.event _ _ _ _).readRest
@[simp] theorem Core.readRest_msix (v : Nat) (c : Core) : (c.msix v).readRest = c.readRest :=
  (Core.Logged.msix _).readRest
@[simp] theorem Core.readRest_when (b : Bool) (f : Core → Core) (h : ∀ c, (f c).readRest = c.readRest) (c : Core) :
    (c.when b f).readRest = c.readRest :=
  Core.when_of (P := fun d => d.readRest = c.readRest) b f c rfl (h c)

@[simp] theorem Core.readRest_sramCorrect (a : Nat) (c : Core) : (c.sramCorrect a).readRest = c.readRest := by
  simp [Core.sramCorrect, Core.dropFlips]
@[simp] theorem Core.readRest_wantRewrite (a : Nat) (c : Core) : (c.wantRewrite a).readRest = c.readRest := by
  unfold Core.wantRewrite
  split <;> rfl
@[simp] theorem Core.readRest_sramPoison (now a : Nat) (c : Core) : (c.sramPoison now a).readRest = c.readRest := by
  unfold Core.sramPoison
  dsimp only
  split <;> simp [Core.poisonCount]
@[simp] theorem Core.readRest_sramLook (now a : Nat) (w : WordOutcome) (c : Core) :
    (c.sramLook now a w).2.readRest = c.readRest := by
  unfold Core.sramLook
  split
  · simp
  · split
    · rfl
    · split <;> simp

@[simp] theorem Core.readRest_tickMark (now n : Nat) (c : Core) : (c.tickMark now n).readRest = c.readRest := by
  unfold Core.tickMark
  split
  · split <;> rfl
  · rfl
@[simp] theorem Core.readRest_tkInterrupt (n : Nat) (c : Core) : (c.tkInterrupt n).readRest = c.readRest := by
  unfold Core.tkInterrupt
  split
  · rfl
  · simp
@[simp] theorem Core.readRest_tkComplete (now n e b : Nat) (c : Core) :
    (c.tkComplete now n e b).readRest = c.readRest := by simp [Core.tkComplete]
@[simp] theorem Core.readRest_lutError (now n : Nat) (c : Core) : (c.lutError now n).readRest = c.readRest := by
  simp [Core.lutError]
@[simp] theorem Core.readRest_tkDebug (now n e b : Nat) (c : Core) : (c.tkDebug now n e b).readRest = c.readRest := by
  unfold Core.tkDebug
  split <;> simp
@[simp] theorem Core.readRest_tkDoStep (now n : Nat) (c : Core) : (c.tkDoStep now n).readRest = c.readRest := by
  unfold Core.tkDoStep
  dsimp only
  split <;> simp
@[simp] theorem Core.readRest_tkInject (now n : Nat) (c : Core) : (c.tkInject now n).readRest = c.readRest := by
  simp [Core.tkInject]
@[simp] theorem Core.readRest_tkDebugs (t n : Nat) (c : Core) : (c.tkDebugs t n).readRest = c.readRest := by
  unfold Core.tkDebugs
  dsimp only
  rw [foldl_leaves Core.readRest fun c d => by split <;> simp]
  rfl
@[simp] theorem Core.readRest_tkMoment (t : Nat) (c : Core) : (c.tkMoment t).readRest = c.readRest := by
  unfold Core.tkMoment
  extract_lets d
  have h : d.readRest = c.readRest := by
    unfold d
    split <;> rfl
  split
  · rw [Core.readRest_pinsNote, foldl_leaves Core.readRest fun c n => c.readRest_tkDebugs t n, h]
  · exact h
@[simp] theorem Core.readRest_tkDue (now : Nat) (c : Core) : (c.tkDue now).readRest = c.readRest :=
  foldl_leaves Core.readRest (fun c t => c.readRest_tkMoment t) _ _
@[simp] theorem Core.readRest_tkSync (now : Nat) (c : Core) : (c.tkSync now).readRest = c.readRest :=
  (foldl_leaves Core.readRest (fun d n => d.readRest_mapEng1 n _) _ _).trans (c.readRest_tkDue now)

@[simp] theorem Core.readRest_tkTxPop (now n : Nat) (c : Core) : (c.tkTxPop now n).2.readRest = c.readRest := by
  unfold Core.tkTxPop
  split <;> simp
@[simp] theorem Core.readRest_testCounts (now seg : Nat) (c : Core) : (c.testCounts now seg).readRest = c.readRest := by
  unfold Core.testCounts
  split <;> simp
@[simp] theorem Core.readRest_measure (now i s : Nat) (c : Core) : (c.measure now i s).readRest = c.readRest := by
  unfold Core.measure
  split
  · split <;> simp
  · split <;> simp

/-- A read of an object leaves the rest alone. -/
@[simp] theorem Core.readRest_readBytes (now i s : Nat) (c : Core) : (c.readBytes now i s).2.readRest = c.readRest := by
  have h : ((c.when (i / 0x100 == 0x2C) (Core.tkSync now)).measure now i s).readRest = c.readRest := by simp
  unfold Core.readBytes
  dsimp only
  split
  · simp
  · split
    · exact h
    · split <;> exact h

end Sys2Proof.Machine
end

section
namespace Sys2Proof.Machine

/-! ### The mailbox's response (02 R63) -/

/-- A field of a byte string by its place. -/
theorem leAt_append {off n : Nat} (a b c : List Byte) (ha : a.length = off) (hb : b.length = n) :
    leAt (a ++ (b ++ c)) off n = leNat b := by
  subst ha hb
  simp [leAt, slice, zeros]

/-- The status, the flags, the abort code and the payload of a response. -/
theorem Core.mbxResponse_rsp (c : Core) (st fl k : Nat) (data : List Byte) :
    let r := (c.mbxResponse st fl k data).mbx.rsp
    leAt r 0 1 = st % 256 ∧ leAt r 1 1 = fl % 256 ∧ leAt r 8 4 = k % 256 ^ 4 ∧ r.drop 16 = data := by
  intro r
  have e : r = leBytes 1 st ++ (leBytes 1 fl ++ (leBytes 2 (c.reqField 2 2) ++ leBytes 2 (c.reqField 4 2) ++
      leBytes 1 (c.reqField 6 1) ++ leBytes 1 0 ++ (leBytes 4 k ++ (leBytes 4 data.length ++ data)))) := by
    simp [r, Core.mbxResponse, Core.mapMbx]
  refine ⟨?_, ?_, ?_, ?_⟩
  · have h := leAt_append [] (leBytes 1 st) (r.drop 1) rfl rfl
    rw [leNat_leBytes, pow_one] at h
    rw [e] at h ⊢
    simpa using h
  · rw [e, leAt_append (leBytes 1 st) (leBytes 1 fl) _ (length_leBytes _ _) (length_leBytes _ _), leNat_leBytes, pow_one]
  · rw [e, ← List.append_assoc (leBytes 1 fl), ← List.append_assoc (leBytes 1 st),
      leAt_append _ (leBytes 4 k) _ (by simp) (by simp), leNat_leBytes]
  · exact List.drop_left' (by simp)

/-- The mailbox after a request was carried out: the answer `a` written, BUSY clear, COMPLETE set (02 R66). -/
def MbxAnswer.box (a : MbxAnswer) : Mbx :=
  { (a.core.mbxResponse (if a.code = 0 then 0 else 1) a.flags a.code a.data).mbx with
    busy := false, complete := true, tag := a.core.reqField 2 2 }

theorem MbxAnswer.box_rsp (a : MbxAnswer) :
    leAt a.box.rsp 0 1 = (if a.code = 0 then 0 else 1) ∧ leAt a.box.rsp 1 1 = a.flags % 256 ∧
      leAt a.box.rsp 8 4 = a.code % 256 ^ 4 ∧ a.box.rsp.drop 16 = a.data := by
  obtain ⟨h1, h2⟩ := a.core.mbxResponse_rsp (if a.code = 0 then 0 else 1) a.flags a.code a.data
  refine ⟨h1.trans ?_, h2⟩
  split <;> rfl

/-- The end of a request is its mailbox, and a vector. -/
theorem Core.under_mbxFinish (aborted : Bool) (c e : Core) :
    (c.mbxFinish aborted).under e = ({ c with mbx := { c.mbx with
      busy := false, tag := c.reqField 2 2, complete := c.mbx.complete || !aborted,
      aborted := c.mbx.aborted || aborted } } : Core).under e := by
  unfold Core.mbxFinish Core.when
  split
  · exact Core.under_msix _ _ _
  · rfl

theorem Core.mbxFinish_resetDue (aborted : Bool) (c : Core) : (c.mbxFinish aborted).pw.resetDue = c.pw.resetDue := by
  unfold Core.mbxFinish Core.when
  dsimp only
  split
  · exact congrArg Power.resetDue (Core.msix_pw _ _)
  · rfl

/-- A request carried out that commands no reset leaves what its operation gives, and the response. -/
theorem MbxAnswer.under_done (a : MbxAnswer) (now : Nat) (e : Core) (hr : a.core.pw.resetDue = false) :
    (a.done now).under e = ({ a.core with mbx := a.box } : Core).under e := by
  have hp : ((a.core.mbxResponse (if a.code = 0 then 0 else 1) a.flags a.code a.data).mbxFinish false).pw.resetDue =
      false := (Core.mbxFinish_resetDue _ _).trans hr
  unfold MbxAnswer.done Core.resetIfDue
  rw [hp, Core.when_false, Core.under_mbxFinish]
  simp [MbxAnswer.box, Core.mbxResponse, Core.mapMbx, Core.reqField]

/-- What stands after an answer: the mailbox, and what the operation made of the rest. -/
theorem MbxAnswer.stands {a : MbxAnswer} {u : Core} (h : u = ({ a.core with mbx := a.box } : Core).under u) :
    u.mbx = a.box ∧ u.dict = a.core.dict ∧ u.doms = a.core.doms ∧ u.owners = a.core.owners ∧
      u.banks = a.core.banks :=
  ⟨Core.of_under h Core.mbx, Core.of_under h Core.dict, Core.of_under h Core.doms, Core.of_under h Core.owners,
    Core.of_under h Core.banks⟩

/-- The answer of a request that an ABORT came too late for (02 R67). -/
def MbxAnswer.late (a : MbxAnswer) : MbxAnswer :=
  { a with core := a.core.mapMbx (fun m => { m with abortLate := true }) }

/-- A command of the mailbox at its request. -/
theorem MbxAnswer.run {t : Nat} {b : Core → Bool} {f : Nat → Core → MbxAnswer} {x : State} {a : MbxAnswer}
    (hb : b x.core = true) (e : f (x.at_ t) x.core = a) (hr : a.core.pw.resetDue = false) :
    ∃ u, State.run t (fun now c => c.when (b c) (fun c => (f now c).done now)) x = .next u ∧
      u.core.mbx = a.box ∧ u.core.dict = a.core.dict ∧ u.core.doms = a.core.doms ∧ u.core.owners = a.core.owners ∧
      u.core.banks = a.core.banks := by
  obtain ⟨u, hu, -, hc, -⟩ := State.run_when (t := t) (f := fun now c => (f now c).done now) hb
  rw [e, MbxAnswer.under_done _ _ _ hr] at hc
  exact ⟨u, hu, MbxAnswer.stands hc⟩

/-! ### What the opcodes answer (02 R64) -/

theorem Core.mbxOther_none {c : Core} (h : c.mbx.xfer = none) : c.mbxOther = c := by simp only [Core.mbxOther, h]

/-- Without words in error a read of an object finds none. -/
theorem Core.storageLook_clean {c : Core} (h : c.faulty = []) (now : Nat) (o : Orig) (i s : Nat) :
    c.storageLook now o i s = c := by
  have hp : c.sram.poison = [] := by
    refine List.eq_nil_iff_forall_not_mem.mpr fun a ha => ?_
    have : a ∈ c.faulty := List.mem_dedup.mpr (List.mem_append_left _ ha)
    rw [h] at this
    cases this
  have hread : c.storageRead now i s = c := by
    unfold Core.storageRead
    split
    · simp [Core.sramUse, Core.sramFind, hp, h]
    · rfl
  exact Core.when_of (P := fun d => d = c) _ _ _ rfl hread

/-- READ of a whole value that nothing refuses. -/
theorem Core.mbxReadOp_whole {c : Core} (now : Nat) (hf : c.faulty = []) (ho : c.reqOff = 0) (hl : c.reqLen = 0)
    (hd : isDomain c.reqIdx c.reqSub = false) (hc : c.readCodes .mbx c.reqIdx c.reqSub = []) :
    c.mbxReadOp now = ⟨0, 0, (c.readBytes now c.reqIdx c.reqSub).1, (c.readBytes now c.reqIdx c.reqSub).2⟩ := by
  simp [Core.mbxReadOp, Core.readOne, Core.storageLook_clean hf, hc, Core.mbxPart, hd, ho, hl]

/-- READ_PENDING of a whole value of a bank that nothing refuses. -/
theorem Core.mbxPendingOp_whole {c : Core} (now : Nat) (hf : c.faulty = []) (ho : c.reqOff = 0) (hl : c.reqLen = 0)
    (hb : (bankOf c.reqIdx c.reqSub).isSome = true) (hc : c.readCodes .mbx c.reqIdx c.reqSub = []) :
    c.mbxPendingOp now = ⟨0, 2 * b2n (c.pendingView c.reqIdx c.reqSub).2,
      leBytes (objBits c.reqIdx c.reqSub / 8) (c.pendingView c.reqIdx c.reqSub).1, c⟩ := by
  simp [Core.mbxPendingOp, Core.storageLook_clean hf, hc, Option.isNone_eq_false_iff.mpr hb, Core.mbxPart, ho, hl]

/-- READ_ALL that nothing refuses, whole. -/
theorem Core.mbxReadAllOp_whole {c d : Core} {now : Nat} {data : List Byte} (ho : c.reqOff = 0) (hl : c.reqLen = 0)
    (h : c.readAll now .mbx c.reqIdx = (0, data, d)) : c.mbxReadAllOp now = ⟨0, 0, data, d⟩ := by
  simp [Core.mbxReadAllOp, h, Core.mbxPart, ho, hl]

/-- No object of motion or of the pipeline is a domain. -/
theorem tabFor_pipeline_no_dom {i : Nat} (h1 : 0x2400 ≤ i) (h2 : i ≤ 0x27FF) : ∀ r ∈ tabFor i, r.ty ≠ .dom := by
  unfold tabFor
  rw [if_neg (by omega), if_neg (by omega), if_neg (by omega)]
  refine forall_mem_ite ?_ ?_
  · decide +kernel
  · rw [if_pos h2]
    decide +kernel

theorem rowOf_pipeline_no_dom {i s : Nat} {r : ObjRow} (h1 : 0x2400 ≤ i) (h2 : i ≤ 0x27FF) (h : rowOf i s = some r) :
    r.ty ≠ .dom := by
  unfold rowOf at h
  split at h
  case h_1 _ _ q hq =>
    cases h
    exact tabFor_pipeline_no_dom h1 h2 _ (findRow_covers hq).1
  case h_2 =>
    split at h
    · cases h
      simp [subZeroRow, row]
    · cases h
  case h_3 => cases h

/-- WRITE of an object that is no domain, at offset 0. -/
theorem Core.mbxWriteOp_one {c : Core} (now : Nat) (hx : c.mbx.xfer = none) (ho : c.reqOff = 0)
    (hd : ∀ r, rowOf c.reqIdx c.reqSub = some r → r.ty ≠ .dom) :
    c.mbxWriteOp now = ⟨(c.writeOne now .mbx c.reqIdx c.reqSub c.reqData).1, 0, [],
      (c.writeOne now .mbx c.reqIdx c.reqSub c.reqData).2⟩ := by
  unfold Core.mbxWriteOp
  simp only [Core.mbxOther_none hx, ho]
  split
  · next r hr => simp [hd r hr]
  · simp

/-- WRITE_ALL at offset 0. -/
theorem Core.mbxWriteAllOp_whole {c : Core} (now : Nat) (hx : c.mbx.xfer = none) (ho : c.reqOff = 0) :
    c.mbxWriteAllOp now = ⟨(c.writeAll now .mbx c.reqIdx c.reqData).1, 0, [],
      (c.writeAll now .mbx c.reqIdx c.reqData).2⟩ := by
  simp [Core.mbxWriteAllOp, Core.mbxOther_none hx, ho]

/-- DESCRIBE of an object that exists, from its beginning. -/
theorem Core.mbxDescribeOp_whole {c : Core} (ho : c.reqOff = 0) (hl : c.reqLen = 0) (ha : c.absent c.reqIdx = false)
    (ht : (topSub c.reqIdx).isSome = true) :
    ∃ fl, c.mbxDescribeOp = ⟨0, fl, (objectDesc c.reqIdx ++ (if isSimple c.reqIdx then [0] else recordSubs c.reqIdx).flatMap
      (fun k => entryDesc c.reqIdx k)).take 4080, c⟩ := by
  unfold Core.mbxDescribeOp
  simp only [ha, Option.isNone_eq_false_iff.mpr ht, Bool.or_false, Bool.false_eq_true, if_false, Core.mbxPart, ho, hl,
    if_true, List.drop_zero]
  exact ⟨_, rfl⟩

/-- ABORT in time stops the request before any value changes (02 R67). -/
theorem Core.under_mbxStop {c : Core} (e : Core) (h : c.mbx.busy = true) :
    c.mbxStop.under e = ({ c with mbx := { (c.mbxResponse 2 0 0 []).mbx with
      xfer := none, busy := false, tag := c.reqField 2 2, aborted := true } } : Core).under e := by
  simp only [Core.mbxStop, h, Bool.not_true, Bool.false_eq_true, if_false, Core.under_mbxFinish]
  simp [Core.mbxResponse, Core.mapMbx, Core.reqField]

/-- Settles O18: each request is its opcode's operation, whose answer the response shows. -/
theorem mailboxRequests : Obligations.MailboxRequests := by
  unfold Obligations.MailboxRequests
  refine ⟨?_, ?_, ?_, ?_, ?_, ?_, ?_, ?_, ?_, ?_, ?_, ?_, ?_⟩
  · intro t x hb
    obtain ⟨u, hu, -, hc, -⟩ := State.run_ends t (fun _ c => c.mbxStart) x
    simp only [Core.mbxStart, hb, Bool.false_eq_true, if_false] at hc
    exact ⟨u, hu, hc⟩
  · intro t op i a x hat hi hr
    obtain ⟨u, hu, hm, hd, hdo, ho, -⟩ : ∃ u, exec i x = .next u ∧ u.core.mbx = a.box ∧ u.core.dict = a.core.dict ∧
        u.core.doms = a.core.doms ∧ u.core.owners = a.core.owners ∧ u.core.banks = a.core.banks := by
      obtain ⟨rfl, rfl, e⟩ | ⟨rfl, rfl, e⟩ | ⟨rfl, rfl, e⟩ | ⟨rfl, rfl, e⟩ | ⟨rfl, rfl, e⟩ | ⟨rfl, rfl, e⟩ := hi
      · exact MbxAnswer.run (b := fun c => c.mbxAt 1) (f := fun now c => c.mbxReadOp now) hat e.symm hr
      · exact MbxAnswer.run (b := fun c => c.mbxAt 2) (f := fun now c => c.mbxWriteOp now) hat e.symm hr
      · exact MbxAnswer.run (b := fun c => c.mbxAt 3) (f := fun now c => c.mbxPendingOp now) hat e.symm hr
      · exact MbxAnswer.run (b := fun c => c.mbxAt 4) (f := fun now c => c.mbxReadAllOp now) hat e.symm hr
      · exact MbxAnswer.run (b := fun c => c.mbxAt 5) (f := fun now c => c.mbxWriteAllOp now) hat e.symm hr
      · exact MbxAnswer.run (b := fun c => c.mbxAt 6) (f := fun _ c => c.mbxDescribeOp) hat e.symm hr
    refine ⟨u, hu, ?_⟩
    rw [hm]
    exact ⟨rfl, rfl, hd, hdo, ho, rfl, rfl⟩
  · intro t op x hat hop hr
    have hb : (x.core.mbx.busy && x.core.pw.fwRuns &&
        !(decide (1 ≤ x.core.reqField 0 1) && decide (x.core.reqField 0 1 ≤ 6))) = true := by
      simp only [Core.mbxAt, Bool.and_eq_true, beq_iff_eq] at hat
      obtain ⟨hbf, rfl⟩ := hat
      simp only [Bool.and_eq_true, Bool.not_eq_true', Bool.and_eq_false_iff, decide_eq_false_iff_not]
      exact ⟨hbf, by omega⟩
    obtain ⟨u, hu, hm, hd, -⟩ := MbxAnswer.run (t := t) (b := fun c => c.mbx.busy && c.pw.fwRuns &&
      !(decide (1 ≤ c.reqField 0 1) && decide (c.reqField 0 1 ≤ 6))) (f := fun _ c => c.mbxBadOp) hb rfl hr
    obtain ⟨h0, -, h8, -⟩ := x.core.mbxBadOp.box_rsp
    refine ⟨u, hu, ?_⟩
    rw [hm]
    exact ⟨rfl, rfl, h8, h0, hd⟩
  · intro t x hb
    obtain ⟨u, hu, -, hc, -⟩ := State.run_ends t (fun _ c => c.mbxStart) x
    simp only [Core.mbxStart, hb, if_true] at hc
    exact ⟨u, hu, hc⟩
  · intro t x hb
    obtain ⟨u, hu, -, hc, -⟩ := State.run_ends t (fun now c => c.mbxAbort now false) x
    simp only [Core.mbxAbort, hb, Bool.not_true, Bool.false_eq_true, if_false, Core.under_mbxStop _ hb] at hc
    have hm := Core.of_under hc Core.mbx
    obtain ⟨h0, -⟩ := x.core.mbxResponse_rsp 2 0 0 []
    refine ⟨u, hu, ?_⟩
    rw [hm]
    exact ⟨rfl, rfl, rfl, rfl, h0, hc⟩
  · intro t late x hb
    obtain ⟨u, hu, -, hc, -⟩ := State.run_ends t (fun now c => c.mbxAbort now late) x
    simp only [Core.mbxAbort, hb, Bool.not_false, if_true] at hc
    exact ⟨u, hu, hc⟩
  · intro t x hb hr
    obtain ⟨u, hu, -, hc, -⟩ := State.run_ends t (fun now c => c.mbxAbort now true) x
    simp only [Core.mbxAbort, hb, Bool.not_true, Bool.false_eq_true, if_false, if_true] at hc
    obtain ⟨hm, hd, -⟩ :=
      MbxAnswer.stands (hc.trans (MbxAnswer.under_done (x.core.mbxCarry (x.at_ t)).late (x.at_ t) _ hr))
    refine ⟨u, hu, ?_⟩
    rw [hm]
    exact ⟨rfl, rfl, rfl, hd⟩
  · intro t v x
    obtain ⟨u, hu, -, hc, -⟩ := State.run_ends t (fun _ c => c.mbxClear v.toNat) x
    exact ⟨u, hu, hc⟩
  · rintro t idx sub x hr hf rfl rfl ho hl hd hcodes
    refine ⟨fun hat => ?_, fun hat hb => ?_⟩
    · have e := Core.mbxReadOp_whole (x.at_ t) hf ho hl hd hcodes
      obtain ⟨u, hu, hm, -⟩ := MbxAnswer.run (t := t) (b := fun c => c.mbxAt 1) (f := fun now c => c.mbxReadOp now) hat e
        ((Core.of_readRest (·.pw.resetDue) (Core.readRest_readBytes _ _ _ _)).trans hr)
      obtain ⟨h0, -, h8, hdata⟩ := MbxAnswer.box_rsp
        ⟨0, 0, (x.core.readBytes (x.at_ t) x.core.reqIdx x.core.reqSub).1,
          (x.core.readBytes (x.at_ t) x.core.reqIdx x.core.reqSub).2⟩
      refine ⟨u, hu, ?_⟩
      rw [hm]
      exact ⟨rfl, rfl, h0, h8, hdata⟩
    · have e := Core.mbxPendingOp_whole (x.at_ t) hf ho hl hb hcodes
      obtain ⟨u, hu, hm, -⟩ := MbxAnswer.run (t := t) (b := fun c => c.mbxAt 3) (f := fun now c => c.mbxPendingOp now) hat e
        hr
      obtain ⟨-, h1, h8, hdata⟩ := MbxAnswer.box_rsp ⟨0, 2 * b2n (x.core.pendingView x.core.reqIdx x.core.reqSub).2,
        leBytes (objBits x.core.reqIdx x.core.reqSub / 8) (x.core.pendingView x.core.reqIdx x.core.reqSub).1, x.core⟩
      have hfl := b2n_le_one (x.core.pendingView x.core.reqIdx x.core.reqSub).2
      refine ⟨u, hu, ?_⟩
      rw [hm]
      exact ⟨rfl, rfl, h8, h1.trans (Nat.mod_eq_of_lt (by dsimp only; omega)), hdata⟩
  · rintro t idx data c x - rfl ho hl hat h hr
    have e := Core.mbxReadAllOp_whole ho hl h
    obtain ⟨u, hu, hm, hd, -⟩ := MbxAnswer.run (t := t) (b := fun c => c.mbxAt 4) (f := fun now c => c.mbxReadAllOp now) hat e
      hr
    obtain ⟨-, -, h8, hdata⟩ := MbxAnswer.box_rsp ⟨0, 0, data, c⟩
    refine ⟨u, hu, ?_⟩
    rw [hm]
    exact ⟨rfl, rfl, h8, hdata, hd⟩
  · rintro t idx sub x hr rfl rfl ho hx h1 h2 h3 h4 hb hw hat hz
    have e := Core.mbxWriteOp_one (x.at_ t) hx ho fun r => rowOf_pipeline_no_dom h1 h2
    obtain ⟨hrow, -, e'⟩ := Core.writeOne_zero (by omega) (by omega) (by omega) hz
    rw [Core.storageWrite_ok hw, Core.ownEffect_store _ _ _ _ _ h1 h2 h3 h4 hb] at e'
    rw [e'] at e
    obtain ⟨r, hrow⟩ := Option.isSome_iff_exists.mp hrow
    obtain ⟨u, hu, hm, hd, -⟩ := MbxAnswer.run (t := t) (b := fun c => c.mbxAt 2) (f := fun now c => c.mbxWriteOp now) hat e
      ((x.core.store_resetDue _ _ _).trans hr)
    rw [Core.store_dict] at hd
    obtain ⟨-, -, h8, -⟩ := MbxAnswer.box_rsp ⟨0, 0, [],
      x.core.store x.core.reqIdx x.core.reqSub (writeValue x.core.reqIdx x.core.reqSub x.core.reqData)⟩
    refine ⟨u, hu, ?_⟩
    rw [hm]
    exact ⟨rfl, rfl, h8, (congrArg (fun d => sget dfltOf d (key x.core.reqIdx x.core.reqSub)) hd).trans
      (Core.obj_put_self _ _ _ _), Core.keeps_put (rowOf_sub_lt hrow) hd⟩
  · rintro t idx c x rfl ho hx hat h hr
    have e := Core.mbxWriteAllOp_whole (x.at_ t) hx ho
    rw [h] at e
    obtain ⟨u, hu, hm, hd, -, -, hbanks⟩ := MbxAnswer.run (t := t) (b := fun c => c.mbxAt 5) (f := fun now c => c.mbxWriteAllOp now) hat e
      hr
    obtain ⟨-, -, h8, -⟩ := MbxAnswer.box_rsp ⟨0, 0, [], c⟩
    refine ⟨u, hu, ?_⟩
    rw [hm]
    exact ⟨rfl, rfl, h8, hd, hbanks⟩
  · rintro t idx x hr rfl ho hl hat ha ht
    obtain ⟨fl, e⟩ := Core.mbxDescribeOp_whole ho hl ha ht
    obtain ⟨u, hu, hm, hd, -⟩ := MbxAnswer.run (t := t) (b := fun c => c.mbxAt 6) (f := fun _ c => c.mbxDescribeOp) hat e
      hr
    obtain ⟨-, -, h8, hdata⟩ := MbxAnswer.box_rsp ⟨0, fl, (objectDesc x.core.reqIdx ++
      (if isSimple x.core.reqIdx then [0] else recordSubs x.core.reqIdx).flatMap
        (fun k => entryDesc x.core.reqIdx k)).take 4080, x.core⟩
    refine ⟨u, hu, ?_⟩
    rw [hm]
    exact ⟨rfl, rfl, h8, hd, hdata⟩

end Sys2Proof.Machine
end

section
namespace Sys2Proof.Machine

/-! ### THERMAL_SHUTDOWN issued once, and its event gone -/

/-- STANDBY at 105.00 °C with THERMAL_SHUTDOWN already issued in this excursion, and its event no longer active. -/
def shutdownIssued : State :=
  { State.reset with core :=
      ({ mode := .standby, pw := { fwRuns := true, hot := true } } : Core).put 0x3330 17 10500 }

/-- It is issued once until Tj falls below 105 °C (16 R464), so no event becomes active. -/
theorem shutdownIssued_thermalShutdown :
    (shutdownIssued.core.thermalShutdown (shutdownIssued.at_ 1)).active 0x4230 0 = false := by decide +kernel

/-- Refutes O23: at Tj 105 °C or above, sensed, its event not active, THERMAL_SHUTDOWN need not become active where it
was issued before in the same excursion (`shutdownIssued`). -/
theorem not_modeEntered : ¬ Obligations.ModeEntered := by
  unfold Obligations.ModeEntered
  intro h
  obtain ⟨u, hu, -, hon, -⟩ := h.2.2 1 shutdownIssued (by decide +kernel) (by decide +kernel) (by decide +kernel)
    (by decide +kernel) (by decide +kernel) rfl
  obtain ⟨v, hv, -, hc, -⟩ := State.run_ends (t := 1) (s := shutdownIssued)
    (f := fun now c => c.thermalShutdown now)
  obtain rfl : u = v := Host.Outcome.next.inj (hu.symm.trans hv)
  rw [Core.of_under hc (Core.active · 0x4230 0), shutdownIssued_thermalShutdown] at hon
  cases hon

end Sys2Proof.Machine
end

section
namespace Sys2Proof.Machine

/-! ### What most operations leave alone -/

/-- Which of the sequencer, the on-die words and the parameter banks are looked at besides. -/
structure Kept where
  mot   : Bool
  sram  : Bool
  banks : Bool

/-- Owners, mode, transition, job, domain objects, mailbox, two-wire target, reference buffers, SYNC1 and the states of
the host links; and what `w` names. -/
def Core.heldBy (w : Kept) (c : Core) : Core :=
  { owners := c.owners, mode := c.mode, trans := c.trans, job := c.job, doms := c.doms, mbx := c.mbx, tw := c.tw,
    refs := c.refs, ec := { sync1On := c.ec.sync1On, waitSync1 := c.ec.waitSync1 },
    cxl := { hostUp := c.cxl.hostUp, dlUp := c.cxl.dlUp }, mot := if w.mot then c.mot else {},
    sram := if w.sram then c.sram else {}, banks := if w.banks then c.banks else [] }

theorem Core.of_heldBy {α : Type} {w : Kept} (f : Core → α) {c d : Core} (h : d.heldBy w = c.heldBy w)
    (hf : ∀ c : Core, f (c.heldBy w) = f c := by intros; rfl) : f d = f c := by rw [← hf d, h, hf c]

theorem Core.Logged.heldBy {c d : Core} (h : c.Logged d) (w : Kept) : d.heldBy w = c.heldBy w := by
  simp only [Core.heldBy, h.same Core.owners, h.same Core.mode, h.same Core.trans, h.same Core.job, h.same Core.doms,
    h.same Core.mbx, h.same Core.tw, h.same Core.refs, h.ecSame Ecat.sync1On, h.ecSame Ecat.waitSync1,
    h.cxlSame Cxl.hostUp, h.cxlSame Cxl.dlUp, h.same Core.mot, h.same Core.sram, h.same Core.banks]

/-- What a read leaves, on-die words apart. -/
theorem Core.heldBy_of_readRest {w : Kept} (hw : w.sram = false) {c d : Core} (h : d.readRest = c.readRest) :
    d.heldBy w = c.heldBy w := by
  have hf : ∀ c : Core, c.readRest.heldBy w = c.heldBy w := by
    intro c
    simp only [Core.heldBy, hw]
    rfl
  rw [← hf d, h, hf c]

/-! The frames that hold by definition are proved by `(rfl)`, so that `simp` may use them under the hypothesis of
`Core.heldBy_when_of`. -/

section
variable {w : Kept}

@[simp] theorem Core.heldBy_put (i s v : Nat) (c : Core) : (c.put i s v).heldBy w = c.heldBy w := (rfl)
@[simp] theorem Core.heldBy_emit (o : Out) (c : Core) : (c.emit o).heldBy w = c.heldBy w := (rfl)
@[simp] theorem Core.heldBy_fresh (c : Core) : c.fresh.2.heldBy w = c.heldBy w := (rfl)
@[simp] theorem Core.heldBy_mapEv (f : Ev → Ev) (c : Core) : (c.mapEv f).heldBy w = c.heldBy w := (rfl)
@[simp] theorem Core.heldBy_mapPw (f : Power → Power) (c : Core) : (c.mapPw f).heldBy w = c.heldBy w := (rfl)
@[simp] theorem Core.heldBy_mapNv (f : Nv → Nv) (c : Core) : (c.mapNv f).heldBy w = c.heldBy w := (rfl)
@[simp] theorem Core.heldBy_mapCtx (f : Ctx → Ctx) (c : Core) : (c.mapCtx f).heldBy w = c.heldBy w := (rfl)
@[simp] theorem Core.heldBy_mapPipe (f : Pipe → Pipe) (c : Core) : (c.mapPipe f).heldBy w = c.heldBy w := (rfl)
@[simp] theorem Core.heldBy_mapEng (f : Eng → Eng) (c : Core) : (c.mapEng f).heldBy w = c.heldBy w := (rfl)
@[simp] theorem Core.heldBy_mapTk (f : Tinker → Tinker) (c : Core) : (c.mapTk f).heldBy w = c.heldBy w := (rfl)
@[simp] theorem Core.heldBy_mapClk (f : Clk → Clk) (c : Core) : (c.mapClk f).heldBy w = c.heldBy w := (rfl)
@[simp] theorem Core.heldBy_mapDram (f : Dram → Dram) (c : Core) : (c.mapDram f).heldBy w = c.heldBy w := (rfl)
@[simp] theorem Core.heldBy_mapLink (n : Nat) (f : Link → Link) (c : Core) : (c.mapLink n f).heldBy w = c.heldBy w := (rfl)
@[simp] theorem Core.heldBy_mapWalk (n : Nat) (f : ConvWalk → ConvWalk) (c : Core) :
    (c.mapWalk n f).heldBy w = c.heldBy w := (rfl)
@[simp] theorem Core.heldBy_mapRing (n : Nat) (f : Ring → Ring) (c : Core) : (c.mapRing n f).heldBy w = c.heldBy w := (rfl)
@[simp] theorem Core.heldBy_mapEc (f : Ecat → Ecat) (c : Core) (h1 : (f c.ec).sync1On = c.ec.sync1On)
    (h2 : (f c.ec).waitSync1 = c.ec.waitSync1) : (c.mapEc f).heldBy w = c.heldBy w := by
  simp only [Core.heldBy, Core.mapEc, h1, h2]
theorem Core.heldBy_mapMot (hw : w.mot = false) (f : Motion → Motion) (c : Core) :
    (c.mapMot f).heldBy w = c.heldBy w := by simp [Core.heldBy, Core.mapMot, hw]
theorem Core.heldBy_mapSram (hw : w.sram = false) (f : Sram → Sram) (c : Core) :
    (c.mapSram f).heldBy w = c.heldBy w := by simp [Core.heldBy, Core.mapSram, hw]
theorem Core.heldBy_mapBank (hw : w.banks = false) (b : Nat) (f : Bank → Bank) (c : Core) :
    (c.mapBank b f).heldBy w = c.heldBy w := by simp [Core.heldBy, Core.mapBank, hw]

theorem Core.heldBy_when (b : Bool) (f : Core → Core) (c : Core) (h : (f c).heldBy w = c.heldBy w) :
    (c.when b f).heldBy w = c.heldBy w :=
  Core.when_of (P := fun d => d.heldBy w = c.heldBy w) b f c rfl h
@[simp] theorem Core.heldBy_when_of (b : Bool) (f : Core → Core) (h : ∀ c, (f c).heldBy w = c.heldBy w) (c : Core) :
    (c.when b f).heldBy w = c.heldBy w := c.heldBy_when b f (h c)
@[simp] theorem Core.heldBy_bumpBy (i s n : Nat) (c : Core) : (c.bumpBy i s n).heldBy w = c.heldBy w := by
  unfold Core.bumpBy
  dsimp only
  split <;> rfl
@[simp] theorem Core.heldBy_bump (i s : Nat) (c : Core) : (c.bump i s).heldBy w = c.heldBy w := c.heldBy_bumpBy i s 1
@[simp] theorem Core.heldBy_raiseTo (i s v : Nat) (c : Core) : (c.raiseTo i s v).heldBy w = c.heldBy w := by
  unfold Core.raiseTo
  split <;> rfl
@[simp] theorem Core.heldBy_unput (i s : Nat) (c : Core) : (c.unput i s).heldBy w = c.heldBy w := (rfl)
@[simp] theorem Core.heldBy_unputs (i : Nat) (l : List Nat) (c : Core) : (c.unputs i l).heldBy w = c.heldBy w :=
  foldl_leaves _ (fun c s => c.heldBy_unput i s) l c
@[simp] theorem Core.heldBy_store (i s v : Nat) (c : Core) : (c.store i s v).heldBy w = c.heldBy w := by
  rw [Core.store_eq]
  rfl
@[simp] theorem Core.heldBy_journal (i s v : Nat) (l : List Byte) (c : Core) :
    (c.journal i s v l).heldBy w = c.heldBy w := (rfl)
@[simp] theorem Core.heldBy_bumpKept (i s : Nat) (c : Core) : (c.bumpKept i s).heldBy w = c.heldBy w :=
  (Core.heldBy_journal i s _ [] _).trans (c.heldBy_bump i s)

@[simp] theorem Core.heldBy_msix (v : Nat) (c : Core) : (c.msix v).heldBy w = c.heldBy w := (Core.Logged.msix _).heldBy w
@[simp] theorem Core.heldBy_summary (b : Nat) (c : Core) : (c.summary b).heldBy w = c.heldBy w :=
  (Core.Logged.summary _).heldBy w
@[simp] theorem Core.heldBy_writeback (now i : Nat) (c : Core) : (c.writeback now i).heldBy w = c.heldBy w :=
  (Core.Logged.writeback _ _).heldBy w
@[simp] theorem Core.heldBy_issue (now i : Nat) (e : List Byte) (c : Core) : (c.issue now i e).heldBy w = c.heldBy w := by
  unfold Core.issue
  split
  · unfold Core.produce
    dsimp only
    rw [Core.heldBy_writeback]
    split <;> rfl
  · exact (Core.Logged.hold _ _).heldBy w
@[simp] theorem Core.heldBy_payloadWait (c : Core) : c.payloadWait.heldBy w = c.heldBy w := by simp [Core.payloadWait]
@[simp] theorem Core.heldBy_eventRaw (now code dc seg unit : Nat) (data : List Byte) (c : Core) :
    (c.eventRaw now code dc seg unit data).heldBy w = c.heldBy w := (Core.Logged.eventRaw _ _ _ _ _ _).heldBy w
@[simp] theorem Core.heldBy_event (now code seg : Nat) (tail : List Byte) (c : Core) :
    (c.event now code seg tail).heldBy w = c.heldBy w := (Core.Logged.event _ _ _ _).heldBy w
@[simp] theorem Core.heldBy_condOn (now code seg unit : Nat) (tail : List Byte) (c : Core) :
    (c.condOn now code seg unit tail).heldBy w = c.heldBy w := (Core.Logged.condOn _ _ _ _ _).heldBy w
@[simp] theorem Core.heldBy_condOff (code unit : Nat) (c : Core) : (c.condOff code unit).heldBy w = c.heldBy w :=
  (Core.Logged.condOff _ _).heldBy w
@[simp] theorem Core.heldBy_controlIgnored (now bit k : Nat) (c : Core) :
    (c.controlIgnored now bit k).heldBy w = c.heldBy w := c.heldBy_event _ _ _ _
@[simp] theorem Core.heldBy_lossReports (now : Nat) (c : Core) : (c.lossReports now).heldBy w = c.heldBy w := by
  unfold Core.lossReports
  extract_lets a ready b
  have ha : a.heldBy w = c.heldBy w := by
    unfold a
    split
    · split <;> simp
    · rfl
  have hb : b.heldBy w = c.heldBy w := by
    unfold b
    rw [foldl_leaves (Core.heldBy w) fun c p => by simp, ha]
  split
  · simpa using hb
  · exact hb

/-! ### On-die words read and written -/

theorem Core.heldBy_sramLook (hw : w.sram = false) (now a : Nat) (o : WordOutcome) (c : Core) :
    (c.sramLook now a o).2.heldBy w = c.heldBy w := Core.heldBy_of_readRest hw (c.readRest_sramLook now a o)
theorem Core.heldBy_sramFind (hw : w.sram = false) (now : Nat) (p : Nat → Bool) (c : Core) :
    (c.sramFind now p).heldBy w = c.heldBy w :=
  foldl_leaves (Core.heldBy w) (fun c a => c.heldBy_sramLook hw now a .clean) _ c
theorem Core.heldBy_sramUse (hw : w.sram = false) (now : Nat) (p : Nat → Bool) (c : Core) :
    (c.sramUse now p).heldBy w = c.heldBy w :=
  (Core.heldBy_sramFind hw now p _).trans (foldl_leaves (Core.heldBy w) (fun c _ => c.heldBy_event _ _ _ _) _ c)
theorem Core.heldBy_tkSync (hw : w.sram = false) (now : Nat) (c : Core) : (c.tkSync now).heldBy w = c.heldBy w :=
  Core.heldBy_of_readRest hw (c.readRest_tkSync now)
theorem Core.heldBy_wordsWritten (hw : w.sram = false) (p : Nat → Bool) (c : Core) :
    (c.wordsWritten p).heldBy w = c.heldBy w := by
  unfold Core.wordsWritten
  extract_lets d
  have hd : d.heldBy w = c.heldBy w := by simp [d, Core.poisonCount, Core.heldBy_mapSram hw]
  split
  · simpa [Core.heldBy_mapSram hw] using hd
  · exact hd

end

end Sys2Proof.Machine
end

section
namespace Sys2Proof.Machine

section
variable {w : Kept}

/-! ### Alarms -/

@[simp] theorem Core.heldBy_busSend (ch kind reason num : Nat) (targets : BitVec 16) (c : Core) :
    (c.busSend ch kind reason num targets).heldBy w = c.heldBy w := by simp [Core.busSend]
@[simp] theorem Core.heldBy_takeNumber (ch : Nat) (c : Core) : (c.takeNumber ch).2.heldBy w = c.heldBy w := (rfl)
@[simp] theorem Core.heldBy_confirmed (ch : Nat) (c : Core) : (c.confirmed ch).heldBy w = c.heldBy w := by
  simp [Core.confirmed]
@[simp] theorem Core.heldBy_outcome (a : OpenAlarm) (o : Outcome) (c : Core) :
    (c.outcome a o).heldBy w = c.heldBy w := by
  unfold Core.outcome
  cases o <;> simp
@[simp] theorem Core.heldBy_alarmsDue (now : Nat) (c : Core) : (c.alarmsDue now).heldBy w = c.heldBy w := by
  unfold Core.alarmsDue
  split
  · rfl
  · exact foldl_leaves (Core.heldBy w) (fun c ch =>
      foldl_leaves (Core.heldBy w) (fun c a => c.heldBy_outcome a _) _ c) _ c
@[simp] theorem Core.heldBy_alarmsIssue (c : Core) : c.alarmsIssue.heldBy w = c.heldBy w := by
  unfold Core.alarmsIssue
  refine foldl_leaves (fun r : List Nat × Core => r.2.heldBy w) (fun r a => ?_) _ _
  split
  · rfl
  · split
    · exact Core.heldBy_outcome _ _ _
    · rfl
@[simp] theorem Core.heldBy_heldIssue (c : Core) : c.heldIssue.heldBy w = c.heldBy w :=
  foldl_leaves (Core.heldBy w) (fun c _ => c.heldBy_when _ _ (c.heldBy_confirmed _)) _ _
@[simp] theorem Core.heldBy_alarmsFollow (now : Nat) (c : Core) : (c.alarmsFollow now).heldBy w = c.heldBy w := by
  unfold Core.alarmsFollow
  split
  · rfl
  · simp

/-! ### Output streams -/

@[simp] theorem Core.heldBy_notStarted (k n : Nat) (c : Core) : (c.notStarted k n).heldBy w = c.heldBy w := by
  simp [Core.notStarted]
@[simp] theorem Core.heldBy_takeSeq (k n r : Nat) (c : Core) : (c.takeSeq k n r).heldBy w = c.heldBy w := (rfl)
@[simp] theorem Core.heldBy_issueFdr (now : Nat) (e : List Byte) (c : Core) : (c.issueFdr now e).heldBy w = c.heldBy w :=
  c.heldBy_issue now 3 _
@[simp] theorem Core.heldBy_hostCarries (k : Nat) (c : Core) : (c.hostCarries k).2.heldBy w = c.heldBy w := by
  unfold Core.hostCarries
  dsimp only
  split
  · rfl
  · split <;> rfl
theorem Core.heldBy_payTake {i n off : Nat} {c d : Core} (h : c.payTake i n = some (off, d)) :
    d.heldBy w = c.heldBy w := by
  unfold Core.payTake at h
  extract_lets r sz k pos skip at h
  obtain ⟨-, h⟩ := (Option.ite_none_right_eq_some).1 h
  simp only [Option.some.injEq, Prod.mk.injEq] at h
  rw [← h.2]
  rfl
@[simp] theorem Core.heldBy_payWrite (now i off : Nat) (l : List Byte) (c : Core) :
    (c.payWrite now i off l).heldBy w = c.heldBy w := by simp [Core.payWrite]
@[simp] theorem Core.heldBy_issueBlock (now n run fl : Nat) (mk : Nat → Nat → List Byte) (b : List Byte) (c : Core) :
    (c.issueBlock now n run fl mk b).heldBy w = c.heldBy w := by
  unfold Core.issueBlock
  split
  · simp
  · dsimp only
    split <;> simp
theorem Core.heldBy_arrayBlock (hw : w.sram = false) (now n : Nat) (c : Core) :
    (c.arrayBlock now n).heldBy w = c.heldBy w := by
  unfold Core.arrayBlock
  split
  · rfl
  · dsimp only
    rw [Core.heldBy_issueBlock, Core.heldBy_mapCtx, Core.heldBy_sramUse hw]
theorem Core.heldBy_tile (hw : w.sram = false) (now ctx f : Nat) (ls : List LineRec)
    (rows : List (Gen × List (List Pix))) (tx : Nat) (c : Core) :
    (c.tile now ctx f ls rows tx).heldBy w = c.heldBy w := by
  unfold Core.tile
  split
  · simp
  · extract_lets first last seq d bad link e r st len desc out
    have he : e.heldBy w = c.heldBy w := by simp [e, link, d, Core.heldBy_sramUse hw]
    have ho : out.heldBy w = c.heldBy w := by
      unfold out
      rcases hr : r with _ | ⟨off, c'⟩
      · simp [he]
      · have hr' : e.payTake 8 196608 = some (off, c') := by
          unfold r at hr
          split at hr
          · cases hr
          · exact hr
        simp [Core.heldBy_payTake hr', he]
    simpa using ho
theorem Core.heldBy_displayRow (hw : w.sram = false) (now : Nat) (c : Core) :
    (c.displayRow now).heldBy w = c.heldBy w := by
  unfold Core.displayRow
  split
  · rfl
  · exact (foldl_leaves (Core.heldBy w) (fun c tx => c.heldBy_tile hw _ _ _ _ _ _) _ _).trans (Core.heldBy_mapCtx _ _)
@[simp] theorem Core.heldBy_stagingFill (c : Core) : c.stagingFill.heldBy w = c.heldBy w := (rfl)
@[simp] theorem Core.heldBy_archiveDrain (now f : Nat) (c : Core) : (c.archiveDrain now f).heldBy w = c.heldBy w := by
  induction f generalizing c with
  | zero => rfl
  | succ f ih =>
    unfold Core.archiveDrain
    split
    · rfl
    next p l _ =>
      split
      · rfl
      · dsimp only
        split
        · simp [ih]
        · split
          · simp
          next off c' hr =>
            have hr' : (c.hostCarries 3).2.payTake 9 p.bytes.length = some (off, c') := by
              split at hr
              · exact hr
              · cases hr
            simp [ih, Core.heldBy_payTake hr']
@[simp] theorem Core.heldBy_drainArchive (now : Nat) (c : Core) : (c.drainArchive now).heldBy w = c.heldBy w :=
  c.heldBy_archiveDrain _ _
@[simp] theorem Core.heldBy_archivePicture (now : Nat) (c : Core) : (c.archivePicture now).heldBy w = c.heldBy w := by
  unfold Core.archivePicture
  split <;> simp
@[simp] theorem Core.heldBy_mvDone (now ctx n : Nat) (f : MvFrame) (c : Core) :
    (c.mvDone now ctx n f).heldBy w = c.heldBy w := by simp [Core.mvDone]
theorem Core.heldBy_mvTake (hw : w.sram = false) (now ctx : Nat) (l : LineRec) (c : Core) :
    (c.mvTake now ctx l).heldBy w = c.heldBy w := by
  unfold Core.mvTake
  split
  · rfl
  · extract_lets link d f' ok e f'' g
    have hd : d.heldBy w = c.heldBy w := by simp [d, link, Core.heldBy_sramUse hw]
    have he : e.heldBy w = c.heldBy w := by
      unfold e
      split
      · simp [hd]
      · exact hd
    have hg : g.heldBy w = c.heldBy w := by simp [g, he]
    split <;> simp [hg]
theorem Core.heldBy_mvFeed (hw : w.sram = false) (now ctx k : Nat) (c : Core) :
    (c.mvFeed now ctx k).heldBy w = c.heldBy w := by
  induction k generalizing c with
  | zero => rfl
  | succ k ih =>
    unfold Core.mvFeed
    split
    · rw [ih, Core.heldBy_mvTake hw]
      rfl
    · rfl
theorem Core.heldBy_mvStart (hw : w.sram = false) (now ctx : Nat) (c : Core) :
    (c.mvStart now ctx).heldBy w = c.heldBy w := by
  unfold Core.mvStart
  split
  · dsimp only
    split
    · simp [Core.mvDrop]
    · rw [Core.heldBy_mvFeed hw, Core.heldBy_mapCtx]
      split
      next hr => exact Core.heldBy_payTake hr
      next => simp
  · rfl
/-- What the last job's streams send leaves the sequencer, the mode and the job. -/
theorem Core.heldBy_streamsEnd (hw : w.sram = false) (now : Nat) (c : Core) :
    (c.streamsEnd now).heldBy w = c.heldBy w := by
  unfold Core.streamsEnd
  extract_lets a b d e
  have ha : a.heldBy w = c.heldBy w := foldl_leaves (Core.heldBy w) (fun c d => c.heldBy_arrayBlock hw now _) _ _
  have hb : b.heldBy w = a.heldBy w := foldl_leaves (Core.heldBy w) (fun c _ => c.heldBy_displayRow hw now) _ _
  have hd : d.heldBy w = b.heldBy w := foldl_leaves (Core.heldBy w) (fun c _ => c.heldBy_archivePicture now) _ _
  have he : e.heldBy w = d.heldBy w := foldl_leaves (Core.heldBy w) (fun c x =>
    foldl_leaves (Core.heldBy w) (fun c _ => c.heldBy_mvStart hw now x) _ c) _ _
  simp [ha, hb, hd, he]

/-! ### Lines -/

@[simp] theorem Core.heldBy_summaryLine (now : Nat) (l : LineRec) (c : Core) :
    (c.summaryLine now l).heldBy w = c.heldBy w := by
  unfold Core.summaryLine
  dsimp only
  split
  · rfl
  · split <;> simp
@[simp] theorem Core.heldBy_statLine (now : Nat) (l : LineRec) (c : Core) :
    (c.statLine now l).heldBy w = c.heldBy w := by
  unfold Core.statLine
  split
  · rfl
  · dsimp only
    split <;> simp
@[simp] theorem Core.heldBy_archLine (l : LineRec) (c : Core) : (c.archLine l).heldBy w = c.heldBy w := by
  unfold Core.archLine
  repeat' split
  all_goals simp
theorem Core.heldBy_mvBranch (hw : w.sram = false) (now : Nat) (l : LineRec) (c : Core) :
    (c.mvBranch now l).heldBy w = c.heldBy w := by
  unfold Core.mvBranch
  split
  · rfl
  · split
    · exact c.heldBy_mvTake hw _ _ _
    · rfl
@[simp] theorem Core.heldBy_sheetDone (now : Nat) (l : LineRec) (c : Core) :
    (c.sheetDone now l).heldBy w = c.heldBy w := by
  unfold Core.sheetDone
  split
  · rfl
  · split
    · rfl
    · split <;> simp
theorem Core.heldBy_outLine (hw : w.sram = false) (now : Nat) (l : LineRec) (c : Core) :
    (c.outLine now l).heldBy w = c.heldBy w := by
  unfold Core.outLine
  extract_lets a b d e f
  have ha : a.heldBy w = c.heldBy w := by simp [a]
  have hf : f.heldBy w = a.heldBy w := by
    unfold f
    rw [Core.heldBy_when _ _ _ (Core.heldBy_mapCtx _ _)]
    simp [e, d, b]
  simp [Core.heldBy_mvBranch hw, hf, ha]
theorem Core.heldBy_outLines (hw : w.sram = false) (now : Nat) (ls : List LineRec) (c : Core) :
    (ls.foldl (fun c l => c.outLine now l) c).heldBy w = c.heldBy w :=
  foldl_leaves (Core.heldBy w) (fun c l => c.heldBy_outLine hw now l) ls c
theorem Core.heldBy_lineReads (hw : w.sram = false) (now n : Nat) (c : Core) :
    (c.lineReads now n).heldBy w = c.heldBy w := by
  simp [Core.lineReads, Core.heldBy_sramFind hw, Core.heldBy_sramUse hw]
theorem Core.heldBy_lineResolved (hw : w.sram = false) (now : Nat) (c : Core) :
    (c.lineResolved now).heldBy w = c.heldBy w := by
  unfold Core.lineResolved
  dsimp only
  split
  · rfl
  · simp [Core.heldBy_outLines hw, Core.heldBy_lineReads hw]
theorem Core.heldBy_resolveAll (hw : w.sram = false) (now f : Nat) (c : Core) :
    (c.resolveAll now f).heldBy w = c.heldBy w := by
  induction f generalizing c with
  | zero => rfl
  | succ f ih => exact (ih _).trans (c.heldBy_lineResolved hw now)
@[simp] theorem Core.heldBy_dcOf (x n : Nat) (c : Core) : (c.dcOf x n).2.heldBy w = c.heldBy w := by
  unfold Core.dcOf
  split <;> rfl
@[simp] theorem Core.heldBy_dcsOf (n : Nat) (c : Core) : (c.dcsOf n).2.heldBy w = c.heldBy w :=
  foldl_leaves (fun r : List (Nat × Nat) × Core => r.2.heldBy w) (fun r x => r.2.heldBy_dcOf x n) _ _
theorem Core.heldBy_blindLine (hw : w.sram = false) (now : Nat) (c : Core) :
    (c.blindLine now).heldBy w = c.heldBy w := by
  unfold Core.blindLine
  dsimp only
  split
  · rfl
  · simp [Core.heldBy_outLines hw]
theorem Core.heldBy_blindLines (hw : w.sram = false) (now f : Nat) (c : Core) :
    (c.blindLines now f).heldBy w = c.heldBy w := by
  induction f generalizing c with
  | zero => rfl
  | succ f ih => exact (ih _).trans (c.heldBy_blindLine hw now)

/-- Once the exposures are released, the flush of a job's lines leaves the sequencer and the job. -/
theorem Core.heldBy_flushLines (hw : w.sram = false) (now : Nat) (c : Core) :
    (c.flushLines now).heldBy w = c.releaseAll.heldBy w := by
  unfold Core.flushLines
  dsimp only
  split
  · rw [Core.heldBy_alarmsFollow, Core.heldBy_blindLines hw, Core.heldBy_resolveAll hw]
  · rw [Core.heldBy_alarmsFollow, Core.heldBy_resolveAll hw]

/-! ### Exposures -/

theorem Core.heldBy_coastExpo (hm : w.mot = false) (st : RowState) (x : Expo) (c : Core) :
    (c.coastExpo st x).heldBy w = c.heldBy w := by
  simp [Core.coastExpo, Core.settleExpo, Core.mapExpo, Core.heldBy_mapMot hm]
theorem Core.heldBy_releaseAll (hm : w.mot = false) (c : Core) : c.releaseAll.heldBy w = c.heldBy w :=
  foldl_leaves (Core.heldBy w) (fun c x => c.heldBy_coastExpo hm .released x) _ c
theorem Core.heldBy_markCoasted (hm : w.mot = false) (now : Nat) (c : Core) :
    (c.markCoasted now).heldBy w = c.heldBy w := by
  unfold Core.markCoasted
  split
  · rfl
  · exact foldl_leaves (Core.heldBy w) (fun c x => c.heldBy_coastExpo hm _ x) _ c

end

end Sys2Proof.Machine
end

section
namespace Sys2Proof.Machine

section
variable {w : Kept}

/-! ### Writes of an object's word, and commands -/

theorem Core.heldBy_storageWrite (hw : w.sram = false) (now i s n : Nat) (c : Core) :
    (c.storageWrite now i s n).2.heldBy w = c.heldBy w := by
  unfold Core.storageWrite
  split
  · split
    · rfl
    · split
      · exact c.heldBy_wordsWritten hw _
      · split
        · simp [Core.busLogged]
        · split
          · rfl
          all_goals
            rw [Core.heldBy_bump]
            exact Core.heldBy_of_readRest hw (by simp)
  · rfl

/-- A command of an object leaves what its effect leaves; its own word apart where that holds an error. -/
theorem Core.heldBy_command {i s : Nat} {c : Core} (hw : w.sram = true → c.wordOk i s = true) (now : Nat) (o : Orig)
    (n v : Nat) (own : List Nat) {eff : Core → Core} (he : ∀ c, (eff c).heldBy w = c.heldBy w) :
    (c.command now o i s n v own eff).heldBy w = c.heldBy w := by
  have hst : ∀ n, (c.storageWrite now i s n).2.heldBy w = c.heldBy w := fun n => by
    cases hs : w.sram
    · exact c.heldBy_storageWrite hs now i s n
    · rw [Core.storageWrite_ok (hw hs)]
  have hj : (c.judged now o i s (leBytes n v) own eff).2.heldBy w = c.heldBy w := by
    unfold Core.judged
    split
    · rfl
    · dsimp only
      split
      · exact (he _).trans (hst _)
      · exact hst _
  unfold Core.command Core.answered
  split
  · exact hj
  · exact (Core.heldBy_emit _ _).trans hj

/-! ### Segment links -/

@[simp] theorem Core.heldBy_links (l : List Link) (c : Core) : ({ c with links := l } : Core).heldBy w = c.heldBy w := (rfl)
@[simp] theorem Core.heldBy_walks (l : List ConvWalk) (c : Core) : ({ c with walks := l } : Core).heldBy w = c.heldBy w := (rfl)
@[simp] theorem Core.heldBy_walkRestart (q : Nat) (c : Core) : (c.walkRestart q).heldBy w = c.heldBy w := (rfl)
@[simp] theorem Core.heldBy_walksRestart (c : Core) : c.walksRestart.heldBy w = c.heldBy w :=
  foldl_leaves (Core.heldBy w) (fun c q => c.heldBy_walkRestart q) _ c
@[simp] theorem Core.heldBy_linkBlind (n : Nat) (c : Core) : (c.linkBlind n).heldBy w = c.heldBy w := by
  simp [Core.linkBlind]
@[simp] theorem Core.heldBy_linkFault (now n : Nat) (c : Core) : (c.linkFault now n).heldBy w = c.heldBy w := by
  simp [Core.linkFault]
@[simp] theorem Core.heldBy_bringUp (now n : Nat) (ls : List LaneResult) (c : Core) :
    (c.bringUp now n ls).heldBy w = c.heldBy w := by
  unfold Core.bringUp
  split
  · rfl
  · split
    · rfl
    · split
      · simp
      · rfl
@[simp] theorem Core.heldBy_segWalksRestart (n : Nat) (c : Core) : (c.segWalksRestart n).heldBy w = c.heldBy w := (rfl)
@[simp] theorem Core.heldBy_retrain (now n k : Nat) (c : Core) : (c.retrain now n k).heldBy w = c.heldBy w := by
  unfold Core.retrain
  split
  · rfl
  · simp
@[simp] theorem Core.heldBy_retrainLate (now n : Nat) (c : Core) : (c.retrainLate now n).heldBy w = c.heldBy w := by
  unfold Core.retrainLate
  dsimp only
  split
  · rfl
  · split <;> simp
@[simp] theorem Core.heldBy_countBip (now n l k : Nat) (c : Core) : (c.countBip now n l k).heldBy w = c.heldBy w := by
  simp [Core.countBip]
@[simp] theorem Core.heldBy_scanLane (n l h v : Nat) (c : Core) : (c.scanLane n l h v).heldBy w = c.heldBy w := by
  unfold Core.scanLane
  dsimp only
  split
  · rfl
  · simp
@[simp] theorem Core.heldBy_retireLane (now n l : Nat) (c : Core) : (c.retireLane now n l).heldBy w = c.heldBy w := by
  simp [Core.retireLane]
@[simp] theorem Core.heldBy_spareLane (now n l : Nat) (c : Core) : (c.spareLane now n l).heldBy w = c.heldBy w := by
  unfold Core.spareLane
  dsimp only
  split
  · rfl
  · split
    · split <;> simp
    · split
      · simp
      · split <;> simp
@[simp] theorem Core.heldBy_spareFailed (now n l : Nat) (lost : Bool) (c : Core) :
    (c.spareFailed now n l lost).heldBy w = c.heldBy w := by simp [Core.spareFailed, Core.lockLoss]
@[simp] theorem Core.heldBy_testCounts (now n : Nat) (c : Core) : (c.testCounts now n).heldBy w = c.heldBy w := by
  unfold Core.testCounts
  split
  · rfl
  · simp
@[simp] theorem Core.heldBy_testStop (now : Nat) (c : Core) : (c.testStop now).heldBy w = c.heldBy w := by
  unfold Core.testStop
  split
  · rfl
  · simp
@[simp] theorem Core.heldBy_linksStop (now : Nat) (c : Core) : (c.linksStop now).heldBy w = c.heldBy w :=
  (Core.heldBy_links _ _).trans (c.heldBy_testStop now)

/-! ### Temperatures, bands and throttling -/

@[simp] theorem Core.heldBy_tempSample (now n : Nat) (x : Int) (c : Core) :
    (c.tempSample now n x).heldBy w = c.heldBy w := by
  unfold Core.tempSample
  split
  · rfl
  · dsimp only
    split
    · rw [Core.heldBy_mapPw]
      split <;> simp
    · simp
@[simp] theorem Core.heldBy_statusTaken (now n : Nat) (x y : Int) (c : Core) :
    (c.statusTaken now n x y).heldBy w = c.heldBy w := by
  unfold Core.statusTaken
  split
  · rfl
  · simp
theorem Core.heldBy_darkCopy (hw : w.sram = false) (b : Nat) (c : Core) : (c.darkCopy b).heldBy w = c.heldBy w := by
  unfold Core.darkCopy
  dsimp only
  split
  · rfl
  · rw [Core.heldBy_wordsWritten hw, Core.heldBy_mapSram hw]
theorem Core.heldBy_bandSet (hw : w.sram = false) (now b : Nat) (c : Core) :
    (c.bandSet now b).heldBy w = c.heldBy w := by
  unfold Core.bandSet
  dsimp only
  split <;> simp [Core.heldBy_darkCopy hw]
theorem Core.heldBy_bandDecided (hw : w.sram = false) (now : Nat) (c : Core) :
    (c.bandDecided now).heldBy w = c.heldBy w := by
  unfold Core.bandDecided
  split
  · split
    · unfold Core.bandDecide
      dsimp only
      split <;> simp [Core.heldBy_darkCopy hw, Core.heldBy_bandSet hw]
    · rfl
  · rfl
@[simp] theorem Core.heldBy_throttleSet (now l : Nat) (c : Core) : (c.throttleSet now l).heldBy w = c.heldBy w := by
  unfold Core.throttleSet
  extract_lets down d e
  have he : e.heldBy w = c.heldBy w := by
    unfold e
    split <;> simp [d]
  simp [he]
@[simp] theorem Core.heldBy_throttleStep (now : Nat) (c : Core) : (c.throttleStep now).heldBy w = c.heldBy w := by
  unfold Core.throttleStep
  dsimp only
  split
  · rfl
  · split
    · simp
    · split
      · split <;> simp
      · rfl
@[simp] theorem Core.heldBy_replica (b m : Nat) (c : Core) : (c.replica b m).heldBy w = c.heldBy w := by
  unfold Core.replica
  dsimp only
  split
  · rfl
  · simp
@[simp] theorem Core.heldBy_holdup (now x y z : Nat) (c : Core) : (c.holdup now x y z).heldBy w = c.heldBy w := by
  unfold Core.holdup
  split
  · rfl
  · dsimp only
    split <;> simp

/-! ### The journal -/

@[simp] theorem Core.heldBy_flush (c : Core) : c.flush.heldBy w = c.heldBy w := (rfl)
@[simp] theorem Core.heldBy_compactStart (c : Core) : c.compactStart.heldBy w = c.heldBy w := (rfl)
@[simp] theorem Core.heldBy_compactDone (c : Core) : c.compactDone.heldBy w = c.heldBy w := by
  unfold Core.compactDone
  dsimp only
  split <;> simp [Core.mapRegion]

/-! ### DRAM upkeep -/

@[simp] theorem Core.heldBy_putRank (p st : Nat) (c : Core) : (c.putRank p st).heldBy w = c.heldBy w :=
  c.heldBy_store _ _ _
@[simp] theorem Core.heldBy_migStatus (k l : Nat) (c : Core) : (c.migStatus k l).heldBy w = c.heldBy w := (rfl)
@[simp] theorem Core.heldBy_migrate (now a b l : Nat) (c : Core) : (c.migrate now a b l).heldBy w = c.heldBy w := (rfl)
@[simp] theorem Core.heldBy_degrade (now p : Nat) (c : Core) : (c.degrade now p).heldBy w = c.heldBy w := by
  unfold Core.degrade
  split <;> simp
@[simp] theorem Core.heldBy_beginRetire (now : Nat) (r : Nat × Nat) (c : Core) :
    (c.beginRetire now r).heldBy w = c.heldBy w := by
  unfold Core.beginRetire
  split <;> simp
@[simp] theorem Core.heldBy_nextRetire (now k : Nat) (c : Core) : (Core.nextRetire now k c).heldBy w = c.heldBy w := by
  induction k generalizing c with
  | zero => rfl
  | succ k ih =>
    unfold Core.nextRetire
    split
    · simp [ih]
    · rfl
@[simp] theorem Core.heldBy_retirements (now : Nat) (c : Core) : (c.retirements now).heldBy w = c.heldBy w :=
  c.heldBy_nextRetire now _
@[simp] theorem Core.heldBy_retireRank (now p k : Nat) (c : Core) : (c.retireRank now p k).heldBy w = c.heldBy w := by
  unfold Core.retireRank
  split
  · simp
  · split
    · rfl
    · simp
@[simp] theorem Core.heldBy_countCheck (now p : Nat) (c : Core) : (c.countCheck now p).heldBy w = c.heldBy w := by
  simp [Core.countCheck]
@[simp] theorem Core.heldBy_correctable (now p n : Nat) (c : Core) : (c.correctable now p n).heldBy w = c.heldBy w := by
  unfold Core.correctable
  split <;> simp
@[simp] theorem Core.heldBy_refresh (now r n : Nat) (c : Core) : (c.refresh now r n).heldBy w = c.heldBy w := by
  simp [Core.refresh]
@[simp] theorem Core.heldBy_rowClose (now r b : Nat) (c : Core) : (c.rowClose now r b).heldBy w = c.heldBy w := (rfl)
@[simp] theorem Core.heldBy_measureDrift (d : List Int) (c : Core) : (c.measureDrift d).heldBy w = c.heldBy w := by
  refine c.heldBy_when _ _ ((Core.heldBy_mapDram _ _).trans (foldl_leaves (Core.heldBy w) (fun c p => ?_) _ c))
  unfold Core.laneDrift
  split <;> simp
@[simp] theorem Core.heldBy_mr4Rank (now : Nat) (p : Nat × Nat) (c : Core) : (c.mr4Rank now p).heldBy w = c.heldBy w := by
  simp [Core.mr4Rank]
@[simp] theorem Core.heldBy_mr4Ranks (now : Nat) (l : List (Nat × Nat)) (c : Core) :
    (l.foldl (Core.mr4Rank now) c).heldBy w = c.heldBy w :=
  foldl_leaves (Core.heldBy w) (fun c p => c.heldBy_mr4Rank now p) l c
@[simp] theorem Core.heldBy_windowRestart (now : Nat) (c : Core) : (c.windowRestart now).heldBy w = c.heldBy w := by
  unfold Core.windowRestart
  dsimp only
  split
  · rfl
  · exact (Core.heldBy_mapDram _ _).trans (foldl_leaves (Core.heldBy w) (fun c p => c.heldBy_countCheck now p) _ c)
@[simp] theorem Core.heldBy_migrationDone (now : Nat) (c : Core) : (c.migrationDone now).heldBy w = c.heldBy w := by
  unfold Core.migrationDone
  split
  · rfl
  · split <;> simp
@[simp] theorem Core.heldBy_migrationAbort (now : Nat) (c : Core) : (c.migrationAbort now).heldBy w = c.heldBy w := by
  unfold Core.migrationAbort
  split
  · simp
  · split <;> simp
@[simp] theorem Core.heldBy_rankCommand (now v : Nat) (c : Core) : (c.rankCommand now v).heldBy w = c.heldBy w := by
  unfold Core.rankCommand
  split <;> simp

/-! ### Clock synthesis -/

@[simp] theorem Core.heldBy_mapPll (p : Nat) (f : Pll → Pll) (c : Core) : (c.mapPll p f).heldBy w = c.heldBy w := (rfl)
@[simp] theorem Core.heldBy_relockFlag (c : Core) : c.relockFlag.heldBy w = c.heldBy w := (rfl)
@[simp] theorem Core.heldBy_relockOver (p : Nat) (c : Core) : (c.relockOver p).heldBy w = c.heldBy w := (rfl)
theorem Core.heldBy_holdPll (hm : w.mot = false) (now p : Nat) (c : Core) :
    (c.holdPll now p).heldBy w = c.heldBy w := by
  unfold Core.holdPll
  split
  · unfold Core.holdT
    split
    · rfl
    · simp [Core.heldBy_mapMot hm, Core.heldBy_releaseAll hm, Core.skipUnmade, Core.heldBy_markCoasted hm]
  · simp [Core.holdC]
@[simp] theorem Core.heldBy_coastEnds (now : Nat) (c : Core) : (c.coastEnds now).heldBy w = c.heldBy w := by
  unfold Core.coastEnds
  split <;> simp
theorem Core.heldBy_searchStart (hm : w.mot = false) (now p : Nat) (c : Core) :
    (c.searchStart now p).heldBy w = c.heldBy w := by simp [Core.searchStart, Core.heldBy_holdPll hm]
@[simp] theorem Core.heldBy_searchFails (now p : Nat) (c : Core) : (c.searchFails now p).heldBy w = c.heldBy w := by
  unfold Core.searchFails
  split <;> simp
@[simp] theorem Core.heldBy_pllWindow (now p : Nat) (x : Int) (ok : Bool) (c : Core) :
    (c.pllWindow now p x ok).heldBy w = c.heldBy w := by
  unfold Core.pllWindow
  dsimp only
  split
  · rfl
  · split
    · split <;> simp
    · split
      · split
        · split <;> simp
        · split
          · simp
          · split <;> simp
      · rfl
@[simp] theorem Core.heldBy_startC (now : Nat) (c : Core) : (c.startC now).heldBy w = c.heldBy w := by
  unfold Core.startC
  dsimp only
  split <;> rfl
@[simp] theorem Core.heldBy_outputStart (now p : Nat) (c : Core) : (c.outputStart now p).heldBy w = c.heldBy w := by
  unfold Core.outputStart
  dsimp only
  split <;> simp
@[simp] theorem Core.heldBy_outputRestart (now p : Nat) (c : Core) : (c.outputRestart now p).heldBy w = c.heldBy w := by
  simp [Core.outputRestart]
theorem Core.heldBy_pllUnlock (hm : w.mot = false) (now p : Nat) (c : Core) :
    (c.pllUnlock now p).heldBy w = c.heldBy w := by
  unfold Core.pllUnlock
  split
  · rfl
  · simp [Core.heldBy_searchStart hm]
@[simp] theorem Core.heldBy_ecatStops (now : Nat) (c : Core) : (c.ecatStops now).heldBy w = c.heldBy w := by
  simp [Core.ecatStops]
@[simp] theorem Core.heldBy_refinLost (now : Nat) (c : Core) : (c.refinLost now).heldBy w = c.heldBy w := by
  unfold Core.refinLost
  dsimp only
  split <;> simp
@[simp] theorem Core.heldBy_refPhase (now : Nat) (b : Bool) (c : Core) : (c.refPhase now b).heldBy w = c.heldBy w := (rfl)
@[simp] theorem Core.heldBy_outputsFollow (now : Nat) (c : Core) : (c.outputsFollow now).heldBy w = c.heldBy w := by
  unfold Core.outputsFollow
  split <;> rfl
theorem Core.heldBy_refinReturn (hm : w.mot = false) (now : Nat) (x e : Int) (c : Core) :
    (c.refinReturn now x e).heldBy w = c.heldBy w := by
  unfold Core.refinReturn
  split
  · rfl
  · split
    · rfl
    · split
      · simp
      · dsimp only
        rw [Core.heldBy_condOff, Core.heldBy_outputsFollow]
        refine (foldl_leaves (Core.heldBy w)
          (fun c p => c.heldBy_when _ _ (c.heldBy_searchStart hm now p)) _ _).trans ?_
        simp
@[simp] theorem Core.heldBy_slewDone (now p : Nat) (c : Core) : (c.slewDone now p).heldBy w = c.heldBy w := by
  simp [Core.slewDone]
theorem Core.heldBy_holdoverExpires (hm : w.mot = false) (now : Nat) (c : Core) :
    (c.holdoverExpires now).heldBy w = c.heldBy w := by
  unfold Core.holdoverExpires
  split
  · rfl
  · split
    · rfl
    · simp [Core.heldBy_holdPll hm]
@[simp] theorem Core.heldBy_fineStep (n : Nat) (c : Core) : (c.fineStep n).heldBy w = c.heldBy w := by
  unfold Core.fineStep
  dsimp only
  split <;> rfl
theorem Core.heldBy_advance (hm : w.mot = false) (c : Core) : c.advance.heldBy w = c.heldBy w := Core.heldBy_mapMot hm _ c
theorem Core.heldBy_skipTimed (hm : w.mot = false) (now k : Nat) (c : Core) :
    (c.skipTimed now k).heldBy w = c.heldBy w := by
  induction k generalizing c with
  | zero => rfl
  | succ k ih =>
    unfold Core.skipTimed
    extract_lets q base last d
    split
    · rfl
    · rw [ih, Core.heldBy_when _ _ _ (Core.heldBy_mapMot hm _ _), Core.heldBy_advance hm, Core.heldBy_mapMot hm]
@[simp] theorem Core.heldBy_dcLoad (a : Nat) (c : Core) : (c.dcLoad a).heldBy w = c.heldBy w := (rfl)
theorem Core.heldBy_tickResume (hm : w.mot = false) (hs : w.sram = false) (now : Nat) (c : Core) :
    (c.tickResume now).heldBy w = c.heldBy w := by
  unfold Core.tickResume
  split
  · rfl
  · extract_lets first d e f
    have he : e.heldBy w = c.heldBy w := by simp [e, d, Core.heldBy_tkSync hs]
    have hf : f.heldBy w = c.heldBy w := by
      unfold f
      split
      · rw [Core.heldBy_mapMot hm, Core.heldBy_skipTimed hm, he]
      · split <;> simp [Core.heldBy_mapMot hm, he]
    simp [hf]

end

end Sys2Proof.Machine
end

section
namespace Sys2Proof.Machine

/-! ### What the platform commands leave alone -/

theorem State.run_held {w : Kept} {t : Nat} {f : Nat → Core → Core} {s u : State} (h : State.run t f s = .next u)
    (hf : (f (s.at_ t) s.core).heldBy w = s.core.heldBy w) : u.core.heldBy w = s.core.heldBy w ∧ u.mem = s.mem := by
  obtain ⟨v, hv, hm, hc, -⟩ := State.run_ends t f s
  obtain rfl : u = v := Host.Outcome.next.inj (h.symm.trans hv)
  exact ⟨(Core.of_under hc (Core.heldBy w)).trans hf, hm⟩

/-- A platform command that uses no on-die word: it copies no band's tables, no tinker command waited for ticks, and its
own object's word holds no error. -/
def State.wordsLeftBy (s : State) (i : Instr) : Prop :=
  (∀ t, i ≠ .bandDecided t) ∧ (∀ t, i ≠ .pllTRestart t) ∧
    (∀ t o v, i = .retireLogicalRank t o v ∨ i = .migrationAbort t o → s.core.wordOk 0x2E45 1 = true) ∧
    (∀ t o k n l, i = .laneSpare t (some o) k n l → s.core.wordOk 0x3111 0 = true)

/-- Settles O57: each command's effect leaves what `Core.heldBy` names; on-die words are among it but for a copy of a
band's tables, tinker commands that waited, and the command's own word in error. -/
theorem platformFrame : Obligations.PlatformFrame := by
  unfold Obligations.PlatformFrame
  intro i s u h hi
  have key : ∀ w : Kept, w.mot = false → (w.sram = true → s.wordsLeftBy i) →
      u.core.heldBy w = s.core.heldBy w ∧ u.mem = s.mem := by
    intro w hm hs
    have noWords : ¬ s.wordsLeftBy i → w.sram = false := fun hn => by
      cases hw : w.sram with
      | false => rfl
      | true => exact absurd (hs hw) hn
    rcases hi with ⟨t, p, x, b, rfl⟩ | ⟨t, p, rfl⟩ | ⟨t, p, rfl⟩ | ⟨t, rfl⟩ | ⟨t, x, e, rfl⟩ | ⟨t, p, rfl⟩ | ⟨t, rfl⟩ |
      ⟨t, rfl⟩ | ⟨t, n, rfl⟩ | ⟨t, r, k, rfl⟩ | ⟨t, r, b, rfl⟩ | ⟨t, d, rfl⟩ | ⟨t, l, rfl⟩ | ⟨t, rfl⟩ | ⟨t, o, v, rfl⟩ |
      ⟨t, o, rfl⟩ | ⟨t, rfl⟩ | ⟨t, n, l, rfl⟩ | ⟨t, n, l, a, v, b, rfl⟩ | ⟨t, o, k, n, l, rfl⟩ | ⟨t, n, k, rfl⟩ |
      ⟨t, n, rfl⟩ | ⟨t, n, rfl⟩ | ⟨t, n, x, e, rfl⟩ | ⟨t, n, x, rfl⟩ | ⟨t, rfl⟩ | ⟨t, rfl⟩ | ⟨t, b, m, rfl⟩ |
      ⟨t, a, b, d, rfl⟩ | ⟨t, b, rfl⟩ | ⟨t, rfl⟩ | ⟨t, rfl⟩
    · exact State.run_held (f := fun now c => c.pllWindow now (b2n p) x b) h (by simp)
    · exact State.run_held (f := fun now c => c.outputRestart now (b2n p)) h (by simp)
    · exact State.run_held (f := fun now c => c.pllUnlock now (b2n p)) h (Core.heldBy_pllUnlock hm _ _ _)
    · exact State.run_held (f := fun now c => c.refinLost now) h (by simp)
    · exact State.run_held (f := fun now c => c.refinReturn now x e) h (Core.heldBy_refinReturn hm _ _ _ _)
    · exact State.run_held (f := fun now c => c.slewDone now (b2n p)) h (by simp)
    · exact State.run_held (f := fun now c => c.holdoverExpires now) h (Core.heldBy_holdoverExpires hm _ _)
    · have hw := noWords fun hl => hl.2.1 t rfl
      exact State.run_held (f := fun now c => c.tickResume now) h (Core.heldBy_tickResume hm hw _ _)
    · exact State.run_held (f := fun _ c => c.fineStep n.val) h (by simp)
    · exact State.run_held (f := fun now c => c.refresh now r.val k) h (by simp)
    · exact State.run_held (f := fun now c => c.rowClose now r.val b.val) h (by simp)
    · exact State.run_held (f := fun _ c => c.measureDrift d) h (by simp)
    · exact State.run_held (f := fun now c => c.when c.dramReady (fun c => (l.take 10).zipIdx.foldl (Core.mr4Rank now) c)) h
        (by simp)
    · exact State.run_held (f := fun now c => c.windowRestart now) h (by simp)
    · exact State.run_held (f := fun now c => c.command now o 0x2E45 1 1 v.toNat (c.rankCodes v.toNat)
          (Core.rankCommand now v.toNat)) h
        (Core.heldBy_command (fun hw => (hs hw).2.2.1 t o v (.inl rfl)) _ _ _ _ _ fun c => by simp)
    · exact State.run_held (f := fun now c => c.command now o 0x2E45 1 1 16 [] (Core.rankCommand now 16)) h
        (Core.heldBy_command (fun hw => (hs hw).2.2.1 t o 0 (.inr rfl)) _ _ _ _ _ fun c => by simp)
    · exact State.run_held (f := fun now c => c.migrationDone now) h (by simp)
    · exact State.run_held (f := fun now c => c.bringUp now n.val l) h (by simp)
    · exact State.run_held (f := fun now c => c.when (c.laneUsed n.val l.val)
        (fun c => (c.countBip now n.val l.val b).scanLane n.val l.val a v)) h (by simp)
    · cases o with
      | none => exact State.run_held (f := fun now c => c.when ((c.link n.val).st == 2 || (c.link n.val).st == 3)
          (Core.spareFailed now n.val l.val k)) h (by simp)
      | some o =>
        exact State.run_held (f := fun now c => c.command now o 0x3111 0 1 (n.val * 16 + l.val)
            (c.spareCodes (n.val * 16 + l.val)) (Core.spareWrite now (n.val * 16 + l.val))) h
          (Core.heldBy_command (fun hw => (hs hw).2.2.2 t o k n l rfl) _ _ _ _ _ fun c => by simp [Core.spareWrite])
    · exact State.run_held (f := fun now c => c.retrain now n.val (RetrainCause.code k)) h (by simp)
    · exact State.run_held (f := fun now c => c.retrainLate now n.val) h (by simp)
    · exact State.run_held (f := fun _ c => c.retrainEnds n.val) h (by simp [Core.retrainEnds])
    · exact State.run_held (f := fun now c => c.statusTaken now n.val x e) h (by simp)
    · exact State.run_held (f := fun now c => c.tempSample now n.val x) h (by simp)
    · have hw := noWords fun hl => hl.1 t rfl
      exact State.run_held (f := fun now c => c.bandDecided now) h (Core.heldBy_bandDecided hw _ _)
    · exact State.run_held (f := fun now c => c.throttleStep now) h (by simp)
    · exact State.run_held (f := fun _ c => c.replica b.val m) h (by simp)
    · exact State.run_held (f := fun now c => c.holdup now a b d) h (by simp)
    · exact State.run_held (f := fun _ c => c.when (b && c.flashRuns) Core.flush) h (by simp)
    · exact State.run_held (f := fun _ c => c.when (c.flashRuns && c.mode != .dusk && c.pw.compact == 0 &&
        decide (75 ≤ (c.region c.activeRegion).fill)) Core.compactStart) h (by simp)
    · exact State.run_held (f := fun _ c => c.when (c.flashRuns && c.pw.compact == 1) Core.compactDone) h (by simp)
  obtain ⟨hk, hmem⟩ := key ⟨false, false, true⟩ rfl nofun
  refine ⟨Core.of_heldBy Core.owners hk, Core.of_heldBy Core.mode hk, Core.of_heldBy Core.trans hk,
    Core.of_heldBy Core.job hk, Core.of_heldBy Core.banks hk, Core.of_heldBy Core.doms hk, fun h1 h2 h3 h4 => ?_,
    Core.of_heldBy Core.mbx hk, Core.of_heldBy Core.tw hk, Core.of_heldBy (·.cxl.hostUp) hk,
    Core.of_heldBy (·.cxl.dlUp) hk, Core.of_heldBy Core.refs hk, hmem⟩
  exact Core.of_heldBy Core.sram (key ⟨false, true, true⟩ rfl fun _ => ⟨h1, h2, h3, h4⟩).1

end Sys2Proof.Machine
end

section
namespace Sys2Proof.Machine

/-! ### Banks applied, and the loss record at a job's end -/

section
variable {w : Kept}

theorem Core.heldBy_applyLatch (hb : w.banks = false) (b : Nat) (c : Core) :
    (c.applyLatch b).heldBy w = c.heldBy w := by
  unfold Core.applyLatch
  split
  · rfl
  · exact (Core.heldBy_mapBank hb _ _ _).trans (foldl_leaves (Core.heldBy w) (fun c p => c.heldBy_store _ _ _) _ c)
@[simp] theorem Core.heldBy_bumpGen (b : Nat) (c : Core) : (c.bumpGen b).heldBy w = c.heldBy w := by
  simp [Core.bumpGen]
theorem Core.heldBy_applyBank (hb : w.banks = false) (b : Nat) (c : Core) : (c.applyBank b).heldBy w = c.heldBy w := by
  unfold Core.applyBank
  split
  · rw [Core.heldBy_bumpGen, Core.heldBy_applyLatch hb]
  · rfl
@[simp] theorem Core.heldBy_overflowEvent (now : Nat) (c : Core) : (c.overflowEvent now).heldBy w = c.heldBy w := by
  unfold Core.overflowEvent
  split <;> simp
@[simp] theorem Core.heldBy_notReported (now n : Nat) (c : Core) : (c.notReported now n).heldBy w = c.heldBy w := by
  simp [Core.notReported]
@[simp] theorem Core.heldBy_putRec (now : Nat) (r : Rec) (c : Core) : (c.putRec now r).heldBy w = c.heldBy w := by
  simp [Core.putRec]
@[simp] theorem Core.heldBy_endLoss (now : Nat) (c : Core) : (c.endLoss now).heldBy w = c.heldBy w := by
  unfold Core.endLoss
  split
  · rfl
  · dsimp only
    split <;> simp

end

/-! ### A job gone -/

/-- The job ended, its walks sighted again, its loop IDLE and its exposures gone. -/
def Core.jobGone (c : Core) : Core :=
  ({ c with job := { c.job with running := false, ending := none, again := none }
            walks := c.walks.map (fun (w : ConvWalk) => { w with blind := [] }) } : Core).mapMot
    (fun m => { m with loop := .idle, expos := [], burstLeft := 0, slewLeft := 0, noExpose := false })

theorem Core.heldBy_jobCleared {w : Kept} (hb : w.banks = false) (c : Core) :
    c.jobCleared.heldBy w = c.jobGone.heldBy w := by
  unfold Core.jobCleared
  extract_lets j d e f g
  have he : e = c.jobGone := rfl
  have hf : f.heldBy w = c.jobGone.heldBy w := by rw [← he]; simp [f]
  have hg : g.heldBy w = f.heldBy w := foldl_leaves (Core.heldBy w) (fun c b => c.heldBy_applyBank hb b) _ f
  exact (foldl_leaves (Core.heldBy w) (fun c b => c.heldBy_when _ _ (c.heldBy_applyBank hb b)) _ g).trans (hg.trans hf)

theorem Core.heldBy_bandNow {w : Kept} (hs : w.sram = false) (now : Nat) (c : Core) :
    (c.bandNow now).heldBy w = c.heldBy w := by
  unfold Core.bandNow
  split
  · split
    · rfl
    · exact c.heldBy_bandSet hs now _
  · rfl

/-- What JOB_ENDED leaves of the sequencer and the job, before a job that rose with it starts. -/
def Core.jobRest (now last : Nat) (c : Core) : Core :=
  (((c.endLoss now).event now 0x0103 0xFF (leBytes 6 last)).jobCleared).bandNow now

theorem Core.jobOver_none {now last : Nat} {c : Core} (h : c.job.again = none) :
    c.jobOver now last = c.jobRest now last := by
  unfold Core.jobOver
  simp only [h]
  rfl

theorem Core.jobOver_some {now last : Nat} {c : Core} {b : Bool} (h : c.job.again = some b) :
    c.jobOver now last = (c.jobRest now last).jobStart now b := by
  unfold Core.jobOver
  simp only [h]
  rfl

/-- Of a job that is over nothing runs. -/
theorem Core.jobRest_ended (now last : Nat) (c : Core) :
    (c.jobRest now last).job.running = false ∧ (c.jobRest now last).job.ending = none ∧
      (c.jobRest now last).mot.loop = .idle ∧ (c.jobRest now last).mot.expos = [] ∧
      (c.jobRest now last).mode = c.mode ∧ (c.jobRest now last).trans = c.trans := by
  have e : ((c.endLoss now).event now 0x0103 0xFF (leBytes 6 last)).heldBy ⟨true, false, false⟩ =
      c.heldBy ⟨true, false, false⟩ := by simp
  have h : (c.jobRest now last).heldBy ⟨true, false, false⟩ =
      ((c.endLoss now).event now 0x0103 0xFF (leBytes 6 last)).jobGone.heldBy ⟨true, false, false⟩ :=
    (Core.heldBy_bandNow rfl _ _).trans (Core.heldBy_jobCleared rfl _)
  have hm : (c.jobRest now last).mode = c.mode := (Core.of_heldBy Core.mode h).trans (Core.of_heldBy Core.mode e :)
  have ht : (c.jobRest now last).trans = c.trans := (Core.of_heldBy Core.trans h).trans (Core.of_heldBy Core.trans e :)
  exact ⟨Core.of_heldBy (·.job.running) h, Core.of_heldBy (·.job.ending) h, Core.of_heldBy (·.mot.loop) h,
    Core.of_heldBy (·.mot.expos) h, hm, ht⟩

theorem Core.out_wordsWritten (p : Nat → Bool) (c : Core) : (c.wordsWritten p).out = c.out := by
  unfold Core.wordsWritten
  extract_lets d
  have hd : d.out = c.out := by
    unfold d Core.when
    split <;> rfl
  split <;> exact hd

/-! ### In the same mode and transition, nothing put out taken back -/

/-- `d` comes of `c` in the same mode and transition, and what `c` put out stands before the rest. -/
structure Core.Follows (c d : Core) : Prop where
  mode : d.mode = c.mode
  trans : d.trans = c.trans
  out : c.out <+: d.out

namespace Core.Follows

theorem refl (c : Core) : c.Follows c := ⟨rfl, rfl, List.prefix_refl _⟩

theorem step {c d e : Core} (h1 : c.Follows d) (h2 : d.Follows e) : c.Follows e :=
  ⟨h2.mode.trans h1.mode, h2.trans.trans h1.trans, h1.out.trans h2.out⟩

theorem of_heldBy {c d : Core} (w : Kept) (h : d.heldBy w = c.heldBy w) (ho : c.out <+: d.out) : c.Follows d :=
  ⟨Core.of_heldBy Core.mode h, Core.of_heldBy Core.trans h, ho⟩

theorem of_eq {c d : Core} (hm : d.mode = c.mode := by rfl) (ht : d.trans = c.trans := by rfl)
    (ho : d.out = c.out := by rfl) : c.Follows d := ⟨hm, ht, ho ▸ List.prefix_refl _⟩

theorem when {c : Core} {b : Bool} {f : Core → Core} (h : c.Follows (f c)) : c.Follows (c.when b f) :=
  Core.when_of (P := c.Follows) b f c (refl c) h

theorem foldl {α : Type} {f : Core → α → Core} (h : ∀ (c : Core) a, c.Follows (f c a)) (l : List α) (c : Core) :
    c.Follows (l.foldl f c) :=
  List.foldlRecOn (motive := c.Follows) l f (refl c) fun d hd a _ => hd.step (h d a)

theorem logged {c d : Core} (h : c.Logged d) : c.Follows d := ⟨h.same Core.mode, h.same Core.trans, h.out⟩

theorem event (now code seg : Nat) (tail : List Byte) (c : Core) : c.Follows (c.event now code seg tail) :=
  logged (.event _ _ _ _)

theorem condOff (code unit : Nat) (c : Core) : c.Follows (c.condOff code unit) := logged (.condOff _ _)

theorem store (i s v : Nat) (c : Core) : c.Follows (c.store i s v) := by
  rw [Core.store_eq]
  exact of_eq

theorem bumpBy (i s n : Nat) (c : Core) : c.Follows (c.bumpBy i s n) :=
  of_heldBy ⟨true, true, true⟩ (by simp) (by rw [Core.out_bumpBy])

theorem issue (now i : Nat) (e : List Byte) (c : Core) : c.Follows (c.issue now i e) :=
  of_heldBy ⟨true, true, true⟩ (by simp) (Core.out_issue _ _ _ _)

/-! #### The end of a job -/

theorem overflowEvent (now : Nat) (c : Core) : c.Follows (c.overflowEvent now) := by
  unfold Core.overflowEvent
  split
  · exact refl c
  · exact step of_eq (event _ _ _ _ _)

theorem notReported (now n : Nat) (c : Core) : c.Follows (c.notReported now n) :=
  step (bumpBy 0x3210 7 n c) (overflowEvent _ _)

theorem putRec (now : Nat) (r : Rec) (c : Core) : c.Follows (c.putRec now r) :=
  of_heldBy ⟨true, true, true⟩ (by simp) (Core.out_le (Core.out_issue _ _ _ _) (by simp))

theorem endLoss (now : Nat) (c : Core) : c.Follows (c.endLoss now) := by
  unfold Core.endLoss
  split
  · exact refl c
  · extract_lets d
    have hd : c.Follows d := of_eq
    split
    · exact hd.step (notReported _ _ _)
    · exact hd.step (step (bumpBy _ _ _ _) (putRec _ _ _))

theorem applyBank (b : Nat) (c : Core) : c.Follows (c.applyBank b) := by
  unfold Core.applyBank Core.applyLatch
  split
  · rename_i l hl
    simp only [hl]
    have h : c.Follows ((l.foldl (fun c p => c.store (p.1 / 256) (p.1 % 256) p.2) c).mapBank b
        (fun k => { k with latch := none })) := (foldl (fun c _ => store _ _ _ c) l c).step of_eq
    exact h.step (step of_eq (when of_eq))
  · exact refl c

theorem jobCleared (c : Core) : c.Follows c.jobCleared := by
  unfold Core.jobCleared
  extract_lets j d e f g
  have hd : c.Follows d := of_eq
  have he : d.Follows e := of_eq
  have hf : e.Follows f := step (condOff _ _ e) (condOff _ _ _)
  have hg : f.Follows g := foldl (fun c b => applyBank b c) _ f
  exact hd.step (he.step (hf.step (hg.step (foldl (fun c b => when (applyBank b c)) _ g))))

theorem darkCopy (b : Nat) (c : Core) : c.Follows (c.darkCopy b) := by
  refine of_heldBy ⟨true, false, true⟩ (Core.heldBy_darkCopy rfl b c) ?_
  unfold Core.darkCopy
  dsimp only
  split
  · exact List.prefix_refl _
  · rw [Core.out_wordsWritten]
    exact List.prefix_refl _

theorem bandSet (now b : Nat) (c : Core) : c.Follows (c.bandSet now b) := by
  unfold Core.bandSet
  extract_lets old d
  have hd : c.Follows d := (darkCopy b c).step of_eq
  split
  · exact hd
  · have hr : ∀ d : Core, d.Follows d.walksRestart := fun d => foldl (fun _ _ => of_eq) _ d
    exact hd.step ((step of_eq (bumpBy _ _ _ _)).step ((when (hr _)).step (event _ _ _ _ _)))

theorem jobRest (now last : Nat) (c : Core) : c.Follows (c.jobRest now last) := by
  unfold Core.jobRest Core.bandNow
  have h : c.Follows (((c.endLoss now).event now 0x0103 0xFF (leBytes 6 last)).jobCleared) :=
    (endLoss _ _).step ((event _ _ _ _ _).step (jobCleared _))
  split
  · split
    · exact h
    · exact h.step (bandSet _ _ _)
  · exact h

/-- In a transition a JOB_START that rose with the JOB_END is ignored. -/
theorem jobOver (now last : Nat) {c : Core} (ht : c.trans.isSome = true) : c.Follows (c.jobOver now last) := by
  have h := jobRest now last c
  cases ha : c.job.again with
  | none => rwa [Core.jobOver_none ha]
  | some b =>
    rw [Core.jobOver_some ha]
    unfold Core.jobStart
    rw [(c.jobRest_ended now last).1, h.trans, ht]
    simp only [Bool.false_eq_true, if_false, Bool.or_true, if_true]
    exact h.step (event _ _ _ _ _)

theorem dropSheets (now : Nat) (c : Core) : c.Follows (c.dropSheets now) := by
  unfold Core.dropSheets
  split
  · exact refl c
  · exact of_eq

theorem endJob (now : Nat) {c : Core} (ht : c.trans.isSome = true) : c.Follows (c.endJob now) := by
  unfold Core.endJob
  split
  · exact refl c
  · split
    · exact jobOver _ _ ht
    · exact step (dropSheets now c) of_eq

/-! #### The end of a calibration, and of SERVICE -/

theorem segWalksRestart (n : Nat) (c : Core) : c.Follows (c.segWalksRestart n) := of_eq

theorem retrain (now n k : Nat) (c : Core) : c.Follows (c.retrain now n k) := by
  unfold Core.retrain
  split
  · exact refl c
  · extract_lets d
    have hd : c.Follows d := of_heldBy ⟨true, true, true⟩ (by simp [d]) (by simp [d])
    exact hd.step ((segWalksRestart n d).step (event _ _ _ _ _))

theorem testStop (now : Nat) (c : Core) : c.Follows (c.testStop now) := by
  refine of_heldBy ⟨true, true, true⟩ (by simp) ?_
  unfold Core.testStop Core.testCounts
  split
  · exact List.prefix_refl _
  · rw [Core.mapLink_out]
    split
    · exact List.prefix_refl _
    · rw [Core.mapLink_out, Core.out_bumpBy, Core.out_bumpBy]
      exact List.prefix_refl _

theorem autoLock (now : Nat) (c : Core) : c.Follows (c.autoLock now) := by
  unfold Core.autoLock
  split
  · exact refl c
  · exact (testStop _ _).step (step of_eq (retrain _ _ _ _))

theorem serviceEnds (now : Nat) (c : Core) : c.Follows (c.serviceEnds now) := by
  unfold Core.serviceEnds
  refine step ?_ (autoLock _ _)
  split
  · exact (testStop _ _).step (retrain _ _ _ _)
  · exact refl c

/-- What ends when a mode is left ends in the transition that leaves it. -/
theorem leaveMode (now : Nat) {c : Core} (ht : c.trans.isSome = true) : c.Follows (c.leaveMode now) := by
  unfold Core.leaveMode
  split
  · exact (endJob now ht).step of_eq
  · exact (endJob now ht).step of_eq
  · exact when of_eq
  · exact serviceEnds now c
  · exact refl c

end Core.Follows

end Sys2Proof.Machine
end

section
namespace Sys2Proof.Machine

/-! ### Mode requests judged -/

/-- Against the owner's write of 2000h.00 stand only the mode machine's reasons. -/
theorem Core.writeCodes_mode {c : Core} {o : Orig} (ho : c.owns o 0 = true) (hm : c.mode ≠ .compline)
    (hmap : o = .pdo ∨ c.isMapped 0x2000 0 = false) (v : Byte) (own : List Nat) :
    c.writeCodes o 0x2000 0 [v] own = own := by
  have hmap' : (o != .pdo && c.isMapped 0x2000 0) = false := by
    rcases hmap with rfl | h
    · rfl
    · simp [h]
  rw [Core.writeCodes_row (r := row 0x2000 0x2000 0 0 .u8 .rw (.val 1) false (.mask 0x0F) 0 false)
    (c.absent_low (by decide) (by decide)) rfl]
  simp [Core.rowCodes, domainOf, ho, hmap', hm, row, lengthOk, ObjRow.bytes, Ty.bytes, permits, reason]

/-- A mode code that can be requested is its mode's own. -/
theorem code_of_modeAsked {n : Nat} {m : Mode} (h : modeAsked n = some m) : m.code = n := by
  have ofCode : ∀ n m, Mode.ofCode n = some m → m.code = n := fun n m h => by
    unfold Mode.ofCode at h
    split at h <;> cases h <;> rfl
  unfold modeAsked at h
  split at h
  · cases h
  · cases h
  · cases h
  · next e => exact ofCode n m (e.trans h)

theorem modeAsked_code {m : Mode} (hb : m ≠ .boot) (hc : m ≠ .compline) : modeAsked m.code = some m := by
  cases m with
  | boot => exact absurd rfl hb
  | compline => exact absurd rfl hc
  | _ => rfl

/-- From a mode other than STANDBY only STANDBY can be asked for (16 R461). -/
theorem Core.pathCodes_away {c : Core} {m : Mode} (hs : c.mode ≠ .standby) (hm : m ≠ .standby) :
    c.pathCodes m = [0x08000021] := by
  unfold Core.pathCodes
  split
  case h_1 | h_2 | h_3 | h_4 | h_5 => next e => exact absurd e hs
  case h_6 | h_7 | h_8 | h_9 | h_10 => exact absurd rfl hm
  · rfl

theorem Core.modeWrite_taken {c : Core} {o : Orig} {v : Byte} {m : Mode} (ho : c.owns o 0 = true)
    (hm : c.mode ≠ .compline) (hmap : o = .pdo ∨ c.isMapped 0x2000 0 = false) (hw : c.wordOk 0x2000 0 = true)
    (ha : modeAsked (v.toNat % 16) = some m) (h : firstCode (c.modeCodes (v.toNat % 16)) = none) (now : Nat) :
    c.modeWrite now o [v] = (0, c.modeAccept now m) := by
  simp only [Core.modeWrite, leNat_single, Core.writeCodes_mode ho hm hmap, h, ha, Core.storageWrite_ok hw, if_true]

/-- A request that the mode machine refuses is recorded. -/
theorem Core.modeWrite_refused {c : Core} {o : Orig} {v : Byte} {m : Mode} {k : Nat} (ho : c.owns o 0 = true)
    (hm : c.mode ≠ .compline) (hmap : o = .pdo ∨ c.isMapped 0x2000 0 = false)
    (ha : modeAsked (v.toNat % 16) = some m) (h : firstCode (c.modeCodes (v.toNat % 16)) = some k) (now : Nat) :
    c.modeWrite now o [v] = (k, c.modeStatus 3 (v.toNat % 16) k) := by
  have hk : k ∈ c.modeCodes (v.toNat % 16) := firstCode_mem h
  simp only [Core.modeWrite, leNat_single, Core.writeCodes_mode ho hm hmap, h, ha, List.contains_iff_mem.mpr hk,
    Core.when_true]

theorem Core.modeWrite_noMode {c : Core} {o : Orig} {v : Byte} {k : Nat} (ho : c.owns o 0 = true)
    (hm : c.mode ≠ .compline) (hmap : o = .pdo ∨ c.isMapped 0x2000 0 = false)
    (ha : modeAsked (v.toNat % 16) = none) (h : firstCode (c.modeCodes (v.toNat % 16)) = some k) (now : Nat) :
    c.modeWrite now o [v] = (k, c) := by
  simp only [Core.modeWrite, leNat_single, Core.writeCodes_mode ho hm hmap, h, ha]

/-- The write that MODE_REQUEST is. -/
theorem exec_modeRequest {t k : Nat} {o : Orig} {v : Byte} {x : State} {d : Core}
    (h : x.core.modeWrite (x.at_ t) o [v] = (k, d)) :
    ∃ u, exec (.modeRequest t o v) x = .next u ∧ u.mem = x.mem ∧ u.core = d.under u.core ∧
      (o ≠ .pdo → d.out ++ [.answer o 0x2000 0 k] <+: u.core.out) :=
  State.run_answered (f := fun now c => Core.answered o 0x2000 0 (c.modeWrite now o [v])) (congrArg _ h)

/-! ### Mode requests taken -/

theorem Core.modeAccept_same {c : Core} {m : Mode} (h : m = c.mode) (now : Nat) :
    c.modeAccept now m = (c.put 0x2000 0 m.code).modeStatus 2 m.code 0 := by
  unfold Core.modeAccept
  exact if_pos h

/-- A request taken for another mode begins its transition; what ends with the mode left ends in it. -/
theorem Core.modeAccept_other {c : Core} {m : Mode} (h : m ≠ c.mode) (now : Nat) :
    (c.modeAccept now m).mode = c.mode ∧
    (c.modeAccept now m).trans = some { source := c.mode, target := m, start := now, req := true } ∧
    c.out <+: (c.modeAccept now m).out ∧
    (m ≠ .standby → (c.modeAccept now m).obj 0x2002 0 = 1 + m.code * 256) := by
  unfold Core.modeAccept
  extract_lets p q
  have hq : p.Follows q := Core.Follows.when (.foldl (fun c _ => .of_eq) _ _)
  rw [if_neg (show m ≠ p.mode from h)]
  unfold Core.beginMode
  extract_lets r z
  have hz : r.Follows z := .of_eq
  have hrm : r.mode = c.mode := hq.mode
  have hrt : r.trans = some { source := c.mode, target := m, start := now, req := true } := by
    simp only [r, hq.mode]
    rfl
  have hro : c.out <+: r.out := hq.out
  split
  · exact ⟨hz.mode.trans hrm, hz.trans.trans hrt, hro.trans hz.out, fun _ => Core.obj_put_self _ _ _ _⟩
  · next hs =>
    have hl : z.Follows (if z.mode = .dusk then z.linksDawn else z.leaveMode now) := by
      split
      · exact .of_eq
      · exact .leaveMode now (by rw [hz.trans, hrt]; rfl)
    exact ⟨hl.mode.trans (hz.mode.trans hrm), hl.trans.trans (hz.trans.trans hrt),
      hro.trans (hz.out.trans hl.out), fun h => absurd (not_not.mp hs) h⟩

/-- A mode request that is accepted for a mode other than the present one. -/
theorem modeRequest_begins {t : Nat} {o : Orig} {v : Byte} {m : Mode} {x : State} (ho : x.core.owns o 0 = true)
    (hm : x.core.mode ≠ .compline) (hmap : o = .pdo ∨ x.core.isMapped 0x2000 0 = false)
    (hw : x.core.wordOk 0x2000 0 = true) (ha : modeAsked (v.toNat % 16) = some m) (hne : m ≠ x.core.mode)
    (h : firstCode (x.core.modeCodes (v.toNat % 16)) = none) :
    ∃ u, exec (.modeRequest t o v) x = .next u ∧ u.core.mode = x.core.mode ∧
      u.core.trans = some { source := x.core.mode, target := m, start := x.at_ t, req := true } ∧
      (m ≠ .standby → u.core.obj 0x2002 0 = 1 + m.code * 256) ∧
      (o ≠ .pdo → ∃ l, x.puts u (l ++ [.answer o 0x2000 0 0])) := by
  obtain ⟨hmode, htrans, ⟨l, hl⟩, hobj⟩ := Core.modeAccept_other hne (x.at_ t)
  obtain ⟨u, hu, -, hc, hout⟩ := exec_modeRequest (Core.modeWrite_taken ho hm hmap hw ha h (x.at_ t))
  refine ⟨u, hu, (Core.of_under hc Core.mode).trans hmode, (Core.of_under hc Core.trans).trans htrans,
    fun hs => (Core.of_under hc (Core.obj · 0x2002 0)).trans (hobj hs), fun hp => ⟨l, ?_⟩⟩
  simpa [State.puts, ← hl] using hout hp

/-- A mode request that the mode machine refuses. -/
theorem modeRequest_refused {t k : Nat} {o : Orig} {v : Byte} {m : Mode} {x : State} (ho : x.core.owns o 0 = true)
    (hm : x.core.mode ≠ .compline) (hmap : o = .pdo ∨ x.core.isMapped 0x2000 0 = false)
    (ha : modeAsked (v.toNat % 16) = some m) (h : firstCode (x.core.modeCodes (v.toNat % 16)) = some k) :
    ∃ u, exec (.modeRequest t o v) x = .next u ∧ u.core.mode = x.core.mode ∧ u.core.trans = x.core.trans ∧
      u.core.obj 0x2002 0 = 3 + v.toNat % 16 * 256 + k % 256 * 65536 ∧ x.core.keeps u.core [(0x2002, 0)] ∧
      u.core.job = x.core.job ∧ (o ≠ .pdo → ∃ l, x.puts u (l ++ [.answer o 0x2000 0 k])) := by
  obtain ⟨u, hu, -, hc, hout⟩ := exec_modeRequest (Core.modeWrite_refused ho hm hmap ha h (x.at_ t))
  obtain ⟨l, hl⟩ := x.core.out_modeStatus 3 (v.toNat % 16) k
  rw [Core.under_modeStatus] at hc
  refine ⟨u, hu, Core.of_under hc Core.mode, Core.of_under hc Core.trans, ?_,
    Core.keeps_put (by decide) (Core.of_under hc Core.dict), Core.of_under hc Core.job, fun hp => ⟨l, ?_⟩⟩
  · rw [Core.of_under hc (Core.obj · 0x2002 0)]
    exact Core.obj_put_self _ _ _ _
  · simpa [State.puts, ← hl] using hout hp

/-- Settles O22: a request is judged by the mode machine's reasons alone, and what it takes or refuses is read off the
acceptance. -/
theorem modeRequests : Obligations.ModeRequests := by
  unfold Obligations.ModeRequests
  refine ⟨?_, fun t o v m x ho hm hmap hw ha hne h => modeRequest_begins ho hm hmap hw ha hne h,
    fun t k o v m x ho hm hmap ha h => modeRequest_refused ho hm hmap ha h, ?_, ?_, ?_⟩
  · intro t o v x ho ht hmap hw hb hm hv
    have ha : modeAsked (v.toNat % 16) = some x.core.mode := hv ▸ modeAsked_code hb hm
    have hcodes : x.core.modeCodes (v.toNat % 16) = [] := by simp [Core.modeCodes, hb, ht, ha, reason]
    obtain ⟨u, hu, -, hc, -⟩ :=
      exec_modeRequest (Core.modeWrite_taken ho hm hmap hw ha (firstCode_eq_none.mpr hcodes) (x.at_ t))
    rw [Core.modeAccept_same rfl, Core.under_modeStatus] at hc
    refine ⟨u, hu, Core.of_under hc Core.mode, (Core.of_under hc Core.trans).trans ht, ?_, Core.of_under hc Core.job,
      fun i s hs hn => ?_⟩
    · rw [Core.of_under hc (Core.obj · 0x2002 0)]
      exact Core.obj_put_self _ _ _ _
    · simp only [List.mem_cons, List.not_mem_nil, or_false, not_or] at hn
      rw [Core.of_under hc (Core.obj · i s), Core.obj_keep _ _ _ _ _ _ (by decide) hs hn.2,
        Core.obj_keep _ _ _ _ _ _ (by decide) hs hn.1]
  · intro t o v x ho hm hb ht hp hmap ha
    have hcodes : x.core.modeCodes (v.toNat % 16) = [0x06090030] := by simp [Core.modeCodes, hb, ht, ha, reason]
    obtain ⟨u, hu, -, hc, hout⟩ := exec_modeRequest
      (Core.modeWrite_noMode (k := 0x06090030) ho hm (.inr hmap) ha (by rw [hcodes]; decide) (x.at_ t))
    exact ⟨u, hu, hc, hout hp⟩
  · intro t v x ho hs ht hrun hmap hw hv
    have ha : modeAsked (v.toNat % 16) = some .service := by rw [hv]; rfl
    have hcodes : x.core.modeCodes (v.toNat % 16) = [] := by
      simp [Core.modeCodes, Core.pathCodes, hs, ht, ha, hrun, reason]
    obtain ⟨u, hu, -, htr, -⟩ := modeRequest_begins (t := t) ho (by simp [hs]) (.inr hmap) hw ha (by simp [hs])
      (firstCode_eq_none.mpr hcodes)
    exact ⟨u, hu, hs ▸ htr⟩
  · intro t o v m x ho ht hp hmap hb hm hs ha hms hne
    have hcodes : x.core.modeCodes (v.toNat % 16) = [0x08000021] := by
      simp [Core.modeCodes, hb, ht, ha, hne, Core.pathCodes_away hs hms, reason]
    obtain ⟨u, hu, hum, hut, huo, -, huj, hout⟩ := modeRequest_refused (t := t) (k := 0x08000021) ho hm (.inr hmap) ha
      (by rw [hcodes]; decide)
    refine ⟨u, hu, hum, hut.trans ht, huj, ?_, hout hp⟩
    rw [huo, code_of_modeAsked ha]

end Sys2Proof.Machine
end

section
namespace Sys2Proof.Machine

/-! ### Edges of the control word -/

/-- The word with the bits of `mask` clear, and then set. -/
def Core.controlPut (mask : Nat) (c : Core) : Core :=
  (c.put 0x6000 1 (c.obj 0x6000 1 &&& (31 - mask))).put 0x6000 1 (((c.obj 0x6000 1 &&& (31 - mask)) ||| mask) % 32)

@[simp] theorem Core.heldBy_controlPut {w : Kept} (mask : Nat) (c : Core) : (c.controlPut mask).heldBy w = c.heldBy w :=
  (rfl)

theorem Core.writeCodes_control {c : Core} {o : Orig} (hm : c.mayWrite o 0x6000 1 3) (v : Nat) :
    c.writeCodes o 0x6000 1 (leBytes 2 v) [] = [] :=
  Core.writeCodes_may (r := row 0x6000 0x6000 1 1 .u16 .rw (.val 0) false (.mask 0x1F) 0 false) hm rfl rfl rfl rfl rfl
    (.inl rfl) (by rw [length_leBytes]; rfl) (by simp [row, permits])

theorem Core.controlEdge_taken {c : Core} {o : Orig} (hm : c.mayWrite o 0x6000 1 3) (now mask : Nat) :
    c.controlEdge now o mask = Core.answered o 0x6000 1 (0, (c.controlPut mask).controlEdges now o
      (c.obj 0x6000 1 &&& (31 - mask)) (((c.obj 0x6000 1 &&& (31 - mask)) ||| mask) % 32)) := by
  unfold Core.controlEdge
  dsimp only
  rw [Core.judged_ok hm.2.2.2.2 (firstCode_eq_none.mpr (Core.writeCodes_control hm _))]
  simp only [Core.controlStore, Core.obj_put_self]
  rfl

/-- The bits of the word after its edge. -/
theorem testBit_controlNew (x mask i : Nat) : (((x &&& (31 - mask)) ||| mask) % 32).testBit i =
    (decide (i < 5) && (x.testBit i && (31 - mask).testBit i || mask.testBit i)) := by
  rw [show (32 : Nat) = 2 ^ 5 from rfl, Nat.testBit_mod_two_pow, Nat.testBit_or, Nat.testBit_and]

/-- JOB_START by the owner of MODE. -/
theorem Core.controlEdges_start {c : Core} {o : Orig} (ho : c.owns o 0 = true) (now x : Nat) :
    c.controlEdges now o (x &&& (31 - 1)) (((x &&& (31 - 1)) ||| 1) % 32) = c.jobStart now (x.testBit 4) := by
  unfold Core.controlEdges
  simp only [testBit_controlNew, Nat.testBit_and, ho, if_true]
  simp [Nat.testBit]

/-- START_AT_SYNC1 with JOB_START by the owner of MODE. -/
theorem Core.controlEdges_startAtSync1 {c : Core} {o : Orig} (ho : c.owns o 0 = true) (now x : Nat) :
    c.controlEdges now o (x &&& (31 - 17)) (((x &&& (31 - 17)) ||| 17) % 32) = c.jobStart now true := by
  unfold Core.controlEdges
  simp only [testBit_controlNew, Nat.testBit_and, ho, if_true]
  simp [Nat.testBit]

/-- JOB_END by the owner of MODE. -/
theorem Core.controlEdges_end {c : Core} {o : Orig} (ho : c.owns o 0 = true) (now x : Nat) :
    c.controlEdges now o (x &&& (31 - 2)) (((x &&& (31 - 2)) ||| 2) % 32) = c.jobEnd now := by
  unfold Core.controlEdges
  simp only [testBit_controlNew, Nat.testBit_and, ho, if_true]
  simp [Nat.testBit]

/-- JOB_START by a party that does not own MODE. -/
theorem Core.controlEdges_foreign {c : Core} {o : Orig} (ho : c.owns o 0 = false) (now x : Nat) :
    c.controlEdges now o (x &&& (31 - 1)) (((x &&& (31 - 1)) ||| 1) % 32) = c.controlIgnored now 0 0x08000020 := by
  unfold Core.controlEdges
  simp only [testBit_controlNew, Nat.testBit_and, ho, Bool.false_eq_true, if_false]
  simp [modeBits, Nat.testBit]

/-- FAULT_ACK by any originator. -/
theorem Core.controlEdges_ack (c : Core) (o : Orig) (now x : Nat) :
    c.controlEdges now o (x &&& (31 - 4)) (((x &&& (31 - 4)) ||| 4) % 32) = c.acknowledge := by
  unfold Core.controlEdges
  simp only [testBit_controlNew, Nat.testBit_and]
  split <;> simp [modeBits, Nat.testBit]

/-- A word that differs in no bit of MODE and does not raise FAULT_ACK does nothing more than stand. -/
theorem Core.controlEdges_still {c : Core} {o : Orig} {now old v : Nat}
    (h : ∀ i, i < 5 → i ≠ 3 → v.testBit i = old.testBit i) : c.controlEdges now o old v = c := by
  unfold Core.controlEdges
  simp [modeBits, h 0, h 1, h 2, h 4]

/-- A command of the control word's edge, with its answer. -/
theorem State.run_edge {t mask : Nat} {o : Orig} {x : State} (hm : x.core.mayWrite o 0x6000 1 3) :
    ∃ u, State.run t (fun now c => c.controlEdge now o mask) x = .next u ∧ u.mem = x.mem ∧
      u.core = ((x.core.controlPut mask).controlEdges (x.at_ t) o (x.core.obj 0x6000 1 &&& (31 - mask))
        (((x.core.obj 0x6000 1 &&& (31 - mask)) ||| mask) % 32)).under u.core := by
  obtain ⟨u, hu, hmem, hc, -⟩ := State.run_answered (t := t) (x := x)
    (f := fun now c => c.controlEdge now o mask) (Core.controlEdge_taken hm (x.at_ t) mask)
  exact ⟨u, hu, hmem, hc⟩

/-! ### CONTROL_IGNORED in the event ring -/

theorem Core.ring_mapRing {c : Core} {i : Nat} (h : i < c.cxl.rings.length) (f : Ring → Ring) :
    (c.mapRing i f).ring i = f (c.ring i) := by
  simp [Core.ring, Core.mapRing, Core.mapCxl, modAt, List.getD_eq_getElem?_getD, h]

theorem Core.ring_length {c : Core} {i : Nat} (h : (c.ring i).enable = true) : i < c.cxl.rings.length := by
  by_contra hn
  have e : c.ring i = {} := by simp [Core.ring, List.getD_eq_getElem?_getD, Nat.not_lt.mp hn]
  rw [e] at h
  cases h

@[simp] theorem Core.ring_put (i s v n : Nat) (c : Core) : (c.put i s v).ring n = c.ring n := rfl
@[simp] theorem Core.ringOpen_put (i s v n : Nat) (c : Core) : (c.put i s v).ringOpen n = c.ringOpen n := rfl
@[simp] theorem Core.ring_bump (i s n : Nat) (c : Core) : (c.bump i s).ring n = c.ring n := by
  rw [Core.bump_eq, Core.ring_put]
@[simp] theorem Core.ringOpen_bump (i s n : Nat) (c : Core) : (c.bump i s).ringOpen n = c.ringOpen n := by
  rw [Core.bump_eq, Core.ringOpen_put]

theorem Core.rings_msix (v : Nat) (c : Core) : (c.msix v).cxl.rings = c.cxl.rings := by
  unfold Core.msix
  split <;> rfl

/-- A writeback leaves a ring's index and the entry issued last. -/
theorem Core.ring_writeback {c : Core} {now i : Nat} (h : i < c.cxl.rings.length) :
    ((c.writeback now i).ring i).prod = (c.ring i).prod ∧ ((c.writeback now i).ring i).lastOut = (c.ring i).lastOut := by
  have hm : ∀ (v : Nat) (d : Core), (d.msix v).ring i = d.ring i := fun v d => by
    simp only [Core.ring, Core.rings_msix]
  have he : ∀ o, (c.emit o).ring i = c.ring i := fun _ => rfl
  unfold Core.writeback
  dsimp only
  split
  · exact ⟨rfl, rfl⟩
  · split
    · rw [hm, Core.ring_mapRing (by exact h), he]
      exact ⟨rfl, rfl⟩
    · rw [Core.ring_mapRing (by exact h), he]
      exact ⟨rfl, rfl⟩

/-- An entry produced is the last one of its ring. -/
theorem Core.ring_produce {c : Core} {now i : Nat} (e : List Byte) (h : i < c.cxl.rings.length) (hi : i ≠ 0) :
    ((c.produce now i e).ring i).prod = ((c.ring i).prod + 1) % 2 ^ 32 ∧ ((c.produce now i e).ring i).lastOut = e := by
  unfold Core.produce
  dsimp only
  rw [if_neg hi]
  have hl : i < ((c.emit (.hostWrite ((c.ring i).base + ((c.ring i).prod % 2 ^ (c.ring i).size) * unitSize i) e)).mapRing i
      (fun r => { r with prod := (r.prod + 1) % 2 ^ 32, lastOut := e })).cxl.rings.length := by
    simpa [Core.mapRing, Core.mapCxl, modAt] using h
  obtain ⟨h1, h2⟩ := Core.ring_writeback (now := now) hl
  rw [h1, h2, Core.ring_mapRing (by exact h)]
  exact ⟨rfl, rfl⟩

/-- The bytes of CONTROL_IGNORED: its code, and its bit and its abort code as data (13 R413). -/
theorem Core.controlIgnored_bytes (c : Core) (dc line bit k : Nat) (hb : bit < 256) (hk : k < 2 ^ 32) :
    leAt (withCrc16 (c.eventBytes 0x0104 dc (leBytes 6 line ++ leBytes 1 0xFF ++
      slice (leBytes 1 bit ++ leBytes 4 k) 0 7))) 0 2 = 0x0104 ∧
    leAt (withCrc16 (c.eventBytes 0x0104 dc (leBytes 6 line ++ leBytes 1 0xFF ++
      slice (leBytes 1 bit ++ leBytes 4 k) 0 7))) 23 1 = bit ∧
    leAt (withCrc16 (c.eventBytes 0x0104 dc (leBytes 6 line ++ leBytes 1 0xFF ++
      slice (leBytes 1 bit ++ leBytes 4 k) 0 7))) 24 4 = k := by
  have htail : slice (leBytes 1 bit ++ leBytes 4 k) 0 7 = leBytes 1 bit ++ (leBytes 4 k ++ zeros 2) := by
    rw [← List.append_assoc]
    unfold slice
    rw [List.drop_zero, List.take_of_length_le (by simp)]
    simp
  have hdata : slice (leBytes 6 line ++ leBytes 1 0xFF ++ (leBytes 1 bit ++ (leBytes 4 k ++ zeros 2))) 0 14 =
      leBytes 6 line ++ leBytes 1 0xFF ++ (leBytes 1 bit ++ (leBytes 4 k ++ zeros 2)) := by
    unfold slice
    rw [List.drop_zero, List.take_of_length_le (by simp [zeros])]
    simp [zeros]
  rw [htail]
  simp only [withCrc16, Core.eventBytes, hdata]
  simp only [List.append_assoc]
  refine ⟨?_, ?_, ?_⟩
  · exact (leAt_append [] _ _ rfl (length_leBytes _ _)).trans (leNat_leBytes _ _)
  · rw [← List.append_assoc, ← List.append_assoc, ← List.append_assoc, ← List.append_assoc, ← List.append_assoc,
      ← List.append_assoc, leAt_append _ _ _ (by simp) (length_leBytes _ _), leNat_leBytes]
    exact Nat.mod_eq_of_lt hb
  · rw [← List.append_assoc, ← List.append_assoc, ← List.append_assoc, ← List.append_assoc, ← List.append_assoc,
      ← List.append_assoc, ← List.append_assoc, leAt_append _ _ _ (by simp) (length_leBytes _ _), leNat_leBytes]
    exact Nat.mod_eq_of_lt hk

/-- CONTROL_IGNORED is the last entry of EVR where EVR is open and nothing is held. -/
theorem Core.controlIgnored_ring {c : Core} {now bit k : Nat} (ho : c.ringOpen 4 = true) (hh : (c.ring 4).held = [])
    (hb : bit < 256) (hk : k < 2 ^ 32) :
    leAt ((c.controlIgnored now bit k).ring 4).lastOut 0 2 = 0x0104 ∧
    leAt ((c.controlIgnored now bit k).ring 4).lastOut 23 1 = bit ∧
    leAt ((c.controlIgnored now bit k).ring 4).lastOut 24 4 = k ∧
    ((c.controlIgnored now bit k).ring 4).prod = ((c.ring 4).prod + 1) % 2 ^ 32 := by
  have hopen := ho
  simp only [Core.ringOpen, Bool.and_eq_true, bne_iff_ne] at hopen
  obtain ⟨⟨⟨⟨-, hen⟩, -⟩, -⟩, hm⟩ := hopen
  have hslot : (c.bump 0x3200 1).slotFree 4 (decide (evClass 0x0104 ≥ 2) || evKept 0x0104) = true := by
    simp [Core.slotFree, ho, hh]
  have hev : ∃ d : Core, d.cxl = c.cxl ∧ c.controlIgnored now bit k = d.produce now 4
      (withCrc16 ((c.bump 0x3200 1).eventBytes 0x0104 (c.stamp now) (leBytes 6 c.lineNow ++ leBytes 1 0xFF ++
        slice (leBytes 1 bit ++ leBytes 4 k) 0 7))) := by
    refine ⟨(c.bump 0x3200 1).put 0x3200 2 (((c.bump 0x3200 1).obj 0x3200 2 + 1) % 2 ^ 32), ?_, ?_⟩
    · rw [Core.bump_eq]
      rfl
    · have hc : evClass 0x0104 = 1 := by decide
      unfold Core.controlIgnored Core.event Core.eventRaw
      rw [if_neg hm]
      dsimp only
      rw [hc, if_neg (by decide), if_neg (by decide)]
      unfold Core.toEvr
      rw [if_neg (by simp [hc]), if_pos hslot]
      unfold Core.issue
      rw [if_pos (by simp [ho, hh])]
  obtain ⟨d, hd, he⟩ := hev
  have hring : d.ring 4 = c.ring 4 := by simp only [Core.ring, hd]
  obtain ⟨hp, hl⟩ := Core.ring_produce (c := d) (now := now) (withCrc16 ((c.bump 0x3200 1).eventBytes 0x0104 (c.stamp now)
    (leBytes 6 c.lineNow ++ leBytes 1 0xFF ++ slice (leBytes 1 bit ++ leBytes 4 k) 0 7)))
    (hd ▸ Core.ring_length hen) (by decide)
  obtain ⟨h1, h2, h3⟩ := (c.bump 0x3200 1).controlIgnored_bytes (c.stamp now) c.lineNow bit k hb hk
  rw [he, hl, hp, hring]
  exact ⟨h1, h2, h3, rfl⟩

end Sys2Proof.Machine
end

section
namespace Sys2Proof.Machine

/-! ### What a job's start leaves -/

section
variable {w : Kept}

@[simp] theorem Core.heldBy_jobCounters (c : Core) : c.jobCounters.heldBy w = c.heldBy w := by
  have hf : ∀ d : Core, ((List.range 16).foldl (fun c n => c.unput (0x2C10 + n) 9) d).heldBy w = d.heldBy w :=
    fun d => foldl_leaves (Core.heldBy w) (fun c _ => c.heldBy_unput _ _) _ d
  simp [Core.jobCounters, hf]
@[simp] theorem Core.heldBy_ctxJobStart (c : Core) : c.ctxJobStart.heldBy w = c.heldBy w := by simp [Core.ctxJobStart]
@[simp] theorem Core.heldBy_engJobStart (c : Core) : c.engJobStart.heldBy w = c.heldBy w := by
  have hf : ∀ d : Core, ((List.range 8).foldl (fun c s => c.mapEngWalk s (fun w => w)) d).heldBy w = d.heldBy w :=
    fun d => foldl_leaves (Core.heldBy w) (fun c n => by simp [Core.mapEngWalk]) _ d
  simp [Core.engJobStart, hf]
@[simp] theorem Core.heldBy_linksJobStart (c : Core) : c.linksJobStart.heldBy w = c.heldBy w := (rfl)
@[simp] theorem Core.heldBy_walksJobStart (c : Core) : c.walksJobStart.heldBy w = c.heldBy w := (rfl)
@[simp] theorem Core.heldBy_heldOld (c : Core) : c.heldOld.heldBy w = c.heldBy w := (rfl)
@[simp] theorem Core.heldBy_putSpeed (c : Core) : c.putSpeed.heldBy w = c.heldBy w := (rfl)
@[simp] theorem Core.heldBy_darkStart (b : Bool) (c : Core) : (c.darkStart b).heldBy w = c.heldBy w := by
  unfold Core.darkStart
  extract_lets d e
  have hd : d.heldBy w = c.heldBy w := foldl_leaves (Core.heldBy w) (fun c _ => c.heldBy_put _ _ _) _ c
  have he : e.heldBy w = d.heldBy w :=
    foldl_leaves (Core.heldBy w) (fun c _ => c.heldBy_when _ _ (c.heldBy_bump _ _)) _ d
  exact (Core.heldBy_mapPipe _ _).trans (he.trans hd)
theorem Core.heldBy_bandStart (hs : w.sram = false) (now : Nat) (c : Core) : (c.bandStart now).heldBy w = c.heldBy w := by
  unfold Core.bandStart
  split
  · split
    · exact c.heldBy_bandSet hs now _
    · rfl
  · rfl
theorem Core.heldBy_applyDue (hb : w.banks = false) (now b : Nat) (c : Core) :
    (c.applyDue now b).heldBy w = c.heldBy w := c.heldBy_when _ _ (c.heldBy_applyBank hb b)
theorem Core.heldBy_startUnit (hs : w.sram = false) (hb : w.banks = false) (now n : Nat) (b : Bool) (c : Core) :
    (c.startUnit now n b).heldBy w = c.heldBy w := by
  simp [Core.startUnit, Core.heldBy_bandStart hs, Core.heldBy_applyDue hb]

/-- Counting lines by epochs, a unit that begins leaves the sequencer. -/
theorem Core.heldBy_beginUnit (hs : w.sram = false) (hb : w.banks = false) {c : Core} (h : c.inSheet = false)
    (now : Nat) : (c.beginUnit now).heldBy w = c.heldBy w := by
  unfold Core.beginUnit
  split
  · rfl
  · next n _ =>
    extract_lets d
    have hd : ∀ w : Kept, w.sram = false → w.banks = false → d.heldBy w = c.heldBy w := fun w hs hb =>
      c.heldBy_startUnit hs hb now n _
    have hj : d.job = c.job := Core.of_heldBy Core.job (hd ⟨false, false, false⟩ rfl rfl)
    have hm : d.mode = c.mode := Core.of_heldBy Core.mode (hd ⟨false, false, false⟩ rfl rfl)
    have hi : d.inSheet = false := by
      rw [← h]
      simp only [Core.inSheet, hj, hm]
    rw [hi, Core.when_false, hd w hs hb]

end

/-! ### A job's start -/

/-- A job that has started at `now` in the mode of `c`: the loop SEEDING in WEB. -/
structure Core.Started (now : Nat) (c d : Core) : Prop where
  running : d.job.running = true
  startAt : d.job.startAt = now
  ending : d.job.ending = none
  mode : d.mode = c.mode
  seeding : c.mode = .web → d.mot.loop = .seeding
  waitSync1 : d.ec.waitSync1 = none
  sync1On : d.ec.sync1On = c.ec.sync1On

/-- The last job's streams ended, a new job, no wait for SYNC1 and an empty pipeline. -/
def Core.jobNew (now : Nat) (c : Core) : Core :=
  (({ c.streamsEnd now with job := {
    running := true, startAt := now, epochLen := (c.streamsEnd now).obj 0x2650 0, sheet := c.mode == .sheet,
    timed := c.mode == .sheet && (c.streamsEnd now).timedSheet } } : Core).mapEc
      (fun e => { e with waitSync1 := none })).mapPipe (fun _ => {})

/-- The job set up: counters at 0, the sequencer at its start, and what follows it. -/
def Core.jobSet (now : Nat) (c : Core) : Core :=
  let d := ((c.jobCounters.motionStart now).ctxJobStart).engJobStart.linksJobStart.walksJobStart.heldOld
  (d.when (!d.timedJob) Core.putSpeed).event now 0x0102 0xFF []

theorem Core.startJob_eq (now : Nat) (c : Core) :
    c.startJob now = ((c.jobNew now).jobSet now).when (!(c.mode == .sheet) && ((c.jobNew now).jobSet now).unitDue now)
      (Core.beginUnit now) := by
  unfold Core.startJob Core.jobNew Core.jobSet
  rfl

theorem Core.heldBy_jobSet {w : Kept} (now : Nat) (c : Core) :
    (c.jobSet now).heldBy w = (c.jobCounters.motionStart now).heldBy w := by simp [Core.jobSet]

theorem Core.motionStart_loop {c : Core} (h : c.timedJob = false) (now : Nat) :
    (c.motionStart now).mot.loop = .seeding := by simp [Core.motionStart, h]

/-- Setting up a job that runs leaves the job and the mode, and the loop of a job not timed is SEEDING. -/
theorem Core.jobSet_rest (now : Nat) (c : Core) :
    (c.jobSet now).job = c.job ∧ (c.jobSet now).mode = c.mode ∧
      (c.jobSet now).ec.waitSync1 = c.ec.waitSync1 ∧ (c.jobSet now).ec.sync1On = c.ec.sync1On ∧
      (c.job.running = true → c.job.sheet = false → (c.jobSet now).mot.loop = .seeding) := by
  have h := c.heldBy_jobSet (w := ⟨true, true, true⟩) now
  have hc : c.jobCounters.heldBy ⟨true, true, true⟩ = c.heldBy ⟨true, true, true⟩ := c.heldBy_jobCounters
  have hm : ∀ d : Core, (d.motionStart now).heldBy ⟨false, true, true⟩ = d.heldBy ⟨false, true, true⟩ := fun _ => rfl
  have hj : c.jobCounters.job = c.job := Core.of_heldBy Core.job hc
  have hf : (c.jobSet now).heldBy ⟨false, true, true⟩ = c.heldBy ⟨false, true, true⟩ :=
    (c.heldBy_jobSet now).trans ((hm _).trans c.heldBy_jobCounters)
  refine ⟨Core.of_heldBy Core.job hf, Core.of_heldBy Core.mode hf, Core.of_heldBy (·.ec.waitSync1) hf,
    Core.of_heldBy (·.ec.sync1On) hf, fun hr hs => ?_⟩
  have hl : (c.jobSet now).mot.loop = (c.jobCounters.motionStart now).mot.loop := Core.of_heldBy (·.mot.loop) h
  rw [hl, Core.motionStart_loop]
  simp [Core.timedJob, Core.inSheet, hj, hr, hs]

theorem Core.jobNew_rest (now : Nat) (c : Core) :
    (c.jobNew now).mode = c.mode ∧ (c.jobNew now).ec.sync1On = c.ec.sync1On := by
  have hs : (c.streamsEnd now).heldBy ⟨true, false, true⟩ = c.heldBy ⟨true, false, true⟩ := c.heldBy_streamsEnd rfl now
  have hmode : (c.streamsEnd now).mode = c.mode := Core.of_heldBy Core.mode hs
  have hon : (c.streamsEnd now).ec.sync1On = c.ec.sync1On := Core.of_heldBy (·.ec.sync1On) hs
  unfold Core.jobNew
  generalize c.streamsEnd now = e at hmode hon ⊢
  exact ⟨hmode, hon⟩

/-- In SHEET no unit begins with the job, in WEB the one that does leaves the sequencer. -/
theorem Core.startJob_heldBy (now : Nat) (c : Core) :
    (c.startJob now).heldBy ⟨true, false, false⟩ = ((c.jobNew now).jobSet now).heldBy ⟨true, false, false⟩ := by
  rw [Core.startJob_eq]
  cases hs : c.mode == .sheet with
  | true => rfl
  | false =>
    obtain ⟨hj, -⟩ := (c.jobNew now).jobSet_rest now
    have hi : ((c.jobNew now).jobSet now).inSheet = false := by
      simp only [Core.inSheet, hj]
      exact hs
    exact Core.heldBy_when _ _ _ (Core.heldBy_beginUnit rfl rfl hi now)

theorem Core.startJob_started (now : Nat) (c : Core) : c.Started now (c.startJob now) := by
  have h := c.startJob_heldBy now
  obtain ⟨hj, hm, hw, ho, hl⟩ := (c.jobNew now).jobSet_rest now
  obtain ⟨hmn, hon⟩ := c.jobNew_rest now
  have hjob : (c.startJob now).job = (c.jobNew now).job := (Core.of_heldBy Core.job h).trans hj
  refine ⟨?_, ?_, ?_, (Core.of_heldBy Core.mode h).trans (hm.trans hmn), fun hweb => ?_, ?_, ?_⟩
  · rw [hjob]
    rfl
  · rw [hjob]
    rfl
  · rw [hjob]
    rfl
  · exact (Core.of_heldBy (·.mot.loop) h).trans (hl rfl (by simp [Core.jobNew, hweb]))
  · exact (Core.of_heldBy (·.ec.waitSync1) h).trans hw
  · exact (Core.of_heldBy (·.ec.sync1On) h).trans (ho.trans hon)

/-! ### JOB_START and JOB_END, case by case -/

theorem Core.jobStart_now {c : Core} (hr : c.job.running = false) (hi : c.inspecting = true) (ht : c.trans = none)
    (now : Nat) : c.jobStart now false = c.startJob now := by simp [Core.jobStart, hr, hi, ht]

theorem Core.jobStart_atSync1 {c : Core} (hr : c.job.running = false) (hi : c.inspecting = true) (ht : c.trans = none)
    (hd : c.ec.dcRunning = true) (h1 : c.ec.sync1On = true) (now : Nat) :
    c.jobStart now true = c.mapEc (fun e => { e with waitSync1 := some now }) := by
  simp [Core.jobStart, hr, hi, ht, hd, h1]

theorem Core.jobStart_running {c : Core} (hr : c.job.running = true) (now : Nat) (b : Bool) :
    c.jobStart now b = c.controlIgnored now 0 0x0800002C := if_pos hr

theorem Core.jobStart_elsewhere {c : Core} (hr : c.job.running = false) (hi : c.inspecting = false) (now : Nat)
    (b : Bool) : c.jobStart now b = c.controlIgnored now 0 0x08000021 := by simp [Core.jobStart, hr, hi]

theorem Core.jobEnd_running {c : Core} (hr : c.job.running = true) (now : Nat) : c.jobEnd now = c.endJob now :=
  if_pos hr

theorem Core.jobEnd_idle {c : Core} (hr : c.job.running = false) (now : Nat) :
    c.jobEnd now = c.controlIgnored now 1 0 := by simp [Core.jobEnd, hr]

theorem Core.sync1Event_starts {c : Core} {a : Nat} (ha : c.ec.waitSync1 = some a) (hr : c.job.running = false)
    (hi : c.inspecting = true) (ht : c.trans = none) (now : Nat) :
    c.sync1Event now = (c.mapEc (fun e => { e with sync1On := true, waitSync1 := none })).startJob now := by
  unfold Core.sync1Event
  rw [ha]
  exact Core.jobStart_now (c := c.mapEc (fun e => { e with sync1On := true, waitSync1 := none })) hr hi ht now

theorem Core.sync1Event_shows {c : Core} (ha : c.ec.waitSync1 = none) (now : Nat) :
    c.sync1Event now = { c with ec := { c.ec with sync1On := true } } := by
  simp only [Core.sync1Event, Core.mapEc, ha, Option.isSome_none, Core.when_false]

theorem Core.sync1Timeout_late {c : Core} {a now : Nat} (ha : c.ec.waitSync1 = some a) (h : a + 100000000 ≤ now) :
    c.sync1Timeout now = (c.mapEc (fun e => { e with waitSync1 := none })).controlIgnored now 0 0x08000032 := by
  simp only [Core.sync1Timeout, ha, if_pos h]

theorem Core.jobEndTimeout_late {c : Core} {l a now : Nat} (he : c.job.ending = some (l, a))
    (hl : c.job.lineLast = some l) (h : a + c.obj 0x2413 2 * 1000 ≤ now) (hr : c.pipe.nextRes ≤ l) :
    c.jobEndTimeout now = (c.mapMot (fun m => { m with noExpose := true, burstLeft := 0 })).flushLines now := by
  simp only [Core.jobEndTimeout, he, hl, h, hr, decide_true, Bool.and_self, Core.when_true]

theorem Core.jobEnded_finished {c : Core} (hf : c.jobFinished = true) (ha : c.job.again = none) (now : Nat) :
    c.jobEnded now = c.jobRest now (c.job.lineLast.getD 0) := by
  rw [Core.jobEnded, if_pos hf, Core.jobOver_none ha]

/-! ### A job's end -/

theorem Core.acknowledge_logged (c : Core) : c.Logged c.acknowledge :=
  (Core.Logged.mapEv _).trans (Core.Logged.emergencyClear _)

/-- Sheets dropped at a job's end leave the job. -/
theorem Core.job_dropSheets (now : Nat) (c : Core) : (c.dropSheets now).job = c.job := by
  unfold Core.dropSheets
  split <;> rfl

/-- A running job ends: its last line is fixed, or it is over. -/
theorem Core.endJob_ends {c : Core} {now : Nat} (hr : c.job.running = true) (he : c.job.ending = none)
    (ha : c.job.again = none) :
    (∃ l, (c.endJob now).job.ending = some (l, now) ∧ (c.endJob now).job.lineLast = some l ∧
      (c.endJob now).job.running = true) ∨
    ((c.endJob now).job.running = false ∧ (c.endJob now).mot.loop = .idle) := by
  unfold Core.endJob
  rw [hr, he]
  simp only [Bool.not_true, Option.isSome_none, Bool.or_false, Bool.false_eq_true, if_false]
  split
  · rw [Core.jobOver_none ha]
    exact .inr ⟨(c.jobRest_ended now 0).1, (c.jobRest_ended now 0).2.2.1⟩
  · next l _ => exact .inl ⟨l, rfl, rfl, (congrArg Job.running (c.job_dropSheets now)).trans hr⟩

/-- An exposure that still awaits its test after another was released awaited it before, and is another. -/
theorem Core.coastExpo_pending {c : Core} {x y : Expo} (hy : y ∈ (c.coastExpo .released x).mot.expos)
    (hp : y.state = .pending) : y ∈ c.mot.expos ∧ (y.m == x.m && y.b == x.b) = false := by
  have hw : ∀ (b : Bool) (i s n : Nat) (d : Core), (d.when b (Core.bumpBy i s n)).mot = d.mot := fun b i s n d =>
    Core.when_of (P := fun e => e.mot = d.mot) b _ d rfl (Core.of_heldBy (w := ⟨true, true, true⟩) Core.mot (by simp))
  unfold Core.coastExpo Core.settleExpo at hy
  dsimp only at hy
  rw [hw] at hy
  simp only [Core.mapExpo, Core.mapMot, Core.mapPipe, List.map_map, List.mem_map, Function.comp] at hy
  obtain ⟨z, hz, rfl⟩ := hy
  cases hm : z.m == x.m && z.b == x.b with
  | true =>
    simp only [hm, if_true] at hp
    split at hp <;> simp_all
  | false =>
    simp only [hm, Bool.false_eq_true, if_false] at hp ⊢
    exact ⟨hz, trivial⟩

/-- The release of exposures leaves the job, and the sequencer's orders to stop. -/
theorem Core.coastExpo_leaves (st : RowState) (x : Expo) (c : Core) :
    ((c.coastExpo st x).job, (c.coastExpo st x).mot.noExpose, (c.coastExpo st x).mot.burstLeft) =
      (c.job, c.mot.noExpose, c.mot.burstLeft) := by
  have hw : ∀ (b : Bool) (i s n : Nat) (d : Core), (d.when b (Core.bumpBy i s n)).heldBy ⟨true, true, true⟩ =
      d.heldBy ⟨true, true, true⟩ := fun _ _ _ _ _ => by simp
  have hf : ∀ {α : Type} (f : Core → α), (∀ c : Core, f (c.heldBy ⟨true, true, true⟩) = f c) →
      ∀ (b : Bool) (i s n : Nat) (d : Core), f (d.when b (Core.bumpBy i s n)) = f d := fun f hf _ _ _ _ _ =>
    Core.of_heldBy f (hw _ _ _ _ _) hf
  unfold Core.coastExpo Core.settleExpo
  dsimp only
  rw [hf Core.job (fun _ => rfl), hf Core.mot (fun _ => rfl)]
  rfl

theorem Core.releaseAll_pending (c : Core) : ∀ y ∈ c.releaseAll.mot.expos, y.state ≠ .pending := by
  have hf : ∀ (l : List Expo) (c : Core), ∀ y ∈ (l.foldl (fun c x => c.coastExpo .released x) c).mot.expos,
      y.state = .pending → y ∈ c.mot.expos ∧ ∀ x ∈ l, (y.m == x.m && y.b == x.b) = false := by
    intro l
    induction l with
    | nil => exact fun c y hy _ => ⟨hy, nofun⟩
    | cons x l ih =>
      intro c y hy hp
      obtain ⟨hy', hl⟩ := ih _ y hy hp
      obtain ⟨hc, hx⟩ := Core.coastExpo_pending hy' hp
      exact ⟨hc, List.forall_mem_cons.mpr ⟨hx, hl⟩⟩
  intro y hy hp
  obtain ⟨hc, hl⟩ := hf _ _ y hy hp
  have hn := hl y (List.mem_filter.mpr ⟨hc, by simp [hp]⟩)
  simp at hn

/-- The flush of a job's lines leaves the job, and releases every exposure that awaits its test. -/
theorem Core.flushLines_rest (now : Nat) (c : Core) :
    (c.flushLines now).job = c.job ∧ (c.flushLines now).mot.noExpose = c.mot.noExpose ∧
      (c.flushLines now).mot.burstLeft = c.mot.burstLeft ∧
      ∀ y ∈ (c.flushLines now).mot.expos, y.state ≠ .pending := by
  have h : (c.flushLines now).heldBy ⟨true, false, true⟩ = c.releaseAll.heldBy ⟨true, false, true⟩ :=
    Core.heldBy_flushLines rfl now c
  have hr : (c.releaseAll.job, c.releaseAll.mot.noExpose, c.releaseAll.mot.burstLeft) =
      (c.job, c.mot.noExpose, c.mot.burstLeft) :=
    foldl_leaves (fun c : Core => (c.job, c.mot.noExpose, c.mot.burstLeft)) (fun c x => c.coastExpo_leaves _ x) _ c
  simp only [Prod.mk.injEq] at hr
  obtain ⟨hj, hn, hb⟩ := hr
  refine ⟨(Core.of_heldBy Core.job h).trans hj, (Core.of_heldBy (·.mot.noExpose) h).trans hn,
    (Core.of_heldBy (·.mot.burstLeft) h).trans hb, ?_⟩
  rw [show (c.flushLines now).mot.expos = c.releaseAll.mot.expos from Core.of_heldBy (·.mot.expos) h]
  exact c.releaseAll_pending

end Sys2Proof.Machine
end

section
namespace Sys2Proof.Machine

/-! ### The job's commands -/

/-- Clearing a bit that is set takes its weight away, and leaves the other low bits. -/
theorem testBit_sub_eight {x i : Nat} (h : x.testBit 3 = true) (hi : i < 5) :
    (x - 2 ^ 3).testBit i = (x.testBit i && i != 3) := by
  simp only [Nat.testBit_eq_decide_div_mod_eq, decide_eq_true_eq] at h ⊢
  rw [Bool.eq_iff_iff]
  simp only [decide_eq_true_eq, Bool.and_eq_true, bne_iff_ne]
  interval_cases i <;> omega

/-- The low bits of the word with bit [3] set or clear. -/
theorem testBit_withBit3 (x : Nat) {i : Nat} (v : Bool) (hi : i < 5) :
    (withBit x 3 v).testBit i = if i = 3 then v else x.testBit i := by
  unfold withBit
  cases v with
  | true =>
    rw [if_pos rfl, Nat.testBit_or, Nat.testBit_two_pow]
    split
    · next h => simp [h]
    · next h => simp [Ne.symm h]
  | false =>
    simp only [Bool.false_eq_true, if_false]
    split
    · next h =>
      rw [testBit_sub_eight h hi]
      split <;> simp [*]
    · next h =>
      split
      · next h3 => simpa [h3] using h
      · rfl

theorem Core.safeControl_taken {c : Core} {o : Orig} (hm : c.mayWrite o 0x6000 1 3) (now : Nat) (v : Bool) :
    c.controlWrite now o (leBytes 2 (withBit (c.obj 0x6000 1) 3 v)) =
      (0, c.put 0x6000 1 (leNat (leBytes 2 (withBit (c.obj 0x6000 1) 3 v)) % 32)) := by
  unfold Core.controlWrite
  rw [Core.judged_ok hm.2.2.2.2 (firstCode_eq_none.mpr (Core.writeCodes_control hm _))]
  unfold Core.controlStore
  dsimp only
  rw [Core.controlEdges_still fun i hi h3 => ?_]
  rw [leNat_leBytes, show (256 : Nat) ^ 2 = 2 ^ 16 from rfl, show (32 : Nat) = 2 ^ 5 from rfl, Nat.testBit_mod_two_pow,
    Nat.testBit_mod_two_pow, testBit_withBit3 _ _ hi, if_neg h3]
  simp [hi, show i < 16 by omega]

/-- The four edges that are ignored: each logs its bit and its code on the word that then stands. -/
theorem State.edge_ignored {t b k : Nat} {i : Instr} {o : Orig} {x : State} (hm : x.core.mayWrite o 0x6000 1 3)
    (h : (i = .jobStart t o ∧ b = 0 ∧ x.core.owns o 0 = true ∧ x.core.job.running = true ∧ k = 0x0800002C) ∨
      (i = .jobStart t o ∧ b = 0 ∧ x.core.owns o 0 = true ∧ x.core.job.running = false ∧
        x.core.inspecting = false ∧ k = 0x08000021) ∨
      (i = .jobEnd t o ∧ b = 1 ∧ x.core.owns o 0 = true ∧ x.core.job.running = false ∧ k = 0) ∨
      (i = .jobStart t o ∧ b = 0 ∧ x.core.owns o 0 = false ∧ k = 0x08000020)) :
    ∃ u mask, exec i x = .next u ∧ u.mem = x.mem ∧ b < 256 ∧ k < 2 ^ 32 ∧
      u.core = ((x.core.controlPut mask).controlIgnored (x.at_ t) b k).under u.core := by
  obtain ⟨u, hu, hmem, hc⟩ := State.run_edge (t := t) (mask := 1) hm
  obtain ⟨v, hv, hvmem, hvc⟩ := State.run_edge (t := t) (mask := 2) hm
  rcases h with ⟨rfl, rfl, ho, hr, rfl⟩ | ⟨rfl, rfl, ho, hr, hi, rfl⟩ | ⟨rfl, rfl, ho, hr, rfl⟩ | ⟨rfl, rfl, ho, rfl⟩
  · rw [Core.controlEdges_start (c := x.core.controlPut 1) ho, Core.jobStart_running (c := x.core.controlPut 1) hr] at hc
    exact ⟨u, 1, hu, hmem, by decide, by decide, hc⟩
  · rw [Core.controlEdges_start (c := x.core.controlPut 1) ho,
      Core.jobStart_elsewhere (c := x.core.controlPut 1) hr hi] at hc
    exact ⟨u, 1, hu, hmem, by decide, by decide, hc⟩
  · rw [Core.controlEdges_end (c := x.core.controlPut 2) ho, Core.jobEnd_idle (c := x.core.controlPut 2) hr] at hvc
    exact ⟨v, 2, hv, hvmem, by decide, by decide, hvc⟩
  · rw [Core.controlEdges_foreign (c := x.core.controlPut 1) ho] at hc
    exact ⟨u, 1, hu, hmem, by decide, by decide, hc⟩

/-- Settles O21: each clause from the edge of the control word that it is, or from the command's own rule. -/
theorem jobControl : Obligations.JobControl := by
  unfold Obligations.JobControl
  refine ⟨?_, ?_, ?_, ?_, ?_, ?_, ?_, ?_, ?_, ?_, ?_⟩
  · intro t o x ho hm hi ht hr hb
    obtain ⟨u, hu, -, hc⟩ := State.run_edge (t := t) (mask := 1) hm
    rw [Core.controlEdges_start (c := x.core.controlPut 1) ho, hb,
      Core.jobStart_now (c := x.core.controlPut 1) hr hi ht] at hc
    have hs := (x.core.controlPut 1).startJob_started (x.at_ t)
    exact ⟨u, hu, (Core.of_under hc (·.job.running)).trans hs.running, (Core.of_under hc (·.job.startAt)).trans hs.startAt,
      (Core.of_under hc (·.job.ending)).trans hs.ending, (Core.of_under hc Core.mode).trans hs.mode,
      fun hw => (Core.of_under hc (·.mot.loop)).trans (hs.seeding hw)⟩
  · intro t o x ho hm hi ht hr hd h1
    obtain ⟨u, hu, -, hc⟩ := State.run_edge (t := t) (mask := 17) hm
    rw [Core.controlEdges_startAtSync1 (c := x.core.controlPut 17) ho,
      Core.jobStart_atSync1 (c := x.core.controlPut 17) hr hi ht hd h1] at hc
    exact ⟨u, hu, Core.of_under hc (·.ec.waitSync1), Core.of_under hc Core.job, Core.of_under hc Core.mot⟩
  · intro t a x ha hi ht hr
    obtain ⟨u, hu, -, hc, -⟩ := State.run_ends t (fun now c => c.sync1Event now) x
    rw [Core.sync1Event_starts ha hr hi ht] at hc
    have hs := (x.core.mapEc (fun e => { e with sync1On := true, waitSync1 := none })).startJob_started (x.at_ t)
    exact ⟨u, hu, (Core.of_under hc (·.job.running)).trans hs.running, (Core.of_under hc (·.job.startAt)).trans hs.startAt,
      (Core.of_under hc (·.ec.waitSync1)).trans hs.waitSync1, (Core.of_under hc (·.ec.sync1On)).trans hs.sync1On⟩
  · intro t x ha
    obtain ⟨u, hu, -, hc, -⟩ := State.run_ends t (fun now c => c.sync1Event now) x
    exact ⟨u, hu, Core.sync1Event_shows ha (x.at_ t) ▸ hc⟩
  · intro t a x ha hlate
    obtain ⟨u, hu, -, hc, -⟩ := State.run_ends t (fun now c => c.sync1Timeout now) x
    rw [Core.sync1Timeout_late ha hlate] at hc
    have hk := (x.core.mapEc (fun e => { e with waitSync1 := none })).heldBy_controlIgnored (w := ⟨true, true, true⟩)
      (x.at_ t) 0 0x08000032
    exact ⟨u, hu, (Core.of_under hc (·.ec.waitSync1)).trans (Core.of_heldBy (·.ec.waitSync1) hk :),
      (Core.of_under hc Core.job).trans (Core.of_heldBy Core.job hk :),
      (Core.of_under hc Core.mot).trans (Core.of_heldBy Core.mot hk :)⟩
  · intro t o x ho hm hr he ha
    obtain ⟨u, hu, -, hc⟩ := State.run_edge (t := t) (mask := 2) hm
    rw [Core.controlEdges_end (c := x.core.controlPut 2) ho, Core.jobEnd_running (c := x.core.controlPut 2) hr] at hc
    refine ⟨u, hu, ?_⟩
    rw [Core.of_under hc Core.job, Core.of_under hc Core.mot]
    exact Core.endJob_ends (c := x.core.controlPut 2) hr he ha
  · intro t l a x he hl hlate hres
    obtain ⟨u, hu, -, hc, -⟩ := State.run_ends t (fun now c => c.jobEndTimeout now) x
    rw [Core.jobEndTimeout_late he hl hlate hres] at hc
    obtain ⟨hj, hn, hb, hp⟩ :=
      (x.core.mapMot (fun m => { m with noExpose := true, burstLeft := 0 })).flushLines_rest (x.at_ t)
    refine ⟨u, hu, (Core.of_under hc Core.job).trans hj, (Core.of_under hc (·.mot.noExpose)).trans hn,
      (Core.of_under hc (·.mot.burstLeft)).trans hb, ?_⟩
    rw [Core.of_under hc Core.mot]
    exact hp
  · intro t x hf ha
    obtain ⟨u, hu, -, hc, -⟩ := State.run_ends t (fun now c => c.jobEnded now) x
    rw [Core.jobEnded_finished hf ha] at hc
    obtain ⟨hr, he, hl, hx, hm, -⟩ := x.core.jobRest_ended (x.at_ t) (x.core.job.lineLast.getD 0)
    exact ⟨u, hu, (Core.of_under hc (·.job.running)).trans hr, (Core.of_under hc (·.job.ending)).trans he,
      (Core.of_under hc (·.mot.loop)).trans hl, (Core.of_under hc (·.mot.expos)).trans hx,
      (Core.of_under hc Core.mode).trans hm⟩
  · intro t o x hm
    obtain ⟨u, hu, -, hc⟩ := State.run_edge (t := t) (mask := 4) hm
    rw [Core.controlEdges_ack] at hc
    have hl := (x.core.controlPut 4).acknowledge_logged
    exact ⟨u, hu, (Core.of_under hc Core.job).trans (hl.same Core.job), (Core.of_under hc Core.mode).trans (hl.same Core.mode),
      (Core.of_under hc (·.ev.active)).trans (Core.acknowledge_active _)⟩
  · intro t o v x hm
    obtain ⟨u, hu, -, hc, -⟩ := State.run_answered (t := t) (x := x)
      (f := fun now c => Core.answered o 0x6000 1 (c.controlWrite now o (leBytes 2 (withBit (c.obj 0x6000 1) 3 v))))
      (congrArg _ (Core.safeControl_taken hm (x.at_ t) v))
    refine ⟨u, hu, ?_, Core.keeps_put (by decide) (Core.of_under hc Core.dict), Core.under_of_dict hc rfl⟩
    rw [Core.of_under hc Core.safe]
    unfold Core.safe
    rw [Core.obj_put_self, leNat_leBytes, show (256 : Nat) ^ 2 = 2 ^ 16 from rfl, show (32 : Nat) = 2 ^ 5 from rfl,
      Nat.testBit_mod_two_pow, Nat.testBit_mod_two_pow, testBit_withBit3 _ _ (by decide)]
    simp
  · intro t b k i o x hm ho hh hcase
    obtain ⟨u, mask, hu, hmem, hb, hk, hc⟩ := State.edge_ignored hm hcase
    have hw := (x.core.controlPut mask).heldBy_controlIgnored (w := ⟨true, true, true⟩) (x.at_ t) b k
    refine ⟨u, hu, (Core.of_under hc Core.job).trans (Core.of_heldBy Core.job hw :),
      (Core.of_under hc Core.mot).trans (Core.of_heldBy Core.mot hw :),
      (Core.of_under hc Core.mode).trans (Core.of_heldBy Core.mode hw :),
      (Core.of_under hc Core.trans).trans (Core.of_heldBy Core.trans hw :), hmem, ?_⟩
    rw [Core.of_under hc (Core.ring · 4)]
    exact Core.controlIgnored_ring (c := x.core.controlPut mask) (now := x.at_ t) ho hh hb hk

end Sys2Proof.Machine
end

section
namespace Sys2Proof.Machine

/-! ### Commands that their writer may write -/

/-- A command of one object that nothing stands against: its effect stands under the frame. -/
theorem State.run_command_taken {t : Nat} {o : Orig} {i s n v : Nat} {own : Core → List Nat} {eff : Nat → Core → Core}
    {x : State} (hw : x.core.wordOk i s = true) (h : x.core.writeCodes o i s (leBytes n v) (own x.core) = []) :
    ∃ u, State.run t (fun now c => c.command now o i s n v (own c) (eff now)) x = .next u ∧
      u.core = (eff (x.at_ t) x.core).under u.core := by
  obtain ⟨u, hu, -, hc, -⟩ := State.run_answered (t := t) (x := x) (f := fun now c => c.command now o i s n v (own c) (eff now))
    (Core.command_taken hw h)
  exact ⟨u, hu, hc⟩

/-- A command of one object that is refused changes nothing, and says so to who has an answer. -/
theorem State.run_command_refused {t : Nat} {o : Orig} {i s n v k : Nat} {own : Core → List Nat}
    {eff : Nat → Core → Core} {x : State} (h : firstCode (x.core.writeCodes o i s (leBytes n v) (own x.core)) = some k)
    (hp : o ≠ .pdo) :
    ∃ u, State.run t (fun now c => c.command now o i s n v (own c) (eff now)) x = .next u ∧
      x.puts u [.answer o i s k] ∧ u.core = x.core.under u.core := by
  obtain ⟨u, hu, -, hc, ho⟩ := State.run_answered (t := t) (x := x) (f := fun now c => c.command now o i s n v (own c) (eff now))
    (Core.command_refused h)
  exact ⟨u, hu, ho hp, hc⟩

/-! ### Objects left alone -/

theorem Core.keeps_refl (c : Core) (l : List (Nat × Nat)) : c.keeps c l := fun _ _ _ _ => rfl

theorem Core.keeps_trans {c d e : Core} {l : List (Nat × Nat)} (h1 : c.keeps d l) (h2 : d.keeps e l) : c.keeps e l :=
  fun i s hs hn => (h2 i s hs hn).trans (h1 i s hs hn)

/-- A listed object may be written. -/
theorem Core.keeps_put_mem {c d : Core} {l : List (Nat × Nat)} {i s : Nat} (v : Nat) (h : c.keeps d l) (hs : s < 256)
    (hm : (i, s) ∈ l) : c.keeps (d.put i s v) l := by
  intro j r hr hn
  have hne : (j, r) ≠ (i, s) := fun e => hn (e ▸ hm)
  rw [d.obj_keep _ _ _ _ _ hs hr hne]
  exact h j r hr hn

/-- What the frame of a command leaves, it keeps. -/
theorem Core.keeps_under {c d u : Core} {l : List (Nat × Nat)} (h : c.keeps d l) (hu : u = d.under u) : c.keeps u l :=
  Core.keeps_trans h (Core.keeps_of_dict (Core.of_under hu Core.dict))

/-! ### One element of a list -/

theorem getD_modAt_self {α : Type} {l : List α} {i : Nat} (h : i < l.length) (f : α → α) (d : α) :
    (modAt l i f).getD i d = f (l.getD i d) := by
  simp [modAt, List.getD_eq_getElem?_getD, h]

/-- An element that is not the list's default lies within it. -/
theorem lt_length_of_getD_ne {α : Type} {l : List α} {i : Nat} {d : α} (h : l.getD i d ≠ d) : i < l.length := by
  by_contra hn
  exact h (by simp [List.getD_eq_getElem?_getD, Nat.not_lt.mp hn])

end Sys2Proof.Machine
end

section
namespace Sys2Proof.Machine

/-! ### The ramp reference buffers -/

/-- A write of 2301h.00 meets no reason but the object's own. -/
theorem Core.writeCodes_refs {c : Core} {o : Orig} {v : Nat} {own : List Nat} (hm : c.mayWrite o 0x2301 0 4)
    (hv : v = 0 ∨ v = 1) : c.writeCodes o 0x2301 0 (leBytes 1 v) own = own := by
  refine Core.writeCodes_may (r := row 0x2301 0x2301 0 0 .bool .rw (.val 0) false .any 0 false) hm rfl rfl rfl rfl rfl
    (.inl rfl) (by rw [length_leBytes]; rfl) ?_
  rcases hv with rfl | rfl <;> decide

/-- The settled mask is one object. -/
theorem Core.refMask_put (c : Core) : ∃ v, c.refMask = c.put 0x2302 1 v := ⟨_, rfl⟩

@[simp] theorem Core.refMask_refs (c : Core) : c.refMask.refs = c.refs := rfl

theorem Core.keeps_refMask {c d : Core} {l : List (Nat × Nat)} (h : c.keeps d l) (hm : (0x2302, 1) ∈ l) :
    c.keeps d.refMask l := by
  obtain ⟨v, hv⟩ := d.refMask_put
  rw [hv]
  exact Core.keeps_put_mem v h (by decide) hm

/-- One buffer changed, and the mask that follows. -/
theorem Core.keeps_mapRef (c : Core) (q : Nat) (f : RefBuf → RefBuf) :
    c.keeps (c.mapRef q f).refMask [(0x2302, 1)] :=
  Core.keeps_refMask (Core.keeps_of_dict rfl) (by simp)

theorem Core.obj_refMask (c : Core) {i s : Nat} (hs : s < 256) (h : (i, s) ≠ (0x2302, 1)) :
    c.refMask.obj i s = c.obj i s :=
  Core.keeps_refMask (c.keeps_refl [(0x2302, 1)]) (by simp) i s hs (by simpa using h)

/-- Buffers enabled one after another: the rest of the machine stands. -/
theorem Core.foldl_refStart (now : Nat) (l : List Nat) (c : Core) :
    l.foldl (fun c q => c.refStart now q) c =
      { c with refs := l.foldl (fun l q => modAt l q (fun _ => { enabledAt := some now })) c.refs } := by
  induction l generalizing c with
  | nil => rfl
  | cons q l ih => rw [List.foldl_cons, ih]; rfl

theorem Core.refsEnable_off {c : Core} (h : c.flag 0x2301 0 = false) (now : Nat) :
    c.refsEnable now = (({ c with
        refs := c.banksOn.foldl (fun l q => modAt l q (fun _ => { enabledAt := some now })) c.refs } : Core).put
      0x2301 0 1).refMask := by
  simp only [Core.refsEnable, h, Bool.false_eq_true, if_false, Core.foldl_refStart]

theorem Core.refsEnable_on {c : Core} (h : c.flag 0x2301 0 = true) (now : Nat) : c.refsEnable now = c := if_pos h

/-- No buffer is settled where none is enabled. -/
theorem Core.refsDisable_mask (c : Core) : c.refsDisable.obj 0x2302 1 = 0 := by
  unfold Core.refsDisable Core.refMask
  rw [Core.obj_put_self]
  rfl

theorem Core.refTake_awake {c : Core} (h : c.mode ≠ .dusk) (now v : Nat) : c.refTake now v = c.refWrite now v := by
  simp [Core.refTake, Core.waitsDawn, h]

theorem Core.refTake_dusk {c : Core} (h : c.mode = .dusk) (now v : Nat) :
    c.refTake now v = c.duskWrite 0x2301 0 v := by
  simp [Core.refTake, Core.waitsDawn, h, duskBlock]

/-- A write in DUSK: the object reads the value, the write waits for Dawn, and the buffers stand. -/
theorem Core.duskWrite_waits (c : Core) (i s v : Nat) :
    (c.duskWrite i s v).obj i s = v ∧ (c.duskWrite i s v).refs = c.refs ∧
      (c.duskWrite i s v).pw.duskWrites.contains (key i s, v) = true := by
  refine ⟨?_, ?_, ?_⟩
  · exact (congrArg (fun d => sget dfltOf d (key i s)) (c.store_dict i s v)).trans (c.obj_put_self i s v)
  · exact (congrArg Core.refs (c.store_eq i s v) :)
  · simp [Core.duskWrite]

/-- A core that differs from another in its objects and its reference buffers alone. -/
theorem Core.under_of_refs {u c d : Core} (h : u = d.under u) (hd : d = { c with dict := d.dict, refs := d.refs }) :
    u = ({ c with dict := u.dict, refs := u.refs } : Core).under u := by
  rw [Core.of_under h Core.dict, Core.of_under h Core.refs, ← hd]
  exact h

theorem Core.refSettles_due {c : Core} {now q a : Nat} (ha : (c.refBuf q).enabledAt = some a) (h : a + 25000000 ≤ now) :
    c.refSettles now q = (c.mapRef q (fun r => { r with settled := true })).refMask := by
  unfold Core.refSettles
  rw [ha]
  exact if_pos h

theorem Core.refSettles_early {c : Core} {now q a : Nat} (ha : (c.refBuf q).enabledAt = some a)
    (h : now < a + 25000000) : c.refSettles now q = c := by
  unfold Core.refSettles
  rw [ha]
  exact if_neg (Nat.not_le.mpr h)

/-- INSPECT_VALID needs the buffer of every bank of an enabled segment within its window. -/
theorem Core.inspectValid_outside {c : Core} {q : Nat} (hq : q < 16) (hs : c.segOn (q / 2) = true)
    (hw : (c.refBuf q).inWindow = false) : c.inspectValid = false := by
  have hr : c.refsSettled = false := by
    rw [Core.refsSettled, List.all_eq_false]
    refine ⟨q, List.mem_filter.mpr ⟨List.mem_range.mpr hq, hs⟩, ?_⟩
    rw [Core.refBuf] at hw
    simp only [hw, Bool.and_false, Bool.false_eq_true, not_false_eq_true]
  simp [Core.inspectValid, hr]

/-- A buffer that leaves its window: it is out of it, and but for the bank's walk, the mask and an event nothing
changes. -/
theorem Core.refLeaves_logged {c : Core} {q a : Nat} (ha : (c.refBuf q).enabledAt = some a)
    (hw : (c.refBuf q).inWindow = true) (now : Nat) :
    (((c.mapRef q (fun r => { r with inWindow := false })).refMask).walkRestart q).Logged (c.refLeaves now q) := by
  unfold Core.refLeaves
  simp only [ha, hw, Option.isNone_some, Bool.not_true, Bool.or_self, Bool.false_eq_true, if_false]
  exact .when (.event _ _ _ _)

/-- Settles O24: each write, and each event of a buffer, is one operation on the buffers and the mask that follows. -/
theorem referenceBuffers : Obligations.ReferenceBuffers := by
  unfold Obligations.ReferenceBuffers
  refine ⟨?_, ?_, ?_, ?_, ?_, ?_, ?_, ?_⟩
  · intro t o x hm hd hoff
    obtain ⟨u, hu, hc⟩ := State.run_command_taken (t := t) (eff := fun now => Core.refTake now 1)
      (own := fun c => c.refCodes 1) hm.2.2.2.2 (Core.writeCodes_refs hm (.inr rfl))
    rw [Core.refTake_awake hd, show x.core.refWrite (x.at_ t) 1 = _ from Core.refsEnable_off hoff _] at hc
    refine ⟨u, hu, (Core.of_under hc (·.obj 0x2301 0)).trans ?_, Core.of_under hc Core.refs,
      Core.keeps_under ?_ hc, Core.under_of_refs hc rfl⟩
    · rw [Core.obj_refMask _ (by decide) (by decide), Core.obj_put_self]
    · exact Core.keeps_refMask (Core.keeps_put_mem _ (Core.keeps_of_dict rfl) (by decide) (by simp)) (by simp)
  · intro t o x hm hd hon
    obtain ⟨u, hu, hc⟩ := State.run_command_taken (t := t) (eff := fun now => Core.refTake now 1)
      (own := fun c => c.refCodes 1) hm.2.2.2.2 (Core.writeCodes_refs hm (.inr rfl))
    rw [Core.refTake_awake hd, show x.core.refWrite (x.at_ t) 1 = _ from Core.refsEnable_on hon _] at hc
    exact ⟨u, hu, hc⟩
  · intro t o x hm hcal hd hi
    have hown : x.core.refCodes 0 = [] := by simp [Core.refCodes, hcal, hi, reason]
    obtain ⟨u, hu, hc⟩ := State.run_command_taken (t := t) (eff := fun now => Core.refTake now 0)
      (own := fun c => c.refCodes 0) hm.2.2.2.2 ((Core.writeCodes_refs hm (.inl rfl)).trans hown)
    rw [Core.refTake_awake hd, show x.core.refWrite (x.at_ t) 0 = x.core.refsDisable from rfl] at hc
    refine ⟨u, hu, (Core.of_under hc (·.obj 0x2301 0)).trans ?_,
      (Core.of_under hc (·.obj 0x2302 1)).trans x.core.refsDisable_mask, Core.of_under hc Core.refs,
      Core.keeps_under ?_ hc, Core.under_of_refs hc rfl⟩
    · rw [Core.refsDisable, Core.obj_refMask _ (by decide) (by decide), Core.obj_put_self]
    · exact Core.keeps_refMask (Core.keeps_put_mem _ (Core.keeps_of_dict rfl) (by decide) (by simp)) (by simp)
  · intro t o x hm hp hmode
    have hown : x.core.refCodes 0 = [0x08000021] := by
      rcases hmode with h | h <;> simp [Core.refCodes, h, reason]
    exact State.run_command_refused (t := t) (eff := fun now => Core.refTake now 0) (own := fun c => c.refCodes 0)
      (by rw [Core.writeCodes_refs hm (.inl rfl), hown]; decide) hp
  · intro t a q x ha
    obtain ⟨u, hu, -, hc, -⟩ := State.run_ends t (fun now c => c.refSettles now q.val) x
    refine ⟨u, hu, fun hdue => ?_, fun hearly => ?_⟩
    · rw [Core.refSettles_due ha hdue] at hc
      exact ⟨Core.of_under hc Core.refs, Core.keeps_under (x.core.keeps_mapRef _ _) hc⟩
    · rwa [Core.refSettles_early ha hearly] at hc
  · intro t a q x ha hw
    obtain ⟨u, hu, -, hc, -⟩ := State.run_ends t (fun now c => c.refLeaves now q.val) x
    have hl := Core.refLeaves_logged ha hw (x.at_ t)
    have hrefs : (x.core.refLeaves (x.at_ t) q.val).refs = modAt x.core.refs q.val (fun r => { r with inWindow := false }) :=
      hl.same Core.refs
    refine ⟨u, hu, (Core.of_under hc Core.refs).trans hrefs, fun hs => (Core.of_under hc Core.inspectValid).trans ?_,
      (Core.of_under hc Core.mode).trans (hl.same Core.mode), (Core.of_under hc Core.job).trans (hl.same Core.job)⟩
    have hlen : q.val < x.core.refs.length := lt_length_of_getD_ne (d := {}) (fun e => by
      rw [Core.refBuf, e] at ha; cases ha)
    refine Core.inspectValid_outside q.isLt ?_ ?_
    · have hobj : (x.core.refLeaves (x.at_ t) q.val).obj 0x2201 0 = x.core.obj 0x2201 0 :=
        (hl.obj _ _ (by decide) (by decide)).trans (Core.obj_refMask _ (by decide) (by decide))
      rw [Core.segOn, hobj]
      exact hs
    · rw [Core.refBuf, hrefs, getD_modAt_self hlen]
  · intro t q x
    obtain ⟨u, hu, -, hc, -⟩ := State.run_ends t (fun _ c => c.refReturns q.val) x
    exact ⟨u, hu, Core.of_under hc Core.refs, Core.keeps_under (x.core.keeps_mapRef _ _) hc,
      Core.under_of_refs hc rfl⟩
  · intro t o x hm hd
    have hown : x.core.refCodes 0 = [] := by simp [Core.refCodes, Core.inspecting, hd, reason]
    obtain ⟨u, hu, hc⟩ := State.run_command_taken (t := t) (eff := fun now => Core.refTake now 1)
      (own := fun c => c.refCodes 1) hm.2.2.2.2 (Core.writeCodes_refs hm (.inr rfl))
    obtain ⟨v, hv, hvc⟩ := State.run_command_taken (t := t) (eff := fun now => Core.refTake now 0)
      (own := fun c => c.refCodes 0) hm.2.2.2.2 ((Core.writeCodes_refs hm (.inl rfl)).trans hown)
    rw [Core.refTake_dusk hd] at hc hvc
    obtain ⟨h1, h2, h3⟩ := x.core.duskWrite_waits 0x2301 0 1
    obtain ⟨k1, k2, k3⟩ := x.core.duskWrite_waits 0x2301 0 0
    exact ⟨⟨u, hu, (Core.of_under hc (·.obj 0x2301 0)).trans h1, (Core.of_under hc Core.refs).trans h2,
      (congrArg (fun p : Power => p.duskWrites.contains (key 0x2301 0, 1)) (Core.of_under hc Core.pw)).trans h3⟩,
      ⟨v, hv, (Core.of_under hvc (·.obj 0x2301 0)).trans k1, (Core.of_under hvc Core.refs).trans k2,
      (congrArg (fun p : Power => p.duskWrites.contains (key 0x2301 0, 0)) (Core.of_under hvc Core.pw)).trans k3⟩⟩

end Sys2Proof.Machine
end

section
namespace Sys2Proof.Machine

/-! ### The walk of a segment bank -/

/-- What an update leaves of a walk, it leaves of the bank's walk. -/
theorem Core.walk_mapWalk_same {α : Type} (g : ConvWalk → α) {f : ConvWalk → ConvWalk} (hf : ∀ w, g (f w) = g w)
    (c : Core) (q : Nat) : g ((c.mapWalk q f).walk q) = g (c.walk q) := by
  unfold Core.walk
  by_cases h : q < c.walks.length
  · rw [Core.mapWalk_walks, getD_modAt_self h, hf]
  · simp [Core.mapWalk, modAt, List.getD_eq_getElem?_getD, Nat.not_lt.mp h]

theorem Core.walk_mapWalk {c : Core} {q : Nat} (h : q < c.walks.length) (f : ConvWalk → ConvWalk) :
    (c.mapWalk q f).walk q = f (c.walk q) := getD_modAt_self h f {}

/-- A bank within a step has a walk. -/
theorem Core.walk_lt {c : Core} {q : Nat} (h : (c.walk q).phase ≠ .idle) : q < c.walks.length :=
  lt_length_of_getD_ne fun e => h (by rw [Core.walk, e])

theorem Core.mapWalk_mapWalk (c : Core) (q : Nat) (f g : ConvWalk → ConvWalk) :
    (c.mapWalk q f).mapWalk q g = c.mapWalk q (fun w => g (f w)) := by
  simp only [Core.mapWalk, modAt, List.modify_modify_eq]
  rfl

/-! ### Takeover and handback -/

/-- The walk with no switch that waits. -/
def ConvWalk.ready (w : ConvWalk) : ConvWalk := { w with waits := false }

theorem Core.walkRuns_ready (c : Core) (q : Nat) : (c.mapWalk q ConvWalk.ready).walkRuns q = c.walkRuns q :=
  congrArg (fun b => ((c.mode == .calibrate && !c.calRun) || c.inspecting) && c.flag 0x2310 1 && c.segOn (q / 2) && !b)
    (Core.walk_mapWalk_same ConvWalk.stopped (f := ConvWalk.ready) (fun _ => rfl) c q)

/-- A switch that falls due waits where the bank's next row is flagged SETTLE. -/
theorem Core.stepSwitch_waits {c : Core} {q : Nat} {take : Bool}
    (hd : (if take then c.walkRuns q && (c.walk q).phase == .idle else (c.walk q).phase == .handback) = true)
    (hs : c.nextSettles q = true) : c.stepSwitch q take = c.mapWalk q (fun w => { w with waits := true }) := by
  simp only [Core.stepSwitch, hd, hs, Bool.not_true, Bool.false_eq_true, if_false, if_true]

/-- A takeover that nothing defers: J serves the slice in turn, and settling begins. -/
theorem Core.stepSwitch_takeover {c : Core} {q : Nat} (hr : c.walkRuns q = true) (hi : (c.walk q).phase = .idle)
    (hs : c.nextSettles q = false) :
    c.stepSwitch q true = c.mapWalk q (fun w => { w with
      waits := false, serving := w.cur != 64, phase := .settle, cycles := 0, found := [], fresh := [],
      passed := false }) := by
  have hi' : ((c.mapWalk q ConvWalk.ready).walk q).phase = .idle :=
    (Core.walk_mapWalk_same ConvWalk.phase (f := ConvWalk.ready) (fun _ => rfl) c q).trans hi
  have e : c.stepSwitch q true = (c.mapWalk q ConvWalk.ready).walkTakeover q := by
    simp only [Core.stepSwitch, hr, hi, hs, beq_self_eq_true, Bool.and_self, Bool.not_true, Bool.false_eq_true,
      if_false, if_true]
    rfl
  rw [e, Core.walkTakeover, Core.walkRuns_ready, hr, hi']
  exact Core.mapWalk_mapWalk _ _ _ _

/-- A handback that nothing defers. -/
theorem Core.stepSwitch_handback {c : Core} {q : Nat} (hp : (c.walk q).phase = .handback)
    (hs : c.nextSettles q = false) :
    c.stepSwitch q false = (c.mapWalk q ConvWalk.ready).walkHandback q := by
  simp only [Core.stepSwitch, hp, hs, beq_self_eq_true, Bool.not_true, Bool.false_eq_true, if_false]
  rfl

/-- A slice that takes its columns back: the next one is in turn. -/
theorem Core.walkHandback_slice {c : Core} {q : Nat} (hp : (c.walk q).phase = .handback) (hc : (c.walk q).cur ≠ 64) :
    c.walkHandback q =
      c.mapWalk q (fun w => { w with cur := w.cur + 1, serving := false, phase := .idle, passed := false }) := by
  simp [Core.walkHandback, hp, hc]

/-- The self step's end: the lap is counted and timed, and the first slice is in turn. -/
theorem Core.walkHandback_lap {c : Core} {q : Nat} (hp : (c.walk q).phase = .handback) (hc : (c.walk q).cur = 64) :
    c.walkHandback q = ((c.mapWalk q (fun w => { w with
      cur := 0, serving := false, phase := .idle, passed := false, lapNs := 0, lapN := 0 })).bump 0x2322 (q + 1)).put
      0x2321 (q + 1) ((c.walk q).lapTime % 2 ^ 32) := by
  simp [Core.walkHandback, hp, hc]

/-! ### Settling, measuring, verifying -/

theorem Core.walkSettled_eq {c : Core} {q : Nat} (hp : (c.walk q).phase = .settle) :
    c.walkSettled q = c.when (decide (4096 ≤ (c.walk q).cycles)) (Core.mapWalk q (fun w => { w with phase := .measure })) := by
  rw [Core.walkSettled, hp]
  rfl

theorem Core.walkMeasured_eq {c : Core} {q : Nat} (hp : (c.walk q).phase = .measure) (res : List ConvResult) :
    c.walkMeasured q res = c.when (decide (28672 ≤ (c.walk q).cycles)) (Core.mapWalk q (fun w => { w with
      phase := .verify, found := res, fresh := res.map entryOf })) := by
  rw [Core.walkMeasured, hp]
  rfl

/-- The end of the verify phase: the step passes, is repeated, or retires its slice. -/
theorem Core.walkVerified_eq {c : Core} {q : Nat} (hp : (c.walk q).phase = .verify) (hc : 36864 ≤ (c.walk q).cycles)
    (now : Nat) (mids : List MidResult) :
    c.walkVerified now q mids =
      if slicePasses (c.walk q).found mids then (c.loadSlice q (c.walk q).cur (c.walk q).fresh).mapWalk q
        (fun w => { w with phase := .handback, passed := true, failed := false })
      else if (c.walk q).failed then c.retireSlice now q (c.walk q).cur
      else c.mapWalk q (fun w => { w with phase := .settle, cycles := 0, failed := true, found := [], fresh := [] }) := by
  have h : ((c.walk q).phase != .verify || decide ((c.walk q).cycles < stepCycles)) = false := by
    rw [hp, decide_eq_false (p := (c.walk q).cycles < stepCycles) (Nat.not_lt.mpr hc)]
    rfl
  simp only [Core.walkVerified, h, Bool.false_eq_true, if_false]

/-! ### A slice retired -/

/-- The walk when a step ends in a retirement. -/
def ConvWalk.stepOver (w : ConvWalk) : ConvWalk := { w with phase := .idle, failed := false, found := [], fresh := [] }

/-- The walk after slice `p` has failed with no spare left. -/
def ConvWalk.unspared (p : Nat) (w : ConvWalk) : ConvWalk :=
  { w.stepOver with noSpare := true, blind := if w.blind.contains p then w.blind else w.blind ++ [p] }

theorem ConvWalk.mem_blind_unspared (p : Nat) (w : ConvWalk) : p ∈ (w.unspared p).blind := by
  unfold ConvWalk.unspared
  dsimp only
  split
  · next h => exact List.contains_iff_mem.mp h
  · simp

/-- What a retirement leaves of a bank: its walk, and 2330h. Domain objects stand. -/
structure Core.Retired (c d : Core) (q p : Nat) (w : ConvWalk) : Prop where
  shows : d.obj 0x2330 (q + 1) = p
  walk : d.walk q = w
  doms : d.doms = c.doms

/-- A retirement that 2330h shows: an object, its journal entry and an event beside the walk. -/
theorem Core.Retired.of_logged {c d : Core} {q p : Nat} {w : ConvWalk} (hq : q < c.walks.length) (hs : q < 16)
    (h : (((c.mapWalk q (fun _ => w)).put 0x2330 (q + 1) p).journal 0x2330 (q + 1) p []).Logged d) :
    c.Retired d q p w where
  shows := (h.obj _ _ (by omega) (by decide)).trans (Core.obj_put_self _ _ _ _)
  walk := (h.same (Core.walk · q)).trans (Core.walk_mapWalk hq _)
  doms := h.same Core.doms

/-- J fails its self step: it serves no more. -/
theorem Core.retireSlice_self {c : Core} {q : Nat} (hq : q < c.walks.length) (hs : q < 16) (now : Nat) :
    c.Retired (c.retireSlice now q 64) q 64
      { (c.walk q).stepOver with serving := false, stopped := true, jRetired := true } := by
  refine .of_logged hq hs ?_
  unfold Core.retireSlice
  dsimp only
  rw [if_pos rfl]
  exact .event _ _ _ _

/-- A slice that J can serve for good. -/
theorem Core.retireSlice_served {c : Core} {q p : Nat} (hq : q < c.walks.length) (hs : q < 16) (hp : p ≠ 64)
    (hj : (c.walk q).jRetired = false) (hperm : (c.walk q).permanent = false) (now : Nat) :
    c.Retired (c.retireSlice now q p) q p
      { (c.walk q).stepOver with cur := p, serving := true, stopped := true, permanent := true } := by
  refine .of_logged hq hs ?_
  unfold Core.retireSlice
  dsimp only
  rw [if_neg hp, if_neg (by simp [hperm]), if_neg (by simp [hj, hperm])]
  exact .event _ _ _ _

/-- A slice that fails with no spare left: it stays connected and carries BLIND. -/
theorem Core.retireSlice_noSpare {c : Core} {q p : Nat} (hq : q < c.walks.length) (hp : p ≠ 64)
    (hj : (c.walk q).jRetired = true) (hperm : (c.walk q).permanent = false) (now : Nat) :
    (c.retireSlice now q p).walk q = (c.walk q).unspared p ∧ (c.retireSlice now q p).doms = c.doms := by
  have h : (c.mapWalk q (fun _ => (c.walk q).unspared p)).Logged (c.retireSlice now q p) := by
    unfold Core.retireSlice
    dsimp only
    rw [if_neg hp, if_neg (by simp [hperm]), if_pos (by simp [hj])]
    exact .event _ _ _ _
  exact ⟨(h.same (Core.walk · q)).trans (Core.walk_mapWalk hq _), h.same Core.doms⟩

/-- A count that its width holds. -/
theorem Core.obj_bump_self {c : Core} {i s : Nat} (h : c.obj i s + 1 < 2 ^ objBits i s) :
    (c.bump i s).obj i s = c.obj i s + 1 := by
  rw [Core.bump_eq, Core.obj_put_self, Core.counted]
  exact if_pos h

theorem objBits_lapCount : ∀ q : Fin 16, objBits 0x2322 (q.val + 1) = 32 := by decide

/-- Settles O25: each step of the walk is one case of the model's operation on it. -/
theorem journeymanStep : Obligations.JourneymanStep := by
  unfold Obligations.JourneymanStep
  refine ⟨?_, ?_, ?_, ?_, ?_⟩
  · intro t q x hr hi
    obtain ⟨u, hu, -, hc, -⟩ := State.run_ends t (fun _ c => c.stepSwitch q.val true) x
    refine ⟨u, hu, fun hs => ?_, fun hs => ?_⟩
    · rwa [Core.stepSwitch_takeover hr hi hs] at hc
    · rwa [Core.stepSwitch_waits (take := true) (by simp [hr, hi]) hs] at hc
  · intro t q x hp
    obtain ⟨u, hu, -, hc, -⟩ := State.run_ends t (fun _ c => c.walkSettled q.val) x
    rw [Core.walkSettled_eq hp] at hc
    refine ⟨u, hu, fun h => ?_, fun h => ?_⟩
    · rwa [decide_eq_true h] at hc
    · rwa [decide_eq_false (Nat.not_le.mpr h)] at hc
  · intro t q res x hp
    obtain ⟨u, hu, -, hc, -⟩ := State.run_ends t (fun _ c => c.walkMeasured q.val res) x
    rw [Core.walkMeasured_eq hp] at hc
    refine ⟨u, hu, fun h => ?_, fun h => ?_⟩
    · rwa [decide_eq_true h] at hc
    · rwa [decide_eq_false (Nat.not_le.mpr h)] at hc
  · intro t q w mids x hw hp hcyc
    subst hw
    obtain ⟨u, hu, -, hc, -⟩ := State.run_ends t (fun now c => c.walkVerified now q.val mids) x
    have hq : q.val < x.core.walks.length := Core.walk_lt (by rw [hp]; decide)
    rw [Core.walkVerified_eq hp hcyc] at hc
    have ew := Core.of_under hc (Core.walk · q.val)
    have ed := Core.of_under hc Core.doms
    have eo := Core.of_under hc (·.obj 0x2330 (q.val + 1))
    refine ⟨u, hu, fun h => ?_, fun h hf => ?_, fun h hf hcur hj hperm => ?_, fun h hf hcur hj hperm => ?_,
      fun h hf hcur => ?_⟩
    · rw [if_pos h] at hc ew ed
      exact ⟨ed, ew.trans (Core.walk_mapWalk (c := x.core.loadSlice q.val _ _) hq _), Core.of_under hc Core.dict⟩
    · simp only [h, hf, Bool.false_eq_true, if_false] at hc ew ed
      exact ⟨ew.trans (Core.walk_mapWalk hq _), ed, Core.of_under hc Core.dict⟩
    · simp only [h, hf, Bool.false_eq_true, if_false, if_true] at ew ed eo
      have hr := Core.retireSlice_served hq q.isLt hcur.ne hj hperm (x.at_ t)
      rw [ew, ed, eo, hr.walk]
      exact ⟨hr.shows, rfl, rfl, rfl, hr.doms⟩
    · simp only [h, hf, Bool.false_eq_true, if_false, if_true] at ew ed
      obtain ⟨hwalk, hdoms⟩ := Core.retireSlice_noSpare hq hcur.ne hj hperm (x.at_ t)
      rw [ew, ed, hwalk]
      exact ⟨rfl, ConvWalk.mem_blind_unspared _ _, hdoms⟩
    · simp only [h, hf, hcur, Bool.false_eq_true, if_false, if_true] at ew ed eo
      have hr := Core.retireSlice_self hq q.isLt (x.at_ t)
      rw [ew, ed, eo, hr.walk]
      exact ⟨hr.shows, rfl, rfl, hr.doms⟩
  · intro t q w x hw hp
    subst hw
    obtain ⟨u, hu, -, hc, -⟩ := State.run_ends t (fun _ c => c.stepSwitch q.val false) x
    have hq : q.val < x.core.walks.length := Core.walk_lt (by rw [hp]; decide)
    have hready : (x.core.mapWalk q.val ConvWalk.ready).walk q.val = (x.core.walk q.val).ready := Core.walk_mapWalk hq _
    refine ⟨u, hu, fun hs => ?_, fun hs hcur => ?_, fun hs hcur => ?_⟩
    · rw [Core.stepSwitch_waits (take := false) (by simp [hp]) hs] at hc
      exact ⟨(Core.of_under hc (Core.walk · q.val)).trans (Core.walk_mapWalk hq _), Core.of_under hc Core.dict⟩
    · rw [Core.stepSwitch_handback hp hs, Core.walkHandback_slice (by rw [hready]; exact hp)
        (by rw [hready]; exact hcur), Core.mapWalk_mapWalk] at hc
      exact ⟨(Core.of_under hc (Core.walk · q.val)).trans (Core.walk_mapWalk hq _), Core.of_under hc Core.dict⟩
    · rw [Core.stepSwitch_handback hp hs, Core.walkHandback_lap (by rw [hready]; exact hp)
        (by rw [hready]; exact hcur), hready, Core.mapWalk_mapWalk] at hc
      refine ⟨(Core.of_under hc (Core.walk · q.val)).trans ?_, (Core.of_under hc (·.obj 0x2321 (q.val + 1))).trans ?_,
        fun hlt => (Core.of_under hc (·.obj 0x2322 (q.val + 1))).trans ?_⟩
      · rw [Core.bump_eq]
        exact Core.walk_mapWalk hq _
      · exact Core.obj_put_self _ _ _ _
      · rw [Core.obj_keep _ _ _ _ _ _ (by omega) (by omega) (by simp)]
        exact Core.obj_bump_self (by rw [objBits_lapCount]; exact hlt)

end Sys2Proof.Machine
end

section
namespace Sys2Proof.Machine

/-! ### Foreground calibration -/

/-- A write of a command to 2340h.01 meets no reason but the object's own. -/
theorem Core.writeCodes_cal {c : Core} {o : Orig} {v : Nat} {own : List Nat} (hm : c.mayWrite o 0x2340 1 4)
    (h1 : 1 ≤ v) (h4 : v ≤ 4) : c.writeCodes o 0x2340 1 (leBytes 1 v) own = own := by
  refine Core.writeCodes_may (r := row 0x2340 0x2340 1 1 .u8 .wo (.val 0) false (.rng 1 4) 0 false) hm rfl rfl rfl rfl
    rfl (.inl rfl) (by rw [length_leBytes]; rfl) ?_
  rw [leNat_leBytes, Nat.mod_eq_of_lt (by omega)]
  simp [row, permits, h1, h4]

/-- Of the objects, only the one written last changes. -/
theorem Core.keeps_put_under {c d u : Core} {i s v : Nat} (hu : u = (d.put i s v).under u) (hs : s < 256)
    (hd : d.dict = c.dict) : c.keeps u [(i, s)] :=
  Core.keeps_under (Core.keeps_put_mem v (Core.keeps_of_dict hd) hs (by simp)) hu

/-- A command of 2340h.01 that is taken. -/
theorem State.run_cal {t v : Nat} {o : Orig} {own : Core → List Nat} {eff : Nat → Core → Core} {x : State}
    (hm : x.core.mayWrite o 0x2340 1 4) (h1 : 1 ≤ v) (h4 : v ≤ 4) (h : own x.core = []) :
    ∃ u, State.run t (fun now c => c.command now o 0x2340 1 1 v (own c) (eff now)) x = .next u ∧
      u.core = (eff (x.at_ t) x.core).under u.core :=
  State.run_command_taken hm.2.2.2.2 ((Core.writeCodes_cal hm h1 h4).trans h)

/-! ### Its start -/

/-- A step abandoned leaves its bank between steps, and every other bank where it is. -/
theorem Core.walkAbandon_idle {c : Core} {p q : Nat} (h : p = q ∨ (c.walk q).phase = .idle) :
    ((c.walkAbandon p).walk q).phase = .idle := by
  have hself : ((c.walkAbandon q).walk q).phase = .idle := by
    unfold Core.walkAbandon
    by_cases hq : q < c.walks.length
    · rw [Core.walk_mapWalk hq]
      dsimp only
      split
      · next hi => exact eq_of_beq hi
      · rfl
    · simp [Core.walk, Core.mapWalk, modAt, List.getD_eq_getElem?_getD, Nat.not_lt.mp hq]
  by_cases hpq : p = q
  · exact hpq ▸ hself
  · rw [show (c.walkAbandon p).walk q = c.walk q by
      simp [Core.walk, Core.walkAbandon, Core.mapWalk, modAt, List.getD_eq_getElem?_getD, hpq]]
    exact h.resolve_left hpq

theorem Core.foldl_walkAbandon_idle {q : Nat} (l : List Nat) :
    ∀ c : Core, q ∈ l ∨ (c.walk q).phase = .idle → ((l.foldl (fun c q => c.walkAbandon q) c).walk q).phase = .idle := by
  induction l with
  | nil => exact fun c h => h.resolve_left (by simp)
  | cons p l ih =>
    intro c h
    rw [List.foldl_cons]
    by_cases hl : q ∈ l
    · exact ih _ (.inl hl)
    · exact ih _ (.inr (Core.walkAbandon_idle (h.imp_left fun hm => (List.mem_cons.mp hm).elim Eq.symm (absurd · hl))))

/-- Every walk is left between steps. -/
theorem Core.walksAbandon_idle (c : Core) {q : Nat} (hq : q < 16) : (c.walksAbandon.walk q).phase = .idle :=
  Core.foldl_walkAbandon_idle _ c (.inl (List.mem_range.mpr hq))

theorem Core.walksAbandon_leaves (c : Core) : c.walksAbandon.dict = c.dict ∧ c.walksAbandon.doms = c.doms := by
  have h := foldl_leaves (fun c : Core => (c.dict, c.doms)) (f := fun c q => c.walkAbandon q) (fun _ _ => rfl)
    (List.range 16) c
  exact Prod.mk.inj h

/-- A calibration begins on a machine whose walks are all between steps. -/
theorem Core.calStart_idle (c : Core) (now : Nat) :
    ∃ d : Core, d.dict = c.dict ∧ d.doms = c.doms ∧ (∀ q, q < 16 → (d.walk q).phase = .idle) ∧
      c.calStart now =
        ({ d with calRun := true, calAt := now, calFailed := none, calEnd := none } : Core).put 0x2340 2 1 :=
  ⟨c.walksAbandon, c.walksAbandon_leaves.1, c.walksAbandon_leaves.2, fun _ => c.walksAbandon_idle, rfl⟩

/-- Why 01h is refused: the mode first, then a calibration that runs. -/
theorem Core.calStartCodes_first {c : Core} (h : c.mode ≠ .calibrate ∨ c.calRun = true) :
    firstCode c.calStartCodes = some (if c.mode = .calibrate then 0x08000031 else 0x08000021) := by
  by_cases hm : c.mode = .calibrate
  · have hr : c.calRun = true := h.resolve_left (not_not_intro hm)
    simp only [Core.calStartCodes, hm, hr]
    decide
  · have hb : (c.mode != .calibrate) = true := by simpa using hm
    simp only [Core.calStartCodes, hb, if_neg hm]
    cases c.calRun <;> decide

/-! ### Its end -/

/-- Operations that change domain objects alone, one after another. -/
theorem Core.foldl_doms {α : Type} {f : Core → α → Core} (h : ∀ c a, f c a = { c with doms := (f c a).doms }) (l : List α) :
    ∀ c : Core, l.foldl f c = { c with doms := (l.foldl f c).doms } := by
  induction l with
  | nil => exact fun _ => rfl
  | cons a l ih => intro c; rw [List.foldl_cons, ih, h c a]

theorem Core.addDefect_doms (c : Core) (d : Defect) : c.addDefect d = { c with doms := (c.addDefect d).doms } := by
  unfold Core.addDefect
  dsimp only
  split
  · rfl
  · split <;> rfl

/-- What a pass with these results loads: the entries of the slices that passed, and the defects found. -/
def Core.calLoaded (c : Core) (res : List (Nat × Nat × List (ConvResult × MidResult))) (ds : List Defect) : Core :=
  ds.foldl Core.addDefect ((c.calSlices.filter (calPasses res)).foldl (Core.calLoad res) c)

theorem Core.calLoaded_doms (c : Core) (res : List (Nat × Nat × List (ConvResult × MidResult))) (ds : List Defect) :
    c.calLoaded res ds = { c with doms := (c.calLoaded res ds).doms } := by
  unfold Core.calLoaded
  rw [Core.foldl_doms Core.addDefect_doms ds, Core.foldl_doms (f := Core.calLoad res) fun _ _ => rfl]

/-- A slice that passes has been found. -/
theorem calFound_of_calPasses {res : List (Nat × Nat × List (ConvResult × MidResult))} {k : Nat × Nat}
    (h : calPasses res k = true) : (calFound res k).isSome = true := by
  unfold calPasses at h
  split at h
  · next he => rw [he]; rfl
  · cases h

theorem Core.calComplete_early {c : Core} {now : Nat} (h : c.calPassOver now = false)
    (res : List (Nat × Nat × List (ConvResult × MidResult))) (ds : List Defect) : c.calComplete now res ds = c := by
  simp [Core.calComplete, h]

/-- A pass judged whole: what failed in the first is repeated, what failed in the second retired. -/
theorem Core.calComplete_judged {c : Core} {now : Nat} {res : List (Nat × Nat × List (ConvResult × MidResult))}
    (hr : c.calRun = true) (ho : c.calPassOver now = true) (hf : c.calSlices.all (fun k => (calFound res k).isSome) = true)
    (ds : List Defect) :
    c.calComplete now res ds =
      let bad := c.calSlices.filter (fun k => !calPasses res k)
      if c.calFailed.isNone && !bad.isEmpty then { c.calLoaded res ds with calFailed := some bad, calAt := now }
      else ({ bad.foldl (fun (c : Core) (k : Nat × Nat) => c.retireSlice now k.1 k.2) (c.calLoaded res ds) with
        calRun := false, calEnd := some now }).put 0x2340 2 (2 + 32 * b2n (!bad.isEmpty)) := by
  have hfail : (c.calLoaded res ds).calFailed = c.calFailed := by rw [Core.calLoaded_doms]
  rw [← hfail]
  simp only [Core.calComplete, hr, ho, hf, Bool.not_true, Bool.or_self, Bool.false_eq_true, if_false]
  rfl

theorem Core.calComplete_passed {c : Core} {now : Nat} {res : List (Nat × Nat × List (ConvResult × MidResult))}
    (hr : c.calRun = true) (ho : c.calPassOver now = true) (hp : c.calSlices.all (calPasses res) = true)
    (ds : List Defect) :
    c.calComplete now res ds = ({ c.calLoaded res ds with calRun := false, calEnd := some now }).put 0x2340 2 2 := by
  have hall : ∀ k ∈ c.calSlices, calPasses res k = true := List.all_eq_true.mp hp
  have hbad : c.calSlices.filter (fun k => !calPasses res k) = [] :=
    List.filter_eq_nil_iff.mpr fun k hk => by simp [hall k hk]
  rw [Core.calComplete_judged hr ho (List.all_eq_true.mpr fun k hk => calFound_of_calPasses (hall k hk)), hbad]
  simp [b2n]

theorem Core.calSlices_failed {c : Core} {res : List (Nat × Nat × List (ConvResult × MidResult))}
    (hp : c.calSlices.all (calPasses res) = false) :
    (c.calSlices.filter (fun k => !calPasses res k)).isEmpty = false := by
  obtain ⟨k, hk, hn⟩ := List.all_eq_false.mp hp
  rw [List.isEmpty_eq_false_iff_exists_mem]
  exact ⟨k, List.mem_filter.mpr ⟨hk, by simpa using hn⟩⟩

theorem Core.calComplete_repeats {c : Core} {now : Nat} {res : List (Nat × Nat × List (ConvResult × MidResult))}
    (hr : c.calRun = true) (ho : c.calPassOver now = true) (hf : c.calSlices.all (fun k => (calFound res k).isSome) = true)
    (hp : c.calSlices.all (calPasses res) = false) (h0 : c.calFailed = none) (ds : List Defect) :
    c.calComplete now res ds = { c.calLoaded res ds with
      calFailed := some (c.calSlices.filter (fun k => !calPasses res k)), calAt := now } := by
  rw [Core.calComplete_judged hr ho hf]
  simp only [h0, Core.calSlices_failed hp, Option.isNone_none, Bool.not_false, Bool.and_self, if_true]

/-- The second pass ends the calibration, whatever failed in it. -/
theorem Core.calComplete_retires {c : Core} {now : Nat} {res : List (Nat × Nat × List (ConvResult × MidResult))}
    (hr : c.calRun = true) (ho : c.calPassOver now = true) (hf : c.calSlices.all (fun k => (calFound res k).isSome) = true)
    (hp : c.calSlices.all (calPasses res) = false) (h0 : c.calFailed ≠ none) (ds : List Defect) :
    ∃ d : Core, c.calComplete now res ds = ({ d with calRun := false, calEnd := some now } : Core).put 0x2340 2 34 := by
  have h1 : c.calFailed.isNone = false := Option.isNone_eq_false_iff.mpr (Option.isSome_iff_ne_none.mpr h0)
  rw [Core.calComplete_judged hr ho hf]
  simp only [h1, Core.calSlices_failed hp, Bool.false_and, Bool.false_eq_true, if_false, Bool.not_false]
  exact ⟨_, rfl⟩

/-! ### Save, abort -/

/-- The end of a save whose status still stands. -/
theorem Core.calSaved_eq {c : Core} (hs : c.calSaving = true) (h4 : c.calStatus = 4) (ok : Bool) :
    c.calSaved ok = ({ c with calSaving := false, nv := if ok then { c.nv with
      cal := c.calPend, factory := c.nv.factory && c.calKeep } else c.nv } : Core).put 0x2340 2 (if ok then 5 else 6) := by
  have hst : ∀ d : Core, d.dict = c.dict → (d.calStatus == 4) = true := fun d hd => by
    have h := congrArg (fun l => field (sget dfltOf l (key 0x2340 2)) 3 0) hd
    exact beq_iff_eq.mpr (h.trans h4)
  unfold Core.calSaved
  rw [hs]
  dsimp only
  rw [hst]
  · cases ok <;> rfl
  · cases ok <;> rfl

theorem Core.calAbort_running {c : Core} (h : c.calRun = true) (now : Nat) :
    c.calAbort now false = ({ c with calRun := false } : Core).put 0x2340 2 3 := by
  simp [Core.calAbort, Core.calFinished, Core.calStop, h]

theorem Core.calAbort_idle {c : Core} {now : Nat} (h : c.calRun = false) (hf : c.calFinished now false = false) :
    c.calAbort now false = c := by
  simp [Core.calAbort, hf, Core.calStop, h]

/-- An abort that comes after a calibration has finished. -/
theorem Core.calAbort_late {c : Core} (h : c.calRun = false) (h2 : c.obj 0x2340 2 = 2) (now : Nat) :
    c.calAbort now true = c.put 0x2340 2 18 := by
  have hf : c.calFinished now true = true := by
    rw [Core.calFinished, Core.calStatus, h, h2]
    rfl
  rw [Core.calAbort, if_pos hf, h2]
  rfl

/-- Settles O26: each command and each end of a pass or a save is one case of its operation. -/
theorem foregroundCalibration : Obligations.ForegroundCalibration := by
  unfold Obligations.ForegroundCalibration
  refine ⟨?_, ?_, ?_, ?_, ?_, ?_, ?_, ?_, ?_, ?_, ?_⟩
  · intro t o x hm hcal hr
    obtain ⟨u, hu, hc⟩ := State.run_cal (t := t) (own := Core.calStartCodes) (eff := Core.calStart) hm le_rfl (by decide)
      (by simp [Core.calStartCodes, hcal, hr, reason])
    obtain ⟨d, hdict, hdoms, hidle, hstart⟩ := x.core.calStart_idle (x.at_ t)
    rw [hstart] at hc
    exact ⟨u, hu, Core.of_under hc Core.calRun, Core.of_under hc Core.calAt,
      (Core.of_under hc (·.obj 0x2340 2)).trans (Core.obj_put_self _ _ _ _),
      Core.keeps_put_under hc (by decide) hdict,
      (Core.of_under hc Core.doms).trans hdoms,
      fun q hq => (congrArg ConvWalk.phase (Core.of_under hc (Core.walk · q))).trans (hidle q hq)⟩
  · intro t o x hm hp h
    obtain ⟨u, hu, ho, hc⟩ := State.run_command_refused (t := t) (own := Core.calStartCodes) (eff := Core.calStart)
      ((congrArg firstCode (Core.writeCodes_cal (v := 1) hm le_rfl (by decide))).trans (Core.calStartCodes_first h)) hp
    exact ⟨u, hu, hc, ho⟩
  · intro t res ds x hr ho hp
    obtain ⟨u, hu, -, hc, -⟩ := State.run_ends t (fun now c => c.calComplete now res ds) x
    rw [Core.calComplete_passed hr ho hp] at hc
    have hl := x.core.calLoaded_doms res ds
    refine ⟨u, hu, Core.of_under hc Core.calRun, (Core.of_under hc (·.obj 0x2340 2)).trans (Core.obj_put_self _ _ _ _),
      (Core.of_under hc Core.doms).trans ?_, (Core.of_under hc Core.walks).trans (congrArg Core.walks hl :), ?_⟩
    · rw [Core.put_doms, Core.calLoaded, List.filter_eq_self.mpr (List.all_eq_true.mp hp)]
    · exact Core.keeps_put_under hc (by decide) (congrArg Core.dict hl :)
  · intro t res ds x hr ho hf hp
    obtain ⟨u, hu, -, hc, -⟩ := State.run_ends t (fun now c => c.calComplete now res ds) x
    refine ⟨u, hu, fun h0 => ?_, fun h0 => ?_⟩
    · rw [Core.calComplete_repeats hr ho hf hp h0, Core.calLoaded_doms] at hc
      exact ⟨(Core.of_under hc Core.calRun).trans hr, Core.of_under hc Core.calAt, Core.of_under hc Core.dict,
        Core.of_under hc Core.calFailed⟩
    · obtain ⟨d, hd⟩ := Core.calComplete_retires hr ho hf hp h0 ds
      rw [hd] at hc
      exact ⟨Core.of_under hc Core.calRun, (Core.of_under hc (·.obj 0x2340 2)).trans (Core.obj_put_self _ _ _ _)⟩
  · intro t res ds x ho
    obtain ⟨u, hu, -, hc, -⟩ := State.run_ends t (fun now c => c.calComplete now res ds) x
    rw [Core.calComplete_early ho] at hc
    exact ⟨u, hu, hc⟩
  · intro t o x hm hmode
    obtain ⟨u, hu, hc⟩ := State.run_cal (t := t) (own := Core.calSaveCodes) (eff := fun _ => Core.calSave) (v := 2) hm
      (by decide) (by decide) (by rcases hmode with h | h <;> simp [Core.calSaveCodes, h, reason])
    exact ⟨u, hu, Core.of_under hc Core.calPend, (Core.of_under hc (·.obj 0x2340 2)).trans (Core.obj_put_self _ _ _ _),
      Core.of_under hc Core.calSaving,
      Core.keeps_put_under hc (by decide) rfl, Core.of_under hc Core.nv⟩
  · intro t ok x hs h4
    obtain ⟨u, hu, -, hc, -⟩ := State.run_ends t (fun _ c => c.calSaved ok) x
    rw [Core.calSaved_eq hs h4] at hc
    exact ⟨u, hu, (Core.of_under hc (·.obj 0x2340 2)).trans (Core.obj_put_self _ _ _ _), Core.of_under hc Core.nv,
      Core.of_under hc Core.calSaving,
      Core.keeps_put_under hc (by decide) rfl⟩
  · intro t o x hm hr
    obtain ⟨u, hu, hc⟩ := State.run_cal (t := t) (own := fun _ => []) (eff := fun now => Core.calAbort now false) (v := 3)
      hm (by decide) (by decide) rfl
    rw [Core.calAbort_running hr] at hc
    exact ⟨u, hu, Core.of_under hc Core.calRun, (Core.of_under hc (·.obj 0x2340 2)).trans (Core.obj_put_self _ _ _ _),
      Core.of_under hc Core.doms, Core.of_under hc Core.walks,
      Core.keeps_put_under hc (by decide) rfl⟩
  · intro t o x hm hr hf
    obtain ⟨u, hu, hc⟩ := State.run_cal (t := t) (own := fun _ => []) (eff := fun now => Core.calAbort now false) (v := 3)
      hm (by decide) (by decide) rfl
    rw [Core.calAbort_idle hr hf] at hc
    exact ⟨u, hu, hc⟩
  · intro t o x hm hr h2
    obtain ⟨u, hu, hc⟩ := State.run_cal (t := t) (own := fun _ => []) (eff := fun now => Core.calAbort now true) (v := 3)
      hm (by decide) (by decide) rfl
    rw [Core.calAbort_late hr h2] at hc
    exact ⟨u, hu, (Core.of_under hc (·.obj 0x2340 2)).trans (Core.obj_put_self _ _ _ _),
      Core.keeps_put_under hc (by decide) rfl, Core.of_under hc Core.doms⟩
  · intro t o x hm
    exact State.run_cal (t := t) (own := fun _ => []) (eff := fun _ => Core.calFactory) (v := 4) hm (by decide) (by decide) rfl

end Sys2Proof.Machine
end

section
namespace Sys2Proof.Machine

/-! ### The pipeline's rows, packets and lines under what a line passes on its way out -/

theorem Core.when_pipe (b : Bool) (f : Core → Core) (c : Core) (h : (f c).pipe = c.pipe) :
    (c.when b f).pipe = c.pipe :=
  Core.when_of (P := fun d => d.pipe = c.pipe) b f c rfl h
@[simp] theorem Core.bumpBy_pipe (i s n : Nat) (c : Core) : (c.bumpBy i s n).pipe = c.pipe :=
  Core.of_rest Core.pipe (fun _ => rfl) (c.rest_bumpBy i s n)
@[simp] theorem Core.bump_pipe (i s : Nat) (c : Core) : (c.bump i s).pipe = c.pipe := c.bumpBy_pipe i s 1
@[simp] theorem Core.raiseTo_pipe (i s v : Nat) (c : Core) : (c.raiseTo i s v).pipe = c.pipe :=
  Core.of_rest Core.pipe (fun _ => rfl) (c.rest_raiseTo i s v)

/-! Events and rings -/

@[simp] theorem Core.event_pipe (now code seg : Nat) (tail : List Byte) (c : Core) :
    (c.event now code seg tail).pipe = c.pipe := (Core.Logged.event _ _ _ _).same Core.pipe
@[simp] theorem Core.writeback_pipe (now i : Nat) (c : Core) : (c.writeback now i).pipe = c.pipe :=
  (Core.Logged.writeback _ _).same Core.pipe
@[simp] theorem Core.issueFdr_pipe (now : Nat) (e : List Byte) (c : Core) : (c.issueFdr now e).pipe = c.pipe :=
  (Core.Logged.issue _ _ _ (by decide)).same Core.pipe
@[simp] theorem Core.lossReports_pipe (now : Nat) (c : Core) : (c.lossReports now).pipe = c.pipe := by
  unfold Core.lossReports
  extract_lets a ready b
  have ha : a.pipe = c.pipe := by
    unfold a
    split
    · split
      · exact (Core.Logged.eventRaw _ _ _ _ _ _).same Core.pipe
      · rfl
    · rfl
  have hb : b.pipe = c.pipe := by
    unfold b
    rw [foldl_leaves Core.pipe fun c p => by simp, ha]
  split
  · exact ((Core.Logged.event _ _ _ _).same Core.pipe).trans hb
  · exact hb

/-! On-die words -/

theorem Core.sramUse_readRest (now : Nat) (p : Nat → Bool) (c : Core) : (c.sramUse now p).readRest = c.readRest :=
  (foldl_leaves Core.readRest (fun c a => c.readRest_sramLook now a .clean) _ _).trans
    (foldl_leaves Core.readRest (fun c _ => c.readRest_event _ _ _ _) _ c)
@[simp] theorem Core.sramUse_pipe (now : Nat) (p : Nat → Bool) (c : Core) : (c.sramUse now p).pipe = c.pipe :=
  Core.of_readRest Core.pipe (c.sramUse_readRest now p)
@[simp] theorem Core.sramFind_pipe (now : Nat) (p : Nat → Bool) (c : Core) : (c.sramFind now p).pipe = c.pipe :=
  foldl_leaves Core.pipe (fun c a => Core.of_readRest Core.pipe (c.readRest_sramLook now a .clean)) _ c
@[simp] theorem Core.refill_pipe (n : Nat) (c : Core) : (c.refill n).pipe = c.pipe :=
  Core.of_restWords Core.pipe (Core.restWords_wordsWritten _ _)
@[simp] theorem Core.lineReads_pipe (now n : Nat) (c : Core) : (c.lineReads now n).pipe = c.pipe := by
  simp [Core.lineReads]

/-! Alarms -/

@[simp] theorem Core.busSend_pipe (ch kind reason num : Nat) (targets : BitVec 16) (c : Core) :
    (c.busSend ch kind reason num targets).pipe = c.pipe :=
  Core.when_pipe _ _ (c.emit _) rfl
@[simp] theorem Core.confirmed_pipe (ch : Nat) (c : Core) : (c.confirmed ch).pipe = c.pipe :=
  (Core.busSend_pipe _ _ _ _ _ _).trans rfl
@[simp] theorem Core.outcome_pipe (a : OpenAlarm) (o : Outcome) (c : Core) : (c.outcome a o).pipe = c.pipe := by
  unfold Core.outcome
  cases o <;> simp
theorem Core.alarmsDue_pipe (now : Nat) (c : Core) : (c.alarmsDue now).pipe = c.pipe := by
  unfold Core.alarmsDue
  split
  · rfl
  · exact foldl_leaves Core.pipe (fun c ch => foldl_leaves Core.pipe (fun c a => c.outcome_pipe a _) _ c) _ c
theorem Core.alarmsIssue_pipe (c : Core) : c.alarmsIssue.pipe = c.pipe := by
  unfold Core.alarmsIssue
  refine foldl_leaves (fun r : List Nat × Core => r.2.pipe) (fun r a => ?_) _ _
  split
  · rfl
  · split
    · exact Core.outcome_pipe _ _ _
    · rfl
theorem Core.heldIssue_pipe (c : Core) : c.heldIssue.pipe = c.pipe := by
  unfold Core.heldIssue
  dsimp only
  rw [foldl_leaves Core.pipe fun c h => Core.when_pipe _ _ c (Core.confirmed_pipe _ c), Core.mapEng_pipe]
@[simp] theorem Core.alarmsFollow_pipe (now : Nat) (c : Core) : (c.alarmsFollow now).pipe = c.pipe := by
  unfold Core.alarmsFollow
  split
  · rfl
  · exact (Core.heldIssue_pipe _).trans ((Core.alarmsIssue_pipe _).trans (c.alarmsDue_pipe now))

/-! Output branches -/

@[simp] theorem Core.notStarted_pipe (k n : Nat) (c : Core) : (c.notStarted k n).pipe = c.pipe := by
  simp [Core.notStarted]
@[simp] theorem Core.hostCarries_pipe (k : Nat) (c : Core) : (c.hostCarries k).2.pipe = c.pipe := by
  unfold Core.hostCarries
  dsimp only
  split
  · rfl
  · split <;> rfl
@[simp] theorem Core.mvDone_pipe (now ctx n : Nat) (f : MvFrame) (c : Core) : (c.mvDone now ctx n f).pipe = c.pipe := by
  simp only [Core.mvDone, Core.mapCtx_pipe, Core.bump_pipe, Core.issueFdr_pipe]
  exact Core.when_pipe _ _ _ (Core.writeback_pipe _ _ _)
@[simp] theorem Core.mvTake_pipe (now ctx : Nat) (l : LineRec) (c : Core) : (c.mvTake now ctx l).pipe = c.pipe := by
  unfold Core.mvTake
  split
  · rfl
  · extract_lets link d f' ok e f'' g
    have hd : d.pipe = c.pipe := by simp [d, link]
    have he : e.pipe = c.pipe := by
      unfold e
      split <;> exact hd
    split
    · exact (Core.mvDone_pipe _ _ _ _ _).trans he
    · exact he
@[simp] theorem Core.mvBranch_pipe (now : Nat) (l : LineRec) (c : Core) : (c.mvBranch now l).pipe = c.pipe := by
  unfold Core.mvBranch
  split
  · rfl
  · split
    · exact c.mvTake_pipe _ _ _
    · rfl
@[simp] theorem Core.summaryLine_pipe (now : Nat) (l : LineRec) (c : Core) : (c.summaryLine now l).pipe = c.pipe := by
  unfold Core.summaryLine
  dsimp only
  split
  · rfl
  · split
    · simp
    · exact ((Core.Logged.issue _ _ _ (by decide)).same Core.pipe).trans (c.lossReports_pipe now)
@[simp] theorem Core.statLine_pipe (now : Nat) (l : LineRec) (c : Core) : (c.statLine now l).pipe = c.pipe := by
  unfold Core.statLine
  split
  · rfl
  · dsimp only
    split <;> rfl
@[simp] theorem Core.archLine_pipe (l : LineRec) (c : Core) : (c.archLine l).pipe = c.pipe := by
  unfold Core.archLine
  repeat' split
  all_goals simp
@[simp] theorem Core.sheetDone_pipe (now : Nat) (l : LineRec) (c : Core) : (c.sheetDone now l).pipe = c.pipe := by
  unfold Core.sheetDone
  split
  · rfl
  · split
    · rfl
    · split <;> simp
/-- A line passes the output branches and stands in the pipeline as it did. -/
@[simp] theorem Core.outLine_pipe (now : Nat) (l : LineRec) (c : Core) : (c.outLine now l).pipe = c.pipe := by
  unfold Core.outLine
  extract_lets a b d e f
  have ha : a.pipe = c.pipe := c.when_pipe _ _ (Core.when_pipe _ _ _ (Core.raiseTo_pipe _ _ _ _) |>.trans (by simp))
  have hb : b.pipe = a.pipe := a.when_pipe _ _ (a.bump_pipe _ _)
  have hf : f.pipe = e.pipe := e.when_pipe _ _ rfl
  simp [hf, e, d, hb, ha]
@[simp] theorem Core.outLines_pipe (now : Nat) (ls : List LineRec) (c : Core) :
    (ls.foldl (fun c l => c.outLine now l) c).pipe = c.pipe :=
  foldl_leaves Core.pipe (fun c l => c.outLine_pipe now l) ls c

end Sys2Proof.Machine
end

section
namespace Sys2Proof.Machine

/-! ### Objects below the counters of on-die memory, and counts -/

/-- The objects below the counters of on-die memory (12 R381) stand as they were. -/
def Core.sameLow (c d : Core) : Prop := ∀ i s, s < 256 → i < 0x2F00 → d.obj i s = c.obj i s

theorem Core.sameLow.trans {c d e : Core} (h1 : c.sameLow d) (h2 : d.sameLow e) : c.sameLow e :=
  fun i s hs hi => (h2 i s hs hi).trans (h1 i s hs hi)
theorem Core.sameLow_of_dict {c d : Core} (h : d.dict = c.dict) : c.sameLow d := fun i s _ _ =>
  congrArg (fun l => sget dfltOf l (key i s)) h
theorem Core.sameLow_foldl {α : Type} {f : Core → α → Core} (h : ∀ (c : Core) (a : α), c.sameLow (f c a)) (l : List α) (c : Core) :
    c.sameLow (l.foldl f c) :=
  List.foldlRecOn (motive := c.sameLow) l f (Core.sameLow_of_dict rfl) fun d hd a _ => Core.sameLow.trans hd (h d a)
theorem Core.sameLow_when {c : Core} {b : Bool} {f : Core → Core} (h : c.sameLow (f c)) : c.sameLow (c.when b f) :=
  Core.when_of (P := c.sameLow) b f c (Core.sameLow_of_dict rfl) h
theorem Core.sameLow_put (c : Core) {j : Nat} (r v : Nat) (hj : 0x2F00 ≤ j) : c.sameLow (c.put j r v) :=
  fun _ _ hs hi => c.obj_put_low v hs hi hj
theorem Core.sameLow_bump (c : Core) {j : Nat} (r : Nat) (hj : 0x2F00 ≤ j) : c.sameLow (c.bump j r) :=
  fun _ _ hs hi => c.obj_bump_low hs hi hj
theorem Core.sameLow_event (c : Core) (now code seg : Nat) (tail : List Byte) :
    c.sameLow (c.event now code seg tail) :=
  fun i s hs hi => (Core.Logged.event _ _ _ _).obj i s hs (by omega)
theorem Core.sameLow_mapSram (c : Core) (f : Sram → Sram) : c.sameLow (c.mapSram f) := fun _ _ _ _ => rfl
theorem Core.sameLow_wantRewrite (a : Nat) (c : Core) : c.sameLow (c.wantRewrite a) := by
  unfold Core.wantRewrite
  split
  · exact c.sameLow_mapSram _
  · exact fun _ _ _ _ => rfl
theorem Core.sameLow_poisonCount (c : Core) : c.sameLow c.poisonCount := c.sameLow_put _ _ (by decide)
theorem Core.sameLow_sramPoison (now a : Nat) (c : Core) : c.sameLow (c.sramPoison now a) := by
  unfold Core.sramPoison
  extract_lets d e f g k
  have he : d.sameLow e :=
    ((d.sameLow_bump _ (by decide)).trans (Core.sameLow_bump _ _ (by decide))).trans (Core.sameLow_put _ _ _ (by decide))
  have hg : f.sameLow g := (f.sameLow_mapSram _).trans (Core.sameLow_poisonCount _)
  have hk : f.sameLow k := by
    unfold k
    split
    · exact hg.trans (Core.sameLow_when (Core.sameLow_event _ _ _ _ _))
    · exact fun _ _ _ _ => rfl
  exact ((((c.sameLow_mapSram _).trans he).trans (e.sameLow_event _ _ _ _)).trans hk).trans (k.sameLow_wantRewrite a)
theorem Core.sameLow_sramLook (now a : Nat) (w : WordOutcome) (c : Core) : c.sameLow (c.sramLook now a w).2 := by
  unfold Core.sramLook
  split
  · exact c.sameLow_bump _ (by decide)
  · split
    · exact Core.sameLow_of_dict rfl
    · split
      · exact Core.sameLow_of_dict rfl
      · exact fun i s hs hi => c.obj_sramCorrect_low a hs hi
      · exact c.sameLow_sramPoison now a
theorem Core.sameLow_sramFind (now : Nat) (p : Nat → Bool) (c : Core) : c.sameLow (c.sramFind now p) :=
  Core.sameLow_foldl (fun d a => d.sameLow_sramLook now a .clean) _ c
theorem Core.sameLow_sramUse (now : Nat) (p : Nat → Bool) (c : Core) : c.sameLow (c.sramUse now p) :=
  (Core.sameLow_foldl (fun d _ => d.sameLow_event _ _ _ _) _ c).trans (Core.sameLow_sramFind now p _)
theorem Core.sameLow_lineReads (now n : Nat) (c : Core) : c.sameLow (c.lineReads now n) :=
  (c.sameLow_sramUse now _).trans (Core.sameLow_sramFind now _ _)
theorem Core.sameLow_refill (n : Nat) (c : Core) : c.sameLow (c.refill n) :=
  fun _ _ hs hi => (Core.obj_wordsWritten_low _ _ hs hi).trans rfl

/-- A count leaves every other object. -/
theorem Core.obj_bumpBy_keep (c : Core) (i s n j r : Nat) (hs : s < 256) (hr : r < 256) (h : (j, r) ≠ (i, s)) :
    (c.bumpBy i s n).obj j r = c.obj j r := by
  unfold Core.bumpBy
  dsimp only
  split <;> exact c.obj_keep _ _ _ _ _ hs hr h

/-- A counter's next value depends on the counter alone. -/
theorem Core.obj_bump_congr {c d : Core} {i s : Nat} (h : d.obj i s = c.obj i s) :
    (d.bump i s).obj i s = (c.bump i s).obj i s := by
  simp only [Core.bump_eq, Core.obj_put_self, Core.counted, h]

end Sys2Proof.Machine
end

section
namespace Sys2Proof.Machine

/-! ### The completion and the resolution of web lines (06 R202, R203) -/

/-- Every row of a web line is resolved, in every context, and every line before it is (06 R203). -/
def Core.lineOnce (c : Core) (n : Nat) : Bool :=
  c.lineCtxs.all (fun x => c.lineSettled x n) && c.pipe.nextRes == n

@[simp] theorem Core.dcOf_pipe (x n : Nat) (c : Core) : (c.dcOf x n).2.pipe = c.pipe := by
  unfold Core.dcOf
  split <;> rfl
@[simp] theorem Core.dcsOf_pipe (n : Nat) (c : Core) : (c.dcsOf n).2.pipe = c.pipe :=
  foldl_leaves (fun r : List (Nat × Nat) × Core => r.2.pipe) (fun r x => r.2.dcOf_pipe x n) _ _
theorem Core.dcsOf_dict (n : Nat) (c : Core) : (c.dcsOf n).2.dict = c.dict :=
  foldl_leaves (fun r : List (Nat × Nat) × Core => r.2.dict) (fun r x => by
    unfold Core.dcOf
    split <;> rfl) _ _

/-- A line's DC times stand for its contexts, in order. -/
theorem Core.dcsOf_ctxs (n : Nat) (c : Core) : (c.dcsOf n).1.map (·.1) = c.lineCtxs := by
  suffices h : ∀ (l : List Nat) (r : List (Nat × Nat) × Core),
      (l.foldl (fun r x => (r.1 ++ [(x, (r.2.dcOf x n).1)], (r.2.dcOf x n).2)) r).1.map (·.1) =
        r.1.map (·.1) ++ l from h c.lineCtxs ([], c)
  intro l
  induction l with
  | nil => simp
  | cons x l ih => intro r; rw [List.foldl_cons, ih]; simp

/-- The records with which line `n` completes. -/
def Core.lineRecs (now n : Nat) (once : Bool) (c : Core) : List LineRec :=
  (c.dcsOf n).1.map (fun x => ((c.dcsOf n).2.lineReads now n).formLine x.1 n x.2 once once)

theorem Core.lineRecs_ctx (now n : Nat) (once : Bool) (c : Core) :
    (c.lineRecs now n once).map (·.ctx) = c.lineCtxs := by
  rw [← c.dcsOf_ctxs n, Core.lineRecs, List.map_map]
  rfl

theorem Core.lineRecs_n {now n : Nat} {once : Bool} {c : Core} {l : LineRec} (h : l ∈ c.lineRecs now n once) :
    l.n = n := by
  obtain ⟨x, -, rfl⟩ := List.mem_map.1 h
  rfl

/-- A provisional record shows so, and has no resolution. -/
theorem Core.lineRecs_provisional {now n : Nat} {c : Core} {l : LineRec} (h : l ∈ c.lineRecs now n false) :
    l.res = none ∧ 128 ≤ l.status := by
  obtain ⟨x, -, rfl⟩ := List.mem_map.1 h
  exact ⟨rfl, by simp [Core.formLine]⟩

theorem Core.lineRecs_resolved {now n : Nat} {c : Core} {l : LineRec} (h : l ∈ c.lineRecs now n true) :
    l.res.isSome = true := by
  obtain ⟨x, -, rfl⟩ := List.mem_map.1 h
  rfl

/-- The machine with line `n` complete, before the outputs take it or it counts as provisional. -/
def Core.lineStands (now n : Nat) (once : Bool) (c : Core) : Core :=
  let d := (c.dcsOf n).2.lineReads now n
  (((d.bumpBy 0x2640 1 (sumNat (c.lineCtxs.map (fun x => d.clamps x n)))).bumpBy 0x2620 7 (d.emptyGroups n)).mapPipe
    (fun p => { p with
      lines := p.lines ++ c.lineRecs now n once, nextLine := n + 1, nextRes := if once then n + 1 else p.nextRes })).refill n

@[simp] theorem Core.lineStands_pipe (now n : Nat) (once : Bool) (c : Core) :
    (c.lineStands now n once).pipe = { c.pipe with
      lines := c.pipe.lines ++ c.lineRecs now n once, nextLine := n + 1,
      nextRes := if once then n + 1 else c.pipe.nextRes } := by
  simp [Core.lineStands]

/-- The count of provisional lines waits for the line's own (06 R203). -/
theorem Core.lineStands_provisional (now n : Nat) (once : Bool) (c : Core) :
    (c.lineStands now n once).obj 0x2620 4 = c.obj 0x2620 4 := by
  rw [Core.lineStands, Core.sameLow_refill _ _ _ _ (by decide) (by decide), Core.mapPipe_obj,
    Core.obj_bumpBy_keep _ _ _ _ _ _ (by decide) (by decide) (by decide),
    Core.obj_bumpBy_keep _ _ _ _ _ _ (by decide) (by decide) (by decide),
    Core.sameLow_lineReads _ _ _ _ _ (by decide) (by decide),
    Core.sameLow_of_dict (c.dcsOf_dict n) _ _ (by decide) (by decide)]

theorem Core.lineComplete_eq {now n : Nat} {c : Core} (hn : c.pipe.nextLine = n) (hw : c.lineWanted n = true)
    (hd : ∀ x ∈ c.lineCtxs, c.lineDone x n = true) :
    c.lineComplete now = if c.lineOnce n
      then ((c.lineRecs now n true).foldl (fun c l => c.outLine now l) (c.lineStands now n true)).alarmsFollow now
      else (c.lineStands now n false).bump 0x2620 4 := by
  have hall : c.lineCtxs.all (fun x => c.lineDone x n) = true := List.all_eq_true.2 hd
  unfold Core.lineComplete
  dsimp only
  rw [hn, if_neg (by simp [hw, hall])]
  cases ho : c.lineOnce n <;> rw [Core.lineOnce] at ho <;> rw [ho] <;>
    simp only [Core.lineStands, Core.lineRecs, Bool.false_eq_true, if_true, if_false]

theorem Core.lineComplete_pipe {now n : Nat} {c : Core} (hn : c.pipe.nextLine = n) (hw : c.lineWanted n = true)
    (hd : ∀ x ∈ c.lineCtxs, c.lineDone x n = true) :
    (c.lineComplete now).pipe = (c.lineStands now n (c.lineOnce n)).pipe := by
  rw [Core.lineComplete_eq hn hw hd]
  cases c.lineOnce n <;> simp only [Bool.false_eq_true, if_true, if_false, Core.bump_pipe, Core.alarmsFollow_pipe,
    Core.outLines_pipe]

theorem Core.lineComplete_counted {now n : Nat} {c : Core} (hn : c.pipe.nextLine = n) (hw : c.lineWanted n = true)
    (hd : ∀ x ∈ c.lineCtxs, c.lineDone x n = true) (ho : c.lineOnce n = false) :
    (c.lineComplete now).obj 0x2620 4 = (c.bump 0x2620 4).obj 0x2620 4 := by
  rw [Core.lineComplete_eq hn hw hd, ho, if_neg Bool.false_ne_true]
  exact Core.obj_bump_congr (c.lineStands_provisional now n false)

/-- Completed lines whose every row is resolved resolve in turn, in their places (06 R203). -/
theorem Core.lineResolved_pipe {now n : Nat} {c : Core} (hn : c.pipe.nextRes = n)
    (hx : ∃ l ∈ c.pipe.lines, l.n = n ∧ l.res = none)
    (hs : ∀ l ∈ c.pipe.lines, l.n = n → l.res = none → c.lineSettled l.ctx n = true) :
    (c.lineResolved now).pipe.nextRes = n + 1 ∧ (c.lineResolved now).pipe.nextLine = c.pipe.nextLine ∧
      (c.lineResolved now).pipe.lines.length = c.pipe.lines.length := by
  have hm : ∀ l, l ∈ c.pipe.lines.filter (fun l => l.n == n && l.res.isNone) ↔
      l ∈ c.pipe.lines ∧ l.n = n ∧ l.res = none := by simp
  obtain ⟨l, hl, hln, hlr⟩ := hx
  have hne : (c.pipe.lines.filter (fun l => l.n == n && l.res.isNone)).isEmpty = false :=
    List.isEmpty_eq_false_iff_exists_mem.2 ⟨l, (hm l).2 ⟨hl, hln, hlr⟩⟩
  have hall : (c.pipe.lines.filter (fun l => l.n == n && l.res.isNone)).all (fun l => c.lineSettled l.ctx n) = true :=
    List.all_eq_true.2 fun k hk =>
      have ⟨hkl, hkn, hkr⟩ := (hm k).1 hk
      hs k hkl hkn hkr
  unfold Core.lineResolved
  dsimp only
  rw [hn, if_neg (by simp only [hne, hall]; decide)]
  simp only [Core.alarmsFollow_pipe, Core.outLines_pipe, Core.mapPipe_pipe, List.length_map]
  rw [Core.when_pipe _ _ _ (Core.bump_pipe _ _ _), Core.lineReads_pipe]
  exact ⟨trivial, rfl, rfl⟩

end Sys2Proof.Machine
end

section
namespace Sys2Proof.Machine

/-! ### Rows converted and sent (04 R106 to R108, 05 R150) -/

/-! What follows a conversion leaves the packets in flight. -/

theorem Core.settleExpo_inFlight (m : Nat) (b : Bool) (st : RowState) (c : Core) :
    (c.settleExpo m b st).pipe.inFlight = c.pipe.inFlight := by
  unfold Core.settleExpo
  extract_lets mine gone k d e
  exact (congrArg Pipe.inFlight (e.when_pipe _ _ (e.bumpBy_pipe _ _ _))).trans rfl
theorem Core.failOverdue_inFlight (x : Expo) (c : Core) : (c.failOverdue x).pipe.inFlight = c.pipe.inFlight := by
  unfold Core.failOverdue
  simp only [Core.bump_pipe, Core.mapPipe_pipe, Core.mapExpo, Core.mapMot_pipe, Core.settleExpo_inFlight]
theorem Core.overdueStep_inFlight (c : Core) : c.overdueStep.pipe.inFlight = c.pipe.inFlight := by
  suffices h : ∀ (f : Nat) (c : Core), (c.overdueGo f).pipe.inFlight = c.pipe.inFlight from h _ c
  intro f
  induction f with
  | zero => exact fun _ => rfl
  | succ f ih =>
    intro c
    unfold Core.overdueGo
    split
    · split
      · rfl
      · rw [ih, Core.failOverdue_inFlight]
    · rfl
theorem Core.rowSlot_pipe (now q : Nat) (c : Core) : (c.rowSlot now q).pipe = c.pipe :=
  (Core.when_pipe _ _ (c.mapWalk q _) rfl).trans rfl
theorem Core.alarmsOverdue_pipe (now : Nat) (c : Core) : (c.alarmsOverdue now).pipe = c.pipe := by
  unfold Core.alarmsOverdue
  split
  · rfl
  · exact Core.alarmsFollow_pipe _ _
theorem Core.walkTakeover_pipe (q : Nat) (c : Core) : (c.walkTakeover q).pipe = c.pipe := c.when_pipe _ _ rfl
theorem Core.walkHandback_pipe (q : Nat) (c : Core) : (c.walkHandback q).pipe = c.pipe := by
  unfold Core.walkHandback
  dsimp only
  split
  · rfl
  · split
    · simp
    · rfl
theorem Core.stepSwitch_pipe (q : Nat) (take : Bool) (c : Core) : (c.stepSwitch q take).pipe = c.pipe := by
  unfold Core.stepSwitch
  extract_lets due d
  split
  · rfl
  · split
    · rfl
    · split
      · exact d.walkTakeover_pipe q
      · exact d.walkHandback_pipe q
theorem Core.walkWaits_pipe (q : Nat) (c : Core) : (c.walkWaits q).pipe = c.pipe :=
  c.when_pipe _ _ (c.stepSwitch_pipe q _)

/-! The packet of an active row -/

/-- The flags of an active row's tag (05 R150). -/
def Core.activeFlags (c : Core) (seg : Nat) (south : Bool) (x : Expo) (s row start : Nat) : RowFlags :=
  { provisional := x.state == .pending && !c.timedJob, coasted := x.coasted,
    preJob := decide (c.tagCoord x (c.rowCoord x s row) < 0),
    outside := c.inSheet && (c.lineOf (c.rowCoord x s row).floor).isNone,
    settle := c.rowSettles (2 * seg + b2n south) x s row,
    clockBad := c.clockBad seg (2 * seg + b2n south) start, dcFree := c.dcFree }

/-- The bank with a stripe's settings in force. -/
def Core.setForRow (c : Core) (q : Nat) (x : Expo) (s : Nat) : Core :=
  (c.timingFollow q s (c.sensorGen x.target s).band).mapWalk q (settleAfter (c.sensorGen x.target s) s)

/-- The packet of an active row (05 R150, 14 R425). -/
def Core.activePacket (c : Core) (now seg : Nat) (south : Bool) (x : Expo) (tx : Nat) (k : Fin 6) (row start : Nat)
    (raw : List Nat) : RowPkt :=
  (c.setForRow (2 * seg + b2n south) x k.val).packet now seg south (.active x.m x.b k row) raw
    (c.activeFlags seg south x k.val row start) (c.tagCoord x (c.rowCoord x k.val row))
    (c.stamp x.centre % 2 ^ 32) (start - tx)

/-- Only walks differ. -/
theorem Core.of_setForRow {α : Type} (f : Core → α) (c : Core) (q : Nat) (x : Expo) (s : Nat)
    (hf : ∀ (c : Core) (l : List ConvWalk), f { c with walks := l } = f c := by intros; rfl) :
    f (c.setForRow q x s) = f c := by
  unfold Core.setForRow Core.timingFollow
  split
  · exact hf c _
  · exact (hf _ _).trans ((hf _ _).trans (hf c _))

theorem Core.walkRestart_pong (c : Core) (q : Nat) : ((c.walkRestart q).walk q).pong = (c.walk q).pong := by
  unfold Core.walkRestart
  refine Core.walk_mapWalk_same ConvWalk.pong (fun w => ?_) c q
  split <;> rfl

/-- A bank's row goes to ping or pong as it would under its old settings. -/
theorem Core.setForRow_pong (c : Core) (q : Nat) (x : Expo) (s : Nat) :
    ((c.setForRow q x s).walk q).pong = (c.walk q).pong := by
  refine (Core.walk_mapWalk_same ConvWalk.pong (f := settleAfter _ s) (fun _ => rfl) _ q).trans ?_
  unfold Core.timingFollow
  split
  · rfl
  · rw [Core.walkRestart_pong]
    refine Core.walk_mapWalk_same ConvWalk.pong ?_ c q
    exact fun _ => rfl

theorem Core.convertActive_inFlight (now seg : Nat) (south : Bool) (x : Expo) (tx : Nat) (k : Fin 6)
    (row start : Nat) (raw : List Nat) (c : Core) :
    (c.convertActive now seg south x tx k.val row start raw).pipe.inFlight =
      c.pipe.inFlight ++ [c.activePacket now seg south x tx k row start raw] := by
  unfold Core.convertActive
  extract_lets q g u tag settle bad d fl p e f h
  have hp : p = c.activePacket now seg south x tx k row start raw := by
    have hd : d = c.setForRow q x k.val := rfl
    unfold p fl
    rw [dif_pos k.isLt, hd, c.of_setForRow Core.timedJob q x k.val, c.of_setForRow Core.inSheet q x k.val,
      c.of_setForRow (·.lineOf u.floor) q x k.val, c.of_setForRow Core.dcFree q x k.val,
      c.of_setForRow (·.stamp x.centre) q x k.val]
    rfl
  have he : e.pipe.inFlight = c.pipe.inFlight ++ [p] :=
    congrArg (fun y : Pipe => y.inFlight ++ [p]) (c.of_setForRow Core.pipe q x k.val)
  have hf : f.pipe = e.pipe :=
    (Core.when_pipe _ _ _ (Core.bump_pipe _ _ _)).trans (Core.when_pipe _ _ _ (Core.bump_pipe _ _ _))
  have hh : h.pipe.inFlight = f.pipe.inFlight :=
    Core.when_of (P := fun d => d.pipe.inFlight = f.pipe.inFlight) _ _ f rfl (f.settleExpo_inFlight _ _ _)
  rw [h.overdueStep_inFlight, hh, hf, he, hp]

/-! Rows that their bank has to convert -/

/-- The exposure of a row that is due is the one that the row names. -/
theorem Core.activeDue_expo {c : Core} {seg : Nat} {south b : Bool} {m s row start tx : Nat} {x : Expo}
    (h : c.activeDue seg south m b s row start = some (x, tx)) : x.m = m ∧ x.b = b := by
  unfold Core.activeDue at h
  split at h
  · cases h
  · next y hy =>
    split at h
    · cases h
    · dsimp only at h
      obtain ⟨-, h⟩ := (Option.ite_none_right_eq_some).1 h
      obtain ⟨rfl, -⟩ := Prod.mk.inj (Option.some.inj h)
      simpa using List.find?_some hy

/-- No exposure is marked while the loop does not coast. -/
theorem Core.markCoasted_not {c : Core} (h : c.coasting = false) (now : Nat) : c.markCoasted now = c := by
  simp [Core.markCoasted, h]

theorem Core.convertKind_inspecting {c : Core} (hi : c.inspecting = true) (hj : c.job.running = true)
    (now seg : Nat) (south : Bool) (start : Nat) (raw : List Nat) (kind : RowKind) :
    c.convertKind now seg south kind start raw = match kind with
      | .active m b s row => (c.activeDue seg south m b s.val row start).map (fun x =>
          c.convertActive now seg south x.1 x.2 s.val row start raw)
      | .black j => if !c.blackDue seg south j.val start then none
          else some ((c.convertFree now seg south kind start raw).mapWalk (2 * seg + b2n south) blackTurn)
      | .velo m row47 =>
          if c.veloDue seg south m row47 start then some (c.convertFree now seg south kind start raw) else none := by
  have hm : (c.mode == .calibrate || c.mode == .service) = false := by
    rcases Bool.or_eq_true_iff.1 hi with h | h <;> rw [eq_of_beq h] <;> rfl
  unfold Core.convertKind
  rw [hm, hj]
  cases kind <;> rfl

/-- A free row goes out with its raw codes. -/
theorem Core.convertFree_inFlight (now seg : Nat) (south : Bool) (kind : RowKind) (start : Nat) (raw : List Nat)
    (c : Core) : ∃ p, (c.convertFree now seg south kind start raw).pipe.inFlight = c.pipe.inFlight ++ [p] ∧
      p.kind = kind ∧ p.raw = raw := by
  let p := c.packet now seg south kind raw
    { clockBad := c.clockBad seg (2 * seg + b2n south) start, dcFree := c.dcFree } 0 0 0
  exact ⟨p, congrArg Pipe.inFlight (Core.when_pipe _ _ (c.send p) (Core.bump_pipe _ _ _)), rfl, rfl⟩

/-- A row slot at the end of its conversion: what its bank converts is sent (04 R106, R110). -/
theorem Core.convertRow_inFlight {c d : Core} {now seg start : Nat} {south : Bool} {kind : RowKind}
    {cols : List ColSample} (hs : c.segOn seg = true) (hi : c.inspecting = true) (hc : c.coasting = false)
    (ht : start + c.convTime seg ≤ now)
    (hk : c.convertKind now seg south kind start (cols.map (rawCode c.depth)) = some d) :
    (((c.convertRow now seg south kind start cols).alarmsOverdue now).walkWaits (2 * seg + b2n south)).pipe.inFlight =
      d.pipe.inFlight := by
  rw [Core.walkWaits_pipe, Core.alarmsOverdue_pipe]
  have hg : (!c.segOn seg || !(c.mode == .calibrate || c.inspecting || c.mode == .service) ||
      decide (now < start + c.convTime seg)) = false := by
    simp [hs, hi, Nat.not_lt.2 ht]
  unfold Core.convertRow
  rw [if_neg (by rw [hg]; decide), Core.markCoasted_not hc, hk]
  exact congrArg Pipe.inFlight ((Core.rowSlot_pipe _ _ _).trans (Core.bumpBy_pipe _ _ _ _))

end Sys2Proof.Machine
end

section
namespace Sys2Proof.Machine

/-! ### The tag check of a row packet (06 R184, 14 R426) -/

/-- What places the rows on the web stands as it was: exposures and sheets, the job, the mode, the generations and the
objects below the counters of on-die memory (05 R136, R150, 06 R181). -/
structure Core.SameWeb (c d : Core) : Prop where
  mot : d.mot = c.mot
  job : d.job = c.job
  mode : d.mode = c.mode
  gens : d.pipe.gens = c.pipe.gens
  low : c.sameLow d

namespace Core.SameWeb

theorem trans {c d e : Core} (h1 : c.SameWeb d) (h2 : d.SameWeb e) : c.SameWeb e :=
  ⟨h2.mot.trans h1.mot, h2.job.trans h1.job, h2.mode.trans h1.mode, h2.gens.trans h1.gens, h1.low.trans h2.low⟩

theorem bump (c : Core) {i : Nat} (s : Nat) (hi : 0x2F00 ≤ i) : c.SameWeb (c.bump i s) :=
  have h := c.rest_bump i s
  ⟨Core.of_rest Core.mot (fun _ => rfl) h, Core.of_rest Core.job (fun _ => rfl) h,
    Core.of_rest Core.mode (fun _ => rfl) h, Core.of_rest (·.pipe.gens) (fun _ => rfl) h, c.sameLow_bump s hi⟩

theorem sramUse (now : Nat) (p : Nat → Bool) (c : Core) : c.SameWeb (c.sramUse now p) :=
  have h := c.sramUse_readRest now p
  ⟨Core.of_readRest Core.mot h, Core.of_readRest Core.job h, Core.of_readRest Core.mode h,
    Core.of_readRest (·.pipe.gens) h, c.sameLow_sramUse now p⟩

theorem mapPipe (c : Core) (f : Pipe → Pipe) (hf : (f c.pipe).gens = c.pipe.gens) : c.SameWeb (c.mapPipe f) :=
  ⟨rfl, rfl, rfl, hf, fun _ _ _ _ => rfl⟩

theorem when {c : Core} {b : Bool} {f : Core → Core} (h : c.SameWeb (f c)) : c.SameWeb (c.when b f) :=
  Core.when_of (P := c.SameWeb) b f c ⟨rfl, rfl, rfl, rfl, fun _ _ _ _ => rfl⟩ h

section
variable {c d : Core} (h : c.SameWeb d)
include h

theorem tdi : d.tdi = c.tdi := h.low _ _ (by decide) (by decide)
theorem reversed : d.reversed = c.reversed := by
  simp only [Core.reversed, h.low 0x2403 0 (by decide) (by decide)]
theorem dual : d.dual = c.dual := by simp only [Core.dual, h.low 0x2212 0 (by decide) (by decide)]
theorem rowOffset (r : Nat) : d.rowOffset r = c.rowOffset r := by
  simp only [Core.rowOffset, Core.rowRatio, Core.pitch, h.reversed, h.low 0x2404 1 (by decide) (by decide),
    h.low 0x2404 3 (by decide) (by decide)]
theorem rowCoord (x : Expo) (s row : Nat) : d.rowCoord x s row = c.rowCoord x s row := by
  simp only [Core.rowCoord, h.rowOffset]
theorem inSheet : d.inSheet = c.inSheet := by simp only [Core.inSheet, h.job, h.mode]
theorem timedJob : d.timedJob = c.timedJob := by
  simp only [Core.timedJob, h.inSheet, h.job, Core.timedSheet, h.low 0x2460 1 (by decide) (by decide)]
theorem tagCoord (x : Expo) (u : Rat) : d.tagCoord x u = c.tagCoord x u := by
  simp only [Core.tagCoord, h.timedJob, h.mot]
theorem lineOf (u : Int) : d.lineOf u = c.lineOf u := by simp only [Core.lineOf, Core.sheetAt, h.inSheet, h.mot]
theorem entrySide (g : Gen) (s : Nat) : d.entrySide g s = c.entrySide g s := by
  simp only [Core.entrySide, h.reversed, h.tdi]
theorem genCoord (g : Gen) : d.genCoord g = c.genCoord g := by simp only [Core.genCoord, h.job, h.mot]
theorem sensorGen_window (t : Rat) {s : Nat} (hs : s < 6) :
    (d.sensorGen t s).window s = (c.sensorGen t s).window s := by
  simp only [Core.sensorGen, Core.gens, h.gens, h.genCoord, h.rowOffset, h.entrySide]
  split
  · rfl
  · split
    · rfl
    · exact h.low 0x2211 (s + 1) (by omega) (by decide)
theorem windowRows (x : Expo) {s : Nat} (hs : s < 6) : d.windowRows x s = c.windowRows x s := by
  simp only [Core.windowRows, h.tdi, h.sensorGen_window x.target hs]

/-- The tag check expects the same rows. -/
theorem schedule (south : Bool) : d.schedule south = c.schedule south := by
  simp only [Core.schedule, h.mot, h.dual]
  congr 1
  funext x
  refine List.flatMap_congr fun s hs => ?_
  rw [h.windowRows x (by cases south <;> simp at hs <;> omega)]

end

end Core.SameWeb

/-! The row expected next -/

/-- `r` stands in the pipeline for a row of exposure `x`, with its codes or BLIND. -/
structure RowRec.IsRow (r : RowRec) (x : Expo) (s i n g : Nat) (lost : Bool) : Prop where
  line : r.line = n
  m : r.m = x.m
  b : r.b = x.b
  stripe : r.stripe = s
  row : r.row = i
  seg : r.seg = g
  blind : r.blind = lost
  ys : lost = true → r.ys = []

/-- A row of a web line joins it; a BLIND one counts nothing but the released rows. -/
theorem Core.joinRow_joins {c : Core} {p : RowPkt} {x : Expo} {s row line : Nat}
    (hu : 0 ≤ c.tagCoord x (c.rowCoord x s row)) (hl : c.lineOf (c.rowCoord x s row).floor = some line) (blind : Bool) :
    ∃ r, (c.joinRow p x s row blind).pipe = { c.pipe with rows := c.pipe.rows ++ [r] } ∧
      r.IsRow x s row line p.seg blind ∧ (blind = true → ∀ i j, j < 256 → i ≠ 0x2421 →
        (c.joinRow p x s row blind).obj i j = c.obj i j) := by
  have hm : (if c.tagCoord x (c.rowCoord x s row) < 0 then none
      else c.lineOf (c.rowCoord x s row).floor) = some line := by rw [if_neg (Rat.not_lt.2 hu), hl]
  unfold Core.joinRow
  extract_lets u
  split
  · next h => exact absurd (hm.symm.trans h) (by simp)
  · next n h =>
    obtain rfl : line = n := Option.some.inj (hm.symm.trans h)
    extract_lets split d y st e r
    have hd : d.pipe = c.pipe := c.when_pipe _ _ (c.bump_pipe _ _)
    have he : e.pipe = c.pipe := (d.when_pipe _ _ (d.bump_pipe _ _)).trans hd
    refine ⟨r, congrArg (fun k : Pipe => { k with rows := k.rows ++ [r] }) he,
      ⟨rfl, rfl, rfl, rfl, rfl, rfl, rfl, fun hb => if_pos hb⟩, fun hb i j hj hi => ?_⟩
    have hc : d = c := by simp [d, hb]
    have ho : e.obj i j = d.obj i j := Core.when_of (P := fun k => k.obj i j = d.obj i j) _ _ d rfl
      (d.obj_bumpBy_keep _ _ _ _ _ (by decide) hj fun e => hi (Prod.mk.inj e).1)
    rw [Core.mapPipe_obj, ho, hc]

/-- A packet carries the first row of its lane's schedule, none having been delivered before it, and the row is one of
a web line of the job (06 R184). -/
structure Core.Heads (c : Core) (p : RowPkt) (x : Expo) (s row line : Nat) : Prop where
  expects : ∃ l, c.schedule p.south = (x, s, row) :: l
  first : alook c.pipe.lastRow (2 * p.seg + b2n p.south) = none
  inJob : 0 ≤ c.tagCoord x (c.rowCoord x s row)
  onLine : c.lineOf (c.rowCoord x s row).floor = some line

theorem Core.Heads.sameWeb {c d : Core} {p : RowPkt} {x : Expo} {s row line : Nat} (h : c.Heads p x s row line)
    (hd : c.SameWeb d) (hl : d.pipe.lastRow = c.pipe.lastRow) : d.Heads p x s row line where
  expects := by rw [hd.schedule]; exact h.expects
  first := by rw [hl]; exact h.first
  inJob := by rw [hd.rowCoord, hd.tagCoord]; exact h.inJob
  onLine := by rw [hd.rowCoord, hd.lineOf]; exact h.onLine

/-- The words that a row is corrected with are read, and its lane goes on behind it. -/
def Core.rowPlaced (now : Nat) (p : RowPkt) (x : Expo) (s row : Nat) (blind : Bool) (c : Core) : Core :=
  (if blind then c else c.sramUse now (c.entryUse p s)).mapPipe (fun k => { k with
    lastRow := aput k.lastRow (2 * p.seg + b2n p.south) (lanePlace (x, s, row))
    skipping := k.skipping.filter (· != 2 * p.seg + b2n p.south) })

theorem Core.rowPlaced_sameWeb (now : Nat) (p : RowPkt) (x : Expo) (s row : Nat) (blind : Bool) (c : Core) :
    c.SameWeb (c.rowPlaced now p x s row blind) := by
  cases blind
  · exact (Core.SameWeb.sramUse now _ c).trans (.mapPipe _ _ rfl)
  · exact .mapPipe _ _ rfl

/-- The row expected next is none's successor: it takes its place, and joins its line. -/
theorem Core.tagCheck_heads {c : Core} {p : RowPkt} {x : Expo} {s row line : Nat} (h : c.Heads p x s row line)
    (now : Nat) (blind : Bool) :
    c.tagCheck now p x.m x.b s row blind = (c.rowPlaced now p x s row blind).joinRow p x s row blind := by
  obtain ⟨l, hs⟩ := h.expects
  unfold Core.tagCheck
  dsimp only
  rw [h.first, hs]
  simp [Core.rowPlaced]

/-- An active row delivered: it joins its line, BLIND where it is lost, which its link counts (14 R426). -/
theorem Core.deliverRow_heads {c : Core} {p : RowPkt} {x : Expo} {k : Fin 6} {row line : Nat}
    (hk : p.kind = .active x.m x.b k row) (hj : c.job.running = true) (h : c.Heads p x k.val row line) (now : Nat)
    (lost : Bool) :
    ∃ r, (c.deliverRow now p lost).pipe.inFlight = c.pipe.inFlight ∧
      (c.deliverRow now p lost).pipe.rows = c.pipe.rows ++ [r] ∧ r.IsRow x k.val row line p.seg lost ∧
      (lost = true → ∀ i j, j < 256 → i ≠ 0x2421 →
        (c.deliverRow now p lost).obj i j = (c.bump 0x3106 (p.seg + 1)).obj i j) := by
  let d := c.when lost (Core.bump 0x3106 (p.seg + 1))
  have hd : c.SameWeb d := .when (.bump c _ (by decide))
  have hp : d.pipe = c.pipe := c.when_pipe _ _ (c.bump_pipe _ _)
  have hh : d.Heads p x k.val row line := h.sameWeb hd (congrArg Pipe.lastRow hp)
  have he : c.deliverRow now p lost = (d.rowPlaced now p x k.val row lost).joinRow p x k.val row lost := by
    have hr : d.job.running = true := hd.job ▸ hj
    unfold Core.deliverRow
    rw [hk]
    exact (congrArg (fun b => Core.when b _ d) hr).trans (Core.tagCheck_heads hh now lost)
  have hw := d.rowPlaced_sameWeb now p x k.val row lost
  obtain ⟨r, hr, hrow, hobj⟩ := Core.joinRow_joins (p := p) (by rw [hw.rowCoord, hw.tagCoord]; exact hh.inJob)
    (by rw [hw.rowCoord, hw.lineOf]; exact hh.onLine) lost
  have hq : (d.rowPlaced now p x k.val row lost).pipe.inFlight = c.pipe.inFlight ∧
      (d.rowPlaced now p x k.val row lost).pipe.rows = c.pipe.rows := by
    rw [← hp]
    cases lost <;> simp [Core.rowPlaced]
  refine ⟨r, by rw [he, hr]; exact hq.1, by rw [he, hr]; exact congrArg (· ++ [r]) hq.2, hrow, fun hl i j hj hi => ?_⟩
  rw [he, hobj hl i j hj hi]
  subst hl
  rfl

/-! Packets taken from a link -/

/-- A packet of those in flight taken. -/
def Core.taken (p : RowPkt) (c : Core) : Core := c.mapPipe (fun x => { x with inFlight := x.inFlight.erase p })

theorem Core.takePacket_eq {c : Core} {seg : Nat} {p : RowPkt}
    (h : c.pipe.inFlight.find? (fun q => q.seg == seg) = some p) : c.takePacket seg = some (p, c.taken p) := by
  rw [Core.takePacket, h]
  rfl

theorem Core.packetArrives_eq {c : Core} {seg : Nat} {p : RowPkt}
    (h : c.pipe.inFlight.find? (fun q => q.seg == seg) = some p) (hl : c.linkCarries seg = true) (now : Nat)
    (crcOk : Bool) : c.packetArrives now seg crcOk true =
      ((c.taken p).when (!crcOk) (Core.bump 0x3107 (seg + 1))).deliverRow now p (!crcOk) := by
  unfold Core.packetArrives
  rw [Core.takePacket_eq h]
  dsimp only
  have hc : ((c.taken p).when (!crcOk) (Core.bump 0x3107 (seg + 1))).linkCarries seg = true :=
    Core.when_of (P := fun d => d.linkCarries seg = true) _ _ (c.taken p) hl (by rw [Core.bump_eq]; exact hl)
  rw [hc]
  simp

theorem Core.packetTimeout_eq {c : Core} {seg : Nat} {p : RowPkt}
    (h : c.pipe.inFlight.find? (fun q => q.seg == seg) = some p) (now : Nat) :
    c.packetTimeout now seg = if p.due ≤ now then (c.taken p).deliverRow now p true else c := by
  rw [Core.packetTimeout, Core.takePacket_eq h]

end Sys2Proof.Machine
end

section
namespace Sys2Proof.Machine

/-- The conversion of an active row that is due, under its command. -/
theorem exec_rowConversion_active {t m row start tx : Nat} {seg : Fin 8} {south b : Bool} {k : Fin 6}
    {cols : List ColSample} {x : Expo} {s : State} (hs : s.core.segOn seg.val = true)
    (hi : s.core.inspecting = true) (hj : s.core.job.running = true) (hc : s.core.coasting = false)
    (ht : start + s.core.convTime seg.val ≤ s.at_ t)
    (hd : s.core.activeDue seg.val south m b k.val row start = some (x, tx)) :
    ∃ u, exec (.rowConversion t seg south (.active m b k row) start cols) s = .next u ∧
      u.core.pipe.inFlight = s.core.pipe.inFlight ++
        [s.core.activePacket (s.at_ t) seg.val south x tx k row start (cols.map (rawCode s.core.depth))] := by
  obtain ⟨u, hu, -, hf, -⟩ := State.run_ends t (fun now c =>
    ((c.convertRow now seg.val south (.active m b k row) start cols).alarmsOverdue now).walkWaits
      (2 * seg.val + b2n south)) s
  refine ⟨u, hu, (Core.of_under hf (·.pipe.inFlight)).trans ?_⟩
  refine (Core.convertRow_inFlight hs hi hc ht ?_).trans (Core.convertActive_inFlight _ _ _ _ _ k _ _ _ _)
  rw [Core.convertKind_inspecting hi hj]
  dsimp only
  rw [hd]
  rfl

/-- The conversion of a black or velocimetry row that is due, under its command. -/
theorem exec_rowConversion_free {t start : Nat} {seg : Fin 8} {south : Bool} {kind : RowKind} {cols : List ColSample}
    {s : State} (hs : s.core.segOn seg.val = true) (hi : s.core.inspecting = true) (hj : s.core.job.running = true)
    (hc : s.core.coasting = false) (ht : start + s.core.convTime seg.val ≤ s.at_ t)
    (hd : (∃ j : Fin 8, kind = .black j ∧ s.core.blackDue seg.val south j.val start = true) ∨
      (∃ m r47, kind = .velo m r47 ∧ s.core.veloDue seg.val south m r47 start = true)) :
    ∃ u p, exec (.rowConversion t seg south kind start cols) s = .next u ∧
      u.core.pipe.inFlight = s.core.pipe.inFlight ++ [p] ∧ p.kind = kind ∧ p.raw = cols.map (rawCode s.core.depth) := by
  obtain ⟨u, hu, -, hf, -⟩ := State.run_ends t (fun now c =>
    ((c.convertRow now seg.val south kind start cols).alarmsOverdue now).walkWaits (2 * seg.val + b2n south)) s
  obtain ⟨p, hp, hkind, hraw⟩ := s.core.convertFree_inFlight (s.at_ t) seg.val south kind start
    (cols.map (rawCode s.core.depth))
  refine ⟨u, p, hu, (Core.of_under hf (·.pipe.inFlight)).trans (Eq.trans ?_ hp), hkind, hraw⟩
  rcases hd with ⟨j, rfl, hb⟩ | ⟨m, r47, rfl, hv⟩
  · refine (Core.convertRow_inFlight hs hi hc ht ?_).trans (congrArg Pipe.inFlight (Core.mapWalk_pipe (2 * seg.val + b2n south) blackTurn _))
    rw [Core.convertKind_inspecting hi hj]
    dsimp only
    rw [hb]
    rfl
  · refine Core.convertRow_inFlight hs hi hc ht ?_
    rw [Core.convertKind_inspecting hi hj]
    exact if_pos hv

/-- A packet at the head of its lane's schedule, delivered over its link: its row joins its line. -/
theorem exec_rowPacketArrival_heads {t row line : Nat} {seg : Fin 8} {k : Fin 6} {p : RowPkt} {x : Expo} {s : State}
    (hf : s.core.pipe.inFlight.find? (fun q => q.seg == seg.val) = some p) (hk : p.kind = .active x.m x.b k row)
    (hj : s.core.job.running = true) (hh : s.core.Heads p x k.val row line) (hl : s.core.linkCarries seg.val = true)
    (crcOk : Bool) :
    ∃ u r, exec (.rowPacketArrival t seg crcOk true) s = .next u ∧
      u.core.pipe.inFlight = s.core.pipe.inFlight.erase p ∧ u.core.pipe.rows = s.core.pipe.rows ++ [r] ∧
      r.IsRow x k.val row line seg.val (!crcOk) ∧ (crcOk = false →
        u.core.obj 0x3107 (seg.val + 1) = (s.core.bump 0x3107 (seg.val + 1)).obj 0x3107 (seg.val + 1) ∧
        u.core.obj 0x3106 (seg.val + 1) = (s.core.bump 0x3106 (seg.val + 1)).obj 0x3106 (seg.val + 1)) := by
  have hseg : p.seg = seg.val := by simpa using List.find?_some hf
  have hsub : seg.val + 1 < 256 := by omega
  obtain ⟨u, hu, -, hc, -⟩ := State.run_ends t (fun now c => c.packetArrives now seg.val crcOk true) s
  let d := (s.core.taken p).when (!crcOk) (Core.bump 0x3107 (seg.val + 1))
  have hd : s.core.SameWeb d := (Core.SameWeb.mapPipe s.core _ rfl).trans (.when (.bump _ _ (by decide)))
  have hp : d.pipe = (s.core.taken p).pipe := Core.when_pipe _ _ _ (Core.bump_pipe _ _ _)
  obtain ⟨r, hin, hrows, hr, hobj⟩ := Core.deliverRow_heads hk (hd.job ▸ hj)
    (hh.sameWeb hd ((congrArg Pipe.lastRow hp).trans rfl)) (s.at_ t) (!crcOk)
  rw [hseg] at hr hobj
  rw [Core.packetArrives_eq hf hl] at hc
  refine ⟨u, r, hu, ?_, ?_, hr, fun hbad => ?_⟩
  · exact (Core.of_under hc (·.pipe.inFlight)).trans (hin.trans (congrArg Pipe.inFlight hp))
  · exact (Core.of_under hc (·.pipe.rows)).trans (hrows.trans (congrArg (·.rows ++ [r]) hp))
  · subst hbad
    have hread : ∀ i, i ≠ 0x2421 → u.core.obj i (seg.val + 1) = (d.bump 0x3106 (seg.val + 1)).obj i (seg.val + 1) :=
      fun i hi => (Core.of_under hc (·.obj i (seg.val + 1))).trans (hobj rfl i _ hsub hi)
    constructor
    · rw [hread _ (by decide)]
      exact (d.obj_bumpBy_keep _ _ _ _ _ hsub hsub (by simp)).trans (Core.obj_bump_congr rfl)
    · rw [hread _ (by decide)]
      exact Core.obj_bump_congr ((Core.obj_bumpBy_keep _ _ _ _ _ _ hsub hsub (by simp)).trans rfl)

/-- The same packet when its time is over: its row stands BLIND. -/
theorem exec_rowPacketTimeout_heads {t row line : Nat} {seg : Fin 8} {k : Fin 6} {p : RowPkt} {x : Expo} {s : State}
    (hf : s.core.pipe.inFlight.find? (fun q => q.seg == seg.val) = some p) (hk : p.kind = .active x.m x.b k row)
    (hj : s.core.job.running = true) (hh : s.core.Heads p x k.val row line) (ht : p.due ≤ s.at_ t) :
    ∃ u r, exec (.rowPacketTimeout t seg) s = .next u ∧
      u.core.pipe.inFlight = s.core.pipe.inFlight.erase p ∧ u.core.pipe.rows = s.core.pipe.rows ++ [r] ∧
      r.IsRow x k.val row line p.seg true := by
  obtain ⟨u, hu, -, hc, -⟩ := State.run_ends t (fun now c => c.packetTimeout now seg.val) s
  obtain ⟨r, hin, hrows, hr, -⟩ := Core.deliverRow_heads (c := s.core.taken p) hk hj
    (hh.sameWeb (.mapPipe _ _ rfl) rfl) (s.at_ t) true
  rw [Core.packetTimeout_eq hf, if_pos ht] at hc
  exact ⟨u, r, hu, (Core.of_under hc (·.pipe.inFlight)).trans hin, (Core.of_under hc (·.pipe.rows)).trans hrows, hr⟩

/-- Settles O33: each row goes through the packet that its bank sends, the place that the tag check has for it, and
the line that it completes. -/
theorem rowsToLines : Obligations.RowsToLines := by
  unfold Obligations.RowsToLines
  refine ⟨?_, ?_, ?_, ?_, ?_⟩
  · intro t m row start tx seg south b k cols x s hs hi hj hc ht hd
    obtain ⟨u, hu, hp⟩ := exec_rowConversion_active hs hi hj hc ht hd (cols := cols)
    obtain ⟨rfl, rfl⟩ := Core.activeDue_expo hd
    exact ⟨u, _, hu, hp, rfl, rfl, rfl, rfl, rfl, rfl, rfl, rfl, s.core.setForRow_pong _ _ _, rfl, rfl, rfl, rfl, rfl,
      rfl⟩
  · exact fun t start seg south kind cols s hs hi hj hc ht hd => exec_rowConversion_free hs hi hj hc ht hd
  · intro t line seg k p x row l s hf hk hj hs hla hu hline hl
    have hh : s.core.Heads p x k.val row line :=
      ⟨⟨l, hs⟩, (by simpa using List.find?_some hf : p.seg = seg.val) ▸ hla, hu, hline⟩
    refine ⟨?_, ?_, fun ht => ?_, fun ht => ?_⟩
    · obtain ⟨u, r, hx, hin, hrows, hr, -⟩ := exec_rowPacketArrival_heads (t := t) hf hk hj hh hl true
      exact ⟨u, r, hx, hin, hrows, hr.line, hr.m, hr.b, hr.stripe, hr.row, hr.seg, hr.blind⟩
    · obtain ⟨u, r, hx, hin, hrows, hr, hcount⟩ := exec_rowPacketArrival_heads (t := t) hf hk hj hh hl false
      exact ⟨u, r, hx, hin, hrows, hr.line, hr.row, hr.seg, hr.blind, hr.ys rfl, hcount rfl⟩
    · obtain ⟨u, r, hx, hin, hrows, hr⟩ := exec_rowPacketTimeout_heads hf hk hj hh ht
      exact ⟨u, r, hx, hin, hrows, hr.line, hr.row, hr.blind⟩
    · obtain ⟨u, hx, -, hc, -⟩ := State.run_ends t (fun now c => c.packetTimeout now seg.val) s
      rw [Core.packetTimeout_eq hf, if_neg (Nat.not_le.2 ht)] at hc
      exact ⟨u, hx, hc⟩
  · intro t n s hn hw hd
    obtain ⟨u, hu, -, hc, -⟩ := State.run_ends t (fun now c => c.lineComplete now) s
    have hp : u.core.pipe = _ := (Core.of_under hc Core.pipe).trans ((Core.lineComplete_pipe hn hw hd).trans
      (Core.lineStands_pipe _ _ _ _))
    refine ⟨u, _, hu, congrArg Pipe.lines hp, Core.lineRecs_ctx _ _ _ _, fun l hl => Core.lineRecs_n hl,
      congrArg Pipe.nextLine hp, fun ⟨x, hx, hns⟩ => ?_, fun hres hall => ?_⟩
    · have ho : s.core.lineOnce n = false := by
        have : s.core.lineCtxs.all (fun x => s.core.lineSettled x n) = false := List.all_eq_false.2 ⟨x, hx, by simp [hns]⟩
        rw [Core.lineOnce, this, Bool.false_and]
      rw [ho] at hp ⊢
      exact ⟨(congrArg Pipe.nextRes hp).trans rfl, fun l hl => Core.lineRecs_provisional hl,
        (Core.of_under hc (·.obj 0x2620 4)).trans (Core.lineComplete_counted hn hw hd ho)⟩
    · have ho : s.core.lineOnce n = true := by simpa [Core.lineOnce, hres] using hall
      rw [ho] at hp ⊢
      exact ⟨congrArg Pipe.nextRes hp, fun l hl => Core.lineRecs_resolved hl⟩
  · intro t n s hn hx hs
    obtain ⟨u, hu, -, hc, -⟩ := State.run_ends t (fun now c => c.lineResolved now) s
    obtain ⟨hres, hline, hlen⟩ := Core.lineResolved_pipe (now := s.at_ t) hn hx hs
    have hp := Core.of_under hc Core.pipe
    exact ⟨u, hu, by rw [hp]; exact hres, by rw [hp]; exact hline, by rw [hp]; exact hlen⟩

end Sys2Proof.Machine
end

section
namespace Sys2Proof.Machine

/-! ### What the tests of exposures leave (05 R152, R155, R159) -/

/-- A core without objects, free values, the pipeline and the exposures. -/
def Core.testRest (c : Core) : Core :=
  { c with dict := [], free := 0, pipe := {}, mot := { c.mot with expos := [] } }

/-- `d` is `c` after exposures were tested or coasted: the exposures, the pipeline's rows, objects of 2421h and free
values may differ, nothing else. -/
structure Core.Tested (c d : Core) : Prop where
  rest : d.testRest = c.testRest
  obj : ∀ i s, s < 256 → i ≠ 0x2421 → d.obj i s = c.obj i s

namespace Core.Tested

theorem refl (c : Core) : c.Tested c := ⟨rfl, fun _ _ _ _ => rfl⟩

theorem trans {c d e : Core} (h1 : c.Tested d) (h2 : d.Tested e) : c.Tested e :=
  ⟨h2.rest.trans h1.rest, fun i s hs hi => (h2.obj i s hs hi).trans (h1.obj i s hs hi)⟩

/-- What looks at neither is left. -/
theorem same {c d : Core} (h : c.Tested d) {α : Type} (f : Core → α)
    (hf : ∀ c : Core, f c.testRest = f c := by intros; rfl) : f d = f c := by rw [← hf d, h.rest, hf c]

theorem foldl {α : Type} {f : Core → α → Core} (h : ∀ (c : Core) a, c.Tested (f c a)) (l : List α) (c : Core) :
    c.Tested (l.foldl f c) :=
  List.foldlRecOn (motive := c.Tested) l f (refl c) fun d hd a _ => hd.trans (h d a)

theorem when {c : Core} {b : Bool} {f : Core → Core} (h : c.Tested (f c)) : c.Tested (c.when b f) :=
  Core.when_of (P := c.Tested) b f c (refl c) h

theorem mapExpo (m : Nat) (b : Bool) (f : Expo → Expo) (c : Core) : c.Tested (c.mapExpo m b f) :=
  ⟨rfl, fun _ _ _ _ => rfl⟩

theorem mapPipe (f : Pipe → Pipe) (c : Core) : c.Tested (c.mapPipe f) := ⟨rfl, fun _ _ _ _ => rfl⟩

theorem fresh (c : Core) : c.Tested c.fresh.2 := ⟨rfl, fun _ _ _ _ => rfl⟩

theorem put (s v : Nat) (hs : s < 256) (c : Core) : c.Tested (c.put 0x2421 s v) :=
  ⟨rfl, fun _ _ hr hi => c.obj_keep _ _ _ _ _ hs hr fun e => hi (Prod.mk.inj e).1⟩

theorem bumpBy (s n : Nat) (hs : s < 256) (c : Core) : c.Tested (c.bumpBy 0x2421 s n) := by
  unfold Core.bumpBy
  dsimp only
  split <;> exact put _ _ hs _

theorem settleExpo (m : Nat) (b : Bool) (st : RowState) (c : Core) : c.Tested (c.settleExpo m b st) :=
  ((mapExpo _ _ _ c).trans (mapPipe _ _)).trans (when (bumpBy _ _ (by decide) _))

theorem putDeviation (d : Rat) (c : Core) : c.Tested (c.putDeviation d) := by
  unfold Core.putDeviation
  dsimp only
  split
  · exact put _ _ (by decide) _
  · exact (fresh c).trans (put _ _ (by decide) _)

theorem testExpo (xm : Rat) (c : Core) (x : Expo) : c.Tested (c.testExpo xm x) := by
  unfold Core.testExpo
  extract_lets dev pass d e
  have hd : c.Tested d := ((bumpBy _ _ (by decide) c).trans (putDeviation _ _)).trans (mapExpo _ _ _ _)
  split
  · exact hd
  · exact (hd.trans (when (bumpBy _ _ (by decide) _))).trans (settleExpo _ _ _ _)

theorem testAtEdge (now : Nat) (raw : Rat) (c : Core) : c.Tested (c.testAtEdge now raw) :=
  foldl (fun c x => testExpo _ c x) _ c

theorem testAtRest (now : Nat) (c : Core) : c.Tested (c.testAtRest now) := foldl (fun c x => testExpo _ c x) _ c

theorem coastExpo (st : RowState) (x : Expo) (c : Core) : c.Tested (c.coastExpo st x) :=
  ((mapPipe _ c).trans (mapExpo _ _ _ _)).trans (settleExpo _ _ _ _)

theorem markCoasted (now : Nat) (c : Core) : c.Tested (c.markCoasted now) := by
  unfold Core.markCoasted
  split
  · exact refl c
  · exact foldl (fun c x => coastExpo _ x c) _ c

end Core.Tested

/-! ### What the alarms leave (05 R158, 08 R275) -/

/-- What looks at neither the alarm bus, the outputs, the EtherCAT side nor the count of timeouts. -/
structure BusBlind {α : Type} (g : Core → α) : Prop where
  emit : ∀ (o : Out) (c : Core), g (c.emit o) = g c
  mapEc : ∀ (f : Ecat → Ecat) (c : Core), g (c.mapEc f) = g c
  mapEng : ∀ (f : Eng → Eng) (c : Core), g (c.mapEng f) = g c
  timeout : ∀ c : Core, g (c.bump 0x2421 6) = g c

namespace BusBlind

variable {α : Type} {g : Core → α}

theorem busSend (hg : BusBlind g) (ch kind reason num : Nat) (targets : BitVec 16) (c : Core) :
    g (c.busSend ch kind reason num targets) = g c := by
  unfold Core.busSend
  dsimp only
  rw [hg.mapEng]
  exact Core.when_of (P := fun d => g d = g c) _ _ _ (hg.emit _ c) ((hg.mapEc _ _).trans (hg.emit _ c))

theorem outcome (hg : BusBlind g) (a : OpenAlarm) (o : Outcome) (c : Core) : g (c.outcome a o) = g c := by
  unfold Core.outcome
  cases o <;> simp only [hg.timeout, hg.busSend, hg.mapEng]

theorem alarmsDue (hg : BusBlind g) (now : Nat) (c : Core) : g (c.alarmsDue now) = g c := by
  unfold Core.alarmsDue
  split
  · rfl
  · exact foldl_leaves g (fun c ch => foldl_leaves g (fun c a => hg.outcome a _ c) _ c) _ c

theorem alarmsIssue (hg : BusBlind g) (c : Core) : g c.alarmsIssue = g c := by
  unfold Core.alarmsIssue
  refine foldl_leaves (fun r : List Nat × Core => g r.2) (fun r a => ?_) _ _
  split
  · rfl
  · split
    · exact hg.outcome _ _ _
    · rfl

theorem confirmed (hg : BusBlind g) (ch : Nat) (c : Core) : g (c.confirmed ch) = g c := by
  simp only [Core.confirmed, Core.takeNumber, hg.busSend, hg.mapEng]

theorem heldIssue (hg : BusBlind g) (c : Core) : g c.heldIssue = g c := by
  unfold Core.heldIssue
  dsimp only
  rw [foldl_leaves g fun c h => Core.when_of (P := fun d => g d = g c) _ _ c rfl (hg.confirmed _ c), hg.mapEng]

theorem alarmsFollow (hg : BusBlind g) (now : Nat) (c : Core) : g (c.alarmsFollow now) = g c := by
  unfold Core.alarmsFollow
  split
  · rfl
  · exact (hg.heldIssue _).trans ((hg.alarmsIssue _).trans ((hg.mapEng _ _).trans (hg.alarmsDue now c)))

end BusBlind

@[simp] theorem Core.alarmsFollow_mot (now : Nat) (c : Core) : (c.alarmsFollow now).mot = c.mot :=
  Core.of_heldBy (w := ⟨true, false, false⟩) Core.mot (c.heldBy_alarmsFollow now)

@[simp] theorem Core.alarmsFollow_ev (now : Nat) (c : Core) : (c.alarmsFollow now).ev = c.ev :=
  BusBlind.alarmsFollow (g := Core.ev) ⟨fun _ _ => rfl, fun _ _ => rfl, fun _ _ => rfl, fun c => c.bump_ev _ _⟩ now c

end Sys2Proof.Machine
end

section
namespace Sys2Proof.Machine

/-! ### Encoders, their lines and their counts (05 R138, R139, R141) -/

/-- What two updates of an element have in common of it, the updated lists have. -/
theorem getD_modAt_congr {α β : Type} (p : α → β) {f g : α → α} (h : ∀ a, p (f a) = p (g a)) (l : List α) (i : Nat)
    (d : α) : p ((modAt l i f).getD i d) = p ((modAt l i g).getD i d) := by
  by_cases hi : i < l.length
  · rw [getD_modAt_self hi, getD_modAt_self hi, h]
  · simp [modAt, List.getD_eq_getElem?_getD, Nat.not_lt.mp hi]

/-- What an update leaves of an element, it leaves of the list's. -/
theorem getD_modAt_same {α β : Type} (p : α → β) {f : α → α} (h : ∀ a, p (f a) = p a) (l : List α) (i : Nat) (d : α) :
    p ((modAt l i f).getD i d) = p (l.getD i d) := by
  rw [getD_modAt_congr p (g := id) h, modAt, List.modify_id]

theorem modAt_modAt {α : Type} (l : List α) (i : Nat) (f g : α → α) :
    modAt (modAt l i f) i g = modAt l i (fun a => g (f a)) := List.modify_modify_eq f g i l

/-- A count up or down: forward by the decoding mode or the lines, turned by 240xh.03. -/
def Core.encStep (c : Core) (i : Nat) (forward : Bool) : Int :=
  if (c.obj (0x2400 + i) 1 == 0 || forward) != c.flag (0x2400 + i) 3 then 1 else -1

/-- What an accepted edge makes of its encoder. -/
def Enc.counted (now : Nat) (n : Int) (e : Enc) : Enc := { e with decodedAt := some now, count := e.count + n }

/-- An accepted edge of encoder `i` counted, without what the loop makes of it. -/
def Core.edgeCounted (now i : Nat) (forward : Bool) (c : Core) : Core :=
  ((c.encCount i forward).mapEnc i (fun e => { e with decodedAt := some now })).when (c.decoded i) (Core.bump 0x2415 1)

theorem Core.edgeCounted_eq (now i : Nat) (forward : Bool) (c : Core) : c.edgeCounted now i forward =
    { c with
      dict := if c.decoded i then (c.bump 0x2415 1).dict else c.dict,
      mot := { c.mot with encs := modAt c.mot.encs i (Enc.counted now (c.encStep i forward)) } } := by
  have hm : (c.encCount i forward).mapEnc i (fun e => { e with decodedAt := some now }) =
      c.mapMot (fun m => { m with encs := modAt m.encs i (Enc.counted now (c.encStep i forward)) }) := by
    simp only [Core.encCount, Core.mapEnc, Core.mapMot, modAt_modAt]
    rfl
  unfold Core.edgeCounted
  rw [hm]
  cases c.decoded i
  · rfl
  · rw [Core.when_true, Core.bump_with, Core.bump_dict_congr (Core.mapMot_dict _ c)]
    rfl

theorem Core.edge_tooFast {c : Core} {now i : Nat} (h : c.tooFast now i = true) (forward : Bool) :
    c.edge now i forward = c.bump 0x2415 3 := if_pos h

/-- Without ticks an edge is only counted (15 R455). -/
theorem Core.edge_held {c : Core} {now i : Nat} (h : c.tooFast now i = false) (hh : c.clk.tHeld = true)
    (forward : Bool) : c.edge now i forward = c.edgeCounted now i forward := by
  refine (if_neg (by simp [h])).trans (if_pos ?_)
  have hc : (c.edgeCounted now i forward).clk = c.clk := by rw [Core.edgeCounted_eq]
  exact Bool.or_eq_true_iff.mpr (.inl ((congrArg Clk.tHeld hc).trans hh))

/-- A count is a change of one object. -/
theorem Core.bump_of {c d : Core} (hd : d.dict = c.dict) (i s : Nat) :
    d.bump i s = { d with dict := (c.bump i s).dict } := by
  rw [Core.bump_with, Core.bump_dict_congr hd]

theorem Core.encoderEdge_quadError {c : Core} {i : Nat} (h : c.obj (0x2400 + i) 1 ≠ 0) (now : Nat) :
    c.encoderEdge now i .quadError = { c.encBoth i with dict := (c.bump 0x2415 2).dict } :=
  (if_pos (by simpa using h)).trans (Core.bump_of (c := c) (d := c.encBoth i) rfl _ _)

theorem Core.encoderEdge_decoded {k : EdgeKind} (h : k = .forward ∨ k = .backward) (now i : Nat) (c : Core) :
    c.encoderEdge now i k = c.edge now i (k == .forward) := by
  rcases h with rfl | rfl <;> rfl

theorem Core.encoderEdge_unsettled {c : Core} {i stood : Nat} (h : stood < 4 * c.obj (0x2400 + i) 4) (now : Nat)
    (lineA level : Bool) : c.encoderEdge now i (.change lineA level stood) = c := by
  simp only [Core.encoderEdge, Core.decode, h, if_true]

/-- With every transition counted, a change that has stood is recorded and is one edge, forward where A leads B. -/
theorem Core.decode_every {c : Core} {i stood : Nat} {lineA level : Bool} (h : 4 * c.obj (0x2400 + i) 4 ≤ stood)
    (hm : c.obj (0x2400 + i) 1 = 4) (hl : level ≠ (if lineA then (c.enc i).a else (c.enc i).b)) :
    c.decode i lineA level stood = (some (if lineA then level != (c.enc i).b else level == (c.enc i).a),
      c.mapEnc i (fun e => if lineA then { e with a := level } else { e with b := level })) := by
  have hmoved : ((if lineA then (c.enc i).a else (c.enc i).b) != level) = true := by simpa using hl.symm
  simp only [Core.decode, Nat.not_lt.mpr h, if_false, hm, hmoved, if_true, Bool.true_and]
  rfl

theorem Core.encoderEdge_change {c : Core} {i stood : Nat} {lineA level : Bool} (h : 4 * c.obj (0x2400 + i) 4 ≤ stood)
    (hm : c.obj (0x2400 + i) 1 = 4) (hl : level ≠ (if lineA then (c.enc i).a else (c.enc i).b)) (now : Nat) :
    c.encoderEdge now i (.change lineA level stood) =
      (c.mapEnc i (fun e => if lineA then { e with a := level } else { e with b := level })).edge now i
        (if lineA then level != (c.enc i).b else level == (c.enc i).a) := by
  simp only [Core.encoderEdge, Core.decode_every h hm hl]

theorem Core.encoderEdge_direction (now i : Nat) (forward : Bool) (c : Core) :
    c.encoderEdge now i (if forward then .forward else .backward) = c.edge now i forward := by cases forward <;> rfl

/-! ### An accepted edge and the loop (05 R142, R145) -/

/-- An accepted edge of encoder `i`, counted and noted as its last, its loss over. -/
def Core.edgeSeen (now i : Nat) (forward : Bool) (c : Core) : Core :=
  ((c.edgeCounted now i forward).mapEnc i (fun e => { e with lastAt := some now })).condOff 0x7310 i

/-- What an edge that is noted makes of its encoder. -/
def Enc.seen (now : Nat) (n : Int) (e : Enc) : Enc := { e.counted now n with lastAt := some now }

theorem Core.edgeSeen_mot (now i : Nat) (forward : Bool) (c : Core) : (c.edgeSeen now i forward).mot =
    { c.mot with encs := modAt c.mot.encs i (Enc.seen now (c.encStep i forward)) } := by
  have h : ((c.edgeCounted now i forward).mapEnc i (fun e => { e with lastAt := some now })).mot =
      { c.mot with encs := modAt c.mot.encs i (Enc.seen now (c.encStep i forward)) } := by
    simp only [Core.edgeCounted_eq, Core.mapEnc, Core.mapMot, modAt_modAt]
    rfl
  exact ((Core.Logged.condOff _ _).same Core.mot).trans h

/-- The edge leaves what is neither an object, the sequencer nor the event log. -/
theorem Core.edgeSeen_same (now i : Nat) (forward : Bool) (c : Core) {α : Type} (f : Core → α)
    (hf : ∀ c : Core, f { c.rest with mot := {} } = f c := by intros; rfl) : f (c.edgeSeen now i forward) = f c := by
  refine ((Core.Logged.condOff _ _).same f fun d => (hf d.rest).symm.trans (hf d)).trans ?_
  rw [← hf, ← hf c, Core.edgeCounted_eq]
  rfl

theorem Core.edgeSeen_obj (now i : Nat) (forward : Bool) (c : Core) {j r : Nat} (hr : r < 256) (h1 : j ≠ 0x2415)
    (h2 : j ≠ 0x3200) : (c.edgeSeen now i forward).obj j r = c.obj j r := by
  rw [Core.edgeSeen, (Core.Logged.condOff _ _).obj j r hr h2, Core.edgeCounted_eq]
  simp only [Core.obj, Core.mapEnc, Core.mapMot_dict]
  split
  · exact c.obj_bumpBy_keep _ _ _ _ _ (by decide) hr fun e => h1 (Prod.mk.inj e).1
  · rfl

theorem Core.edgeSeen_count (now i : Nat) (forward : Bool) (c : Core) :
    ((c.edgeSeen now i forward).enc i).count = ((c.encCount i forward).enc i).count := by
  rw [Core.enc, Core.edgeSeen_mot]
  exact getD_modAt_congr Enc.count (f := Enc.seen now (c.encStep i forward))
    (g := fun e => { e with count := e.count + c.encStep i forward }) (fun _ => rfl) _ _ _

theorem Core.edgeSeen_off (now i : Nat) (forward : Bool) (c : Core) :
    ((c.edgeSeen now i forward).enc i).off = (c.enc i).off := by
  rw [Core.enc, Core.edgeSeen_mot]
  exact getD_modAt_same Enc.off (f := Enc.seen now (c.encStep i forward)) (fun _ => rfl) _ _ _

/-- The position that the loop takes from the edge is that of the encoder's count with it. -/
theorem Core.edgeSeen_rawPos {i : Nat} (hi : i < 2) (now : Nat) (forward : Bool) (c : Core) :
    (c.edgeSeen now i forward).rawPos i = (c.encCount i forward).rawPos i := by
  have hp : (c.edgeSeen now i forward).obj 0x2404 3 = c.obj 0x2404 3 :=
    c.edgeSeen_obj _ _ _ (by decide) (by decide) (by decide)
  have ho : (c.edgeSeen now i forward).obj (0x2400 + i) 2 = c.obj (0x2400 + i) 2 :=
    c.edgeSeen_obj _ _ _ (by decide) (by omega) (by omega)
  have hn : (c.encCount i forward).dict = c.dict := rfl
  simp only [Core.rawPos, Core.pitch, c.edgeSeen_count, hp, ho]
  simp only [Core.obj, hn]

theorem Core.edgeSeen_loopRuns (now i : Nat) (forward : Bool) {c : Core} (h : c.loopRuns = true) :
    (c.edgeSeen now i forward).loopRuns = true := by
  have hj := c.edgeSeen_same now i forward Core.job
  have hm := c.edgeSeen_same now i forward Core.mode
  have hk := c.edgeSeen_same now i forward Core.clk
  have hr : c.job.running = true := by simp only [Core.loopRuns, Bool.and_eq_true] at h; exact h.1.1.1
  rw [← h]
  simp only [Core.loopRuns, Core.inspecting, Core.timedJob, Core.inSheet, hj, hm, hk, hr, if_true]

/-- An accepted edge of encoder `i` corrects the loop: below 25 MHz, with ticks and the blocks' clocks, the encoder in
use, the loop running (05 R138, R142). -/
structure Core.Corrects (c : Core) (now i : Nat) : Prop where
  lt : i < 2
  slow : c.tooFast now i = false
  ticks : c.clk.tHeld = false
  blocks : c.blocksOn = true
  used : i = c.mot.encInUse
  runs : c.loopRuns = true

/-- What the loop makes of the edge stands, encoders apart. -/
theorem Core.edge_loop {c : Core} {now i : Nat} (h : c.Corrects now i) (forward : Bool) {α : Type} (g : Motion → α)
    (hg : ∀ (m : Motion) l, g { m with encs := l } = g m := by intros; rfl) :
    g (c.edge now i forward).mot =
      g ((c.edgeSeen now i forward).loopEdge now ((c.encCount i forward).rawPos i)).mot := by
  have hk : (c.edgeCounted now i forward).clk = c.clk := by rw [Core.edgeCounted_eq]
  have hb : (c.edgeCounted now i forward).blocksOn = c.blocksOn := by rw [Core.edgeCounted_eq]; rfl
  have hgo : ¬ ((c.edgeCounted now i forward).clk.tHeld || !(c.edgeCounted now i forward).blocksOn) = true := by
    simp [hk, hb, h.ticks, h.blocks]
  have huse : ¬ i ≠ (c.edgeSeen now i forward).mot.encInUse := by rw [Core.edgeSeen_mot]; exact not_not.mpr h.used
  have he : c.edge now i forward = (((c.edgeSeen now i forward).when (c.edgeSeen now i forward).loopRuns
      (Core.loopEdge now ((c.edgeSeen now i forward).rawPos i))).when (i == 0) Core.encAgree).alarmsFollow now :=
    (if_neg (by simp [h.slow])).trans ((if_neg hgo).trans (if_neg huse))
  rw [he, Core.alarmsFollow_mot, Core.edgeSeen_loopRuns _ _ _ h.runs, Core.when_true, Core.edgeSeen_rawPos h.lt]
  refine Core.when_of (P := fun d => g d.mot = _) _ _ _ rfl ?_
  exact Core.when_of (P := fun d => g d.mot = _) _ _ _ rfl (hg _ _)

theorem Core.edgeSeen_offset {c : Core} {now i : Nat} (h : c.Corrects now i) (forward : Bool) :
    (c.edgeSeen now i forward).offset = (c.enc i).off := by
  have hu : (c.edgeSeen now i forward).mot.encInUse = i := by rw [Core.edgeSeen_mot]; exact h.used.symm
  rw [Core.offset, hu, Core.edgeSeen_off]

/-- The first edge of SEEDING places the loop. -/
theorem Core.loopEdge_seeds {c : Core} (hl : c.mot.loop = .seeding) (hs : c.mot.seedEdge = none) (now : Nat)
    (raw : Rat) :
    let m := (c.loopEdge now raw).mot
    m.loop = .seeding ∧ m.xHat = raw + c.offset ∧ m.tPrev = now ∧ m.seedEdge = some (raw, now) ∧
      m.lastEdge = some (raw, now) := by
  have hd := Core.Tested.testAtEdge now raw c
  have hdl : (c.testAtEdge now raw).mot.loop = .seeding := (hd.same (·.mot.loop)).trans hl
  have hds : (c.testAtEdge now raw).mot.seedEdge = none := (hd.same (·.mot.seedEdge)).trans hs
  have hoff : (c.testAtEdge now raw).offset = c.offset := hd.same Core.offset
  have hc : c.coasting = false := by simp [Core.coasting, hl]
  simp only [Core.loopEdge, Core.markCoasted_not hc, hdl, Core.seedStep, hds, hoff]
  exact ⟨hdl, rfl, rfl, rfl, rfl⟩

/-- What follows from the speed after an edge in TRACKING leaves the estimates. -/
theorem Core.classify_tracking {c : Core} (hl : c.mot.loop = .tracking) (now : Nat) {α : Type} (g : Motion → α)
    (hg : ∀ (m : Motion) l o n, g { m with loop := l, overspace := o, overFirst := n } = g m) :
    g (c.classify now).mot = g c.mot := by
  simp only [Core.classify, hl]
  split
  · refine (congrArg g ((Core.Logged.condOn _ _ _ _ _).same Core.mot)).trans ?_
    rw [Core.bump_with]
    exact hg _ _ _ _
  · split
    · refine (congrArg g ((Core.Logged.event _ _ _ _).same Core.mot)).trans ?_
      rw [Core.bump_with]
      exact hg _ .reversed c.mot.overspace c.mot.overFirst
    · rfl

/-- An edge in TRACKING corrects position and velocity. -/
theorem Core.loopEdge_tracks {c : Core} (hl : c.mot.loop = .tracking) (now : Nat) (raw : Rat) :
    let m := (c.loopEdge now raw).mot
    let dt : Rat := (now : Rat) - (c.mot.tPrev : Rat)
    let xp := c.mot.xHat + c.mot.vHat * dt
    m.xHat = xp + (c.obj 0x2412 1 : Rat) / 65536 * (raw + c.offset - xp) ∧
      (dt ≠ 0 → m.vHat = c.mot.vHat + (c.obj 0x2412 2 : Rat) / 65536 * (raw + c.offset - xp) / dt) ∧ m.tPrev = now := by
  have hd := Core.Tested.testAtEdge now raw c
  have hdl : (c.testAtEdge now raw).mot.loop = .tracking := (hd.same (·.mot.loop)).trans hl
  have hx := hd.same (·.mot.xHat)
  have hv := hd.same (·.mot.vHat)
  have ht := hd.same (·.mot.tPrev)
  have hoff : (c.testAtEdge now raw).offset = c.offset := hd.same Core.offset
  have hc : c.coasting = false := by simp [Core.coasting, hl]
  have h1 := hd.obj 0x2412 1 (by decide) (by decide)
  have h2 := hd.obj 0x2412 2 (by decide) (by decide)
  intro m dt xp
  have hm : ∀ {α : Type} (g : Motion → α)
      (_ : ∀ (m : Motion) l o n, g { m with loop := l, overspace := o, overFirst := n } = g m)
      (_ : ∀ (m : Motion) e, g { m with lastEdge := e } = g m),
      g m = g ((c.testAtEdge now raw).loopStep now (raw + c.offset)).mot := by
    intro α g hg he
    have hs : ((c.testAtEdge now raw).loopStep now (raw + c.offset)).mot.loop = .tracking := hdl
    rw [← Core.classify_tracking hs now g hg]
    simp only [m, Core.loopEdge, Core.markCoasted_not hc, hdl, hoff]
    exact he _ _
  have hxh := hm Motion.xHat (fun _ _ _ _ => rfl) (fun _ _ => rfl)
  have hvh := hm Motion.vHat (fun _ _ _ _ => rfl) (fun _ _ => rfl)
  have htp := hm Motion.tPrev (fun _ _ _ _ => rfl) (fun _ _ => rfl)
  simp only [Core.loopStep, Core.mapMot_mot, hx, hv, ht, h1, h2] at hxh hvh htp
  exact ⟨hxh, fun h => hvh.trans (if_neg h), htp⟩

/-- The first edge of SEEDING, from an encoder's line on. -/
theorem Core.edge_seeds {c : Core} {now i : Nat} {e : Rat} {forward : Bool} (h : c.Corrects now i)
    (hl : c.mot.loop = .seeding) (hs : c.mot.seedEdge = none) (he : e = (c.encCount i forward).rawPos i) :
    let m := (c.edge now i forward).mot
    m.loop = .seeding ∧ m.xHat = e + (c.enc i).off ∧ m.tPrev = now ∧ m.seedEdge = some (e, now) ∧
      m.lastEdge = some (e, now) := by
  have hmot := c.edgeSeen_mot now i forward
  obtain ⟨h1, h2, h3, h4, h5⟩ := Core.loopEdge_seeds (c := c.edgeSeen now i forward) (by rw [hmot]; exact hl)
    (by rw [hmot]; exact hs) now e
  rw [Core.edgeSeen_offset h] at h2
  rw [he] at h1 h2 h3 h4 h5 ⊢
  exact ⟨(Core.edge_loop h _ Motion.loop).trans h1, (Core.edge_loop h _ Motion.xHat).trans h2,
    (Core.edge_loop h _ Motion.tPrev).trans h3, (Core.edge_loop h _ Motion.seedEdge).trans h4,
    (Core.edge_loop h _ Motion.lastEdge).trans h5⟩

/-- An edge in TRACKING, from an encoder's line on. -/
theorem Core.edge_tracks {c : Core} {now i : Nat} {e dt xp : Rat} {forward : Bool} (h : c.Corrects now i)
    (hl : c.mot.loop = .tracking) (ht : c.mot.tPrev < now) (he : e = (c.encCount i forward).rawPos i + (c.enc i).off)
    (hd : dt = (now : Rat) - (c.mot.tPrev : Rat)) (hx : xp = c.mot.xHat + c.mot.vHat * dt) :
    let m := (c.edge now i forward).mot
    m.xHat = xp + (c.obj 0x2412 1 : Rat) / 65536 * (e - xp) ∧
      m.vHat = c.mot.vHat + (c.obj 0x2412 2 : Rat) / 65536 * (e - xp) / dt ∧ m.tPrev = now := by
  have hmot := c.edgeSeen_mot now i forward
  obtain ⟨h1, h2, h3⟩ := Core.loopEdge_tracks (c := c.edgeSeen now i forward) (by rw [hmot]; exact hl) now
    ((c.encCount i forward).rawPos i)
  have hdt : dt ≠ 0 := by
    have : (c.mot.tPrev : Rat) < now := by exact_mod_cast ht
    rw [hd]
    linarith
  rw [Core.edgeSeen_offset h, ← he] at h1 h2
  rw [c.edgeSeen_obj _ _ _ (by decide) (by decide) (by decide), hmot] at h1 h2
  simp only [← hd, ← hx] at h1 h2
  exact ⟨(Core.edge_loop h _ Motion.xHat).trans h1, (Core.edge_loop h _ Motion.vHat).trans (h2 hdt),
    (Core.edge_loop h _ Motion.tPrev).trans h3⟩

end Sys2Proof.Machine
end

section
namespace Sys2Proof.Machine

@[simp] theorem Core.bump_mot (i s : Nat) (c : Core) : (c.bump i s).mot = c.mot :=
  Core.of_rest Core.mot (fun _ => rfl) (c.rest_bump i s)

/-- Commands of one effect on two cores end in one state. -/
theorem State.run_congr {t : Nat} {f g : Nat → Core → Core} {s : State} {c : Core}
    (h : f (s.at_ t) c = g (s.at_ t) s.core) : State.run t f { s with core := c } = State.run t g s := by
  unfold State.at_ at h
  simp only [State.run_next, h]

/-- A rising Z edge keeps the count, and counts in 2415h.04 where 240xh.05 is not the count since the last one. -/
theorem Core.encoderZ_eq (i : Nat) (c : Core) : ∃ bad : Bool,
    c.encoderZ i = (c.mapEnc i (fun e => { e with zCount := some (c.enc i).count })).when bad (Core.bump 0x2415 4) ∧
    ((c.enc i).zCount = none → bad = false) ∧
    ∀ z, (c.enc i).zCount = some z → c.obj (0x2400 + i) 5 ≠ 0 → ((c.enc i).count - z).natAbs ≠ c.obj (0x2400 + i) 5 →
      bad = true := by
  refine ⟨_, rfl, fun h => ?_, fun z h h0 hn => ?_⟩
  · rw [h]
  · rw [h]
    simp [h0, hn]

/-- Settles O27: each edge as its line, its rate and the loop's state have it. -/
theorem encoderEdges : Obligations.EncoderEdges := by
  unfold Obligations.EncoderEdges
  have hrun : ∀ (t : Nat) (i : Fin 2) (k : EdgeKind) (s : State), ∃ u, exec (.encoderEdge t i k) s = .next u ∧
      u.core = (s.core.encoderEdge (s.at_ t) i.val k).under u.core := fun t i k s => by
    obtain ⟨u, hu, -, hc, -⟩ := State.run_ends t (fun now c => c.encoderEdge now i.val k) s
    exact ⟨u, hu, hc⟩
  refine ⟨?_, ?_, ?_, ?_, ?_, ?_, ?_⟩
  · intro t i s
    refine ⟨?_, ?_⟩
    · obtain ⟨u, hu, hc⟩ := hrun t i .quadError s
      exact ⟨u, hu, fun h => by rwa [Core.encoderEdge_quadError h] at hc⟩
    · obtain ⟨u, hu, hc⟩ := hrun t i .overrun s
      exact ⟨u, hu, hc.trans (congrArg (Core.under · u.core) (Core.bump_with _ _ _))⟩
  · intro t i k s hk hh hf
    obtain ⟨u, hu, hc⟩ := hrun t i k s
    rw [Core.encoderEdge_decoded hk, Core.edge_held hf hh, Core.edgeCounted_eq] at hc
    exact ⟨u, hu, hc⟩
  · intro t stood i lineA level s
    obtain ⟨u, hu, hc⟩ := hrun t i (.change lineA level stood) s
    refine ⟨u, hu, fun h => by rwa [Core.encoderEdge_unsettled h] at hc, fun h hm hl => ?_⟩
    have he := (Core.encoderEdge_change h hm hl (s.at_ t)).trans (Core.encoderEdge_direction _ _ _ _).symm
    exact (State.run_congr (f := fun now c => c.encoderEdge now i.val _)
      (g := fun now c => c.encoderEdge now i.val (.change lineA level stood)) he.symm).trans hu
  · intro t i k e s hk hf hh hb hu hr _ hl hs he
    obtain ⟨u, hx, hc⟩ := hrun t i k s
    rw [Core.encoderEdge_decoded hk] at hc
    have h := Core.edge_seeds ⟨i.isLt, hf, hh, hb, hu, hr⟩ hl hs he
    exact ⟨u, hx, Core.of_under hc Core.mot ▸ h⟩
  · intro t i k e dt xp s hk hf hh hb hu hr _ hl ht he hd hxp
    obtain ⟨u, hx, hc⟩ := hrun t i k s
    rw [Core.encoderEdge_decoded hk] at hc
    have h := Core.edge_tracks ⟨i.isLt, hf, hh, hb, hu, hr⟩ hl ht he hd hxp
    exact ⟨u, hx, Core.of_under hc Core.mot ▸ h⟩
  · intro t i s
    obtain ⟨u, hu, -, hc, -⟩ := State.run_ends t (fun _ c => c.encoderZ i.val) s
    obtain ⟨bad, hz, hnone, hbad⟩ := s.core.encoderZ_eq i.val
    rw [hz] at hc
    refine ⟨u, hu, ?_, fun h => ?_, fun z h h0 hn => ?_⟩
    · rw [Core.of_under hc Core.mot]
      exact Core.when_of (P := fun d => d.mot = _) _ _ _ rfl (Core.bump_mot _ _ _)
    · rw [Core.of_under hc Core.dict, hnone h]
      rfl
    · rw [Core.of_under hc Core.dict, hbad z h h0 hn]
      exact Core.bump_dict_congr (Core.mapMot_dict _ s.core) _ _
  · intro t i k s hk hf
    obtain ⟨u, hu, hc⟩ := hrun t i k s
    rw [Core.encoderEdge_decoded hk, Core.edge_tooFast hf, Core.bump_with] at hc
    exact ⟨u, hu, hc⟩

end Sys2Proof.Machine
end

section
namespace Sys2Proof.Machine

/-! ### Active events under other events (15 R447) -/

/-- An event of class 0 or 1 leaves what is active. -/
theorem Core.eventRaw_informs {c : Core} (now : Nat) {code : Nat} (dc seg unit : Nat) (data : List Byte)
    (hc : ¬ 2 ≤ evClass code) : (c.eventRaw now code dc seg unit data).ev.active = c.ev.active := by
  unfold Core.eventRaw
  dsimp only
  split
  · rfl
  · exact (Core.toEvr_active _ _ _ _ _).trans (congrArg Ev.active (c.bump_ev _ _))

/-- The end of one condition leaves another active. -/
theorem Core.condOff_leaves {c : Core} {code unit k u : Nat} (h : c.active code unit = true)
    (hn : (code, unit) ≠ (k, u)) : (c.condOff k u).active code unit = true := by
  unfold Core.active at h ⊢
  rw [Core.condOff_active, List.contains_iff_mem]
  exact List.mem_filter.mpr ⟨List.contains_iff_mem.mp h, by simpa using hn⟩

theorem Core.active_of_ev {c d : Core} (h : d.ev = c.ev) (code unit : Nat) :
    d.active code unit = c.active code unit := by
  rw [Core.active, h]; rfl

/-! ### Loss, stop and the coasting limit (05 R140, R159, R161, R164) -/

theorem Core.loopRuns_mode {c : Core} (h : c.loopRuns = true) : c.mode ≠ .compline := by
  intro hm
  simp [Core.loopRuns, Core.inspecting, hm] at h

/-- The moment of the last edge of the encoder in use, or of the loop's last estimate where that is later. -/
def Core.lastSeen (c : Core) : Nat := max (max c.edgeA.2 c.mot.tPrev) ((c.enc c.mot.encInUse).lastAt.getD 0)

theorem Core.edgesCeased_true {c : Core} {now : Nat} (hr : c.loopRuns = true)
    (hs : [LoopState.seeding, .tracking, .slewing, .overspeed, .reversed].contains c.mot.loop = true)
    (ht : c.lossTime c.mot.encInUse ≤ (now : Rat) - (c.lastSeen : Rat)) : c.edgesCeased now = true := by
  simp only [Core.edgesCeased, hr, Bool.true_and, Bool.and_eq_true, decide_eq_true_eq]
  exact ⟨ht, hs⟩

theorem Core.encoderLost_due {c : Core} {now : Nat} (hc : c.edgesCeased now = true)
    (hv : c.stopSpeed ≤ absR (c.speed c.mot.vHat)) : c.encoderLost now = (c.declareLoss now).alarmsFollow now := by
  rw [Core.encoderLost, hc, decide_eq_true hv, Bool.and_self, Core.when_true]

/-- Without fallback the loop coasts from the moment of the loss on, its position extrapolated. -/
theorem Core.declareLoss_coasts {c : Core} (hm : c.mode ≠ .compline) (hf : c.obj 0x2402 0 ≠ 2) (now : Nat) :
    let d := c.declareLoss now
    d.mot.loop = .coasting ∧ d.mot.coastFrom = now ∧ d.active 0x7310 c.mot.encInUse = true ∧ d.mot.tPrev = now ∧
      d.mot.xHat = c.mot.xHat + c.mot.vHat * ((now : Rat) - (c.mot.tPrev : Rat)) := by
  have hlog : c.Logged (c.condOn now 0x7310 0xFF c.mot.encInUse (leBytes 1 c.mot.encInUse)) := .condOn _ _ _ _ _
  have hon : (c.condOn now 0x7310 0xFF c.mot.encInUse (leBytes 1 c.mot.encInUse)).active 0x7310 c.mot.encInUse = true :=
    Core.condOn_active _ _ _ _ hm (by decide)
  have hobj := hlog.obj 0x2402 0 (by decide) (by decide)
  have hmot := hlog.same Core.mot
  have hoff := fun d : Core => ((Core.Logged.condOff (c := d) 0x7312 0).same Core.mot)
  simp only [Core.declareLoss, hobj, beq_false_of_ne hf, Bool.false_and, Bool.false_eq_true, if_false, hmot]
  refine ⟨((Core.Tested.markCoasted _ _).same (·.mot.loop)).trans ?_,
    ((Core.Tested.markCoasted _ _).same (·.mot.coastFrom)).trans ?_, ?_,
    ((Core.Tested.markCoasted _ _).same (·.mot.tPrev)).trans ?_,
    ((Core.Tested.markCoasted _ _).same (·.mot.xHat)).trans ?_⟩
  · rw [Core.bump_mot]; rfl
  · rw [Core.bump_mot]; rfl
  · refine (Core.active_of_ev (((Core.Tested.markCoasted _ _).same Core.ev).trans (Core.bump_ev _ _ _)) _ _).trans ?_
    exact Core.condOff_leaves hon (by simp)
  · rw [Core.bump_mot]; rfl
  · rw [Core.bump_mot]; rfl

/-- The loss time follows from the loop and the objects that events leave. -/
theorem Core.Logged.lossTime {c d : Core} (h : c.Logged d) {i : Nat} (hi : i < 2) : d.lossTime i = c.lossTime i := by
  have hp : d.pitch = c.pitch := by rw [Core.pitch, h.obj _ _ (by decide) (by decide)]; rfl
  have hn : d.obj (0x2400 + i) 2 = c.obj (0x2400 + i) 2 := h.obj _ _ (by decide) (by omega)
  rw [Core.lossTime, hp, hn, h.same Core.mot, h.obj _ _ (by decide) (by decide)]
  rfl

/-- ENC1 in use, the loop and its position as they were, and no condition over. -/
theorem Core.encSwitch_takes (now : Nat) (c : Core) :
    (c.encSwitch now).mot.encInUse = 1 ∧ (c.encSwitch now).mot.loop = c.mot.loop ∧
      (c.encSwitch now).mot.xHat = c.mot.xHat ∧ (c.encSwitch now).ev.active = c.ev.active := by
  have hmot : (c.encSwitch now).mot = _ := ((Core.Logged.event _ _ _ _).same Core.mot).trans (Core.bump_mot _ _ _)
  have hev : (c.encSwitch now).ev.active = _ :=
    (Core.eventRaw_informs _ _ _ _ _ (by decide)).trans (congrArg Ev.active (Core.bump_ev _ _ _))
  rw [hmot, hev]
  exact ⟨rfl, rfl, rfl, rfl⟩

/-- With fallback, ENC1 takes over while its own edges come, and the loop goes on. -/
theorem Core.declareLoss_switches {c : Core} {a now : Nat} (hm : c.mode ≠ .compline) (hf : c.obj 0x2402 0 = 2)
    (hu : c.mot.encInUse = 0) (ha : (c.enc 1).lastAt = some a) (ht : (now : Rat) - (a : Rat) < c.lossTime 1) :
    let d := c.declareLoss now
    d.mot.encInUse = 1 ∧ d.mot.loop = c.mot.loop ∧ d.mot.xHat = c.mot.xHat ∧ d.active 0x7310 0 = true := by
  have hlog : c.Logged (c.condOn now 0x7310 0xFF 0 (leBytes 1 0)) := .condOn _ _ _ _ _
  have hon : (c.condOn now 0x7310 0xFF 0 (leBytes 1 0)).active 0x7310 0 = true :=
    Core.condOn_active _ _ _ _ hm (by decide)
  have hmot := hlog.same Core.mot
  have hobj := hlog.obj 0x2402 0 (by decide) (by decide)
  have halive : ((c.condOn now 0x7310 0xFF 0 (leBytes 1 0)).enc 1).lastAt = some a := by
    rw [Core.enc, hmot]; exact ha
  have hlost : c.declareLoss now = (c.condOn now 0x7310 0xFF 0 (leBytes 1 0)).encSwitch now := by
    simp [Core.declareLoss, hu, hobj, hf, halive, hlog.lossTime (by decide : 1 < 2), ht]
  obtain ⟨h1, h2, h3, h4⟩ := Core.encSwitch_takes now (c.condOn now 0x7310 0xFF 0 (leBytes 1 0))
  rw [hmot] at h2 h3
  rw [hlost]
  exact ⟨h1, h2, h3, by rw [Core.active, h4]; exact hon⟩

/-- A stop: no more exposures, the position kept. -/
theorem Core.declareStop_stops {c : Core} {now : Nat} (hc : c.edgesCeased now = true)
    (hv : absR (c.speed c.mot.vHat) < c.stopSpeed) :
    let d := c.declareStop now
    d.mot.loop = .stopped ∧ d.mot.noExpose = true ∧ d.mot.xHat = c.mot.xHat := by
  rw [Core.declareStop, hc, decide_eq_true hv, Bool.and_self, Core.when_true]
  simp only [Core.alarmsFollow_mot, Core.mapMot_mot, true_and]
  exact ((Core.Tested.testAtRest _ _).same (·.mot.xHat)).trans
    (congrArg Motion.xHat ((Core.Logged.condOff _ _).same Core.mot))

/-- Past the coasting limit the loop is lost. -/
theorem Core.coastLimit_loses {c : Core} {now : Nat} (hl : c.mot.loop = .coasting) (hm : c.mode ≠ .compline)
    (ht : c.mot.coastFrom + c.obj 0x2413 2 * 1000 < now) :
    let d := c.coastLimit now
    d.mot.loop = .lost ∧ d.active 0x7311 0 = true ∧ d.mot.xHat = c.mot.xHat := by
  have hd := Core.Tested.markCoasted now c
  have he : c.coastLimit now =
      ((c.markCoasted now).mapMot (fun m => { m with loop := .lost })).condOn now 0x7311 0xFF 0 [] := by
    rw [Core.coastLimit, hl, decide_eq_true ht]
    rfl
  have hmot : (c.coastLimit now).mot = { (c.markCoasted now).mot with loop := .lost } := by
    rw [he]; exact (Core.Logged.condOn _ _ _ _ _).same Core.mot
  refine ⟨by rw [hmot], ?_, by rw [hmot]; exact hd.same (·.mot.xHat)⟩
  rw [he]
  exact Core.condOn_active _ _ _ _ (by rw [Core.mapMot_mode, hd.same Core.mode]; exact hm) (by decide)

/-! ### Velocimetry (05 R166 to R168) -/

/-- A core without what velocimetry's validity and slip are decided and logged in. -/
def Core.veloRest (c : Core) : Core :=
  { c.rest with mot := { c.mot with veloLog := [], slipRun := 0, clearRun := 0 } }

theorem Core.of_veloRest {α : Type} (f : Core → α) {c d : Core} (h : d.veloRest = c.veloRest)
    (hf : ∀ c : Core, f c.veloRest = f c := by intros; rfl) : f d = f c := by rw [← hf d, h, hf c]

theorem Core.Logged.veloRest {c d : Core} (h : c.Logged d) : d.veloRest = c.veloRest := by
  simp only [Core.veloRest, h.rest, h.same Core.mot]

/-- At least eight valid samples have completed in the last 2.0 ms (05 R167). -/
def Core.veloHolds (now : Nat) (c : Core) : Bool :=
  8 ≤ (c.mot.samples.filter (fun p => now ≤ p.1 + 2000000)).length

theorem Core.veloValid_eq (now : Nat) (c : Core) : c.veloValid now =
    { c with
      dict := (c.put 0x2440 2 (b2n (c.veloHolds now))).dict,
      mot := { c.mot with veloLog := (c.veloValid now).mot.veloLog } } := by
  unfold Core.veloValid
  exact Core.when_of (P := fun d => d = ({ c with
    dict := (c.put 0x2440 2 (b2n (c.veloHolds now))).dict, mot := { c.mot with veloLog := d.mot.veloLog } } : Core))
    _ _ (c.put 0x2440 2 (b2n (c.veloHolds now))) rfl rfl

theorem Core.veloRest_veloValid (now : Nat) (c : Core) : (c.veloValid now).veloRest = c.veloRest := by
  rw [Core.veloValid_eq]; rfl

theorem Core.veloRest_put (i s v : Nat) (c : Core) : (c.put i s v).veloRest = c.veloRest := rfl
theorem Core.veloRest_bump (i s : Nat) (c : Core) : (c.bump i s).veloRest = c.veloRest := by rw [Core.bump_with]; rfl

/-- What the eight samples in a row decide touches slip alone. -/
theorem Core.veloRest_slipStep (now : Nat) (c : Core) : (c.slipStep now).veloRest = c.veloRest := by
  unfold Core.slipStep
  extract_lets u bad d
  have hd : d.veloRest = c.veloRest := rfl
  split
  · rw [(Core.Logged.event _ _ _ _).veloRest, Core.veloRest_bump, Core.veloRest_put, hd]
  · split
    · rw [(Core.Logged.event _ _ _ _).veloRest, Core.veloRest_put, hd]
    · exact hd

theorem Core.obj_bump_keep (c : Core) {i s j r : Nat} (hs : s < 256) (hr : r < 256) (h : (j, r) ≠ (i, s)) :
    (c.bump i s).obj j r = c.obj j r :=
  c.obj_bumpBy_keep i s 1 j r hs hr h

theorem Core.slipStep_samples (now : Nat) (c : Core) : (c.slipStep now).obj 0x2440 8 = c.obj 0x2440 8 := by
  unfold Core.slipStep
  extract_lets u bad d
  have hd : d.obj 0x2440 8 = c.obj 0x2440 8 := rfl
  split
  · rw [(Core.Logged.event _ _ _ _).obj _ _ (by decide) (by decide),
      Core.obj_bump_keep (i := 0x2440) (s := 7) _ (by decide) (by decide) (by decide),
      Core.obj_keep _ _ _ _ _ _ (by decide) (by decide) (by decide), hd]
  · split
    · rw [(Core.Logged.event _ _ _ _).obj _ _ (by decide) (by decide),
        Core.obj_keep _ _ _ _ _ _ (by decide) (by decide) (by decide), hd]
    · exact hd

theorem Core.veloValid_samples (now : Nat) (c : Core) : (c.veloValid now).obj 0x2440 8 = c.obj 0x2440 8 := by
  rw [Core.veloValid_eq]
  exact Core.obj_keep _ _ _ _ _ _ (by decide) (by decide) (by decide)

/-- While the loop does not coast, nothing is carried over before a sample. -/
theorem Core.rebase_not {c : Core} (h : c.coasting = false) (now : Nat) : (c.markCoasted now).rebase now = c := by
  rw [Core.markCoasted_not h, Core.rebase, h, Core.when_false]

/-- A sample that gives a speed is kept and counted; one that does not is neither. -/
theorem Core.veloSample_takes {c : Core} (hj : c.job.running = true) (hi : c.inspecting = true)
    (hf : c.flag 0x2440 1 = true) (hc : c.coasting = false) (now : Nat) (south : Bool) (m : Nat) :
    let d := c.veloSample now south m
    d.mot.samples = c.mot.samples ++ ((c.sampleOf south m).map (fun x => (now, x))).toList ∧
      d.obj 0x2440 8 = (if (c.sampleOf south m).isSome then c.bump 0x2440 8 else c).obj 0x2440 8 ∧
      d.pipe = (c.veloTake south m).pipe ∧ d.mot.loop = c.mot.loop := by
  simp only [Core.veloSample, hj, hi, hf, Bool.not_true, Bool.or_self, Bool.false_eq_true, if_false, Core.rebase_not hc]
  cases hs : c.sampleOf south m with
  | none =>
    dsimp only
    have hr := (c.veloTake south m).veloRest_veloValid now
    exact ⟨(Core.of_veloRest (·.mot.samples) hr).trans (List.append_nil _).symm, Core.veloValid_samples _ _,
      (Core.of_veloRest Core.pipe hr).trans rfl,
      (Core.of_veloRest (·.mot.loop) hr).trans rfl⟩
  | some v =>
    dsimp only
    have hr : ∀ d : Core, ((d.veloValid now).slipStep now).veloRest = d.veloRest := fun d =>
      (Core.veloRest_slipStep _ _).trans (Core.veloRest_veloValid _ _)
    refine ⟨(Core.of_veloRest (·.mot.samples) (hr _)).trans ?_, ?_,
      (Core.of_veloRest Core.pipe (hr _)).trans (Core.bump_pipe _ _ _), (Core.of_veloRest (·.mot.loop) (hr _)).trans ?_⟩
    · simp only [Core.put_mot, Core.mapMot_mot, Core.bump_mot]
      rfl
    · rw [Core.slipStep_samples, Core.veloValid_samples, Core.obj_keep _ _ _ _ _ _ (by decide) (by decide) (by decide)]
      exact Core.obj_bump_congr rfl
    · simp only [Core.put_mot, Core.mapMot_mot, Core.bump_mot]
      rfl

/-- Settles O28: loss, stop and limit each as the loop's transition, a sample and a lapse as velocimetry's. -/
theorem lossStopAndVelocimetry : Obligations.LossStopAndVelocimetry := by
  unfold Obligations.LossStopAndVelocimetry
  refine ⟨?_, ?_, ?_, ?_, ?_, ?_, ?_⟩
  · rintro t last s hr hs rfl ht hv hf
    obtain ⟨u, hu, -, hc, -⟩ := State.run_ends t (fun now c => c.encoderLost now) s
    rw [Core.encoderLost_due (Core.edgesCeased_true hr hs ht) hv] at hc
    have hmot := (Core.of_under hc Core.mot).trans (Core.alarmsFollow_mot _ _)
    have hev := (Core.of_under hc Core.ev).trans (Core.alarmsFollow_ev _ _)
    refine ⟨u, hu, ?_⟩
    rw [hmot, Core.active_of_ev hev]
    exact Core.declareLoss_coasts (Core.loopRuns_mode hr) hf (s.at_ t)
  · rintro t a last s hr hs rfl ht hv hf hi ha hlt
    obtain ⟨u, hu, -, hc, -⟩ := State.run_ends t (fun now c => c.encoderLost now) s
    rw [Core.encoderLost_due (Core.edgesCeased_true hr hs ht) hv] at hc
    have hmot := (Core.of_under hc Core.mot).trans (Core.alarmsFollow_mot _ _)
    have hev := (Core.of_under hc Core.ev).trans (Core.alarmsFollow_ev _ _)
    refine ⟨u, hu, ?_⟩
    rw [hmot, Core.active_of_ev hev]
    exact Core.declareLoss_switches (Core.loopRuns_mode hr) hf hi ha hlt
  · rintro t last s hr hs rfl ht hv
    obtain ⟨u, hu, -, hc, -⟩ := State.run_ends t (fun now c => c.declareStop now) s
    refine ⟨u, hu, ?_⟩
    rw [Core.of_under hc Core.mot]
    exact Core.declareStop_stops (Core.edgesCeased_true hr hs ht) hv
  · intro t s hl hm ht
    obtain ⟨u, hu, -, hc, -⟩ := State.run_ends t (fun now c => c.coastLimit now) s
    refine ⟨u, hu, ?_⟩
    rw [Core.of_under hc Core.mot, Core.active_of_ev (Core.of_under hc Core.ev)]
    exact Core.coastLimit_loses hl hm ht
  · intro t m south s hj hi hf hco
    obtain ⟨u, hu, -, hc, -⟩ := State.run_ends t (fun now c => c.veloSample now south m) s
    refine ⟨u, hu, ?_⟩
    rw [Core.of_under hc Core.mot, Core.of_under hc Core.pipe, Core.of_under hc fun c => c.obj 0x2440 8]
    exact Core.veloSample_takes hj hi hf hco (s.at_ t) south m
  · intro t m south s hf
    obtain ⟨u, hu, -, hc, -⟩ := State.run_ends t (fun now c => c.veloSample now south m) s
    rw [Core.veloSample, hf, Bool.not_false, Bool.or_true, if_pos rfl] at hc
    exact ⟨u, hu, hc⟩
  · intro t s hco
    obtain ⟨u, hu, -, hc, -⟩ := State.run_ends t (fun now c => ((c.markCoasted now).rebase now).veloValid now) s
    rw [Core.rebase_not hco, Core.veloValid_eq] at hc
    have hdict : u.core.dict = (s.core.put 0x2440 2 (b2n (s.core.veloHolds (s.at_ t)))).dict :=
      Core.of_under hc Core.dict
    refine ⟨u, hu, ?_, Core.keeps_put (by decide) hdict, ?_⟩
    · rw [Core.of_under hc fun c => c.obj 0x2440 2]
      exact (s.core.obj_put_self 0x2440 2 _).trans (by simp [Core.veloHolds, b2n])
    · rw [Core.of_under hc (·.mot.veloLog), hdict]
      exact hc

end Sys2Proof.Machine
end

section
namespace Sys2Proof.Machine

/-! ### Engines' debugging commands before a trigger leaves its mark (10 R295, R299) -/

/-- `d` is `c` after debugging commands of tinker engines: what a read leaves, and the objects below the counters of
on-die memory. -/
structure Core.Debugged (c d : Core) : Prop where
  rest : d.readRest = c.readRest
  low : c.sameLow d

theorem Core.Logged.sameLow {c d : Core} (h : c.Logged d) : c.sameLow d := fun i s hs hi => h.obj i s hs (by omega)

theorem Core.sameLow_mapEng1 (n : Nat) (f : Tk → Tk) (c : Core) : c.sameLow (c.mapEng1 n f) := Core.sameLow_of_dict rfl

theorem Core.sameLow_pinsNote (own : Bool) (since : Nat) (c : Core) : c.sameLow (c.pinsNote own since) :=
  Core.sameLow_of_dict rfl

theorem Core.sameLow_tickMark (now n : Nat) (c : Core) : c.sameLow (c.tickMark now n) := by
  unfold Core.tickMark
  split
  · split <;> exact Core.sameLow_of_dict rfl
  · exact Core.sameLow_of_dict rfl

theorem Core.sameLow_tkInterrupt (n : Nat) (c : Core) : c.sameLow (c.tkInterrupt n) := by
  unfold Core.tkInterrupt
  split
  · exact Core.sameLow_of_dict rfl
  · exact Core.sameLow.trans (Core.sameLow_of_dict rfl) (Core.sameLow_when (Core.Logged.msix _).sameLow)

theorem Core.sameLow_tkComplete (now n entry b : Nat) (c : Core) : c.sameLow (c.tkComplete now n entry b) :=
  ((c.sameLow_tickMark now n).trans (Core.sameLow_of_dict rfl)).trans (Core.sameLow_when (Core.sameLow_tkInterrupt n _))

theorem Core.sameLow_lutError (now n : Nat) (c : Core) : c.sameLow (c.lutError now n) :=
  (c.sameLow_mapEng1 n _).trans (Core.sameLow_event _ _ _ _ _)

theorem Core.sameLow_tkDebug (now n entry b : Nat) (c : Core) : c.sameLow (c.tkDebug now n entry b) := by
  unfold Core.tkDebug
  split
  · exact (c.sameLow_tkComplete now n entry b).trans (Core.sameLow_of_dict rfl)
  · exact Core.sameLow_of_dict rfl

theorem Core.sameLow_tkDoStep (now n : Nat) (c : Core) : c.sameLow (c.tkDoStep now n) := by
  unfold Core.tkDoStep
  dsimp only
  split
  · exact (c.sameLow_sramLook now _ _).trans (Core.sameLow_lutError now n _)
  · exact (c.sameLow_sramLook now _ _).trans (Core.sameLow_tkDebug now n _ _ _)

theorem Core.sameLow_tkDebugs (t n : Nat) (c : Core) : c.sameLow (c.tkDebugs t n) := by
  refine (c.sameLow_mapEng1 n _).trans (Core.sameLow_foldl (fun d a => ?_) _ _)
  split
  · exact d.sameLow_tkDebug t n _ _
  · exact d.sameLow_tkDoStep t n

theorem Core.sameLow_tkMoment (t : Nat) (c : Core) : c.sameLow (c.tkMoment t) := by
  unfold Core.tkMoment
  extract_lets d
  have h : c.sameLow d := by
    unfold d
    split
    · exact c.sameLow_pinsNote true t
    · exact Core.sameLow_of_dict rfl
  split
  · exact (h.trans (Core.sameLow_foldl (fun c n => c.sameLow_tkDebugs t n) _ d)).trans (Core.sameLow_pinsNote true t _)
  · exact h

namespace Core.Debugged

theorem tkDue (now : Nat) (c : Core) : c.Debugged (c.tkDue now) :=
  ⟨c.readRest_tkDue now, Core.sameLow_foldl (fun c t => c.sameLow_tkMoment t) _ c⟩

variable {c d : Core} (h : c.Debugged d)
include h

theorem same {α : Type} (f : Core → α) (hf : ∀ c : Core, f c.readRest = f c := by intros; rfl) : f d = f c :=
  Core.of_readRest f h.rest hf

theorem timedJob : d.timedJob = c.timedJob := by
  simp only [Core.timedJob, Core.inSheet, Core.timedSheet, h.same Core.job, h.same Core.mode,
    h.low 0x2460 1 (by decide) (by decide)]

theorem loopRuns : d.loopRuns = c.loopRuns := by
  simp only [Core.loopRuns, Core.inspecting, h.timedJob, h.same Core.job, h.same Core.mode, h.same Core.clk]

theorem xAt (t : Nat) : d.xAt t = c.xAt t := by
  simp only [Core.xAt, Core.vUse, Core.coasting, Core.ofSpeed, Core.pitch, Core.flag, Core.objF, h.same Core.mot,
    h.low 0x2440 2 (by decide) (by decide), h.low 0x2440 3 (by decide) (by decide),
    h.low 0x2404 3 (by decide) (by decide)]
  rfl

end Core.Debugged

theorem Core.tkMoment_noDebug {c : Core} (h : c.noDebug = true) (t : Nat) :
    c.tkMoment t = { c with pads := (c.tkMoment t).pads } := by
  have hany : c.tk.engs.any (fun e => e.dbg.any (·.1 == t)) = false := by
    simp only [Core.noDebug, List.all_eq_true, List.isEmpty_iff] at h
    simp only [List.any_eq_false]
    intro e he
    simp [h e he]
  unfold Core.tkMoment
  extract_lets d
  have hd : d = { c with pads := d.pads } := by
    unfold d
    split
    · rfl
    · rfl
  have htk : d.tk = c.tk := (congrArg Core.tk hd).trans rfl
  rw [htk, hany]
  exact hd

/-- With no debugging command waiting for its tick, the moments before leave all but the noted pins. -/
theorem Core.tkDue_noDebug {c : Core} (h : c.noDebug = true) (now : Nat) :
    c.tkDue now = { c with pads := (c.tkDue now).pads } := by
  refine List.foldlRecOn (motive := fun d => d = { c with pads := d.pads }) (c.tkTimes (c.tickNow now)) Core.tkMoment
    (rfl : c = { c with pads := c.pads }) fun d hd t _ => ?_
  have hn : d.noDebug = true := by rw [hd]; exact h
  refine (Core.tkMoment_noDebug hn t).trans ?_
  rw [hd]

/-! ### Triggers of sheets (05 R169 to R171) -/

/-- The core at an edge of a TRIG pin: debugging commands up to it done, and the pin at its level. -/
def Core.trigSeen (now i : Nat) (rising : Bool) (c : Core) : Core := (c.tkDue now).trigPin i rising

theorem Core.Debugged.trigSeen (now i : Nat) (rising : Bool) (c : Core) : c.Debugged (c.trigSeen now i rising) :=
  ⟨(Core.readRest_mapTk _ _).trans (c.readRest_tkDue now),
    (Core.Debugged.tkDue now c).low.trans (Core.sameLow_of_dict rfl)⟩

theorem Core.trigSeen_noDebug {c : Core} (h : c.noDebug = true) (now i : Nat) (rising : Bool) :
    (c.trigSeen now i rising).mot = c.mot ∧ (c.trigSeen now i rising).dict = c.dict := by
  have hd := Core.tkDue_noDebug h now
  exact ⟨(congrArg Core.mot hd).trans rfl, (congrArg Core.dict hd).trans rfl⟩

/-- An edge of the selected input in the selected direction triggers (05 R169). -/
structure Core.Triggers (c : Core) (i : Nat) (rising : Bool) : Prop where
  mode : c.mode = .sheet
  running : c.job.running = true
  ending : c.job.ending = none
  held : c.clk.tHeld = false
  input : c.obj 0x2460 2 = i
  direction : (c.obj 0x2460 3 == 0) = rising

theorem Core.sheetTrigger_eq {c : Core} {i : Nat} {rising : Bool} (h : c.Triggers i rising) (now : Nat) :
    c.sheetTrigger now i rising = if c.timedJob then (c.trigSeen now i rising).sheetTimed now
      else (c.trigSeen now i rising).sheetEncoder now := by
  have hd := Core.Debugged.trigSeen now i rising c
  unfold Core.sheetTrigger
  extract_lets d mine
  change c.Debugged d at hd
  have hmine : mine = true := by
    simp only [mine, hd.same Core.mode, hd.same Core.job, hd.same Core.clk, hd.low 0x2460 2 (by decide) (by decide),
      hd.low 0x2460 3 (by decide) (by decide), h.mode, h.running, h.ending, h.held, h.input, h.direction]
    simp
  rw [hmine, hd.timedJob]
  rfl

/-- The last sheet is the one added. -/
theorem Core.addSheet_last (u : Int) (frac trigAt : Nat) (ratio : Option Rat) (c : Core) :
    ∃ sh, (c.addSheet u frac trigAt ratio).mot.sheets.getLast? = some sh ∧
      (c.addSheet u frac trigAt ratio).mot.sheets.length = c.mot.sheets.length + 1 ∧
      sh.coord = u ∧ sh.len = c.obj 0x2460 4 ∧ sh.open_ = true :=
  ⟨_, List.getLast?_concat, by simp [Core.addSheet, Core.mapMot], rfl, rfl, rfl⟩

theorem Core.sheetEncoder_first {c : Core} (h : c.mot.lastTrig = none) (now : Nat) : ∃ frac,
    (c.sheetEncoder now).mot = { (c.addSheet (c.xAt now + (c.obj 0x2460 5 : Rat)).ceil frac now none).mot with
      lastTrig := some (c.xAt now) } := by
  unfold Core.sheetEncoder
  extract_lets x near p d
  have hn : ¬ near = true := by simp [near, h]
  rw [if_neg hn]
  exact ⟨_, congrArg (fun m : Motion => { m with lastTrig := some x }) (d.bump_mot 0x2460 9)⟩

theorem Core.sheetEncoder_near {c : Core} {y : Rat} {now : Nat} (h : c.mot.lastTrig = some y)
    (hn : c.xAt now - y < (c.obj 0x2460 7 : Rat)) : c.sheetEncoder now = c.bump 0x2460 8 := by
  unfold Core.sheetEncoder
  rw [h]
  exact if_pos (decide_eq_true hn)

/-- A unit that begins leaves the sequencer but for which sheet has begun. -/
theorem Core.beginUnit_sheets (now : Nat) (c : Core) :
    ∃ f : SheetRun → SheetRun, (c.beginUnit now).mot = { c.mot with sheets := c.mot.sheets.map f } := by
  unfold Core.beginUnit
  split
  · exact ⟨id, by rw [List.map_id]⟩
  · next n _ =>
    extract_lets d
    have hd : d.mot = c.mot := Core.of_heldBy (w := ⟨true, false, false⟩) Core.mot (c.heldBy_startUnit rfl rfl now n _)
    refine Core.when_of
      (P := fun e => ∃ f : SheetRun → SheetRun, e.mot = { c.mot with sheets := c.mot.sheets.map f }) _ _ d
      ⟨id, by rw [List.map_id, hd]⟩ ⟨fun s => if s.first == n then { s with begun := true } else s, ?_⟩
    rw [Core.mapMot_mot, hd]

/-- Outside a burst a trigger of timed operation starts one, delayed, with a sheet of its own. -/
theorem Core.sheetTimed_starts {c : Core} {now : Nat} (hl : c.mot.burstLeft = 0) (he : c.mot.burstEnd ≤ now) :
    ∃ l : List SheetRun, l.length = c.mot.sheets.length + 1 ∧ (c.sheetTimed now).mot = { c.mot with
      sheets := l, burstLeft := c.obj 0x2460 4 + 259 + c.tdi,
      burstAt := now + c.obj 0x2460 5 * (4 * c.obj 0x2460 6), burstNext := 0 } := by
  have hb : ¬ c.inBurst now = true := by simp [Core.inBurst, hl, he]
  unfold Core.sheetTimed
  rw [if_neg hb]
  extract_lets u p ratio d
  have hobj : ∀ j r, j < 0x2640 → r < 256 → d.obj j r = c.obj j r := fun j r hj hr =>
    Core.obj_keep _ _ _ _ _ _ (by decide) hr fun e => hj.ne (Prod.mk.inj e).1
  have htdi : d.tdi = c.tdi := hobj _ _ (by decide) (by decide)
  obtain ⟨f, hf⟩ := (d.bump 0x2460 9).beginUnit_sheets now
  obtain ⟨-, -, hlen, -⟩ := c.addSheet_last u 0 now ratio
  refine ⟨d.mot.sheets.map f, (List.length_map _).trans hlen, ?_⟩
  rw [Core.mapMot_mot, hf, Core.bump_mot, htdi, hobj 0x2460 4 (by decide) (by decide),
    hobj 0x2460 5 (by decide) (by decide)]
  rfl

/-! ### The limit of a sheet (05 R170) -/

/-- With encoder timing, a sheet whose lines the entry row has passed is not left open. -/
theorem Core.sheetLimit_closes {c : Core} {now : Nat} (ht : c.timedJob = false) {sh : SheetRun}
    (hs : sh ∈ (c.sheetLimit now).mot.sheets) (ho : sh.open_ = true) :
    (c.entryAt (c.xAt now)).floor < sh.coord + (sh.len : Int) := by
  obtain ⟨x, -, rfl⟩ := List.mem_map.mp hs
  simp only [ht, Bool.false_eq_true, if_false, Bool.and_eq_true, decide_eq_true_eq] at ho ⊢
  split at ho
  · cases ho
  · next hn =>
    rw [if_neg hn]
    exact not_le.mp fun hle => hn ⟨ho, hle⟩

/-! ### Edges of TRIG pins (05 R172) -/

theorem trigBit (i : Fin 4) (rising : Bool) (b : BitVec 4) :
    (if rising then b ||| BitVec.ofNat 4 (2 ^ i.val) else b &&& ~~~(BitVec.ofNat 4 (2 ^ i.val))).getLsbD i.val =
      rising := by
  revert i rising b
  decide

/-- An edge that is placed sets its pin, and in WEB is a cut where the web stands. -/
theorem Core.trigPlaced_web {c : Core} (hm : c.mode = .web) (hr : c.loopRuns = true) (now i : Nat) (rising : Bool) :
    (c.trigPlaced now i rising).mot = { c.mot with cuts := c.mot.cuts ++ [(i, c.xAt now)] } := by
  have hd := Core.Debugged.trigSeen now i rising c
  unfold Core.trigPlaced
  extract_lets d x e u f
  change c.Debugged d at hd
  have hh : d.clk.tHeld = false := by
    have := hd.loopRuns.trans hr
    simp only [Core.loopRuns, Bool.and_eq_true, Bool.not_eq_true'] at this
    exact this.2
  have he : e.mot = { c.mot with cuts := c.mot.cuts ++ [(i, c.xAt now)] } := by
    simp only [e, x, hd.loopRuns.trans hr, if_true, Core.when_true, Core.mapMot_mot, hd.same Core.mot, hd.xAt]
  rw [hh, hd.same Core.mode, hm, if_neg (by decide)]
  exact ((Core.Logged.when (Core.Logged.eventRaw _ _ _ _ _ _)).same Core.mot).trans he

theorem Core.trigPlaced_tk (now i : Nat) (rising : Bool) (c : Core) :
    (c.trigPlaced now i rising).tk = (c.trigSeen now i rising).tk := by
  unfold Core.trigPlaced
  extract_lets d x e u f
  have he : e.tk = d.tk := Core.when_of (P := fun k => k.tk = d.tk) _ _ _ rfl rfl
  split
  · rfl
  · exact ((Core.Logged.when (Core.Logged.eventRaw _ _ _ _ _ _)).same Core.tk).trans he

theorem Core.trigPlaced_notWeb {c : Core} (h : c.mode ≠ .web) (now i : Nat) (rising : Bool) :
    c.trigPlaced now i rising = c.trigSeen now i rising := by
  have hm : (c.trigSeen now i rising).mode = c.mode := (Core.Debugged.trigSeen now i rising c).same Core.mode
  have hb : ((c.trigSeen now i rising).mode != .web) = true := by rw [hm]; simpa using h
  exact if_pos (by rw [Bool.or_eq_true]; exact .inl hb)

/-- Settles O29: triggers, limits and edges of TRIG pins, after the debugging commands that came before. -/
theorem sheetsAndTriggers : Obligations.SheetsAndTriggers := by
  unfold Obligations.SheetsAndTriggers
  have hrun : ∀ (t : Nat) (i : Fin 4) (rising : Bool) (s : State), s.core.Triggers i.val rising →
      ∃ u, exec (.sheetTrigger t i rising) s = .next u ∧
        u.core = (if s.core.timedJob then (s.core.trigSeen (s.at_ t) i.val rising).sheetTimed (s.at_ t)
          else (s.core.trigSeen (s.at_ t) i.val rising).sheetEncoder (s.at_ t)).under u.core := fun t i rising s h => by
    obtain ⟨u, hu, -, hc, -⟩ := State.run_ends t (fun now c => c.sheetTrigger now i.val rising) s
    exact ⟨u, hu, by rwa [Core.sheetTrigger_eq h] at hc⟩
  refine ⟨?_, ?_, ?_, ?_, ?_⟩
  · intro t i rising s hm hj he hh hi hr ht hl
    obtain ⟨u, hu, hc⟩ := hrun t i rising s ⟨hm, hj, he, hh, hi, hr⟩
    have hd := Core.Debugged.trigSeen (s.at_ t) i.val rising s.core
    generalize s.core.trigSeen (s.at_ t) i.val rising = d at hc hd
    rw [ht, if_neg Bool.false_ne_true] at hc
    obtain ⟨frac, hmot⟩ := Core.sheetEncoder_first ((congrArg Motion.lastTrig (hd.same Core.mot)).trans hl) (s.at_ t)
    obtain ⟨sh, hlast, hlen, hcoord, hshlen, hopen⟩ :=
      d.addSheet_last (d.xAt (s.at_ t) + (d.obj 0x2460 5 : Rat)).ceil frac (s.at_ t) none
    rw [hd.same Core.mot] at hlen
    rw [hd.xAt, hd.low 0x2460 5 (by decide) (by decide)] at hcoord
    rw [hd.low 0x2460 4 (by decide) (by decide)] at hshlen
    refine ⟨u, sh, hu, ?_⟩
    rw [(Core.of_under hc Core.mot).trans hmot]
    exact ⟨hlast, hlen, hcoord, hshlen, hopen, congrArg some (hd.xAt _)⟩
  · intro t i rising y s hm hj he hh hi hr ht hn hl hx
    obtain ⟨u, hu, hc⟩ := hrun t i rising s ⟨hm, hj, he, hh, hi, hr⟩
    have hd := Core.Debugged.trigSeen (s.at_ t) i.val rising s.core
    obtain ⟨hmot, hdict⟩ := Core.trigSeen_noDebug hn (s.at_ t) i.val rising
    generalize s.core.trigSeen (s.at_ t) i.val rising = d at hc hd hmot hdict
    rw [ht, if_neg Bool.false_ne_true, Core.sheetEncoder_near ((congrArg Motion.lastTrig hmot).trans hl)
      (by rwa [hd.xAt, hd.low 0x2460 7 (by decide) (by decide)])] at hc
    exact ⟨u, hu, (Core.of_under hc Core.mot).trans ((Core.bump_mot _ _ _).trans hmot),
      (Core.of_under hc Core.dict).trans (Core.bump_dict_congr hdict _ _)⟩
  · intro t i rising s hm hj he hh hi hr ht hl hb
    obtain ⟨u, hu, hc⟩ := hrun t i rising s ⟨hm, hj, he, hh, hi, hr⟩
    have hd := Core.Debugged.trigSeen (s.at_ t) i.val rising s.core
    generalize s.core.trigSeen (s.at_ t) i.val rising = d at hc hd
    rw [ht, if_pos rfl] at hc
    have hmot := hd.same Core.mot
    obtain ⟨l, hlen, hburst⟩ := Core.sheetTimed_starts (c := d) (now := s.at_ t) (by rw [hmot]; exact hl)
      (by rw [hmot]; exact hb)
    have htdi : d.tdi = s.core.tdi := hd.low 0x2210 0 (by decide) (by decide)
    rw [hmot] at hlen
    rw [htdi, hd.low 0x2460 4 (by decide) (by decide), hd.low 0x2460 5 (by decide) (by decide),
      hd.low 0x2460 6 (by decide) (by decide)] at hburst
    refine ⟨u, hu, ?_⟩
    rw [(Core.of_under hc Core.mot).trans hburst]
    exact ⟨rfl, rfl, rfl, hlen⟩
  · intro t s
    obtain ⟨u, hu, -, hc, -⟩ := State.run_ends t (fun now c => c.sheetLimit now) s
    have hmot := Core.of_under hc Core.mot
    refine ⟨u, hu, ?_, fun ht sh hs ho => ?_, ?_⟩
    · rw [hmot]
      exact List.length_map _
    · rw [hmot] at hs
      exact Core.sheetLimit_closes ht hs ho
    · rw [hmot]
      exact hc
  · intro t i rising s
    obtain ⟨u, hu, -, hc, -⟩ := State.run_ends t (fun now c => c.trigPlaced now i.val rising) s
    refine ⟨u, hu, ?_, fun hm hr => ?_, fun hm hn => ?_⟩
    · rw [Core.of_under hc Core.tk, Core.trigPlaced_tk]
      exact trigBit i rising _
    · exact (Core.of_under hc Core.mot).trans (Core.trigPlaced_web hm hr _ _ _)
    · rw [Core.trigPlaced_notWeb hm] at hc
      obtain ⟨hmot, hdict⟩ := Core.trigSeen_noDebug hn (s.at_ t) i.val rising
      exact ⟨(Core.of_under hc Core.mot).trans hmot, (Core.of_under hc Core.dict).trans hdict⟩

end Sys2Proof.Machine
end

section
namespace Sys2Proof.Machine

/-! ### Deadlines of the alarms (05 R158, 08 R275) -/

/-- The name under which an open alarm is known: its channel and its number. -/
def OpenAlarm.named (a x : OpenAlarm) : Bool := x.ch == a.ch && x.num == a.num

@[simp] theorem Core.busSend_opens (ch kind reason num : Nat) (targets : BitVec 16) (c : Core) :
    (c.busSend ch kind reason num targets).eng.opens = c.eng.opens :=
  Core.when_of (P := fun d => d.eng.opens = c.eng.opens) _ _ (c.emit _) rfl rfl
@[simp] theorem Core.busSend_dict (ch kind reason num : Nat) (targets : BitVec 16) (c : Core) :
    (c.busSend ch kind reason num targets).dict = c.dict :=
  Core.when_of (P := fun d => d.dict = c.dict) _ _ (c.emit _) rfl rfl

@[simp] theorem Core.bump_eng (i s : Nat) (c : Core) : (c.bump i s).eng = c.eng :=
  Core.of_rest Core.eng (fun _ => rfl) (c.rest_bump i s)

/-- An outcome closes the alarms of its name. -/
theorem Core.outcome_opens (a : OpenAlarm) (o : Outcome) (c : Core) :
    (c.outcome a o).eng.opens = c.eng.opens.filter (fun x => !a.named x) := by
  unfold Core.outcome
  cases o <;> simp [OpenAlarm.named]

/-- A TIMEOUT is counted in 2421h.06. -/
theorem Core.outcome_timeout_dict (a : OpenAlarm) (c : Core) :
    (c.outcome a .timeout).dict = (c.bump 0x2421 6).dict :=
  Core.bump_dict_congr ((Core.busSend_dict _ _ _ _ _ _).trans (Core.mapEng_dict _ _)) _ _

theorem Core.foldl_outcome_opens (f : OpenAlarm → Outcome) (l : List OpenAlarm) (c : Core) :
    (l.foldl (fun c a => c.outcome a (f a)) c).eng.opens = c.eng.opens.filter (fun x => !l.any (·.named x)) := by
  induction l generalizing c with
  | nil => simp
  | cons a l ih => rw [List.foldl_cons, ih, Core.outcome_opens, List.filter_filter]; simp [Bool.and_comm]

/-- The alarms of a channel, the oldest first. -/
def Core.alarmsOf (c : Core) (ch : Nat) : List OpenAlarm := c.eng.opens.filter (fun a => a.ch == ch)

/-- How many of a list's first elements reach to the last whose deadline has passed. -/
def dueCount (now : Nat) (l : List OpenAlarm) : Nat :=
  (l.zipIdx.filter (fun p => p.1.deadline ≤ now)).foldl (fun k p => max k (p.2 + 1)) 0

theorem Core.alarmsDue1_eq (now ch : Nat) (c : Core) : c.alarmsDue1 now ch =
    ((c.alarmsOf ch).take (dueCount now (c.alarmsOf ch))).foldl (fun c a => c.outcome a (a.known.getD .timeout)) c := rfl

theorem le_foldl_max {α : Type} (f : α → Nat) (l : List α) (k : Nat) :
    k ≤ l.foldl (fun k p => max k (f p)) k ∧ ∀ p ∈ l, f p ≤ l.foldl (fun k p => max k (f p)) k := by
  induction l generalizing k with
  | nil => simp
  | cons q l ih =>
    obtain ⟨h1, h2⟩ := ih (max k (f q))
    simp only [List.foldl_cons, List.mem_cons, forall_eq_or_imp]
    exact ⟨by omega, by omega, h2⟩

/-- An alarm whose deadline has passed is among those that are due. -/
theorem mem_take_dueCount {now : Nat} {l : List OpenAlarm} {a : OpenAlarm} (ha : a ∈ l) (hd : a.deadline ≤ now) :
    a ∈ l.take (dueCount now l) := by
  obtain ⟨i, hi, rfl⟩ := List.mem_iff_getElem.mp ha
  have hz : (l[i], i) ∈ l.zipIdx.filter (fun p => decide (p.1.deadline ≤ now)) := by
    simp [List.mem_zipIdx_iff_getElem?, hd]
  have hk : i + 1 ≤ dueCount now l := (le_foldl_max (fun p : OpenAlarm × Nat => p.2 + 1) _ 0).2 _ hz
  exact List.mem_take_iff_getElem.mpr ⟨i, by omega, rfl⟩

/-- After the deadlines of a channel, its open alarms are those whose deadline is still to come. -/
theorem Core.alarmsDue1_open {now ch : Nat} {c : Core} {a : OpenAlarm} (ha : a ∈ (c.alarmsDue1 now ch).eng.opens)
    (hc : a.ch = ch) : now < a.deadline := by
  rw [Core.alarmsDue1_eq, Core.foldl_outcome_opens] at ha
  obtain ⟨hm, hn⟩ := List.mem_filter.mp ha
  by_contra hd
  have ht := mem_take_dueCount (List.mem_filter.mpr ⟨hm, beq_iff_eq.mpr hc⟩ : a ∈ c.alarmsOf ch) (Nat.not_lt.mp hd)
  simp only [Bool.not_eq_true', List.any_eq_false] at hn
  exact hn a ht (by simp [OpenAlarm.named])

/-- The alarms of the other channels stand. -/
theorem Core.alarmsDue1_others (now ch : Nat) (c : Core) :
    (c.alarmsDue1 now ch).eng.opens.filter (fun a => a.ch != ch) = c.eng.opens.filter (fun a => a.ch != ch) := by
  rw [Core.alarmsDue1_eq, Core.foldl_outcome_opens, List.filter_filter]
  refine List.filter_congr fun x _ => ?_
  have hn : x.ch ≠ ch → ((c.alarmsOf ch).take (dueCount now (c.alarmsOf ch))).any (·.named x) = false := by
    intro hx
    rw [List.any_eq_false]
    intro a ha he
    have hac : a.ch = ch := by simpa using (List.mem_filter.mp (List.mem_of_mem_take ha)).2
    have hxa : x.ch = a.ch := by simp only [OpenAlarm.named, Bool.and_eq_true, beq_iff_eq] at he; exact he.1
    exact hx (hxa.trans hac)
  by_cases hx : x.ch = ch
  · simp [hx]
  · simp [hn hx]

/-- The one open alarm of a channel, its deadline passed and its outcome unknown, is retracted. -/
theorem Core.alarmsDue1_timeout {now ch : Nat} {c : Core} {a : OpenAlarm} (h : c.alarmsOf ch = [a])
    (hd : a.deadline ≤ now) (hk : a.known = none) : c.alarmsDue1 now ch = c.outcome a .timeout := by
  have h1 : dueCount now [a] = 1 := by simp [dueCount, hd]
  rw [Core.alarmsDue1_eq, h, h1]
  simp [hk]

/-! ### The commit of the motion bank (05 R174) -/

/-- A write of 2490h.00 meets no reason but the bank's own. -/
theorem Core.writeCodes_motion {c : Core} {o : Orig} {own : List Nat} (hm : c.mayWrite o 0x2490 0 1) :
    c.writeCodes o 0x2490 0 (leBytes 1 (1 : Byte).toNat) own = own :=
  Core.writeCodes_may (r := row 0x2490 0x2490 0 0 .u8 .wo (.val 0) false (.oneOf [1]) 0 false) hm rfl rfl rfl rfl rfl
    (.inl rfl) rfl rfl

/-- Where the pending exposure times fit, a commit is refused only while another is latched. -/
theorem Core.motionCodes_fit {c : Core} (h : c.exposFit (fun i k => (c.pendingView i k).1) = true) :
    c.motionCodes = reason (c.bank 4).latch.isSome 0x08000029 := by simp [Core.motionCodes, h, reason]

/-- The pending values of the motion bank latched at `now`. -/
def Bank.latched (now : Nat) (k : Bank) : Bank := { k with latch := some k.pend, pend := [], latchAt := now }

theorem Core.motionCommit_waits {c : Core} (h : c.commitWaits = true) (now : Nat) :
    c.motionCommit now = c.mapBank 4 (Bank.latched now) := if_pos h

theorem Core.motionCommit_applies {c : Core} (h : c.commitWaits = false) (now : Nat) :
    c.motionCommit now = (c.mapBank 4 (Bank.latched now)).applyBank 4 :=
  if_neg (by rw [show (c.latchBank now 4).commitWaits = c.commitWaits from rfl, h]; decide)

theorem Core.bank_mapBank {c : Core} {b : Nat} (h : b < c.banks.length) (f : Bank → Bank) :
    (c.mapBank b f).bank b = f (c.bank b) := getD_modAt_self h f {}

/-- A latch of one value applied: the value is in force, the bank's generation is counted, and nothing is latched. -/
theorem Core.applyBank_one {c : Core} {idx sub v : Nat} (hb : 4 < c.banks.length)
    (hl : (c.bank 4).latch = some [(key idx sub, v)]) (hs : sub < 256) :
    (c.applyBank 4).dict = ((c.put idx sub v).put 0x2491 0 (((c.put idx sub v).obj 0x2491 0 + 1) % 2 ^ 32)).dict ∧
      (c.applyBank 4).bank 4 = { c.bank 4 with latch := none } := by
  have hi : key idx sub / 256 = idx ∧ key idx sub % 256 = sub := by unfold key; omega
  have hap : c.applyBank 4 = ((c.store idx sub v).mapBank 4 (fun k => { k with latch := none })).bumpGen 4 := by
    simp only [Core.applyBank, Core.applyLatch, hl, List.foldl_cons, List.foldl_nil, hi.1, hi.2]
  have hgen : ∀ d : Core, d.bumpGen 4 = d.put 0x2491 0 ((d.obj 0x2491 0 + 1) % 2 ^ 32) := fun d => rfl
  have hbanks : (c.store idx sub v).banks = c.banks := by rw [Core.store_eq]
  rw [hap, hgen]
  constructor
  · simp only [Core.mapBank_obj]
    simp only [Core.put, Core.obj, Core.mapBank_dict, Core.store_dict]
  · refine (Core.bank_mapBank (hbanks ▸ hb) _).trans ?_
    simp only [Core.bank, hbanks]

/-- Settles O31: a channel's deadlines take the outcomes up to the last that has passed, in order; a motion commit
latches the pending values, which apply at once where no job runs. -/
theorem alarmDeadlinesAndMotionCommit : Obligations.AlarmDeadlinesAndMotionCommit := by
  unfold Obligations.AlarmDeadlinesAndMotionCommit
  refine ⟨?_, ?_, ?_, ?_, ?_⟩
  · intro t ch s hh
    obtain ⟨u, hu, -, hc, -⟩ := State.run_when (t := t) (x := s) (b := fun c => !c.clk.tHeld)
      (f := fun now c => c.alarmsDue1 now ch.val) (by simp [hh])
    refine ⟨u, hu, fun a ha hch => ?_, ?_⟩
    · rw [Core.of_under hc (·.eng.opens)] at ha
      exact Core.alarmsDue1_open ha hch
    · rw [Core.of_under hc (·.eng.opens)]
      exact s.core.alarmsDue1_others _ _
  · intro t ch a s hh ho hd hk
    obtain ⟨u, hu, -, hc, hout⟩ := State.run_when (t := t) (x := s) (b := fun c => !c.clk.tHeld)
      (f := fun now c => c.alarmsDue1 now ch.val) (by simp [hh])
    have hmem : a ∈ s.core.alarmsOf ch.val := by rw [Core.alarmsOf, ho]; exact List.mem_singleton_self a
    have hch : a.ch = ch.val := beq_iff_eq.mp (List.mem_filter.mp hmem).2
    simp only [Core.alarmsDue1_timeout ho hd hk] at hc hout
    refine ⟨u, hu, ?_, ?_, ?_⟩
    · rw [Core.of_under hc (·.eng.bus), ← hch]
      exact congrArg Eng.bus (Core.bump_eng _ _ _)
    · rw [← hch]
      refine List.IsPrefix.trans ?_ hout
      simp only [Core.outcome, Core.out_bump]
      exact List.prefix_refl _
    · rw [Core.of_under hc Core.dict]
      exact Core.outcome_timeout_dict _ _
  · intro t o s hm hl hf hw
    have hown := (Core.motionCodes_fit hf).trans (by rw [hl])
    obtain ⟨u, hu, hc⟩ := State.run_command_taken (t := t) (eff := fun now => Core.motionCommit now)
      (own := Core.motionCodes) hm.2.2.2.2 ((Core.writeCodes_motion hm).trans hown)
    simp only [Core.motionCommit_waits hw] at hc
    exact ⟨u, hu, Core.of_under hc Core.dict, Core.of_under hc Core.banks⟩
  · intro t idx sub v o s hm hl hf hw hp hs hi
    have hown := (Core.motionCodes_fit hf).trans (by rw [hl])
    obtain ⟨u, hu, hc⟩ := State.run_command_taken (t := t) (eff := fun now => Core.motionCommit now)
      (own := Core.motionCodes) hm.2.2.2.2 ((Core.writeCodes_motion hm).trans hown)
    simp only [Core.motionCommit_applies hw] at hc
    have hb : 4 < s.core.banks.length :=
      lt_length_of_getD_ne (d := ({} : Bank)) fun e => by rw [Core.bank, e] at hp; cases hp
    have hbank := Core.bank_mapBank hb (Bank.latched (s.at_ t))
    obtain ⟨hdict, hafter⟩ := Core.applyBank_one (c := s.core.mapBank 4 (Bank.latched (s.at_ t)))
      (by simpa [modAt] using hb) (by rw [hbank]; exact congrArg some hp) hs
    rw [← Core.of_under hc Core.dict] at hdict
    rw [hbank, ← Core.of_under hc (·.bank 4)] at hafter
    have hne : (0x2491, 0) ≠ (idx, sub) := fun e => by
      obtain rfl := (Prod.mk.inj e).1
      revert hi
      decide
    have hobj : ∀ i k, u.core.obj i k = (((s.core.put idx sub v).put 0x2491 0
        ((s.core.obj 0x2491 0 + 1) % 2 ^ 32)).obj i k) := fun i k => by
      rw [← s.core.obj_keep idx sub v 0x2491 0 hs (by decide) hne]
      exact congrArg (fun d => sget dfltOf d (key i k)) hdict
    refine ⟨u, hu, ?_, ?_, fun i k hk hn => ?_, by rw [hafter]; rfl, by rw [hafter]⟩
    · rw [hobj, Core.obj_keep _ _ _ _ _ _ (by decide) hs hne.symm, Core.obj_put_self]
    · rw [hobj, Core.obj_put_self]
    · rw [hobj]
      exact Core.keeps_put_mem _ (Core.keeps_put_mem _ (Core.keeps_refl _ _) hs (by simp)) (by decide) (by simp) i k hk hn
  · intro t o s hm hp hl hf
    have hown : s.core.motionCodes = [0x08000029] := (Core.motionCodes_fit hf).trans (by rw [hl]; rfl)
    obtain ⟨u, hu, hout, hc⟩ := State.run_command_refused (t := t) (eff := fun now => Core.motionCommit now)
      (own := Core.motionCodes) (k := 0x08000029) (by rw [Core.writeCodes_motion hm, hown]; decide) hp
    exact ⟨u, hu, hc, hout⟩

end Sys2Proof.Machine
end

section
namespace Sys2Proof.Machine

/-! ### A latched commit that holds the rate correction of Distributed Clocks -/

/-- A job in WEB, the loop tracking, Distributed Clocks running, and in the latch of C0 a value of 2D20h.01, which no
parameter bank buffers: no run reaches it, but no premise of the statement excludes it. -/
def latchedRate : State :=
  { State.reset with core :=
      { mode := .web, job := { running := true }, clk := { tHeld := false }, ec := { dcRunning := true },
        mot := { loop := .tracking, vHat := 1 }, banks := [{ latch := some [(key 0x2D20 1, 250000)] }] } }

/-- Its first epoch is due after 1 s. -/
theorem latchedRate_due : latchedRate.core.loopRuns = true ∧
    latchedRate.core.unitDue (latchedRate.at_ 1000000000) = true ∧ latchedRate.core.nextUnit = some 0 := by decide +kernel

/-- The epoch's generation is stamped under the rate that its commit puts in force, 250000 ns later than before. -/
theorem latchedRate_stamped :
    (latchedRate.core.epochStart (latchedRate.at_ 1000000000)).pipe.gens.map Gen.start =
      [latchedRate.core.stamp (latchedRate.at_ 1000000000) + 250000] := by decide +kernel

/-- Refutes O30: the generation of the unit that begins need not start at the timestamp that the moment had before the
unit's commits, since a commit may change the rate that timestamps follow (`latchedRate`). -/
theorem not_exposures : ¬ Obligations.Exposures := by
  unfold Obligations.Exposures
  intro h
  obtain ⟨-, -, -, -, hstart, -⟩ := h
  obtain ⟨hr, hd, hn⟩ := latchedRate_due
  obtain ⟨u, g, hu, -, hg, -, hs⟩ := hstart 1000000000 0 latchedRate hr hd hn
  obtain ⟨v, hv, -, hc, -⟩ := State.run_ends (t := 1000000000) (s := latchedRate) (f := fun now c => c.epochStart now)
  obtain rfl : u = v := Host.Outcome.next.inj (hu.symm.trans hv)
  have hgens : u.core.pipe.gens = [g] := hg
  have hm := congrArg (List.map Gen.start) (Core.of_under hc (·.pipe.gens))
  rw [hgens, latchedRate_stamped, List.map_singleton, List.singleton_inj, hs] at hm
  omega

end Sys2Proof.Machine
end

section
namespace Sys2Proof.Machine

/-! ### The commit and the discard of a context bank (07 R216 to R218) -/

/-- A write of 2801h meets no reason but the bank's own: 1 commits, 2 discards. -/
theorem Core.writeCodes_context {c : Core} {o : Orig} {v : Nat} {own : List Nat} {n : Fin 4}
    (hm : c.mayWrite o 0x2801 (n.val + 1) 5) (hv : v = 1 ∨ v = 2) :
    c.writeCodes o 0x2801 (n.val + 1) (leBytes 1 v) own = own :=
  Core.writeCodes_may (r := row 0x2801 0x2801 1 4 .u8 .wo (.val 0) false (.rng 1 2) 0 false) hm
    (by clear hm; revert n; decide) rfl (by clear hm; revert n; decide) rfl rfl (.inl rfl)
    (by obtain rfl | rfl := hv <;> rfl) (by obtain rfl | rfl := hv <;> rfl)

/-- With nothing latched, and the merge limits of C0 in order, a bank's commit meets no reason of its own. -/
theorem Core.contextCodes_ordered {c : Core} {n : Nat} (hl : (c.bank n).latch = none)
    (ho : n = 0 → (c.pendingView 0x2630 2).1 < (c.pendingView 0x2630 3).1) : c.contextCodes n 1 = [] := by
  have hlimits : (n == 0 && decide ((c.pendingView 0x2630 3).1 ≤ (c.pendingView 0x2630 2).1)) = false := by
    by_cases hn : n = 0
    · simp [ho hn]
    · simp [hn]
  simp [Core.contextCodes, hl, hlimits, reason]

/-- A commit that nothing refuses. -/
theorem State.contextCommit_taken {t : Nat} {o : Orig} {n : Fin 4} {x : State}
    (hm : x.core.mayWrite o 0x2801 (n.val + 1) 5) (hl : (x.core.bank n.val).latch = none)
    (ho : n.val = 0 → (x.core.pendingView 0x2630 2).1 < (x.core.pendingView 0x2630 3).1) :
    ∃ u, exec (.contextCommit t o n) x = .next u ∧
      u.core = (x.core.contextCommit (x.at_ t) n.val).under u.core :=
  State.run_command_taken (eff := fun now => Core.contextCommit now n.val) (own := fun c => c.contextCodes n.val 1)
    hm.2.2.2.2 ((Core.writeCodes_context hm (.inl rfl)).trans (Core.contextCodes_ordered hl ho))

/-- A commit of bank `n` waits for a boundary: the start of a unit for C0 and C1, of a frame for C2 and C3
(07 R217). -/
def Core.boundaryAwaited (c : Core) (n : Nat) : Bool := if n < 2 then c.commitWaits else c.carries n

/-- A latch changes neither the job nor the contexts that carry data. -/
theorem Core.boundaryAwaited_latchBank (c : Core) (now b : Nat) (n : Fin 4) :
    (c.latchBank now b).boundaryAwaited n.val = c.boundaryAwaited n.val := by
  have hlatch : ∃ d k, c.latchBank now b = { c with dict := d, banks := k } := by
    by_cases hb : b = 4
    · subst hb; exact ⟨_, _, rfl⟩
    · exact ⟨_, _, if_pos (by simpa using hb)⟩
  obtain ⟨d, k, hlatch⟩ := hlatch
  rw [hlatch]
  match n with
  | 0 | 1 | 2 | 3 => rfl

/-- The latch of a context bank shows in 2803h. -/
theorem Core.latchBank_context {b : Nat} (hb : b ≠ 4) (now : Nat) (c : Core) :
    c.latchBank now b = (c.mapBank b (Bank.latched now)).put 0x2803 (b + 1) 1 :=
  if_pos (bne_iff_ne.mpr hb)

/-- A commit latches the bank and, where no boundary is awaited, applies the latch (07 R217). -/
theorem Core.contextCommit_eq (c : Core) (now : Nat) (n : Fin 4) :
    c.contextCommit now n.val = if c.boundaryAwaited n.val
      then c.latchBank now n.val else (c.latchBank now n.val).applyBank n.val := by
  rw [← c.boundaryAwaited_latchBank now n.val n]
  rfl

theorem Core.contextCommit_waits {c : Core} {n : Fin 4} (h : c.boundaryAwaited n.val = true) (now : Nat) :
    c.contextCommit now n.val = (c.mapBank n.val (Bank.latched now)).put 0x2803 (n.val + 1) 1 := by
  rw [Core.contextCommit_eq, if_pos h, Core.latchBank_context n.isLt.ne]

theorem Core.contextCommit_applies {c : Core} {n : Fin 4} (h : c.boundaryAwaited n.val = false) (now : Nat) :
    c.contextCommit now n.val = ((c.mapBank n.val (Bank.latched now)).put 0x2803 (n.val + 1) 1).applyBank n.val := by
  rw [Core.contextCommit_eq, if_neg (Bool.eq_false_iff.mp h), Core.latchBank_context n.isLt.ne]

/-- A context bank's generation is counted in 2802h, and 2803h reads 0 (07 R218). -/
theorem Core.bumpGen_context {b : Nat} (hb : b ≠ 4) (c : Core) :
    c.bumpGen b = (c.put 0x2802 (b + 1) ((c.obj 0x2802 (b + 1) + 1) % 2 ^ 32)).put 0x2803 (b + 1) 0 := by
  simp [Core.bumpGen, Core.when, hb]

/-- A latch of one value applied: the value is stored, the latch dropped and the generation counted. -/
theorem Core.applyBank_single {c : Core} {b idx sub v : Nat} (hl : (c.bank b).latch = some [(key idx sub, v)])
    (hs : sub < 256) :
    c.applyBank b = ((c.store idx sub v).mapBank b (fun k => { k with latch := none })).bumpGen b := by
  have hi : key idx sub / 256 = idx ∧ key idx sub % 256 = sub := by unfold key; omega
  simp only [Core.applyBank, Core.applyLatch, hl, List.foldl_cons, List.foldl_nil, hi.1, hi.2]

theorem Core.store_obj (c : Core) (i s v j r : Nat) : (c.store i s v).obj j r = (c.put i s v).obj j r :=
  congrArg (fun d => sget dfltOf d (key j r)) (c.store_dict i s v)

theorem Core.store_banks (c : Core) (i s v : Nat) : (c.store i s v).banks = c.banks := by rw [Core.store_eq]

/-- A listed object may be stored. -/
theorem Core.keeps_store_mem {c d : Core} {l : List (Nat × Nat)} {i s : Nat} (v : Nat) (h : c.keeps d l) (hs : s < 256)
    (hm : (i, s) ∈ l) : c.keeps (d.store i s v) l :=
  Core.keeps_trans (Core.keeps_put_mem v h hs hm) (Core.keeps_of_dict (d.store_dict i s v))

/-- No bank holds the objects that report its commits. -/
theorem bankOf_ne_report {idx sub b : Nat} (h : bankOf idx sub = some b) : idx ≠ 0x2802 ∧ idx ≠ 0x2803 := by
  constructor <;> rintro rfl <;> cases h

/-- What a context bank's latch of one value leaves once it has been applied (07 R218). -/
theorem Core.applyBank_context {c : Core} {b idx sub v : Nat} (hb : b < 4) (hlen : b < c.banks.length)
    (hl : (c.bank b).latch = some [(key idx sub, v)]) (hs : sub < 256) (hi : bankOf idx sub = some b) :
    (c.applyBank b).obj idx sub = v ∧
      (c.applyBank b).obj 0x2802 (b + 1) = (c.obj 0x2802 (b + 1) + 1) % 2 ^ 32 ∧
      (c.applyBank b).obj 0x2803 (b + 1) = 0 ∧
      c.keeps (c.applyBank b) [(idx, sub), (0x2802, b + 1), (0x2803, b + 1)] ∧
      (c.applyBank b).bank b = { c.bank b with latch := none } := by
  obtain ⟨hgen, hwait⟩ := bankOf_ne_report hi
  have hsub : b + 1 < 256 := by omega
  have h23 : (0x2802, b + 1) ≠ (0x2803, b + 1) := by simp
  have hstored : (c.store idx sub v).obj 0x2802 (b + 1) = c.obj 0x2802 (b + 1) := by
    rw [Core.store_obj, Core.obj_keep _ _ _ _ _ _ hs hsub (by simp [hgen.symm])]
  rw [Core.applyBank_single hl hs, Core.bumpGen_context hb.ne]
  refine ⟨?_, ?_, Core.obj_put_self _ _ _ _, ?_, ?_⟩
  · rw [Core.obj_keep _ _ _ _ _ _ hsub hs (by simp [hwait]), Core.obj_keep _ _ _ _ _ _ hsub hs (by simp [hgen]),
      Core.mapBank_obj, Core.store_obj, Core.obj_put_self]
  · rw [Core.obj_keep _ _ _ _ _ _ hsub hsub h23, Core.obj_put_self, Core.mapBank_obj, hstored]
  · have hstore := Core.keeps_store_mem (i := idx) (l := [(idx, sub), (0x2802, b + 1), (0x2803, b + 1)]) v
      (c.keeps_refl _) hs (by simp)
    have hbank := Core.keeps_trans hstore (Core.keeps_of_dict
      (Core.mapBank_dict b (fun k => { k with latch := none }) (c.store idx sub v)))
    exact Core.keeps_put_mem _ (Core.keeps_put_mem _ hbank hsub (by simp)) hsub (by simp)
  · have hbanks := c.store_banks idx sub v
    refine (Core.bank_mapBank (hbanks ▸ hlen) _).trans ?_
    simp only [Core.bank, hbanks]

/-- Settles O34: a commit that nothing refuses latches the bank and waits, or applies at once; a discard drops what is
pending. -/
theorem contextCommits : Obligations.ContextCommits := by
  unfold Obligations.ContextCommits
  refine ⟨?_, ?_, ?_⟩
  · intro t o n s hm hl ho hw
    obtain ⟨u, hu, hc⟩ := State.contextCommit_taken (t := t) hm hl ho
    rw [Core.contextCommit_waits hw] at hc
    refine ⟨u, hu, ?_, Core.keeps_put_under hc (by omega) rfl, Core.of_under hc Core.banks⟩
    rw [Core.of_under hc (·.obj 0x2803 (n.val + 1)), Core.obj_put_self]
  · intro t idx sub v o n s hm hl ho hw hp hs hi
    obtain ⟨u, hu, hc⟩ := State.contextCommit_taken (t := t) hm hl ho
    rw [Core.contextCommit_applies hw] at hc
    have hlen : n.val < s.core.banks.length :=
      lt_length_of_getD_ne (d := ({} : Bank)) fun e => by rw [Core.bank, e] at hp; cases hp
    have hsub : n.val + 1 < 256 := by omega
    have hbank := Core.bank_mapBank hlen (Bank.latched (s.at_ t))
    have hmark : s.core.keeps ((s.core.mapBank n.val (Bank.latched (s.at_ t))).put 0x2803 (n.val + 1) 1)
        [(0x2803, n.val + 1)] :=
      Core.keeps_put_mem _ (Core.keeps_of_dict rfl) hsub (by simp)
    obtain ⟨hobj, hgen, hdone, hkeep, hafter⟩ := Core.applyBank_context
      (c := (s.core.mapBank n.val (Bank.latched (s.at_ t))).put 0x2803 (n.val + 1) 1) n.isLt
      (by simpa [modAt] using hlen) ((congrArg Bank.latch hbank).trans (congrArg some hp)) hs hi
    rw [hmark 0x2802 (n.val + 1) hsub (by simp)] at hgen
    rw [← Core.of_under hc (·.obj idx sub)] at hobj
    rw [← Core.of_under hc (·.obj 0x2802 (n.val + 1))] at hgen
    rw [← Core.of_under hc (·.obj 0x2803 (n.val + 1))] at hdone
    rw [← Core.of_under hc (·.bank n.val)] at hafter
    refine ⟨u, hu, hobj, hgen, hdone, fun i k hk hn => ?_, ?_, by rw [hafter]⟩
    · exact (Core.keeps_under hkeep hc i k hk hn).trans (hmark i k hk fun h =>
        hn (List.mem_cons_of_mem _ (List.mem_cons_of_mem _ h)))
    · rw [hafter]
      exact congrArg Bank.pend hbank
  · intro t o n s hm
    exact State.run_command_taken (eff := fun _ => Core.contextDiscard n.val) (own := fun _ => []) hm.2.2.2.2
      (Core.writeCodes_context hm (.inr rfl))

end Sys2Proof.Machine
end

section
namespace Sys2Proof.Machine

/-! ### Which commands reach the DRAM's bytes -/

/-- A next state with the DRAM of the state before leaves its bytes. -/
theorem State.mem_of_next {x s u : State} (h : (.next x : Host.Outcome State Fault Refusal) = .next u)
    (hx : x.mem = s.mem) : u.mem = s.mem := Host.Outcome.next.inj h ▸ hx

/-- What answers a next state did not fault. -/
theorem next_of_unless_fault {p : Prop} [Decidable p] {e : Fault} {x : Host.Outcome State Fault Refusal} {u : State}
    (h : (if p then .fault e else x) = .next u) : x = .next u := by
  split at h
  · cases h
  · exact h

/-- Two commands have the DRAM's bytes in their frame (`State.runMem`): every other one runs beside them, the two
requests where their address exists. -/
theorem exec_mem {i : Instr} {s u : State} (h : exec i s = .next u) (hd : ∀ t ch r, i ≠ .dramCommand t ch r)
    (hb : ∀ t p l, i ≠ .boot t p l) : u.mem = s.mem := by
  cases i
  case dramCommand => exact absurd rfl (hd _ _ _)
  case boot => exact absurd rfl (hb _ _ _)
  case dramRequest => exact State.mem_of_next (next_of_unless_fault h) rfl
  case cxlMemRequest => exact State.mem_of_next (next_of_unless_fault h) rfl
  all_goals exact State.mem_of_next h rfl

/-- Settles O6: the fetched lists and the reference lines, too, come without a change of the DRAM's bytes. -/
theorem dramOnlyByItsCommands : Obligations.DramOnlyByItsCommands := by
  unfold Obligations.DramOnlyByItsCommands
  intro i s u h hd _ _ hb a
  rw [exec_mem h hd hb]

end Sys2Proof.Machine
end

section
namespace Sys2Proof.Machine

/-! ### A record of the line in which the last one was lost -/

/-- A record of web line 0. -/
def lineZeroRec : Rec := { first := 0, ext := 1, c0 := 0, c1 := 0, cls := 1, kern := 1, score := 0, page := 0, dc := 0,
                           ctx := 0, flags := 0 }

/-- DFR open with nothing held, and a final record of web line 0, after a record of that line which found no room in the
reserve either: it was counted in 3210h.07, and no loss run is open. -/
def lineZeroLost : State :=
  { State.reset with core :=
      { mode := .web, cxl := { hostUp := true, rings := [{ enable := true, size := 4 }] }, ev := { lostLast := some 0 },
        eng := { recs := [lineZeroRec], front := 1 } } }

/-- What the second clause asks of the state holds of it. -/
theorem lineZeroLost_ready : lineZeroLost.core.firstRec = some lineZeroRec ∧
    lineZeroLost.core.settledTo lineZeroRec.first = true ∧ lineZeroLost.core.ringOpen 0 = true ∧
    (lineZeroLost.core.ring 0).held = [] := by decide +kernel

/-- Records are kept again from the first one of a later web line on (15 R451): this one begins a loss run, and takes no
number. -/
theorem lineZeroLost_collect :
    (lineZeroLost.core.collect (lineZeroLost.at_ 1)).eng.recSeq = 0 := by decide +kernel

/-- Refutes O38: the record that stands first, final and with no loss run open, need not go out as DFR's next entry where
an earlier record of its first web line was lost (`lineZeroLost`). -/
theorem not_engineStages : ¬ Obligations.EngineStages := by
  unfold Obligations.EngineStages
  rintro ⟨-, -, -, -, hrec⟩
  obtain ⟨hfirst, hset, hopen, hheld⟩ := lineZeroLost_ready
  obtain ⟨u, hu, hout, -⟩ := hrec 1 lineZeroRec lineZeroLost hfirst hset rfl
  obtain ⟨-, hseq, -⟩ := hout hopen hheld
  obtain ⟨v, hv, -, hc, -⟩ := State.run_ends 1 (fun now c => c.collect now) lineZeroLost
  obtain rfl : u = v := Host.Outcome.next.inj (hu.symm.trans hv)
  rw [Core.of_under hc (·.eng.recSeq), lineZeroLost_collect] at hseq
  exact absurd hseq (by decide)

end Sys2Proof.Machine
end

section
namespace Sys2Proof.Machine

/-! ### A failed read of host memory that is longer than one line -/

/-- The page that the reference line below is of. -/
def onePage : Page := { id := 0, cookie := 0, gap := 0, len := 16, absolute := none, aligned := false, raster := 0,
                        stride := 512, format := 1, hostSrc := true, noComp := false, col := 0, width := 128, prof := [],
                        targets := [], regions := [], readAt := 0 }

/-- The host link in PCIe mode, where a read is of 512 bytes, and one reference line with one read outstanding. -/
def longRead : State :=
  { State.reset with core :=
      { cxl := { hostUp := true, cxlMode := false },
        eng := { pages := [onePage], refs := [{ page := 0, line := 0, state := 1, asked := 384 }] } } }

/-- 3030h.05 counts by lines of 64 bytes, six of them here. -/
theorem longRead_fails : (longRead.core.refArrive (longRead.at_ 1) false []).obj 0x3030 5 = 6 ∧
    (longRead.core.refArrive (longRead.at_ 1) false []).cxl.d3Want = false ∧
    (longRead.core.bump 0x3030 5).obj 0x3030 5 = 1 := by decide +kernel

/-- Refutes O39: a read that fails need not count once in 3030h.05, since a read over PCIe is of up to 512 bytes and
the count is of 64-byte reads (`longRead`). -/
theorem not_pagesAndReferences : ¬ Obligations.PagesAndReferences := by
  unfold Obligations.PagesAndReferences
  rintro ⟨-, -, -, -, harr, -⟩
  obtain ⟨⟨u, x, hu, -, -, -, -, -, -, -, hobj⟩, -⟩ := harr 1 [] { page := 0, line := 0, state := 1, asked := 384 }
    onePage longRead rfl (by decide +kernel) rfl
  obtain ⟨hsix, hd3, hone⟩ := longRead_fails
  obtain ⟨v, hv, -, hc, -⟩ := State.run_ends (t := 1) (s := longRead) (f := fun now c =>
    let c := c.refArrive now false []
    c.when c.cxl.d3Want (Core.toD3 now))
  obtain rfl : u = v := Host.Outcome.next.inj (hu.symm.trans hv)
  simp only [hd3, Core.when_false] at hc
  rw [Core.of_under hc (·.obj 0x3030 5), hsix, hone] at hobj
  exact absurd hobj (by decide)

end Sys2Proof.Machine
end

section
namespace Sys2Proof.Machine

/-! ### What the collector and the alarm bus leave (08 R257 to R276) -/

/-- The engines' state without pages, what the collector forms and the alarm bus. -/
def Eng.unformed (e : Eng) : Eng :=
  { e with pages := [], blobs := [], seen := 0, front := 0, runs := [], recs := [], alarmNum := [], opens := [],
           heldAl := [], bus := [] }

/-- The objects that report on the alarm bus, the collector and the region kernels. -/
def formedObjs : List Nat := [0x2421, 0x2A20, 0x2A85, 0x6110, 0x6111, 0x6120]

/-- `d` is `c` after final lines were formed into records and alarms were sent: of the engines pages, blobs, runs,
records and alarms may differ, and objects that report on them. -/
structure Core.Formed (c d : Core) : Prop where
  eng : d.eng.unformed = c.eng.unformed
  obj : ∀ i s, s < 256 → i ∉ formedObjs → d.obj i s = c.obj i s

namespace Core.Formed

theorem refl (c : Core) : c.Formed c := ⟨rfl, fun _ _ _ _ => rfl⟩

theorem trans {c d e : Core} (h1 : c.Formed d) (h2 : d.Formed e) : c.Formed e :=
  ⟨h2.eng.trans h1.eng, fun i s hs hi => (h2.obj i s hs hi).trans (h1.obj i s hs hi)⟩

/-- What of the engines neither the collector nor the bus changes. -/
theorem same {c d : Core} (h : c.Formed d) {α : Type} (f : Eng → α)
    (hf : ∀ e : Eng, f e.unformed = f e := by intros; rfl) : f d.eng = f c.eng := by rw [← hf d.eng, h.eng, hf c.eng]

theorem foldl {α : Type} {f : Core → α → Core} (h : ∀ (c : Core) a, c.Formed (f c a)) (l : List α) (c : Core) :
    c.Formed (l.foldl f c) :=
  List.foldlRecOn (motive := c.Formed) l f (refl c) fun d hd a _ => hd.trans (h d a)

/-- The same where the fold carries something beside the machine. -/
theorem foldl_proj {α β : Type} {f : β → α → β} {p : β → Core} (h : ∀ b a, (p b).Formed (p (f b a))) (l : List α)
    (b : β) : (p b).Formed (p (l.foldl f b)) :=
  List.foldlRecOn (motive := fun d => (p b).Formed (p d)) l f (refl _) fun d hd a _ => hd.trans (h d a)

theorem when {c d : Core} {b : Bool} {f : Core → Core} (h : c.Formed d) (hf : ∀ e : Core, e.Formed (f e)) :
    c.Formed (d.when b f) := Core.when_of (P := c.Formed) b f d h (h.trans (hf d))

theorem ite {p : Prop} [Decidable p] {c d e : Core} (h1 : c.Formed d) (h2 : c.Formed e) :
    c.Formed (if p then d else e) := by
  split
  · exact h1
  · exact h2

section
variable {c d : Core} (h : c.Formed d)
include h

theorem emit (o : Out) : c.Formed (d.emit o) := ⟨h.eng, h.obj⟩

theorem mapEc (f : Ecat → Ecat) : c.Formed (d.mapEc f) := ⟨h.eng, h.obj⟩

theorem mapEng (f : Eng → Eng) (hf : ∀ e : Eng, (f e).unformed = e.unformed := by intros; simp only [Eng.unformed]) :
    c.Formed (d.mapEng f) := ⟨(hf d.eng).trans h.eng, h.obj⟩

theorem mapPage (i : Nat) (f : Page → Page) : c.Formed (d.mapPage i f) :=
  h.mapEng fun e => { e with pages := modAt e.pages i f }

theorem put (i s v : Nat) (hs : s < 256 := by decide) (hi : i ∈ formedObjs := by decide) : c.Formed (d.put i s v) :=
  ⟨h.eng, fun j r hr hj => (d.obj_keep i s v j r hs hr fun e => hj ((Prod.mk.inj e).1 ▸ hi)).trans (h.obj j r hr hj)⟩

theorem bumpBy (i s n : Nat) (hs : s < 256 := by decide) (hi : i ∈ formedObjs := by decide) :
    c.Formed (d.bumpBy i s n) := ite (h.put i s _ hs hi) (h.put i s _ hs hi)

theorem raiseTo (i s v : Nat) (hs : s < 256 := by decide) (hi : i ∈ formedObjs := by decide) :
    c.Formed (d.raiseTo i s v) := ite (h.put i s _ hs hi) h

end

/-! #### The alarm bus -/

theorem busSend (ch kind reason num : Nat) (targets : BitVec 16) (c : Core) :
    c.Formed (c.busSend ch kind reason num targets) := by
  unfold Core.busSend
  exact (((refl c).emit _).when fun d => (refl d).mapEc _).mapEng _

theorem outcome (a : OpenAlarm) (o : Outcome) (c : Core) : c.Formed (c.outcome a o) := by
  have h := (refl c).mapEng fun e => { e with opens := e.opens.filter fun x => !(x.ch == a.ch && x.num == a.num) }
  cases o with
  | timeout => exact (h.trans (busSend _ _ _ _ _ _)).bumpBy 0x2421 6 1
  | _ => exact h.trans (busSend _ _ _ _ _ _)

theorem takeNumber (ch : Nat) (c : Core) : c.Formed (c.takeNumber ch).2 :=
  (refl c).mapEng fun e =>
    { e with alarmNum := aput e.alarmNum ch (((alook c.eng.alarmNum ch).getD 0 + 1) % 65536) }

theorem confirmed (ch : Nat) (c : Core) : c.Formed (c.confirmed ch) := (takeNumber ch c).trans (busSend _ _ _ _ _ _)

theorem alarmsDue (now : Nat) (c : Core) : c.Formed (c.alarmsDue now) :=
  ite (refl c) (foldl (fun c _ => foldl (fun c a => outcome a _ c) _ c) _ c)

theorem alarmsIssue (c : Core) : c.Formed c.alarmsIssue := by
  unfold Core.alarmsIssue
  refine foldl_proj (p := Prod.snd) (b := ([], c)) (fun r a => ?_) _
  split
  · exact refl _
  · split
    · exact outcome _ _ _
    · exact refl _

theorem heldIssue (c : Core) : c.Formed c.heldIssue :=
  ((refl c).mapEng _).trans (foldl (fun c _ => (refl c).when (confirmed _)) _ _)

theorem alarmsFollow (now : Nat) (c : Core) : c.Formed (c.alarmsFollow now) :=
  ite (refl c) ((((alarmsDue now c).mapEng _).trans (alarmsIssue _)).trans (heldIssue _))

/-! #### Records -/

theorem pushRec (r : Rec) (c : Core) : c.Formed (c.pushRec r) := (refl c).mapEng _

theorem confirmParts (sub : Nat) (parts : List (Nat × Nat)) (c : Core) : c.Formed (c.confirmParts sub parts) := by
  refine foldl (fun c p => ?_) _ c
  split
  · exact confirmed _ c
  · exact refl c

theorem closeBlob (extra : Nat) (c : Core) (b : Blob) : c.Formed (c.closeBlob extra b) :=
  ite (refl c) ((pushRec _ c).when (confirmParts _ _))

theorem closeRun (extra : Nat) (c : Core) (r : StatRun) : c.Formed (c.closeRun extra r) := pushRec _ c

theorem regionRec (p : Page) (r : Region) (c0 c1 cls kern score : Nat) (c : Core) :
    c.Formed (c.regionRec p r c0 c1 cls kern score) := (pushRec _ c).when (confirmParts _ _)

/-! #### Final lines -/

theorem blobStep (n : Nat) (c : Core) : c.Formed (c.blobStep n) := by
  unfold Core.blobStep
  split
  · exact refl c
  · extract_lets cut devs runs goes r q d
    have hr : c.Formed r.1 := by
      refine foldl_proj (p := Prod.fst) (b := (c, [])) (fun r b => ?_) _
      split
      · exact closeBlob _ _ _
      · exact refl _
    have hd : c.Formed d := hr.trans (foldl (closeBlob 0) _ _)
    exact (hd.bumpBy 0x2A85 5 q.2).mapEng fun e => { e with blobs := q.1.filter fun b => !b.head.isEmpty }

theorem statusStep (n : Nat) (c : Core) : c.Formed (c.statusStep n) := by
  unfold Core.statusStep
  split
  · exact refl c
  · extract_lets now lim same gone full kept fresh d e runs
    have hd : c.Formed d := (foldl (closeRun 0) _ c).trans (foldl (closeRun 64) _ _)
    have he : c.Formed e := hd.when (foldl (fun c _ => confirmParts _ _ c) _)
    exact he.mapEng fun x => { x with runs := runs }

theorem cutOpen (c : Core) : c.Formed c.cutOpen := by
  unfold Core.cutOpen
  exact ((foldl (closeBlob 128) _ c).trans (foldl (closeRun 0) _ _)).mapEng _

theorem advanceFront (k : Nat) (c : Core) : c.Formed (c.advanceFront k) := by
  induction k generalizing c with
  | zero => exact refl c
  | succ k ih =>
    have h := ((blobStep c.eng.front c).trans (statusStep c.eng.front _)).mapEng
      (fun e => { e with front := c.eng.front + 1 })
    unfold Core.advanceFront
    exact ite (refl c) ((h.when cutOpen).trans (ih _))

/-! #### Region kernels -/

theorem patch (p : Page) (r : Region) (i : Nat) (c : Core) : c.Formed (c.patch p r i).2 := by
  unfold Core.patch
  extract_lets w x y px good n mean lab t e v i16 d f g
  split
  · exact regionRec _ _ _ _ _ _ _ c
  · have hd : c.Formed d := ((refl c).raiseTo _ _ _).put _ _ _
    have hf : c.Formed f := (((hd.put _ _ _).put _ _ _).put _ _ _).put _ _ _
    exact (hf.put 0x6110 7 _).when (regionRec _ _ _ _ _ _ _)

theorem bar (p : Page) (r : Region) (c : Core) : c.Formed (c.bar p r) := by
  unfold Core.bar
  extract_lets q
  have hq : c.Formed q.2 := by
    refine foldl_proj (p := Prod.snd) (b := ([], c)) (fun q i => ?_) _
    exact patch p r i q.2
  refine hq.trans (List.foldlRecOn (motive := q.2.Formed) _ _ (refl _) fun d hd i hi => ?_)
  exact hd.put 0x6111 (i + 1) _ (by have := List.mem_range.mp hi; omega)

theorem marks (p : Page) (r : Region) (c : Core) : c.Formed (c.marks p r) := by
  unfold Core.marks
  extract_lets l0 l1 x px a b i32
  split
  · extract_lets ox oy d e
    have hd : c.Formed d := (((refl c).raiseTo 0x6120 1 _).put 0x6120 2 _).put 0x6120 3 _
    have he : c.Formed e := (hd.put 0x6120 4 _).put 0x6120 5 _
    exact he.when (regionRec _ _ _ _ _ _ _)
  · exact regionRec _ _ _ _ _ _ _ c

theorem regionStep (c : Core) : c.Formed c.regionStep := by
  refine foldl (fun c q => foldl (fun c k => ?_) _ c) _ c
  have h := (refl c).mapPage q.2 fun p => { p with regDone := p.regDone ++ [k.2] }
  exact ite (refl c) (ite h (ite (h.trans (bar _ _ _)) (h.trans (marks _ _ _))))

theorem engFollow (c : Core) : c.Formed c.engFollow := by
  have h : c.Formed (c.when (decide (c.eng.seen < c.seenNow)) fun d =>
      (d.mapEng fun e => { e with seen := c.seenNow }).put 0x2A20 4 (d.pageId (c.seenNow - 1))) :=
    (refl c).when fun d => ((refl d).mapEng fun e => { e with seen := c.seenNow }).put 0x2A20 4 _
  unfold Core.engFollow
  extract_lets n d
  exact h.trans ((regionStep d).trans (advanceFront _ _))

end Core.Formed

end Sys2Proof.Machine
end

section
namespace Sys2Proof.Machine

/-! ### The walk of a segment's engines (08 R277 to R281) -/

section
variable {c : Core} {g : Nat}

theorem Core.engWalk_mapEngWalk (h : g < c.eng.walks.length) (f : EngWalk → EngWalk) :
    (c.mapEngWalk g f).engWalk g = f (c.engWalk g) := getD_modAt_self h f {}

theorem Core.mapEngWalk_eng (f : EngWalk → EngWalk) :
    (c.mapEngWalk g f).eng = { c.eng with walks := modAt c.eng.walks g f } := rfl

theorem Core.keeps_mapEngWalk {b : Core} {l : List (Nat × Nat)} (h : b.keeps c l) (hg : g < 8)
    (hm : (0x2A81, g + 1) ∈ l) (f : EngWalk → EngWalk) : b.keeps (c.mapEngWalk g f) l :=
  Core.keeps_put_mem _ (Core.keeps_trans h (Core.keeps_of_dict rfl)) (by omega) hm

/-- A change of a walk shows in 2A81h alone. -/
theorem Core.obj_mapEngWalk (hg : g < 8) {i s : Nat} (hs : s < 256) (hi : i ≠ 0x2A81) (f : EngWalk → EngWalk) :
    (c.mapEngWalk g f).obj i s = c.obj i s :=
  Core.keeps_mapEngWalk (Core.keeps_refl c _) hg (List.mem_singleton_self _) f i s hs
    fun h => hi (Prod.mk.inj (List.mem_singleton.mp h)).1

/-- A walk in a phase of its step is one of the list's. -/
theorem Core.walk_listed (h : (c.engWalk g).phase ≠ 0) : g < c.eng.walks.length :=
  lt_length_of_getD_ne (d := ({} : EngWalk)) fun e => h (congrArg EngWalk.phase e)

end

/-! #### Steps -/

/-- A walk at the begin of a step, web line `line` being the next. -/
def EngWalk.begun (now line : Nat) (w : EngWalk) : EngWalk :=
  { w with phase := if w.cur = 64 then 2 else 1, warmLine := line, stepStart := some now, lapOver := false,
           lapStart := if w.cur = 0 then now else w.lapStart }

/-- The time of a lap that is over stands in 2A84h. -/
def Core.lapTimed (now g : Nat) (c : Core) : Core :=
  c.when (c.engWalk g).lapOver (Core.put 0x2A84 (g + 1) ((now - (c.engWalk g).lapStart) / 1000 % 2 ^ 32))

theorem Core.lapTimed_with (now g : Nat) (c : Core) : c.lapTimed now g = { c with dict := (c.lapTimed now g).dict } :=
  Core.when_of (P := fun d => d = { c with dict := d.dict }) _ _ c rfl rfl

theorem Core.stepStart_first {c : Core} {g : Nat} (hf : c.flag 0x2A80 1 = true) (hj : c.job.running = true)
    (hi : c.inspecting = true) (hs : c.segOn g = true) (hp : (c.engWalk g).phase = 0)
    (hr : (c.engWalk g).stopped = false) (h0 : (c.engWalk g).stepStart = none) (now : Nat) :
    c.stepStart now g = (c.lapTimed now g).mapEngWalk g (EngWalk.begun now c.pipe.nextLine) := by
  have hl : (c.lapTimed now g).pipe = c.pipe := by rw [Core.lapTimed_with]
  unfold Core.stepStart
  simp only [hf, hj, hi, hs, hp, hr, h0, beq_self_eq_true, Bool.not_false, Bool.and_self, Core.when_true]
  rw [← hl]
  rfl

theorem Core.engTakeover_due {c : Core} {g : Nat} {b : Nat × Nat} (h : c.boundary g 1 = some b) :
    c.engTakeover g = c.mapEngWalk g fun w =>
      { w with phase := 2, shown := w.cur, jServes := some b.1, handover := some b } := by
  simp only [Core.engTakeover, h]

theorem Core.engHandback_due {c : Core} {g : Nat} {b : Nat × Nat} (h : c.boundary g 3 = some b) :
    c.engHandback g = c.mapEngWalk g fun w =>
      { w with phase := 0, cur := w.cur + 1, jServes := none, handover := some b } := by
  simp only [Core.engHandback, h]

theorem Core.selfTest_fails {c : Core} {g : Nat} (h : (c.engWalk g).phase = 2) (now : Nat) :
    c.selfTest now g false = (c.bump 0x2A85 4).retireEngine now g (c.engWalk g).cur := by
  simp [Core.selfTest, h]

theorem Core.selfTest_passes {c : Core} {g : Nat} (h : (c.engWalk g).phase = 2) (hc : (c.engWalk g).cur ≠ 64)
    (now : Nat) :
    c.selfTest now g true = c.mapEngWalk g fun w => { w with phase := 3, warmLine := c.pipe.nextLine } := by
  simp [Core.selfTest, h, hc]

theorem Core.selfTest_ends {c : Core} {g : Nat} (h : (c.engWalk g).phase = 2) (hc : (c.engWalk g).cur = 64)
    (now : Nat) : c.selfTest now g true =
      (c.mapEngWalk g fun w => { w with phase := 0, cur := 0, lapOver := true }).bump 0x2A83 (g + 1) := by
  simp [Core.selfTest, h, hc]

/-- A command that changes one walk and no more. -/
theorem State.run_walk {t : Nat} {f : Nat → Core → Core} {w : EngWalk → EngWalk} {s : State} {g : Fin 8}
    (h : f (s.at_ t) s.core = s.core.mapEngWalk g.val w) :
    ∃ u, State.run t f s = .next u ∧ u.core.eng.walks = modAt s.core.eng.walks g.val w ∧
      s.core.keeps u.core [(0x2A81, g.val + 1)] := by
  obtain ⟨u, hu, -, hc, -⟩ := State.run_ends t f s
  rw [h] at hc
  exact ⟨u, hu, Core.of_under hc (·.eng.walks),
    Core.keeps_under (Core.keeps_mapEngWalk (Core.keeps_refl _ _) g.isLt (by simp) _) hc⟩

/-! #### Engines retired -/

/-- A walk whose engine `n`, 64 for J, is retired. -/
def EngWalk.retired (n : Nat) (w : EngWalk) : EngWalk :=
  { w with phase := 0, stopped := true, permanent := w.permanent || decide (n < 64) }

theorem Core.retireEngine_eng (now g n : Nat) (c : Core) :
    (c.retireEngine now g n).eng = { c.eng with walks := modAt c.eng.walks g (EngWalk.retired n) } := by
  refine ((Core.Logged.event _ _ _ _).same Core.eng).trans ?_
  rw [Core.store_eq]
  rfl

theorem Core.retireEngine_obj {g : Nat} (hg : g < 8) (now n : Nat) (c : Core) :
    (c.retireEngine now g n).obj 0x2A82 (g + 1) = n := by
  refine ((Core.Logged.event _ _ _ _).obj _ _ (by omega) (by decide)).trans ?_
  rw [Core.store_obj, Core.obj_put_self]

/-! #### Stalls -/

/-- A walk whose engine `n` has failed on slice `k`: J serves the slice for good. -/
def EngWalk.relieved (n k last : Nat) (w : EngWalk) : EngWalk :=
  { w with cur := n, shown := n, phase := 0, stopped := true, permanent := true, jServes := some k,
           handover := some (k, last) }

/-- A walk whose J has failed on slice `k`, which nobody then serves. -/
def EngWalk.deserted (k last : Nat) (w : EngWalk) : EngWalk :=
  { w with phase := 0, stopped := true, jServes := none, handover := some (k, last) }

/-- Two runs of lines of slice `k` give no decision: from the first open one on, and the 48 after the last. -/
def Core.linesUnknown (k last f : Nat) (c : Core) : Core :=
  (c.markUnknown k f last).markUnknown k (last + 1) (last + 48)

/-- The engines after a failure in slice `k`. -/
def Eng.failed (g k last f : Nat) (w : EngWalk → EngWalk) (e : Eng) : Eng :=
  { e with walks := modAt e.walks g w, unknown := e.unknown ++ [(k, f, last), (k, last + 1, last + 48)] }

theorem Core.mapEngWalk_linesUnknown_eng (g k last f : Nat) (w : EngWalk → EngWalk) (c : Core) :
    ((c.linesUnknown k last f).mapEngWalk g w).eng = c.eng.failed g k last f w := by
  simp [Core.mapEngWalk_eng, Core.linesUnknown, Core.markUnknown, Core.mapEng, Eng.failed]

theorem Eng.failed_walks (g k last f : Nat) (v w : EngWalk → EngWalk) (e : Eng) :
    { e.failed g k last f v with walks := modAt (e.failed g k last f v).walks g w } =
      e.failed g k last f (fun x => w (v x)) := by
  simp only [Eng.failed, modAt_modAt]

/-- An engine of E0 to E63 fails between the steps of a walk: J takes its slice, and the engine is retired. -/
theorem Core.engineFails_own {c : Core} {g n : Nat} (hn : n < 64) (hs : (c.engWalk g).stopped = false)
    (hp : (c.engWalk g).phase = 0) (now k last f : Nat) : c.engineFails now g n k last f =
      Core.retireEngine now g n (((c.linesUnknown k last f).mapEngWalk g fun w =>
        { w with cur := n, shown := n, jServes := some k, handover := some (k, last) }).bump 0x2A85 3) := by
  simp [Core.engineFails, hn, hs, hp, b2n, Core.linesUnknown]

theorem Core.engineFails_own_eng {c : Core} {g n : Nat} (hn : n < 64) (hs : (c.engWalk g).stopped = false)
    (hp : (c.engWalk g).phase = 0) (now k last f : Nat) :
    (c.engineFails now g n k last f).eng = c.eng.failed g k last f (EngWalk.relieved n k last) := by
  rw [Core.engineFails_own hn hs hp, Core.retireEngine_eng, Core.bump_eng, Core.mapEngWalk_linesUnknown_eng,
    Eng.failed_walks]
  simp only [EngWalk.retired, hn, decide_true, Bool.or_true]
  rfl

/-- J fails: nobody serves its slice, and J is retired. -/
theorem Core.engineFails_journeyman {c : Core} {g : Nat} (hp : (c.engWalk g).permanent = false) (now k last f : Nat) :
    c.engineFails now g 64 k last f = Core.retireEngine now g 64 ((c.linesUnknown k last f).mapEngWalk g fun w =>
        { w with jServes := none, handover := some (k, last) }) := by
  simp [Core.engineFails, hp, Core.linesUnknown]

theorem Core.engineFails_journeyman_eng {c : Core} {g : Nat} (hp : (c.engWalk g).permanent = false)
    (now k last f : Nat) :
    (c.engineFails now g 64 k last f).eng = c.eng.failed g k last f (EngWalk.deserted k last) := by
  rw [Core.engineFails_journeyman hp, Core.retireEngine_eng, Core.mapEngWalk_linesUnknown_eng, Eng.failed_walks]
  simp only [EngWalk.retired, Nat.lt_irrefl, decide_false, Bool.or_false]
  rfl

/-- The watchdog's event, before the failure acts. -/
def Core.stallLogged (now g n last : Nat) (c : Core) : Core :=
  c.event now 0x5020 g (leBytes 1 n ++ leBytes 6 last)

theorem Core.stallLogged_eng (now g n last : Nat) (c : Core) : (c.stallLogged now g n last).eng = c.eng :=
  (Core.Logged.event _ _ _ _).same Core.eng

theorem Core.stallLogged_engWalk (now g n last : Nat) (c : Core) :
    (c.stallLogged now g n last).engWalk g = c.engWalk g := by
  rw [Core.engWalk, Core.stallLogged_eng]
  rfl

/-- A stall is logged, the engine fails, and what follows of it forms records and sends alarms. -/
theorem Core.stall_formed {c : Core} {g n k : Nat} (hk : c.servedBy g n = some k) (hj : c.job.running = true)
    (hs : c.segOn g = true) (now last f : Nat) :
    ((c.stallLogged now g n last).engineFails now g n k last f).Formed (c.stall now g n last f) := by
  simp only [Core.stall, hk, hj, hs, Bool.not_true, Bool.or_self, Bool.false_eq_true, if_false]
  exact (Core.Formed.engFollow _).trans (Core.Formed.alarmsFollow _ _)

/-- A stall leaves the walks and the unknown lines as its failure does, and shows the engine in 2A82h. -/
theorem State.run_stall {t g n k last f : Nat} {w : EngWalk → EngWalk} {s : State} (hg : g < 8)
    (hk : s.core.servedBy g n = some k) (hj : s.core.job.running = true) (hs : s.core.segOn g = true)
    (hw : s.core.eng.walks.length = 8)
    (he : ((s.core.stallLogged (s.at_ t) g n last).engineFails (s.at_ t) g n k last f).eng =
      (s.core.stallLogged (s.at_ t) g n last).eng.failed g k last f w)
    (ho : ((s.core.stallLogged (s.at_ t) g n last).engineFails (s.at_ t) g n k last f).obj 0x2A82 (g + 1) = n) :
    ∃ u, State.run t (fun now c => c.stall now g n last f) s = .next u ∧
      u.core.engWalk g = w (s.core.engWalk g) ∧
      u.core.eng.unknown = s.core.eng.unknown ++ [(k, f, last), (k, last + 1, last + 48)] ∧
      u.core.obj 0x2A82 (g + 1) = n := by
  obtain ⟨u, hu, -, hc, -⟩ := State.run_ends t (fun now c => c.stall now g n last f) s
  have hf := Core.stall_formed hk hj hs (s.at_ t) last f
  rw [Core.stallLogged_eng] at he
  refine ⟨u, hu, ?_, ?_, ?_⟩
  · rw [Core.engWalk, Core.of_under hc (·.eng.walks), hf.same Eng.walks, he]
    exact getD_modAt_self (hw ▸ hg) w {}
  · rw [Core.of_under hc (·.eng.unknown), hf.same Eng.unknown, he]
    rfl
  · rw [Core.of_under hc (·.obj 0x2A82 (g + 1)), hf.obj _ _ (by omega) (by decide), ho]

end Sys2Proof.Machine
end

section
namespace Sys2Proof.Machine

/-! ### Kernel packages (08 R282) -/

theorem sget_sputs_lt {α : Type} [DecidableEq α] (d : Nat → α) (vs : List α) (l : List (Nat × α)) {k j : Nat}
    (h : j < k) : sget d (sputs d l k vs) j = sget d l j := by
  induction vs generalizing l k with
  | nil => rfl
  | cons v vs ih => exact (ih _ (by omega)).trans (sget_sput_ne _ _ _ _ _ (by omega))

/-- A byte of a run of writes reads as it was written. -/
theorem sget_sputs {α : Type} [DecidableEq α] (d : Nat → α) (vs : List α) (l : List (Nat × α)) (k : Nat) {i : Nat}
    (h : i < vs.length) : sget d (sputs d l k vs) (k + i) = vs[i] := by
  induction vs generalizing l k i with
  | nil => exact absurd h (Nat.not_lt_zero _)
  | cons v vs ih =>
    cases i with
    | zero => exact (sget_sputs_lt d vs (sput d l k v) (Nat.lt_succ_self k)).trans (sget_sput_self d l k v)
    | succ i =>
      have e : k + (i + 1) = k + 1 + i := by omega
      rw [e]
      exact ih (sput d l k v) (k + 1) (Nat.lt_of_succ_lt_succ h)

/-- A byte of a domain object reads as it was put. -/
theorem Core.domByte_putDom (c : Core) (idx : Nat) {data : List Byte} {k : Nat} (h : k < data.length) :
    (c.putDom idx 0 data).domByte idx k = data.getD k 0 := by
  have hv : sget domDflt (c.putDom idx 0 data).doms (domKey idx k) = data[k].toNat := by
    have e : domKey idx k = domKey idx 0 + k := by simp [domKey]
    rw [e]
    exact (sget_sputs domDflt _ _ _ (by simpa using h)).trans (List.getElem_map _)
  unfold Core.domByte
  simp only [hv]
  rw [if_pos data[k].isLt, BitVec.ofNat_toNat, BitVec.setWidth_eq, List.getD_eq_getElem _ _ h]

theorem Core.domByte_congr {c d : Core} (h : d.doms = c.doms) (idx off : Nat) : d.domByte idx off = c.domByte idx off := by
  simp only [Core.domByte, h]

/-- The versions of a package's four kernels, which the manual does not lay out. -/
def Core.packageVersions (c : Core) : List Nat × Core :=
  (List.range 4).foldl (fun (q : List Nat × Core) _ => (q.1 ++ [q.2.fresh.1 % 2 ^ 32], q.2.fresh.2)) ([], c)

/-- A package taken stands in 2A01h, with four versions. -/
theorem Core.packageTake_stands (data : List Byte) (c : Core) :
    (c.packageTake data).doms = ((c.packageVersions.2.clearDom 0x2A01).putDom 0x2A01 0 data).doms ∧
      (c.packageTake data).nv.kernel.length = 4 := by
  have hd := foldl_leaves Core.doms (f := fun c (v : Nat × Nat) => c.put 0x2A00 (v.2 + 1) v.1) (fun _ _ => rfl)
  have hn := foldl_leaves Core.nv (f := fun c (v : Nat × Nat) => c.put 0x2A00 (v.2 + 1) v.1) (fun _ _ => rfl)
  exact ⟨hd _ _, (congrArg (·.kernel.length) (hn _ _)).trans rfl⟩

/-- Nothing but its own reasons stands against a package. -/
theorem Core.writeCodes_package {c : Core} {o : Orig} {data : List Byte} {own : List Nat} (hm : c.mayWrite o 0x2A01 0 6)
    (hs : c.mode = .standby) (h0 : data ≠ []) (hl : data.length ≤ 4194304) : c.writeCodes o 0x2A01 0 data own = own := by
  refine Core.writeCodes_may hm (r := row 0x2A01 0x2A01 0 0 .dom .rws (.val 0) false (.any) 4194304 true) rfl rfl rfl rfl
    rfl (.inr (.inl hs)) ?_ rfl
  have h1 : 1 ≤ data.length := List.length_pos_iff.mpr h0
  simp [lengthOk, row, h1, hl]

section
variable {t : Nat} {o : Orig} {data : List Byte} {s : State} (hm : s.core.mayWrite o 0x2A01 0 6)
  (hs : s.core.mode = .standby) (h0 : data ≠ []) (hl : data.length ≤ 4194304)
include hm hs h0 hl

theorem Core.package_refusal (signed : Bool) :
    s.core.writeCodes o 0x2A01 0 data (s.core.packageCodes signed) = reason (!signed) 0x0800002A := by
  simp [Core.writeCodes_package hm hs h0 hl, Core.packageCodes, hs, reason]

theorem State.run_package_signed : ∃ u, exec (.kernelPackageWrite t o true data) s = .next u ∧
    (∀ k, k < data.length → u.core.domByte 0x2A01 k = data.getD k 0) ∧ u.core.nv.kernel.length = 4 := by
  have ⟨_, _, _, _, hok⟩ := hm
  have hcodes : firstCode (s.core.writeCodes o 0x2A01 0 data (s.core.packageCodes true)) = none := by
    rw [Core.package_refusal hm hs h0 hl]
    exact firstCode_nil
  obtain ⟨u, hu, -, hc, -⟩ := State.run_answered (t := t) (x := s) (f := fun now c => Core.answered o 0x2A01 0
    (c.judged now o 0x2A01 0 data (c.packageCodes true) (Core.packageTake data)))
    (congrArg (Core.answered o 0x2A01 0) (Core.judged_ok hok hcodes _))
  obtain ⟨hdoms, hlen⟩ := Core.packageTake_stands data s.core
  refine ⟨u, hu, fun k hk => ?_, by rw [Core.of_under hc (·.nv.kernel)]; exact hlen⟩
  exact (Core.domByte_congr ((Core.of_under hc Core.doms).trans hdoms) _ _).trans (Core.domByte_putDom _ _ hk)

theorem State.run_package_unsigned (ho : o ≠ .pdo) : ∃ u, exec (.kernelPackageWrite t o false data) s = .next u ∧
    u.core = s.core.under u.core ∧ s.puts u [.answer o 0x2A01 0 0x0800002A] := by
  have hcodes : firstCode (s.core.writeCodes o 0x2A01 0 data (s.core.packageCodes false)) = some 0x0800002A := by
    rw [Core.package_refusal hm hs h0 hl]
    decide
  obtain ⟨u, hu, -, hc, hout⟩ := State.run_answered (t := t) (x := s) (f := fun now c => Core.answered o 0x2A01 0
    (c.judged now o 0x2A01 0 data (c.packageCodes false) (Core.packageTake data)))
    (congrArg (Core.answered o 0x2A01 0) (Core.judged_no hcodes _))
  exact ⟨u, hu, hc, hout ho⟩

end

end Sys2Proof.Machine
end

section
namespace Sys2Proof.Machine

/-- Settles O40: each step and boundary is one change of the walk, a stall one failure, after which records are formed
and alarms sent, and a package is judged by its own reasons alone. -/
theorem journeymanEngines : Obligations.JourneymanEngines := by
  unfold Obligations.JourneymanEngines
  refine ⟨?_, ?_, ?_, ?_, ?_, ?_, ?_⟩
  · intro t g s hf hj hi hs hp hr h0
    obtain ⟨u, hu, -, hc, -⟩ := State.run_ends t (fun now c => c.stepStart now g.val) s
    have hg : g.val + 1 < 256 := by omega
    rw [Core.stepStart_first hf hj hi hs hp hr h0] at hc
    have heng : (s.core.lapTimed (s.at_ t) g.val).eng = s.core.eng := by rw [Core.lapTimed_with]
    refine ⟨u, hu, ?_, fun hl => ?_, ?_⟩
    · rw [Core.of_under hc (·.eng.walks), Core.mapEngWalk_eng, heng]
      rfl
    · rw [Core.of_under hc (·.obj 0x2A84 (g.val + 1)), Core.obj_mapEngWalk g.isLt hg (by decide), Core.lapTimed, hl,
        Core.when_true, Core.obj_put_self]
    · refine Core.keeps_under (Core.keeps_mapEngWalk ?_ g.isLt (by simp) _) hc
      exact Core.when_of (P := fun d => s.core.keeps d _) _ _ _ (Core.keeps_refl _ _)
        (Core.keeps_put_mem _ (Core.keeps_refl _ _) hg (by simp))
  · intro t g b s hb
    exact State.run_walk (f := fun _ c => c.engTakeover g.val) (Core.engTakeover_due hb)
  · rintro t g _ s rfl hp
    have hw := Core.walk_listed (c := s.core) (g := g.val) (by rw [hp]; decide)
    have hg : g.val + 1 < 256 := by omega
    refine ⟨fun hn => ?_, fun hn => ?_, ?_⟩
    · obtain ⟨u, hu, hwalks, hkeep⟩ := State.run_walk (t := t) (s := s) (f := fun now c => c.selfTest now g.val true)
        (Core.selfTest_passes hp hn _)
      refine ⟨u, hu, ?_, hkeep⟩
      rw [Core.engWalk, hwalks]
      exact getD_modAt_self hw _ _
    · obtain ⟨u, hu, -, hc, -⟩ := State.run_ends t (fun now c => c.selfTest now g.val true) s
      rw [Core.selfTest_ends hp hn] at hc
      refine ⟨u, hu, ?_, ?_⟩
      · rw [Core.of_under hc (Core.engWalk · g.val), Core.engWalk, Core.bump_eng]
        exact Core.engWalk_mapEngWalk hw _
      · rw [Core.of_under hc (·.obj 0x2A83 (g.val + 1)), Core.bump_eq, Core.bump_eq, Core.obj_put_self, Core.obj_put_self,
          Core.counted, Core.counted, Core.obj_mapEngWalk g.isLt hg (by decide)]
    · obtain ⟨u, hu, -, hc, -⟩ := State.run_ends t (fun now c => c.selfTest now g.val false) s
      rw [Core.selfTest_fails hp] at hc
      have hwalk : u.core.engWalk g.val = (s.core.engWalk g.val).retired (s.core.engWalk g.val).cur := by
        rw [Core.engWalk, Core.of_under hc (·.eng.walks), Core.retireEngine_eng, Core.bump_eng]
        exact getD_modAt_self hw _ _
      refine ⟨u, hu, ?_, ?_, ?_, fun hn => ?_⟩
      · rw [hwalk]; rfl
      · rw [hwalk]; rfl
      · rw [Core.of_under hc (·.obj 0x2A82 (g.val + 1)), Core.retireEngine_obj g.isLt]
      · rw [hwalk]; simp [EngWalk.retired, hn]
  · intro t g b s hb
    exact State.run_walk (f := fun _ c => c.engHandback g.val) (Core.engHandback_due hb)
  · intro t k last f g n s hk hj hs hn hw hr hp
    rw [← Core.stallLogged_engWalk (s.at_ t) g.val n.val last] at hr hp
    obtain ⟨u, hu, hwalk, hun, hobj⟩ := State.run_stall (t := t) g.isLt hk hj hs hw
      (Core.engineFails_own_eng hn hr hp _ k last f)
      (by rw [Core.engineFails_own hn hr hp, Core.retireEngine_obj g.isLt])
    exact ⟨u, hu, by rw [hwalk]; rfl, by rw [hwalk]; rfl, by rw [hwalk]; rfl, by rw [hwalk]; rfl, by rw [hwalk]; rfl,
      hun, hobj⟩
  · intro t k last f g s hk hj hs hw hp
    rw [← Core.stallLogged_engWalk (s.at_ t) g.val 64 last] at hp
    obtain ⟨u, hu, hwalk, hun, hobj⟩ := State.run_stall (t := t) (n := 64) g.isLt hk hj hs hw
      (Core.engineFails_journeyman_eng hp _ k last f)
      (by rw [Core.engineFails_journeyman hp, Core.retireEngine_obj g.isLt])
    exact ⟨u, hu, by rw [hwalk]; rfl, by rw [hwalk]; rfl, by rw [hwalk]; rfl, hun, hobj⟩
  · intro t o data s hm hs h0 hl
    exact ⟨State.run_package_signed hm hs h0 hl, State.run_package_unsigned hm hs h0 hl⟩

end Sys2Proof.Machine
end

section
namespace Sys2Proof.Machine

/-! ### The commands of the tinker block: what each runs (09 R287 to R308) -/

theorem exec_tinkerStep (t : Nat) (n : Fin 16) (x : Word32) (s : State) : exec (.tinkerStep t n x) s =
    State.run t (fun now c => (c.tkEnter now x).tkStep now n.val) s := rfl

theorem exec_tinkerStallRetry (t : Nat) (n : Fin 16) (s : State) : exec (.tinkerStallRetry t n) s =
    State.run t (fun now c => (c.tkEnter now c.tk.ext).tkRetry now n.val) s := rfl

theorem exec_tkStart (t : Nat) (bar : Bool) (o : Orig) (mask : Word16) (s : State) : exec (.tkStart t bar o mask) s =
    State.run t (fun now c =>
      if bar then
        if c.barOwns && (c.startAt now).isSome then c.tkStart now mask.toNat else c.tkRefused 0
      else c.command now o 0x2C00 2 2 mask.toNat (c.tkStartCodes now) (Core.tkStart now mask.toNat)) s := rfl

theorem exec_tkStop (t : Nat) (bar : Bool) (o : Orig) (mask : Word16) (s : State) : exec (.tkStop t bar o mask) s =
    State.run t (fun now c =>
      if bar then (if c.barOwns then c.tkStop now mask.toNat else c.tkRefused 0)
      else c.command now o 0x2C00 3 2 mask.toNat [] (Core.tkStop now mask.toNat)) s := rfl

theorem exec_tkAutostart (t : Nat) (s : State) : exec (.tkAutostart t) s =
    State.run t (fun now c => c.tkAutostart now) s := rfl

theorem exec_tkDoStep (t : Nat) (n : Fin 16) (x : Word32) (s : State) : exec (.tkDoStep t n x) s =
    State.run t (fun now c => ((c.tkSync now).pinsTake now x).tkCtrl now n.val true
      (Core.tkDebugAt now n.val false)) s := rfl

theorem exec_tkInject (t : Nat) (n : Fin 16) (x : Word32) (s : State) : exec (.tkInject t n x) s =
    State.run t (fun now c => ((c.tkSync now).pinsTake now x).tkCtrl now n.val true
      (Core.tkDebugAt now n.val true)) s := rfl

theorem exec_tkClearErr (t : Nat) (n : Fin 16) (s : State) : exec (.tkClearErr t n) s =
    State.run t (fun now c => (c.tkSync now).tkCtrl now n.val false (Core.tkClearErr n.val)) s := rfl

theorem exec_tkRxWrite (t : Nat) (bar : Bool) (o : Orig) (n : Fin 16) (w : Word32) (s : State) :
    exec (.tkRxWrite t bar o n w) s = State.run t (fun now c =>
      if bar then (c.tkSync now).tkRxPush now n.val w
      else c.command now o (0x2C10 + n.val) 0x0A 4 w.toNat []
        (fun c => (c.tkSync now).tkRxPush now n.val w)) s := rfl

theorem exec_tkTxRead (t : Nat) (bar : Bool) (o : Orig) (n : Fin 16) (s : State) :
    exec (.tkTxRead t bar o n) s = State.run t (fun now c =>
      if bar then ((c.tkSync now).tkTxPop now n.val).2.emit (.bar (some ((c.tkSync now).tkTxPop now n.val).1))
      else if o = .sdo ∧ c.emergencyOn = false then c
      else ((c.tkSync now).tkTxPop now n.val).2.emit
        (.sdo (0x2C10 + n.val) 0x0B 0 (leBytes 4 ((c.tkSync now).tkTxPop now n.val).1))) s := rfl

theorem exec_tkIrqClear (t : Nat) (mask : Word32) (s : State) : exec (.tkIrqClear t mask) s =
    State.run t (fun now c =>
      (c.tkSync now).mapTk (fun k => { k with irq := k.irq &&& ~~~(mask.setWidth 16) })) s := rfl

theorem exec_alarmDelivery (t : Nat) (s : State) : exec (.alarmDelivery t) s =
    State.run t (fun now c => if c.ticks then (c.tkSync now).deliver now else c) s := rfl

theorem exec_routeChange (t : Nat) (s : State) : exec (.routeChange t) s =
    State.run t (fun now c => c.routesApply now) s := rfl

end Sys2Proof.Machine
end

section
namespace Sys2Proof.Machine

/-! ### What the tinker block leaves alone (09 R285, R295, R304) -/

/-- What looks at neither objects, on-die words, tinker engines, pads nor anything that events touch. -/
structure TinkerBlind {α : Type} (g : Core → α) : Prop where
  put : ∀ (i s v : Nat) (c : Core), g (c.put i s v) = g c
  words : ∀ (f : Sram → Sram) (c : Core), g (c.mapSram f) = g c
  engines : ∀ (f : Tinker → Tinker) (c : Core), g (c.mapTk f) = g c
  pads : ∀ (p : Pads) (c : Core), g { c with pads := p } = g c
  logged : ∀ {c d : Core}, c.Logged d → g d = g c

namespace TinkerBlind

variable {α : Type} {g : Core → α}

theorem when (b : Bool) (f : Core → Core) (c : Core) (h : g (f c) = g c) : g (c.when b f) = g c :=
  Core.when_of (P := fun d => g d = g c) b f c rfl h

variable (hg : TinkerBlind g)
include hg

theorem bump (i s : Nat) (c : Core) : g (c.bump i s) = g c := by rw [Core.bump_eq, hg.put]

theorem event (now code seg : Nat) (tail : List Byte) (c : Core) : g (c.event now code seg tail) = g c :=
  hg.logged (.event _ _ _ _)

theorem mapEng1 (n : Nat) (f : Tk → Tk) (c : Core) : g (c.mapEng1 n f) = g c := hg.engines _ c

theorem pinsNote (own : Bool) (since : Nat) (c : Core) : g (c.pinsNote own since) = g c := hg.pads _ c

theorem pinsTake (now : Nat) (ext : Word32) (c : Core) : g (c.pinsTake now ext) = g c :=
  (hg.pinsNote _ _ _).trans (hg.engines _ c)

/-! #### On-die words -/

theorem sramCorrect (a : Nat) (c : Core) : g (c.sramCorrect a) = g c := by
  rw [Core.sramCorrect, hg.put, hg.bump, hg.bump, Core.dropFlips, hg.words]

theorem wantRewrite (a : Nat) (c : Core) : g (c.wantRewrite a) = g c := by
  unfold Core.wantRewrite
  split
  · exact hg.words _ c
  · rfl

theorem sramPoison (now a : Nat) (c : Core) : g (c.sramPoison now a) = g c := by
  unfold Core.sramPoison
  extract_lets d e f h k
  have hf : g f = g c := by rw [hg.event, hg.put, hg.bump, hg.bump, hg.words]
  have hk : g k = g f := by
    unfold k
    split
    · exact (when _ _ _ (hg.event _ _ _ _ _)).trans ((hg.put _ _ _ _).trans (hg.words _ f))
    · rfl
  rw [hg.wantRewrite, hk, hf]

theorem sramLook (now a : Nat) (w : WordOutcome) (c : Core) : g (c.sramLook now a w).2 = g c := by
  unfold Core.sramLook
  split
  · exact hg.bump _ _ c
  · split
    · rfl
    · split
      · rfl
      · exact hg.sramCorrect a c
      · exact hg.sramPoison now a c

theorem sramFind (now : Nat) (p : Nat → Bool) (c : Core) : g (c.sramFind now p) = g c :=
  foldl_leaves g (fun c a => hg.sramLook now a .clean c) _ c

theorem wordsWritten (p : Nat → Bool) (c : Core) : g (c.wordsWritten p) = g c := by
  unfold Core.wordsWritten
  extract_lets d
  have hd : g d = g c := when _ _ c ((hg.put _ _ _ _).trans (hg.words _ c))
  split
  · rw [hg.put, hg.words, hd]
  · exact hd

theorem storageWrite (now i s n : Nat) (c : Core) : g (c.storageWrite now i s n).2 = g c := by
  unfold Core.storageWrite
  split
  · split
    · rfl
    · split
      · exact hg.wordsWritten _ c
      · split
        · exact (hg.bump _ _ _).trans (hg.event _ _ _ _ c)
        · split
          · rfl
          · exact (hg.bump _ _ _).trans (hg.sramCorrect _ c)
          · exact (hg.bump _ _ _).trans (hg.sramPoison _ _ c)
  · rfl

/-- A command of an object leaves what its effect leaves. -/
theorem command (now : Nat) (o : Orig) (i s n v : Nat) (own : List Nat) {eff : Core → Core}
    (he : ∀ c, g (eff c) = g c) (c : Core) : g (c.command now o i s n v own eff) = g c := by
  have hj : g (c.judged now o i s (leBytes n v) own eff).2 = g c := by
    unfold Core.judged
    split
    · rfl
    · dsimp only
      split
      · exact (he _).trans (hg.storageWrite _ _ _ _ c)
      · exact hg.storageWrite _ _ _ _ c
  unfold Core.command Core.answered
  split
  · exact hj
  · exact (hg.logged (.emit _)).trans hj

/-! #### An entry executed -/

theorem tickMark (now n : Nat) (c : Core) : g (c.tickMark now n) = g c := by
  unfold Core.tickMark
  split
  · split
    · rfl
    · exact hg.mapEng1 _ _ c
  · exact hg.mapEng1 _ _ c

theorem tkInterrupt (n : Nat) (c : Core) : g (c.tkInterrupt n) = g c := by
  unfold Core.tkInterrupt
  split
  · rfl
  · exact (when _ _ _ (hg.logged (.msix _))).trans (hg.engines _ c)

theorem tkComplete (now n entry b : Nat) (c : Core) : g (c.tkComplete now n entry b) = g c := by
  unfold Core.tkComplete
  exact (when _ _ _ (hg.tkInterrupt _ _)).trans ((hg.mapEng1 _ _ _).trans (hg.tickMark _ _ c))

theorem lutError (now n : Nat) (c : Core) : g (c.lutError now n) = g c :=
  (hg.event _ _ _ _ _).trans (hg.mapEng1 _ _ c)

theorem tkDebug (now n entry b : Nat) (c : Core) : g (c.tkDebug now n entry b) = g c := by
  unfold Core.tkDebug
  split
  · exact (hg.mapEng1 _ _ _).trans (hg.tkComplete _ _ _ _ c)
  · exact hg.mapEng1 _ _ c

theorem tkDoStep (now n : Nat) (c : Core) : g (c.tkDoStep now n) = g c := by
  unfold Core.tkDoStep
  dsimp only
  split
  · exact (hg.lutError _ _ _).trans (hg.sramLook _ _ _ c)
  · exact (hg.tkDebug _ _ _ _ _).trans (hg.sramLook _ _ _ c)

theorem tkStep (now n : Nat) (c : Core) : g (c.tkStep now n) = g c := by
  unfold Core.tkStep
  split
  · rfl
  · extract_lets b a r entry
    have hr : g r.2 = g c := hg.sramLook _ _ _ c
    split
    · exact (hg.lutError _ _ _).trans hr
    · split
      · exact (hg.mapEng1 _ _ _).trans ((hg.tkComplete _ _ _ _ _).trans hr)
      · exact (hg.mapEng1 _ _ _).trans hr

theorem tkRetry (now n : Nat) (c : Core) : g (c.tkRetry now n) = g c := by
  unfold Core.tkRetry
  split
  · rfl
  · split
    · rfl
    · split
      · exact (hg.mapEng1 _ _ _).trans (hg.tkComplete _ _ _ _ c)
      · exact hg.mapEng1 _ _ c

/-! #### The engines brought to a moment -/

theorem tkDebugs (t n : Nat) (c : Core) : g (c.tkDebugs t n) = g c := by
  refine (foldl_leaves g (fun c d => ?_) _ _).trans (hg.mapEng1 n _ c)
  split
  · exact hg.tkDebug _ _ _ _ c
  · exact hg.tkDoStep _ _ c

theorem tkMoment (t : Nat) (c : Core) : g (c.tkMoment t) = g c := by
  unfold Core.tkMoment
  extract_lets d
  have hd : g d = g c := by
    unfold d
    split
    · exact hg.pinsNote _ _ c
    · rfl
  split
  · exact (hg.pinsNote _ _ _).trans ((foldl_leaves g (fun c n => hg.tkDebugs t n c) _ d).trans hd)
  · exact hd

theorem tkDue (now : Nat) (c : Core) : g (c.tkDue now) = g c := foldl_leaves g (fun c t => hg.tkMoment t c) _ c

theorem tkSync (now : Nat) (c : Core) : g (c.tkSync now) = g c :=
  (foldl_leaves g (fun c n => hg.mapEng1 n _ c) _ _).trans (hg.tkDue now c)

theorem tkEnter (now : Nat) (ext : Word32) (c : Core) : g (c.tkEnter now ext) = g c :=
  (hg.pinsTake _ _ _).trans ((foldl_leaves g (fun c n => hg.mapEng1 n _ c) _ _).trans (hg.tkDue now c))

/-! #### Starts and stops, words, routes -/

theorem tkStartMask (t0 mask : Nat) (c : Core) : g (c.tkStartMask t0 mask) = g c :=
  foldl_leaves g (fun c n => by
    split
    · exact hg.mapEng1 _ _ c
    · rfl) _ c

theorem tkStart (now mask : Nat) (c : Core) : g (c.tkStart now mask) = g c := by
  unfold Core.tkStart
  split
  · exact when _ _ c ((hg.put _ _ _ _).trans ((hg.tkStartMask _ _ _).trans (hg.tkSync now c)))
  · rfl

theorem tkStop (now mask : Nat) (c : Core) : g (c.tkStop now mask) = g c :=
  (foldl_leaves g (fun c n => by
    split
    · exact hg.mapEng1 _ _ c
    · rfl) _ _).trans (hg.tkSync now c)

theorem tkAutostart (now : Nat) (c : Core) : g (c.tkAutostart now) = g c := by
  unfold Core.tkAutostart
  split
  · rfl
  · exact (hg.engines _ _).trans ((hg.tkStartMask _ _ _).trans (hg.tkSync now c))

theorem tkRxPush (now n : Nat) (w : Word32) (c : Core) : g (c.tkRxPush now n w) = g c := by
  unfold Core.tkRxPush
  split
  · exact (hg.mapEng1 _ _ _).trans (hg.tickMark _ _ c)
  · exact hg.mapEng1 _ _ c

theorem tkTxPop (now n : Nat) (c : Core) : g (c.tkTxPop now n).2 = g c := by
  unfold Core.tkTxPop
  split
  · exact hg.mapEng1 _ _ c
  · exact (hg.mapEng1 _ _ _).trans (hg.tickMark _ _ c)

theorem deliverTo (now : Nat) (w : BusWord) (n : Nat) (c : Core) : g (c.deliverTo now w n) = g c := by
  unfold Core.deliverTo
  split
  · rfl
  · split
    · exact (hg.mapEng1 _ _ _).trans (hg.tickMark _ _ c)
    · exact (hg.event _ _ _ _ _).trans ((hg.bump _ _ _).trans (hg.mapEng1 _ _ c))

/-- The bus itself is all that a delivery changes besides. -/
theorem deliver (hb : ∀ (f : Eng → Eng) (c : Core), g (c.mapEng f) = g c) (now : Nat) (c : Core) :
    g (c.deliver now) = g c := by
  unfold Core.deliver
  split
  · rfl
  · extract_lets d
    have hd : g d = g c := hg.sramFind _ _ c
    split
    · exact hd
    · exact (foldl_leaves g (fun c n => hg.deliverTo now _ n c) _ _).trans
        ((hg.engines _ _).trans ((hb _ d).trans hd))

theorem routeInForce (x : RouteChange) (c : Core) : g (c.routeInForce x) = g c :=
  (hg.bump _ _ _).trans (hg.engines _ c)

theorem routesInForce (now : Nat) (c : Core) : g (c.routesInForce now) = g c := by
  unfold Core.routesInForce
  rw [hg.engines]
  exact foldl_leaves g (fun c x => hg.routeInForce x c) _ c

theorem routesApply (now : Nat) (c : Core) : g (c.routesApply now) = g c := by
  unfold Core.routesApply
  split
  · rfl
  · split
    · exact hg.routesInForce now c
    · split
      · exact (hg.engines _ _).trans (hg.routesInForce now c)
      · rfl

end TinkerBlind

/-- A core without what the tinker block's commands touch: objects, on-die words, the tinker block, the alarm bus with
the slice engines, and what events touch. -/
def Core.tinkerRest (c : Core) : Core := { c.rest with sram := {}, tk := {}, eng := {} }

theorem Core.of_tinkerRest {α : Type} (f : Core → α) {c d : Core} (h : d.tinkerRest = c.tinkerRest)
    (hf : ∀ c : Core, f c.tinkerRest = f c := by intros; rfl) : f d = f c := by rw [← hf d, h, hf c]

theorem Core.tinkerRest_blind : TinkerBlind Core.tinkerRest where
  put _ _ _ _ := rfl
  words _ _ := rfl
  engines _ _ := rfl
  pads _ _ := rfl
  logged h := by simp only [Core.tinkerRest, h.rest]

/-- Of two cases each leaves the rest. -/
theorem Core.tinkerRest_ite {p : Prop} [Decidable p] {a b c : Core} (ha : a.tinkerRest = c.tinkerRest)
    (hb : b.tinkerRest = c.tinkerRest) : (if p then a else b).tinkerRest = c.tinkerRest := by split <;> assumption

/-- A TK_CTRL command leaves what its effect leaves, and what its refusal does. -/
theorem Core.tinkerRest_tkCtrl (now n : Nat) (stopped : Bool) {f : Core → Core} (hf : ∀ c, (f c).tinkerRest = c.tinkerRest)
    (c : Core) : (c.tkCtrl now n stopped f).tinkerRest = c.tinkerRest := by
  unfold Core.tkCtrl
  split
  · exact hf c
  · rfl

/-- A command leaves what its effect leaves. -/
theorem State.run_tinkerRest {t : Nat} {f : Nat → Core → Core} {s u : State} (h : State.run t f s = .next u)
    (hf : (f (s.at_ t) s.core).tinkerRest = s.core.tinkerRest) :
    u.core.tinkerRest = s.core.tinkerRest ∧ u.mem = s.mem := by
  obtain ⟨v, hv, hm, hc, -⟩ := State.run_ends t f s
  obtain rfl : u = v := Host.Outcome.next.inj (h.symm.trans hv)
  exact ⟨(Core.of_under hc Core.tinkerRest).trans hf, hm⟩

/-- Settles O45: each command's effect leaves what `Core.tinkerRest` keeps. -/
theorem tinkerFrame : Obligations.TinkerFrame := by
  unfold Obligations.TinkerFrame
  intro i s u h hi
  have hg := Core.tinkerRest_blind
  have key : u.core.tinkerRest = s.core.tinkerRest ∧ u.mem = s.mem := by
    rcases hi with ⟨t, n, x, rfl⟩ | ⟨t, n, rfl⟩ | ⟨t, b, o, m, rfl⟩ | ⟨t, b, o, m, rfl⟩ | ⟨t, rfl⟩ | ⟨t, n, x, rfl⟩ |
      ⟨t, n, x, rfl⟩ | ⟨t, n, rfl⟩ | ⟨t, b, o, n, w, rfl⟩ | ⟨t, b, o, n, rfl⟩ | ⟨t, m, rfl⟩ | ⟨t, rfl⟩ | ⟨t, rfl⟩
    · rw [exec_tinkerStep] at h
      exact State.run_tinkerRest h ((hg.tkStep _ _ _).trans (hg.tkEnter _ _ _))
    · rw [exec_tinkerStallRetry] at h
      exact State.run_tinkerRest h ((hg.tkRetry _ _ _).trans (hg.tkEnter _ _ _))
    · rw [exec_tkStart] at h
      exact State.run_tinkerRest h (Core.tinkerRest_ite (Core.tinkerRest_ite (hg.tkStart _ _ _) rfl)
        (hg.command _ _ _ _ _ _ _ (hg.tkStart _ _) _))
    · rw [exec_tkStop] at h
      exact State.run_tinkerRest h (Core.tinkerRest_ite (Core.tinkerRest_ite (hg.tkStop _ _ _) rfl)
        (hg.command _ _ _ _ _ _ _ (hg.tkStop _ _) _))
    · rw [exec_tkAutostart] at h
      exact State.run_tinkerRest h (hg.tkAutostart _ _)
    · rw [exec_tkDoStep] at h
      exact State.run_tinkerRest h ((Core.tinkerRest_tkCtrl (f := Core.tkDebugAt _ n.val false) _ _ _ (fun _ => rfl) _).trans
        ((hg.pinsTake _ _ _).trans (hg.tkSync _ _)))
    · rw [exec_tkInject] at h
      exact State.run_tinkerRest h ((Core.tinkerRest_tkCtrl (f := Core.tkDebugAt _ n.val true) _ _ _ (fun _ => rfl) _).trans
        ((hg.pinsTake _ _ _).trans (hg.tkSync _ _)))
    · rw [exec_tkClearErr] at h
      exact State.run_tinkerRest h ((Core.tinkerRest_tkCtrl (f := Core.tkClearErr n.val) _ _ _ (fun _ => rfl) _).trans (hg.tkSync _ _))
    · rw [exec_tkRxWrite] at h
      have he : ∀ c : Core, ((c.tkSync (s.at_ t)).tkRxPush (s.at_ t) n.val w).tinkerRest = c.tinkerRest := fun c =>
        (hg.tkRxPush _ _ _ _).trans (hg.tkSync _ c)
      exact State.run_tinkerRest h (Core.tinkerRest_ite (he _) (hg.command _ _ _ _ _ _ _ he _))
    · rw [exec_tkTxRead] at h
      have hr : ∀ x, (((s.core.tkSync (s.at_ t)).tkTxPop (s.at_ t) n.val).2.emit x).tinkerRest = s.core.tinkerRest :=
        fun x => (hg.logged (.emit x)).trans ((hg.tkTxPop _ _ _).trans (hg.tkSync _ _))
      exact State.run_tinkerRest h (Core.tinkerRest_ite (hr _) (Core.tinkerRest_ite rfl (hr _)))
    · rw [exec_tkIrqClear] at h
      exact State.run_tinkerRest h ((hg.engines _ _).trans (hg.tkSync _ _))
    · rw [exec_alarmDelivery] at h
      exact State.run_tinkerRest h (Core.tinkerRest_ite ((hg.deliver (fun _ _ => rfl) _ _).trans (hg.tkSync _ _)) rfl)
    · rw [exec_routeChange] at h
      exact State.run_tinkerRest h (hg.routesApply _ _)
  obtain ⟨hr, hm⟩ := key
  exact ⟨hm, Core.of_tinkerRest Core.owners hr, Core.of_tinkerRest Core.mode hr, Core.of_tinkerRest Core.trans hr,
    Core.of_tinkerRest Core.job hr, Core.of_tinkerRest Core.mot hr, Core.of_tinkerRest Core.pipe hr,
    Core.of_tinkerRest Core.ctx hr, Core.of_tinkerRest Core.clk hr, Core.of_tinkerRest Core.links hr,
    Core.of_tinkerRest Core.refs hr, Core.of_tinkerRest Core.walks hr, Core.of_tinkerRest Core.banks hr,
    Core.of_tinkerRest Core.dram hr, Core.of_tinkerRest Core.mbx hr, Core.of_tinkerRest Core.tw hr⟩

end Sys2Proof.Machine
end

section
namespace Sys2Proof.Machine

/-! ### One tinker engine among the sixteen -/

theorem getD_modAt_ne {α : Type} {i j : Nat} (h : i ≠ j) (l : List α) (f : α → α) (d : α) :
    (modAt l i f).getD j d = l.getD j d := by
  simp [modAt, List.getD_eq_getElem?_getD, List.getElem?_modify_ne _ _ h]

theorem Core.eng1_mapEng1_self {c : Core} {n : Nat} (h : n < c.tk.engs.length) (f : Tk → Tk) :
    (c.mapEng1 n f).eng1 n = f (c.eng1 n) := getD_modAt_self h f _

theorem Core.eng1_mapEng1_ne {m n : Nat} (h : m ≠ n) (f : Tk → Tk) (c : Core) :
    (c.mapEng1 m f).eng1 n = c.eng1 n := getD_modAt_ne h _ f _

@[simp] theorem Core.length_mapEng1 (n : Nat) (f : Tk → Tk) (c : Core) :
    (c.mapEng1 n f).tk.engs.length = c.tk.engs.length := List.length_modify f _ n

/-- An engine that runs is one of the list's. -/
theorem Core.lt_of_running {c : Core} {n : Nat} (h : (c.eng1 n).running = true) : n < c.tk.engs.length :=
  lt_length_of_getD_ne (d := ({} : Tk)) fun e => by
    have hr : (c.tk.engs.getD n {}).running = true := h
    rw [e] at hr
    cases hr

/-- A change that leaves the engine as it is changes nothing. -/
theorem Core.mapEng1_eq_self {c : Core} {n : Nat} {f : Tk → Tk} (h : f (c.eng1 n) = c.eng1 n) : c.mapEng1 n f = c := by
  have hm : modAt c.tk.engs n f = c.tk.engs := by
    refine List.ext_getElem? fun j => ?_
    by_cases hj : n = j
    · subst hj
      simp only [modAt, List.getElem?_modify_eq]
      cases he : c.tk.engs[n]? with
      | none => rfl
      | some e => simpa [Core.eng1, List.getD_eq_getElem?_getD, he] using h
    · simp [modAt, List.getElem?_modify_ne _ _ hj]
  unfold Core.mapEng1 Core.mapTk
  dsimp only
  rw [hm]

/-- An event leaves the tinker block. -/
@[simp] theorem Core.event_tk (now code seg : Nat) (tail : List Byte) (c : Core) :
    (c.event now code seg tail).tk = c.tk := (Core.Logged.event _ _ _ _).same Core.tk
@[simp] theorem Core.msix_tk (v : Nat) (c : Core) : (c.msix v).tk = c.tk := (Core.Logged.msix v).same Core.tk
@[simp] theorem Core.bump_tk (i s : Nat) (c : Core) : (c.bump i s).tk = c.tk :=
  Core.of_restWords Core.tk (c.restWords_bump i s)

/-- A read of a word leaves the tinker block. -/
@[simp] theorem Core.sramLook_tk (now a : Nat) (w : WordOutcome) (c : Core) : (c.sramLook now a w).2.tk = c.tk := by
  unfold Core.sramLook
  split
  · simp
  · split
    · rfl
    · split
      · rfl
      · exact Core.of_restWords Core.tk (c.restWords_sramCorrect a)
      · exact Core.of_restWords Core.tk (c.restWords_sramPoison now a)

/-- Whether an engine shifts from the top is not changed by a read of a word. -/
theorem Core.shMsb_of_sameLow {c d : Core} (h : c.sameLow d) {n : Nat} (hn : n < 16) : d.shMsb n = c.shMsb n := by
  unfold Core.shMsb
  rw [h (0x2C10 + n) 4 (by decide) (by omega)]

/-! ### An entry that completes (09 R287, R288) -/

/-- An engine after an entry's action: outputs and state of the entry, nothing held (09 R287). -/
def Tk.completed (msb : Bool) (entry b0 now : Nat) (e : Tk) : Tk :=
  { (doAction msb entry b0 now e).1 with
    outs := BitVec.ofNat 8 (match (doAction msb entry b0 now e).2 with
      | some b => withBit (field entry 15 8) 0 b
      | none => field entry 15 8)
    st := BitVec.ofNat 6 entry
    held := none }

/-- What an action leaves of its engine (09 R288). -/
theorem doAction_keeps (msb : Bool) (entry b0 now : Nat) (e : Tk) :
    (doAction msb entry b0 now e).1 = { e with
      sr := (doAction msb entry b0 now e).1.sr, cnt := (doAction msb entry b0 now e).1.cnt,
      rx := (doAction msb entry b0 now e).1.rx, tx := (doAction msb entry b0 now e).1.tx,
      flag := (doAction msb entry b0 now e).1.flag, flagAt := (doAction msb entry b0 now e).1.flagAt } := by
  unfold doAction
  dsimp only
  split
  case h_5 => split <;> rfl
  all_goals rfl

/-- Only pull takes from RX. -/
theorem doAction_rx (msb : Bool) {entry : Nat} (b0 now : Nat) (e : Tk) (h : field entry 18 16 ≠ 4) :
    (doAction msb entry b0 now e).1.rx = e.rx := by
  unfold doAction
  dsimp only
  split
  case h_4 h4 => exact absurd h4 h
  case h_5 => split <;> rfl
  all_goals rfl

/-- Only push adds to TX. -/
theorem doAction_tx (msb : Bool) {entry : Nat} (b0 now : Nat) (e : Tk) (h : field entry 18 16 ≠ 3) :
    (doAction msb entry b0 now e).1.tx = e.tx := by
  unfold doAction
  dsimp only
  split
  case h_3 h3 => exact absurd h3 h
  case h_5 => split <;> rfl
  all_goals rfl

/-- Only shift-out puts a bit on output 0. -/
theorem doAction_bit (msb : Bool) {entry : Nat} (b0 now : Nat) (e : Tk) (h : field entry 18 16 ≠ 2) :
    (doAction msb entry b0 now e).2 = none := by
  unfold doAction
  dsimp only
  split
  case h_2 h2 => exact absurd h2 h
  case h_5 => split <;> rfl
  all_goals rfl

namespace Tk

variable (msb : Bool) {entry : Nat} (b0 now : Nat) (e : Tk)

theorem completed_outs (h : field entry 18 16 ≠ 2) :
    (e.completed msb entry b0 now).outs = BitVec.ofNat 8 (field entry 15 8) := by
  simp only [completed, doAction_bit msb b0 now e h]

theorem completed_rx (h : field entry 18 16 ≠ 4) : (e.completed msb entry b0 now).rx = e.rx := doAction_rx msb b0 now e h

theorem completed_tx (h : field entry 18 16 ≠ 3) : (e.completed msb entry b0 now).tx = e.tx := doAction_tx msb b0 now e h

theorem completed_running : (e.completed msb entry b0 now).running = e.running :=
  (congrArg Tk.running (doAction_keeps msb entry b0 now e) :)

theorem completed_dbg : (e.completed msb entry b0 now).dbg = e.dbg := (congrArg Tk.dbg (doAction_keeps msb entry b0 now e) :)

theorem completed_next : (e.completed msb entry b0 now).next = e.next :=
  (congrArg Tk.next (doAction_keeps msb entry b0 now e) :)

theorem cycleNs_completed : cycleNs (e.completed msb entry b0 now) = cycleNs e :=
  (congrArg cycleNs (doAction_keeps msb entry b0 now e) :)

theorem completed_shiftIn (h : field entry 18 16 = 1) :
    (e.completed msb entry b0 now).sr = (if msb then (e.sr <<< 1) ||| BitVec.ofNat 32 b0
      else (e.sr >>> 1) ||| BitVec.ofNat 32 (b0 * 2 ^ 31)) ∧
    (e.completed msb entry b0 now).cnt = min 32 (e.cnt + 1) := by
  simp only [completed, doAction, h, and_self]

theorem completed_shiftOut (h : field entry 18 16 = 2) :
    (e.completed msb entry b0 now).sr = (if msb then e.sr <<< 1 else e.sr >>> 1) ∧
    (e.completed msb entry b0 now).outs = BitVec.ofNat 8 (withBit (field entry 15 8) 0
      (if msb then e.sr.getLsbD 31 else e.sr.getLsbD 0)) ∧
    (e.completed msb entry b0 now).cnt = min 32 (e.cnt + 1) := by
  simp only [completed, doAction, h, and_self]

theorem completed_push (h : field entry 18 16 = 3) :
    (e.completed msb entry b0 now).tx = e.tx ++ [e.sr] ∧ (e.completed msb entry b0 now).cnt = 0 := by
  simp only [completed, doAction, h, and_self]

theorem completed_pull (h : field entry 18 16 = 4) :
    (e.completed msb entry b0 now).sr = e.rx.headD 0 ∧ (e.completed msb entry b0 now).rx = e.rx.tail ∧
    (e.completed msb entry b0 now).cnt = 0 := by
  simp only [completed, doAction, h, and_self]

theorem completed_flag (h : field entry 18 16 = 5) : (e.completed msb entry b0 now).flag = entry.testBit 19 := by
  simp only [completed, doAction, h]
  split
  · next he => exact eq_of_beq he
  · rfl

end Tk

/-- Before an engine's first change of a tick only its memory of sources 58 to 63 changes (09 R291). -/
theorem Core.tickMark_eq (now n : Nat) (c : Core) :
    ∃ o, c.tickMark now n = c.mapEng1 n (fun e => { e with snap := o }) := by
  have hc : c = c.mapEng1 n (fun e => { e with snap := (c.eng1 n).snap }) := (Core.mapEng1_eq_self rfl).symm
  unfold Core.tickMark
  split
  · split
    · exact ⟨_, hc⟩
    · exact ⟨_, rfl⟩
  · exact ⟨_, rfl⟩

theorem Core.eng1_tickMark {c : Core} {n : Nat} (hn : n < c.tk.engs.length) (now : Nat) :
    ∃ o, c.tickMark now n = c.mapEng1 n (fun e => { e with snap := o }) ∧
      (c.tickMark now n).eng1 n = { c.eng1 n with snap := o } := by
  obtain ⟨o, ho⟩ := c.tickMark_eq now n
  exact ⟨o, ho, ho ▸ Core.eng1_mapEng1_self hn _⟩

@[simp] theorem Core.tkInterrupt_engs (n : Nat) (c : Core) : (c.tkInterrupt n).tk.engs = c.tk.engs := by
  unfold Core.tkInterrupt
  split
  · rfl
  · exact Core.when_of (P := fun d => d.tk.engs = c.tk.engs) _ _ _ rfl (by rw [Core.msix_tk]; rfl)

theorem Core.tkInterrupt_irq {n : Nat} (hn : n < 16) (c : Core) : (c.tkInterrupt n).tk.irq.getLsbD n = true := by
  have hb : (c.tk.irq ||| BitVec.ofNat 16 (2 ^ n)).getLsbD n = true := by
    rw [BitVec.getLsbD_or, BitVec.getLsbD_ofNat, Nat.testBit_two_pow_self]
    simp [hn]
  unfold Core.tkInterrupt
  split
  · assumption
  · exact Core.when_of (P := fun d => d.tk.irq.getLsbD n = true) _ _ _ hb (by rw [Core.msix_tk]; exact hb)

/-- An entry that completes changes its engine as its action does, and of the interrupt bits the engine's own. -/
theorem Core.tkComplete_tk {c : Core} {n : Nat} (hn : n < c.tk.engs.length) (now entry b0 : Nat) :
    ∃ o, (c.tkComplete now n entry b0).tk.engs = modAt c.tk.engs n (fun _ =>
        ({ c.eng1 n with snap := o } : Tk).completed (c.shMsb n) entry b0 now) ∧
      (field entry 18 16 ≠ 6 → (c.tkComplete now n entry b0).tk.irq = c.tk.irq) ∧
      (field entry 18 16 = 6 → n < 16 → (c.tkComplete now n entry b0).tk.irq.getLsbD n = true) := by
  obtain ⟨o, ho, he⟩ := Core.eng1_tickMark hn now
  have hm : (c.tickMark now n).shMsb n = c.shMsb n := by rw [ho]; rfl
  unfold Core.tkComplete
  dsimp only
  rw [he, hm]
  refine ⟨o, ?_, fun h6 => ?_, fun h6 h16 => ?_⟩
  · refine Core.when_of (P := fun d => d.tk.engs = _) _ _ _ ?_ ?_
    · rw [ho]
      exact modAt_modAt _ _ _ _
    · rw [Core.tkInterrupt_engs, ho]
      exact modAt_modAt _ _ _ _
  · rw [beq_false_of_ne h6, Core.when_false, ho]
    rfl
  · rw [h6]
    exact Core.tkInterrupt_irq h16 _

/-- An engine after a step that completes: its next step falls after the entry's delay (09 R287). -/
def Tk.stepped (msb : Bool) (entry b0 now : Nat) (e : Tk) : Tk :=
  { e.completed msb entry b0 now with
    next := now / 4 * 4 + (1 + field entry 39 24) * cycleNs e
    inDelay := 0 < field entry 39 24 }

/-- `d` is `c` after a step of engine `n` that completed: that engine took the step, the others stand, and of the
interrupt bits only its own may have been set. -/
structure Core.Stepped (c : Core) (now n entry b0 : Nat) (d : Core) : Prop where
  engine : ∃ o, d.eng1 n = ({ c.eng1 n with snap := o } : Tk).stepped (c.shMsb n) entry b0 now
  others : ∀ j, j ≠ n → d.eng1 j = c.eng1 j
  irqKept : field entry 18 16 ≠ 6 → d.tk.irq = c.tk.irq
  irqSet : field entry 18 16 = 6 → n < 16 → d.tk.irq.getLsbD n = true

theorem Core.stepped_of_complete {c : Core} {n : Nat} (hn : n < c.tk.engs.length) (now entry b0 : Nat) :
    c.Stepped now n entry b0 ((c.tkComplete now n entry b0).tkDelay now n (field entry 39 24)) := by
  obtain ⟨o, he, hk, hs⟩ := Core.tkComplete_tk hn now entry b0
  have hengs : ((c.tkComplete now n entry b0).tkDelay now n (field entry 39 24)).tk.engs = modAt c.tk.engs n (fun _ =>
      ({ c.eng1 n with snap := o } : Tk).stepped (c.shMsb n) entry b0 now) := by
    unfold Core.tkDelay
    rw [Core.mapEng1_tk]
    dsimp only
    rw [he, modAt_modAt]
    simp only [Tk.stepped, Tk.cycleNs_completed]
  refine ⟨⟨o, ?_⟩, fun j hj => ?_, hk, hs⟩
  · unfold Core.eng1
    rw [hengs]
    exact getD_modAt_self hn _ _
  · unfold Core.eng1
    rw [hengs]
    exact getD_modAt_ne (Ne.symm hj) _ _ _

end Sys2Proof.Machine
end

section
namespace Sys2Proof.Machine

/-! ### Steps and retries (09 R287, R289) -/

theorem Core.tk_of_sramLook {c d : Core} {now a : Nat} {w : WordOutcome} {b : Bool} (h : d.sramLook now a w = (b, c)) :
    c.tk = d.tk := by rw [← d.sramLook_tk now a w, h]

theorem Core.sameLow_of_sramLook {c d : Core} {now a : Nat} {w : WordOutcome} {b : Bool}
    (h : d.sramLook now a w = (b, c)) : d.sameLow c := by
  have hs := d.sameLow_sramLook now a w
  rwa [h] at hs

theorem Core.eng1_of_tk {c d : Core} (h : d.tk = c.tk) (n : Nat) : d.eng1 n = c.eng1 n := by
  unfold Core.eng1
  rw [h]

section
variable {d : Core} {now n : Nat}

theorem Core.running_of_ready (h : d.tkReady now n = true) : (d.eng1 n).running = true := by
  simp only [Core.tkReady, Bool.and_eq_true] at h
  exact h.1.1.1

theorem Core.tkStep_idle (h : d.tkReady now n = false) : d.tkStep now n = d := by
  simp [Core.tkStep, h]

theorem Core.tkRetry_idle (h : d.tkReady now n = false) : d.tkRetry now n = d := by
  unfold Core.tkRetry
  split
  · rfl
  · simp [h]

section
variable {c : Core} {a b k : Nat} (hr : d.tkReady now n = true) (hh : (d.eng1 n).held = none) (hb : b = d.inputs now n)
  (ha : a = lutAddr n ((d.eng1 n).st.toNat * 16 + b))
include hr hh hb ha

theorem Core.tkStep_lutError (hl : d.sramLook now a .clean = (false, c)) : d.tkStep now n = c.lutError now n := by
  simp [Core.tkStep, hr, hh, ← hb, ← ha, hl]

variable (hl : d.sramLook now a .clean = (true, c)) (hk : k = c.sramData a)
include hl hk

theorem Core.tkStep_completes (hn : n < 16) (hc : canComplete (d.eng1 n) k = true) :
    d.Stepped now n k (b % 2) (d.tkStep now n) := by
  have htk := Core.tk_of_sramLook hl
  have he := Core.eng1_of_tk htk
  have hs : d.tkStep now n = (c.tkComplete now n k (b % 2)).tkDelay now n (field k 39 24) := by
    simp [Core.tkStep, hr, hh, ← hb, ← ha, hl, ← hk, he, hc]
  obtain ⟨⟨o, h1⟩, h2, h3, h4⟩ := Core.stepped_of_complete (c := c) (htk ▸ Core.lt_of_running (Core.running_of_ready hr))
    now k (b % 2)
  rw [he, Core.shMsb_of_sameLow (Core.sameLow_of_sramLook hl) hn] at h1
  rw [hs]
  exact ⟨⟨o, h1⟩, fun j hj => (h2 j hj).trans (he j), fun h6 => (h3 h6).trans (congrArg Tinker.irq htk), h4⟩

theorem Core.tkStep_stalls (hc : canComplete (d.eng1 n) k = false) : (d.tkStep now n).eng1 n = { d.eng1 n with
    held := some (BitVec.ofNat 64 k), inDelay := false, next := now / 4 * 4 + cycleNs (d.eng1 n) } := by
  have htk := Core.tk_of_sramLook hl
  have he := Core.eng1_of_tk htk n
  have hs : d.tkStep now n = c.mapEng1 n (fun e => { e with
      held := some (BitVec.ofNat 64 k), inDelay := false, next := now / 4 * 4 + cycleNs e }) := by
    simp [Core.tkStep, hr, hh, ← hb, ← ha, hl, ← hk, he, hc]
  rw [hs, Core.eng1_mapEng1_self (htk ▸ Core.lt_of_running (Core.running_of_ready hr)), he]

end

section
variable {w : Word64} (hr : d.tkReady now n = true) (hh : (d.eng1 n).held = some w)
include hr hh

theorem Core.tkRetry_completes (hc : canComplete (d.eng1 n) w.toNat = true) :
    d.Stepped now n w.toNat 0 (d.tkRetry now n) := by
  have hs : d.tkRetry now n = (d.tkComplete now n w.toNat 0).tkDelay now n (field w.toNat 39 24) := by
    simp [Core.tkRetry, hr, hh, hc]
  rw [hs]
  exact Core.stepped_of_complete (Core.lt_of_running (Core.running_of_ready hr)) _ _ _

theorem Core.tkRetry_stalls (hc : canComplete (d.eng1 n) w.toNat = false) :
    (d.tkRetry now n).eng1 n = { d.eng1 n with next := now / 4 * 4 + cycleNs (d.eng1 n) } := by
  have hs : d.tkRetry now n = d.mapEng1 n (fun e => { e with next := now / 4 * 4 + cycleNs e }) := by
    simp [Core.tkRetry, hr, hh, hc]
  rw [hs, Core.eng1_mapEng1_self (Core.lt_of_running (Core.running_of_ready hr))]

end
end

/-- Pull and push alone may have to wait (09 R289). -/
theorem canComplete_of_ne (e : Tk) {k : Nat} (h3 : field k 18 16 ≠ 3) (h4 : field k 18 16 ≠ 4) :
    canComplete e k = true := by
  unfold canComplete
  split
  · next h => exact absurd h h3
  · next h => exact absurd h h4
  · rfl

theorem canComplete_push {e : Tk} {k : Nat} (h : field k 18 16 = 3) (ht : e.tx.length < 8) : canComplete e k = true := by
  simp [canComplete, h, ht]

theorem canComplete_pull {e : Tk} {k : Nat} (h : field k 18 16 = 4) (hx : e.rx ≠ []) : canComplete e k = true := by
  simp [canComplete, h, hx]

/-- A command's end leaves the tinker block as its effect does. -/
theorem State.run_tk (t : Nat) (f : Nat → Core → Core) (s : State) :
    ∃ u, State.run t f s = .next u ∧ u.core.tk = (f (s.at_ t) s.core).tk :=
  ⟨_, rfl, Core.settle_tk _ _⟩

/-- A step that was taken is the same step in a core with the same tinker block. -/
theorem Core.Stepped.of_tk {c d e : Core} {now n k b : Nat} (h : c.Stepped now n k b d) (he : e.tk = d.tk) :
    c.Stepped now n k b e :=
  ⟨(Core.eng1_of_tk he n).symm ▸ h.engine, fun j hj => (Core.eng1_of_tk he j).trans (h.others j hj),
    fun h6 => (congrArg Tinker.irq he).trans (h.irqKept h6), fun h6 hn => he ▸ h.irqSet h6 hn⟩

/-- Settles O42: a step and a retry that complete are `Core.Stepped`; what the entry's action did is read off the engine
they left. -/
theorem tinkerSteps : Obligations.TinkerSteps := by
  unfold Obligations.TinkerSteps
  refine ⟨?_, ?_, ?_, ?_⟩
  · intro t a b k n x c d s hd hr hh hb ha hl hk
    obtain ⟨u, hu, hc⟩ := State.run_tk t (fun now c => (c.tkEnter now x).tkStep now n.val) s
    rw [← exec_tinkerStep] at hu
    rw [← hd] at hc
    have stepped : canComplete (d.eng1 n.val) k = true → d.Stepped (s.at_ t) n.val k (b % 2) u.core := fun h =>
      (Core.tkStep_completes hr hh hb ha hl hk n.isLt h).of_tk hc
    refine ⟨fun h => ?_, fun h => ?_, fun h => ?_, fun h ht => ?_, fun h hx => ?_, fun h => ?_, fun h => ?_, fun h => ?_⟩
    · obtain ⟨⟨o, he⟩, ho, hi, -⟩ := stepped h
      refine ⟨u, hu, ?_⟩
      rw [he]
      exact ⟨rfl, rfl, Tk.completed_outs _ _ _ _, rfl,
        (Tk.completed_running _ _ _ _).trans (Core.running_of_ready hr), Tk.completed_rx _ _ _ _,
        Tk.completed_tx _ _ _ _, hi, ho⟩
    · obtain ⟨o, he⟩ := (stepped (canComplete_of_ne _ (by omega) (by omega))).engine
      refine ⟨u, hu, ?_⟩
      rw [he]
      exact Tk.completed_shiftIn _ _ _ _ h
    · obtain ⟨o, he⟩ := (stepped (canComplete_of_ne _ (by omega) (by omega))).engine
      exact ⟨u, hu, he ▸ Tk.completed_shiftOut _ _ _ _ h⟩
    · obtain ⟨o, he⟩ := (stepped (canComplete_push h ht)).engine
      exact ⟨u, hu, he ▸ Tk.completed_push _ _ _ _ h⟩
    · obtain ⟨o, he⟩ := (stepped (canComplete_pull h hx)).engine
      exact ⟨u, hu, he ▸ Tk.completed_pull _ _ _ _ h⟩
    · obtain ⟨o, he⟩ := (stepped (canComplete_of_ne _ (by omega) (by omega))).engine
      exact ⟨u, hu, he ▸ Tk.completed_flag _ _ _ _ h⟩
    · exact ⟨u, hu, (stepped (canComplete_of_ne _ (by omega) (by omega))).irqSet h n.isLt⟩
    · have he := (Core.eng1_of_tk hc n.val).trans (Core.tkStep_stalls hr hh hb ha hl hk h)
      refine ⟨u, hu, ?_⟩
      rw [he]
      exact ⟨rfl, rfl, rfl, rfl⟩
  · intro t n x c d s hd hr hh hl
    obtain ⟨u, hu, hc⟩ := State.run_tk t (fun now c => (c.tkEnter now x).tkStep now n.val) s
    rw [← exec_tinkerStep] at hu
    rw [← hd, Core.tkStep_lutError hr hh rfl rfl hl, Core.lutError, Core.event_tk] at hc
    have htk := Core.tk_of_sramLook hl
    have he := (Core.eng1_of_tk hc n.val).trans
      (Core.eng1_mapEng1_self (c := c) (htk ▸ Core.lt_of_running (Core.running_of_ready hr)) _)
    refine ⟨u, hu, ?_⟩
    rw [he]
    exact ⟨rfl, rfl, congrArg Tk.st (Core.eng1_of_tk htk n.val)⟩
  · intro t n x s
    refine ⟨fun h => ?_, fun h => ?_⟩
    · obtain ⟨u, hu, -, hc, -⟩ := State.run_ends t (fun now c => (c.tkEnter now x).tkStep now n.val) s
      rw [Core.tkStep_idle h] at hc
      exact ⟨u, hu, hc⟩
    · obtain ⟨u, hu, -, hc, -⟩ := State.run_ends t (fun now c => (c.tkEnter now c.tk.ext).tkRetry now n.val) s
      rw [Core.tkRetry_idle h] at hc
      exact ⟨u, hu, hc⟩
  · intro t n w d s hd hr hh
    obtain ⟨u, hu, hc⟩ := State.run_tk t (fun now c => (c.tkEnter now c.tk.ext).tkRetry now n.val) s
    rw [← exec_tinkerStallRetry] at hu
    rw [← hd] at hc
    refine ⟨fun h hx => ?_, fun h ht => ?_, fun h => ?_⟩
    · obtain ⟨o, he⟩ := ((Core.tkRetry_completes hr hh (canComplete_pull h hx)).of_tk hc).engine
      obtain ⟨hsr, hrx, -⟩ := Tk.completed_pull (d.shMsb n.val) 0 (s.at_ t) { d.eng1 n.val with snap := o } h
      refine ⟨u, hu, ?_⟩
      rw [he]
      exact ⟨rfl, hsr, hrx, rfl⟩
    · obtain ⟨o, he⟩ := ((Core.tkRetry_completes hr hh (canComplete_push h ht)).of_tk hc).engine
      obtain ⟨htx, -⟩ := Tk.completed_push (d.shMsb n.val) 0 (s.at_ t) { d.eng1 n.val with snap := o } h
      refine ⟨u, hu, ?_⟩
      rw [he]
      exact ⟨rfl, htx, rfl⟩
    · have he := (Core.eng1_of_tk hc n.val).trans (Core.tkRetry_stalls hr hh h)
      refine ⟨u, hu, ?_⟩
      rw [he]
      exact ⟨hh, rfl⟩

end Sys2Proof.Machine
end

section
namespace Sys2Proof.Machine

/-! ### Engines changed one after another -/

/-- Of steps that each change their own engine alone, an engine sees only its own step. -/
theorem Core.eng1_foldl_range {f : Core → Nat → Core} (hf : ∀ c m n, m ≠ n → (f c m).eng1 n = c.eng1 n)
    (hl : ∀ c m, (f c m).tk.engs.length = c.tk.engs.length) (n : Nat) (c : Core) :
    ∀ k, n < k → ∃ d : Core, d.eng1 n = c.eng1 n ∧ d.tk.engs.length = c.tk.engs.length ∧
      ((List.range k).foldl f c).eng1 n = (f d n).eng1 n
  | k + 1, hk => by
    simp only [List.range_succ, List.foldl_append, List.foldl_cons, List.foldl_nil]
    rcases Nat.lt_succ_iff_lt_or_eq.mp hk with h | rfl
    · obtain ⟨d, h1, h2, h3⟩ := Core.eng1_foldl_range hf hl n c k h
      exact ⟨d, h1, h2, (hf _ _ _ (Nat.ne_of_gt h)).trans h3⟩
    · refine ⟨_, ?_, foldl_leaves (fun d => d.tk.engs.length) hl _ c, rfl⟩
      exact List.foldlRecOn (motive := fun d => d.eng1 n = c.eng1 n) (List.range n) f rfl
        fun d hd m hm => (hf d m n (Nat.ne_of_lt (List.mem_range.mp hm))).trans hd

theorem Core.eng1_foldl_mapEng1 {c : Core} {n : Nat} (h16 : n < 16) (hn : n < c.tk.engs.length) (g : Nat → Tk → Tk) :
    ((List.range 16).foldl (fun d m => d.mapEng1 m (g m)) c).eng1 n = g n (c.eng1 n) := by
  obtain ⟨d, h1, h2, h3⟩ := Core.eng1_foldl_range (f := fun d m => d.mapEng1 m (g m))
    (fun c m n h => Core.eng1_mapEng1_ne h _ c) (fun c m => Core.length_mapEng1 m _ c) n c 16 h16
  rw [h3, Core.eng1_mapEng1_self (h2 ▸ hn), h1]

/-- The engines of a mask changed, the others as they were. -/
theorem Core.eng1_foldl_mask {c : Core} {n : Nat} (h16 : n < 16) (hn : n < c.tk.engs.length) (mask : Nat) (g : Tk → Tk) :
    ((List.range 16).foldl (fun d m => if mask.testBit m then d.mapEng1 m g else d) c).eng1 n =
      if mask.testBit n then g (c.eng1 n) else c.eng1 n := by
  obtain ⟨d, h1, h2, h3⟩ := Core.eng1_foldl_range (f := fun d m => if mask.testBit m then d.mapEng1 m g else d)
    (fun c m n h => by
      split
      · exact Core.eng1_mapEng1_ne h _ c
      · rfl)
    (fun c m => by
      split
      · exact Core.length_mapEng1 m _ c
      · rfl) n c 16 h16
  rw [h3]
  split
  · rw [Core.eng1_mapEng1_self (h2 ▸ hn), h1]
  · exact h1

/-! ### Starts and stops (09 R296, R298) -/

theorem Core.tkStartMask_eng1 {c : Core} {n : Nat} (h16 : n < 16) (hn : n < c.tk.engs.length) (t0 mask : Nat) :
    (c.tkStartMask t0 mask).eng1 n =
      if mask.testBit n then { c.eng1 n with starts := startInsert t0 (c.eng1 n).starts } else c.eng1 n :=
  Core.eng1_foldl_mask h16 hn mask (fun e => { e with starts := startInsert t0 e.starts })

theorem Core.tkStartMask_dict (t0 mask : Nat) (c : Core) : (c.tkStartMask t0 mask).dict = c.dict :=
  foldl_leaves Core.dict (fun c n => by split <;> rfl) _ c

theorem Core.tkStop_eng1 {c : Core} {now n : Nat} (h16 : n < 16) (hn : n < (c.tkSync now).tk.engs.length) (mask : Nat) :
    (c.tkStop now mask).eng1 n = if mask.testBit n then { (c.tkSync now).eng1 n with
      stopAt := some (((c.tkSync now).eng1 n).stopAt.getD (nextTick now)) } else (c.tkSync now).eng1 n :=
  Core.eng1_foldl_mask h16 hn mask (fun e => { e with stopAt := some (e.stopAt.getD (nextTick now)) })

theorem Core.tkStop_dict (now mask : Nat) (c : Core) : (c.tkStop now mask).dict = (c.tkSync now).dict :=
  foldl_leaves Core.dict (fun c n => by split <;> rfl) _ (c.tkSync now)

theorem Core.tkStart_some {c : Core} {now t0 : Nat} (h : c.startAt now = some t0) (hb : c.blocksOn = true) (mask : Nat) :
    c.tkStart now mask = ((c.tkSync now).tkStartMask t0 mask).put 0x2C00 5 0 := by
  simp [Core.tkStart, h, hb]

/-- Nothing but the reasons of its own stands against a mask of engines. -/
theorem Core.writeCodes_mask {c : Core} {o : Orig} {s v : Nat} {own : List Nat} (hs : s = 2 ∨ s = 3)
    (hm : c.mayWrite o 0x2C00 s 2) : c.writeCodes o 0x2C00 s (leBytes 2 v) own = own := by
  rcases hs with rfl | rfl
  · exact Core.writeCodes_may (r := row 0x2C00 0x2C00 2 2 .u16 .wo (.val 0) false .any 0 false) hm rfl rfl rfl rfl rfl
      (.inl rfl) (by rw [length_leBytes]; rfl) (by simp [row, permits])
  · exact Core.writeCodes_may (r := row 0x2C00 0x2C00 3 3 .u16 .wo (.val 0) false .any 0 false) hm rfl rfl rfl rfl rfl
      (.inl rfl) (by rw [length_leBytes]; rfl) (by simp [row, permits])

section
variable {t : Nat} {o : Orig} {bar : Bool} {mask : Word16} {s : State}

theorem State.run_tkStart {t0 : Nat} (hb : bar = true → s.core.barOwns = true)
    (hm : bar = false → s.core.mayWrite o 0x2C00 2 2) (h : s.core.startAt (s.at_ t) = some t0) :
    ∃ u, exec (.tkStart t bar o mask) s = .next u ∧
      u.core = (s.core.tkStart (s.at_ t) mask.toNat).under u.core := by
  rw [exec_tkStart]
  cases bar with
  | true =>
    obtain ⟨u, hu, -, hc, -⟩ := State.run_ends t (fun now c => if c.barOwns && (c.startAt now).isSome
      then c.tkStart now mask.toNat else c.tkRefused 0) s
    rw [h, hb rfl] at hc
    exact ⟨u, hu, hc⟩
  | false =>
    obtain ⟨u, hu, -, hc, -⟩ := State.run_answered (t := t) (x := s)
      (f := fun now c => c.command now o 0x2C00 2 2 mask.toNat (c.tkStartCodes now) (Core.tkStart now mask.toNat))
      (Core.command_taken (hm rfl).2.2.2.2 ((Core.writeCodes_mask (.inl rfl) (hm rfl)).trans (by
        simp [Core.tkStartCodes, h, reason])))
    exact ⟨u, hu, hc⟩

theorem State.run_tkStart_refused (hm : s.core.mayWrite o 0x2C00 2 2) (ho : o ≠ .pdo)
    (h : s.core.startAt (s.at_ t) = none) :
    ∃ u, exec (.tkStart t false o mask) s = .next u ∧ u.core = s.core.under u.core ∧
      s.puts u [.answer o 0x2C00 2 0x06090032] := by
  have hown : s.core.tkStartCodes (s.at_ t) = [0x06090032] := by simp [Core.tkStartCodes, h, reason]
  have hcode : firstCode (s.core.writeCodes o 0x2C00 2 (leBytes 2 mask.toNat) (s.core.tkStartCodes (s.at_ t))) =
      some 0x06090032 := by
    rw [Core.writeCodes_mask (.inl rfl) hm, hown]
    rfl
  obtain ⟨u, hu, -, hc, hp⟩ := State.run_answered (t := t) (x := s)
    (f := fun now c => c.command now o 0x2C00 2 2 mask.toNat (c.tkStartCodes now) (Core.tkStart now mask.toNat))
    (Core.command_refused hcode)
  exact ⟨u, hu, hc, hp ho⟩

theorem State.run_tkStop (hb : bar = true → s.core.barOwns = true) (hm : bar = false → s.core.mayWrite o 0x2C00 3 2) :
    ∃ u, exec (.tkStop t bar o mask) s = .next u ∧
      u.core = (s.core.tkStop (s.at_ t) mask.toNat).under u.core := by
  rw [exec_tkStop]
  cases bar with
  | true =>
    obtain ⟨u, hu, -, hc, -⟩ := State.run_ends t (fun now c => if c.barOwns then c.tkStop now mask.toNat
      else c.tkRefused 0) s
    rw [hb rfl] at hc
    exact ⟨u, hu, hc⟩
  | false =>
    exact State.run_command_taken (own := fun _ => []) (eff := fun now => Core.tkStop now mask.toNat) (hm rfl).2.2.2.2
      (Core.writeCodes_mask (.inr rfl) (hm rfl))

end

/-- The autostart, once and in STANDBY (09 R298). -/
theorem Core.tkAutostart_once {c : Core} (ha : c.tk.autoDone = false) (hm : c.mode = .standby) (now : Nat) :
    c.tkAutostart now = ((c.tkSync now).tkStartMask (c.startGrid now) (c.obj 0x2C00 7)).mapTk
      (fun t => { t with autoDone := true }) := by
  simp [Core.tkAutostart, ha, hm]

theorem Core.tkAutostart_done {c : Core} (ha : c.tk.autoDone = true) (now : Nat) : c.tkAutostart now = c := by
  simp [Core.tkAutostart, ha]

/-! ### An engine's start and stop at a moment (09 R296, R298) -/

namespace Tk

variable {now t0 a : Nat} {e : Tk}

theorem with_starts {l : List Nat} (h : e.starts = l) : { e with starts := l } = e := by subst h; rfl

theorem stopDue_none (lim : Nat) (h : e.stopAt = none) : e.stopDue lim = e := by simp [stopDue, h]

theorem startOne_stopAt (resume : Bool) (t0 : Nat) (e : Tk) : (startOne resume t0 e).stopAt = e.stopAt := by
  unfold startOne
  dsimp only
  split <;> rfl

theorem seen_start (resume : Bool) (hs : e.starts = [t0]) (hn : e.stopAt = none) (h : t0 ≤ now) :
    e.seen now resume = { startOne resume t0 e with starts := [] } := by
  rw [seen, hs, startsDue, if_pos h, startsDue, stopDue_none t0 hn, stopDue_none]
  exact (startOne_stopAt resume t0 e).trans hn

theorem seen_before_start (resume : Bool) (hs : e.starts = [t0]) (hn : e.stopAt = none) (h : now < t0) :
    e.seen now resume = e := by
  rw [seen, hs, startsDue, if_neg (Nat.not_le.mpr h), with_starts hs, stopDue_none now hn]

theorem seen_stop (resume : Bool) (hs : e.starts = []) (ha : e.stopAt = some a) (h : a ≤ now) :
    e.seen now resume = { stopOne e with stopAt := none } := by
  rw [seen, hs, startsDue, with_starts hs]
  simp [stopDue, ha, h]

theorem seen_before_stop (resume : Bool) (hs : e.starts = []) (ha : e.stopAt = some a) (h : now < a) :
    e.seen now resume = e := by
  rw [seen, hs, startsDue, with_starts hs]
  simp [stopDue, ha, h]

end Tk

end Sys2Proof.Machine
end

section
namespace Sys2Proof.Machine

/-! ### Debugging commands in the tick that carries them out (09 R300) -/

theorem Tk.stopOne_dbg (l : List (Nat × Bool)) (e : Tk) : stopOne { e with dbg := l } = { stopOne e with dbg := l } := by
  unfold stopOne
  dsimp only
  split <;> rfl

theorem Tk.startOne_dbg (resume : Bool) (t0 : Nat) (l : List (Nat × Bool)) (e : Tk) :
    startOne resume t0 { e with dbg := l } = { startOne resume t0 e with dbg := l } := by
  unfold startOne
  dsimp only
  split <;> rfl

theorem Tk.stopDue_dbg (lim : Nat) (l : List (Nat × Bool)) (e : Tk) :
    ({ e with dbg := l } : Tk).stopDue lim = { e.stopDue lim with dbg := l } := by
  unfold Tk.stopDue
  dsimp only
  split
  · split
    · rw [Tk.stopOne_dbg]
    · rfl
  · rfl

theorem Tk.startsDue_dbg (now : Nat) (resume : Bool) (l : List (Nat × Bool)) : ∀ (ts : List Nat) (e : Tk),
    ({ e with dbg := l } : Tk).startsDue now resume ts = { e.startsDue now resume ts with dbg := l }
  | [], _ => rfl
  | t0 :: ts, e => by
    unfold Tk.startsDue
    split
    · rw [Tk.stopDue_dbg, Tk.startOne_dbg, Tk.startsDue_dbg now resume l ts]
    · rfl

/-- Debugging commands that wait do not touch the rest of what an engine is at a moment. -/
theorem Tk.seen_dbg (now : Nat) (resume : Bool) (l : List (Nat × Bool)) (e : Tk) :
    ({ e with dbg := l } : Tk).seen now resume = { e.seen now resume with dbg := l } := by
  unfold Tk.seen
  rw [Tk.startsDue_dbg, Tk.stopDue_dbg]

/-- The core with the debugging commands of engine `n` that wait set to `l`. -/
def Core.waiting (n : Nat) (l : List (Nat × Bool)) (c : Core) : Core := c.mapEng1 n (fun e => { e with dbg := l })

/-- What does not look at the commands that wait is the same of every engine. -/
theorem Core.waiting_same {α : Type} (p : Tk → α) (hp : ∀ (l : List (Nat × Bool)) (e : Tk), p { e with dbg := l } = p e)
    (n : Nat) (l : List (Nat × Bool)) (c : Core) (m : Nat) : p ((c.waiting n l).eng1 m) = p (c.eng1 m) := by
  by_cases h : n = m
  · subst h
    exact getD_modAt_same p (hp l) c.tk.engs n {}
  · exact congrArg p (Core.eng1_mapEng1_ne h _ c)

theorem Core.ownBits_waiting (n : Nat) (l : List (Nat × Bool)) (c : Core) (m : Nat) :
    (c.waiting n l).ownBits m = c.ownBits m := by
  unfold Core.ownBits
  dsimp only
  rw [Core.waiting_same Tk.rx (fun _ _ => rfl), Core.waiting_same Tk.tx (fun _ _ => rfl),
    Core.waiting_same Tk.cnt (fun _ _ => rfl), Core.waiting_same Tk.sr (fun _ _ => rfl)]
  rfl

/-- What a source shows does not depend on the debugging commands that wait (09 R290). -/
theorem Core.source_waiting (n : Nat) (l : List (Nat × Bool)) (c : Core) (now m k : Nat) :
    (c.waiting n l).source now m k = c.source now m k := by
  have hf : flagSeen ((c.waiting n l).tkAt now (k - 36)) now = flagSeen (c.tkAt now (k - 36)) now :=
    Core.waiting_same (fun e => flagSeen (e.seen (c.tickNow now) (c.resumes (k - 36))) now)
      (fun l e => by simp only [Tk.seen_dbg, flagSeen]) n l c (k - 36)
  unfold Core.source
  dsimp only
  rw [hf, Core.ownBits_waiting, Core.waiting_same Tk.snap (fun _ _ => rfl)]
  rfl

theorem Core.inputs_waiting (n : Nat) (l : List (Nat × Bool)) (c : Core) (now m : Nat) :
    (c.waiting n l).inputs now m = c.inputs now m := by
  unfold Core.inputs
  dsimp only
  simp only [Core.source_waiting]
  rfl

/-- A word read well is read alike whatever the tinker engines hold. -/
theorem Core.sramLook_mapTk {c d : Core} {now a : Nat} {w : WordOutcome} (h : c.sramLook now a w = (true, d))
    (f : Tinker → Tinker) : (c.mapTk f).sramLook now a w = (true, d.mapTk f) := by
  have hbump : ∀ (i s : Nat) (c : Core), (c.mapTk f).bump i s = (c.bump i s).mapTk f := fun i s c => by
    rw [Core.bump_eq, Core.bump_eq]
    rfl
  have hcorrect : (c.mapTk f).sramCorrect a = (c.sramCorrect a).mapTk f := by
    have hd : (c.mapTk f).dropFlips a = (c.dropFlips a).mapTk f := rfl
    unfold Core.sramCorrect
    rw [hd, hbump, hbump]
    rfl
  unfold Core.sramLook at h ⊢
  rw [show (c.mapTk f).sram = c.sram from rfl, show (c.mapTk f).wordFound a w = c.wordFound a w from rfl, hcorrect]
  split at h
  · cases h
  · split at h
    · cases h
    · rename_i hi hp
      rw [if_neg hi, if_neg hp]
      split at h
      · exact congrArg (fun x : Core => (true, x.mapTk f)) (Prod.mk.inj h).2
      · exact congrArg (fun x : Core => (true, x.mapTk f)) (Prod.mk.inj h).2
      · cases h

theorem Core.eng1_waiting {c : Core} {n : Nat} (hn : n < c.tk.engs.length) (l : List (Nat × Bool)) :
    (c.waiting n l).eng1 n = { c.eng1 n with dbg := l } := Core.eng1_mapEng1_self hn _

/-- An entry without an action, executed in an engine without its delay: outputs and state shown, the state recorded
(09 R300). -/
theorem Core.tkDebug_shows {c : Core} {t n k b0 : Nat} (hn : n < c.tk.engs.length) (hf : field k 18 16 = 0) :
    ((c.tkDebug t n k b0).eng1 n).st = BitVec.ofNat 6 k ∧ ((c.tkDebug t n k b0).eng1 n).recorded = BitVec.ofNat 6 k ∧
    ((c.tkDebug t n k b0).eng1 n).running = (c.eng1 n).running ∧
    ((c.tkDebug t n k b0).eng1 n).outs = BitVec.ofNat 8 (field k 15 8) ∧
    ((c.tkDebug t n k b0).eng1 n).next = (c.eng1 n).next ∧ ((c.tkDebug t n k b0).eng1 n).dbg = (c.eng1 n).dbg := by
  obtain ⟨o, he, -⟩ := Core.tkComplete_tk hn t k b0
  have hlen : n < (c.tkComplete t n k b0).tk.engs.length := by
    rw [he]
    exact hn.trans_eq (List.length_modify _ _ _).symm
  have hone : (c.tkComplete t n k b0).eng1 n = ({ c.eng1 n with snap := o } : Tk).completed (c.shMsb n) k b0 t := by
    unfold Core.eng1
    rw [he]
    exact getD_modAt_self hn _ _
  rw [Core.tkDebug, if_pos (canComplete_of_ne _ (by omega) (by omega)), Core.eng1_mapEng1_self hlen, hone]
  exact ⟨rfl, rfl, Tk.completed_running _ _ _ _, Tk.completed_outs _ _ _ _ (by omega), Tk.completed_next _ _ _ _,
    Tk.completed_dbg _ _ _ _⟩

theorem Core.tkDebug_stalls {c : Core} {n k : Nat} (hn : n < c.tk.engs.length) (hc : canComplete (c.eng1 n) k = false)
    (t b0 : Nat) : (c.tkDebug t n k b0).eng1 n = { c.eng1 n with stepStall := true } := by
  rw [Core.tkDebug, if_neg (by simp [hc]), Core.eng1_mapEng1_self hn]

/-- A single debugging command that waits for this tick. -/
theorem Core.tkDebugs_one {c : Core} {t n : Nat} {b : Bool} (h : (c.eng1 n).dbg = [(t, b)]) :
    c.tkDebugs t n = if b then (c.waiting n []).tkInject t n else (c.waiting n []).tkDoStep t n := by
  simp [Core.tkDebugs, h, Core.waiting]

section
variable {c d : Core} {t n a b k : Nat} (hd : (c.eng1 n).dbg = [(t, false)]) (hb : b = c.inputs t n)
  (ha : a = lutAddr n ((c.eng1 n).st.toNat * 16 + b)) (hl : c.sramLook t a .clean = (true, d))
  (hk : k = d.sramData a)
include hd hb ha hl hk

/-- STEP executes the entry that state and inputs select. -/
theorem Core.tkDebugs_step : c.tkDebugs t n = (d.waiting n []).tkDebug t n k (b % 2) := by
  have hst : ((c.waiting n []).eng1 n).st = (c.eng1 n).st := Core.waiting_same Tk.st (fun _ _ => rfl) n [] c n
  have hl' : (c.waiting n []).sramLook t a .clean = (true, d.waiting n []) := Core.sramLook_mapTk hl _
  have hk' : (d.waiting n []).sramData a = k := hk.symm
  rw [Core.tkDebugs_one hd]
  unfold Core.tkDoStep
  simp [Core.inputs_waiting, hst, ← hb, ← ha, hl', hk']

end

/-- The engine that STEP's entry finds, after its read of the word. -/
theorem Core.eng1_waiting_read {c d : Core} {t n a : Nat} (hn : n < c.tk.engs.length)
    (hl : c.sramLook t a .clean = (true, d)) (l : List (Nat × Bool)) :
    n < (d.waiting n l).tk.engs.length ∧ (d.waiting n l).eng1 n = { c.eng1 n with dbg := l } := by
  have htk := Core.tk_of_sramLook hl
  have hlen : n < d.tk.engs.length := htk ▸ hn
  exact ⟨hlen.trans_eq (Core.length_mapEng1 _ _ _).symm,
    (Core.eng1_waiting hlen l).trans (by rw [Core.eng1_of_tk htk])⟩

end Sys2Proof.Machine
end

section
namespace Sys2Proof.Machine

/-! ### TK_CTRL commands taken and not taken (09 R300, R308) -/

section
variable {c : Core} {now n : Nat} {stopped : Bool}

theorem Core.tkCtrl_taken (hb : c.barOwns = true) (hs : stopped = true → (c.tkAt now n).running = false)
    (f : Core → Core) : c.tkCtrl now n stopped f = f c := by
  cases stopped
  · simp [Core.tkCtrl, hb]
  · simp [Core.tkCtrl, hb, hs rfl]

theorem Core.tkCtrl_refused (h : c.barOwns = false ∨ stopped = true ∧ (c.tkAt now n).running = true) (f : Core → Core) :
    c.tkCtrl now n stopped f = c.tkRefused n := by
  rcases h with h | ⟨rfl, h⟩ <;> simp [Core.tkCtrl, h]

end

theorem Core.barOwns_tkSync (now : Nat) (c : Core) : (c.tkSync now).barOwns = c.barOwns :=
  Core.of_tinkerRest Core.barOwns (Core.tinkerRest_blind.tkSync now c)

theorem Core.barOwns_pinsTake (now : Nat) (x : Word32) (c : Core) : (c.pinsTake now x).barOwns = c.barOwns := rfl

theorem Core.tkAt_pinsTake (now : Nat) (x : Word32) (c : Core) (n : Nat) : (c.pinsTake now x).tkAt now n = c.tkAt now n := rfl

/-- What waited up to a moment raises no count of refused BAR writes. -/
theorem Core.refused_tkSync (now : Nat) (c : Core) : (c.tkSync now).cxl.refused = c.cxl.refused :=
  TinkerBlind.tkSync (g := fun c => c.cxl.refused)
    ⟨fun _ _ _ _ => rfl, fun _ _ => rfl, fun _ _ => rfl, fun _ _ => rfl, fun h => h.cxlSame Cxl.refused⟩ now c

/-- A BAR2 write of engine `n` that is not taken after `c` (09 R308): shown by the engine and counted, no object
changed. -/
structure Core.NotTaken (c : Core) (n : Nat) (u : Core) : Prop where
  shown : u.tk.engs = modAt c.tk.engs n (fun e => { e with wrRefused := true })
  counted : u.cxl.refused = (c.cxl.refused + 1) % 2 ^ 32
  objects : u.dict = c.dict

theorem Core.notTaken_of_under {c u : Core} {n : Nat} (h : u = (c.tkRefused n).under u) : c.NotTaken n u :=
  ⟨Core.of_under h (·.tk.engs), Core.of_under h (·.cxl.refused), Core.of_under h Core.dict⟩

theorem Core.NotTaken.of_pinsTake {c u : Core} {now n : Nat} {x : Word32} (h : (c.pinsTake now x).NotTaken n u) :
    c.NotTaken n u := ⟨h.shown, h.counted, h.objects⟩

section
variable {t : Nat} {n : Fin 16} {x : Word32} {s : State}

/-- STEP and INJECT of a stopped engine wait for the next tick. -/
theorem State.run_tkDebugAt (inject : Bool) (hb : s.core.barOwns = true)
    (hr : (((s.core.tkSync (s.at_ t)).pinsTake (s.at_ t) x).tkAt (s.at_ t) n.val).running = false) :
    ∃ u, State.run t (fun now c => ((c.tkSync now).pinsTake now x).tkCtrl now n.val true
        (Core.tkDebugAt now n.val inject)) s = .next u ∧
      u.core = (((s.core.tkSync (s.at_ t)).pinsTake (s.at_ t) x).tkDebugAt (s.at_ t) n.val inject).under u.core := by
  obtain ⟨u, hu, -, hc, -⟩ := State.run_ends t (fun now c => ((c.tkSync now).pinsTake now x).tkCtrl now n.val true
    (Core.tkDebugAt now n.val inject)) s
  rw [Core.tkCtrl_taken (by rw [Core.barOwns_pinsTake, Core.barOwns_tkSync, hb]) (fun _ => hr)] at hc
  exact ⟨u, hu, hc⟩

theorem State.run_tkDebugAt_refused (inject : Bool)
    (h : s.core.barOwns = false ∨ ((s.core.tkSync (s.at_ t)).tkAt (s.at_ t) n.val).running = true) :
    ∃ u, State.run t (fun now c => ((c.tkSync now).pinsTake now x).tkCtrl now n.val true
        (Core.tkDebugAt now n.val inject)) s = .next u ∧ (s.core.tkSync (s.at_ t)).NotTaken n.val u.core := by
  obtain ⟨u, hu, -, hc, -⟩ := State.run_ends t (fun now c => ((c.tkSync now).pinsTake now x).tkCtrl now n.val true
    (Core.tkDebugAt now n.val inject)) s
  rw [Core.tkCtrl_refused (by
    rw [Core.barOwns_pinsTake, Core.barOwns_tkSync, Core.tkAt_pinsTake]
    exact h.imp_right fun h => ⟨rfl, h⟩)] at hc
  exact ⟨u, hu, (Core.notTaken_of_under hc).of_pinsTake⟩

theorem State.run_tkClearErr (hb : s.core.barOwns = true) :
    ∃ u, exec (.tkClearErr t n) s = .next u ∧
      u.core = ((s.core.tkSync (s.at_ t)).tkClearErr n.val).under u.core := by
  obtain ⟨u, hu, -, hc, -⟩ := State.run_ends t (fun now c => (c.tkSync now).tkCtrl now n.val false
    (Core.tkClearErr n.val)) s
  rw [Core.tkCtrl_taken (by rw [Core.barOwns_tkSync, hb]) (by simp)] at hc
  exact ⟨u, hu, hc⟩

theorem State.run_tkClearErr_refused (hb : s.core.barOwns = false) :
    ∃ u, exec (.tkClearErr t n) s = .next u ∧ (s.core.tkSync (s.at_ t)).NotTaken n.val u.core := by
  obtain ⟨u, hu, -, hc, -⟩ := State.run_ends t (fun now c => (c.tkSync now).tkCtrl now n.val false
    (Core.tkClearErr n.val)) s
  rw [Core.tkCtrl_refused (.inl (by rw [Core.barOwns_tkSync, hb]))] at hc
  exact ⟨u, hu, Core.notTaken_of_under hc⟩

end

/-- With no debugging command waiting, every engine is brought to its own moment, and no object changes. -/
theorem Core.tkSync_noDebug {c : Core} (h : c.noDebug = true) {n : Nat} (h16 : n < 16) (hn : n < c.tk.engs.length)
    (now : Nat) : (c.tkSync now).eng1 n = c.tkAt now n ∧ (c.tkSync now).dict = c.dict := by
  have hd := Core.tkDue_noDebug h now
  have htk : (c.tkDue now).tk = c.tk := by rw [hd]
  refine ⟨?_, ?_⟩
  · refine (Core.eng1_foldl_mapEng1 h16 (htk ▸ hn) fun m => Tk.seen (c.tickNow now) (c.resumes m)).trans ?_
    rw [Core.eng1_of_tk htk]
    rfl
  · refine (foldl_leaves Core.dict (fun c m => Core.mapEng1_dict m _ c) _ _).trans ?_
    rw [hd]

/-- Settles O43: starts, stops and the autostart change the engines of their mask one by one, a TK_CTRL command is
taken or refused as a whole, and a debugging command's tick finds the engine as if none waited. -/
theorem tinkerCommands : Obligations.TinkerCommands := by
  unfold Obligations.TinkerCommands
  refine ⟨?_, fun _ _ _ _ => State.run_tkStart_refused, ?_, fun _ _ _ resume _ => ⟨Tk.seen_start resume,
    Tk.seen_before_start resume, Tk.seen_stop resume, Tk.seen_before_stop resume⟩, ?_, ?_, ?_, ?_,
    fun _ _ _ => State.run_tkClearErr, ?_, fun now _ _ h h16 hn => Core.tkSync_noDebug h h16 hn now⟩
  · intro t t0 o bar mask d s hd hb hm h hon
    obtain ⟨u, hu, hc⟩ := State.run_tkStart (t := t) (mask := mask) hb hm h
    rw [Core.tkStart_some h hon, ← hd] at hc
    refine ⟨u, hu, ?_, Core.keeps_put_under hc (by decide) (Core.tkStartMask_dict _ _ _), fun n h16 hn => ?_⟩
    · exact (Core.of_under hc (·.obj 0x2C00 5)).trans (Core.obj_put_self _ _ _ _)
    · exact (Core.of_under hc (·.eng1 n)).trans (Core.tkStartMask_eng1 h16 hn _ _)
  · intro t o bar mask d s hd hb hm
    subst hd
    obtain ⟨u, hu, hc⟩ := State.run_tkStop (t := t) (mask := mask) hb hm
    exact ⟨u, hu, (Core.of_under hc Core.dict).trans (Core.tkStop_dict _ _ _), fun n h16 hn =>
      (Core.of_under hc (·.eng1 n)).trans (Core.tkStop_eng1 h16 hn _)⟩
  · intro t d s hd ha hm
    obtain ⟨u, hu, -, hc, -⟩ := State.run_ends t (fun now c => c.tkAutostart now) s
    rw [Core.tkAutostart_once ha hm, ← hd] at hc
    exact ⟨u, hu, Core.of_under hc (·.tk.autoDone), (Core.of_under hc Core.dict).trans (Core.tkStartMask_dict _ _ _),
      fun n h16 hn => (Core.of_under hc (·.eng1 n)).trans (Core.tkStartMask_eng1 h16 hn _ _)⟩
  · intro t s ha
    obtain ⟨u, hu, -, hc, -⟩ := State.run_ends t (fun now c => c.tkAutostart now) s
    rw [Core.tkAutostart_done ha] at hc
    exact ⟨u, hu, hc⟩
  · intro t n x d s hb hd hr
    subst hd
    exact ⟨State.run_tkDebugAt false hb hr, State.run_tkDebugAt true hb hr⟩
  · intro t n k c hn hr
    refine ⟨fun a b d hdbg hb ha hl hk => ?_, fun hdbg hk hf => ?_⟩
    · rw [Core.tkDebugs_step hdbg hb ha hl hk]
      obtain ⟨hlen, he⟩ := Core.eng1_waiting_read hn hl []
      refine ⟨fun hf => ?_, fun hc => ?_⟩
      · obtain ⟨h1, h2, h3, h4, h5, h6⟩ := Core.tkDebug_shows (t := t) (b0 := b % 2) hlen hf
        rw [he] at h3 h5 h6
        exact ⟨h1, h2, h3.trans hr, h4, h5, h6⟩
      · rw [Core.tkDebug_stalls hlen (by rw [he]; exact hc), he]
        exact ⟨rfl, rfl, rfl⟩
    · have he := Core.eng1_waiting hn []
      have hlen : n < (c.waiting n []).tk.engs.length := hn.trans_eq (Core.length_mapEng1 _ _ _).symm
      rw [Core.tkDebugs_one hdbg, if_pos rfl, Core.tkInject, he, ← hk]
      obtain ⟨h1, -, h3, h4, -, h6⟩ := Core.tkDebug_shows (t := t) (b0 := (c.waiting n []).inputs t n % 2) hlen hf
      rw [he] at h3 h6
      exact ⟨h1, h3.trans hr, h4, h6⟩
  · intro t i n x d s hd h
    subst hd
    have of_notTaken : (∃ u, exec i s = .next u ∧ (s.core.tkSync (s.at_ t)).NotTaken n.val u.core) →
        ∃ u, exec i s = .next u ∧ u.core.tk.engs = modAt (s.core.tkSync (s.at_ t)).tk.engs n.val (fun e => { e with
          wrRefused := true }) ∧ u.core.cxl.refused = (s.core.cxl.refused + 1) % 2 ^ 32 ∧
          u.core.dict = (s.core.tkSync (s.at_ t)).dict := fun ⟨u, hu, h1, h2, h3⟩ =>
      ⟨u, hu, h1, h2.trans (by rw [Core.refused_tkSync]), h3⟩
    rcases h with ⟨hb, rfl⟩ | ⟨hs, rfl | rfl⟩
    · exact of_notTaken (State.run_tkClearErr_refused hb)
    · exact of_notTaken (State.run_tkDebugAt_refused false hs)
    · exact of_notTaken (State.run_tkDebugAt_refused true hs)

end Sys2Proof.Machine
end

section
namespace Sys2Proof.Machine

/-! ### Words to and from an engine (09 R302) -/

/-- Nothing but the reasons of its own stands against a word for RX. -/
theorem Core.writeCodes_rx {c : Core} {o : Orig} {v : Nat} {own : List Nat} (n : Fin 16)
    (hm : c.mayWrite o (0x2C10 + n.val) 10 2) : c.writeCodes o (0x2C10 + n.val) 10 (leBytes 4 v) own = own := by
  have hrow : ∀ n : Fin 16, rowOf (0x2C10 + n.val) 10 =
      some (row 0x2C10 0x2C1F 10 10 .u32 .wo (.val 0) false .any 0 false) := by decide
  have hdom : ∀ n : Fin 16, domainOf (0x2C10 + n.val) 10 = some 2 := by decide
  exact Core.writeCodes_may hm (hrow n) (topSub_isSome (hrow n)) (hdom n) rfl (beq_false_of_ne (by omega)) (.inl rfl)
    (by rw [length_leBytes]; rfl) (by simp [row, permits])

theorem Core.tkRxPush_room {c : Core} {n : Nat} (h : c.obj (0x2C10 + n) 5 = 0) (hl : (c.eng1 n).rx.length < 8)
    (now : Nat) (w : Word32) :
    c.tkRxPush now n w = (c.tickMark now n).mapEng1 n (fun e => { e with rx := e.rx ++ [w] }) :=
  if_pos ⟨h, hl⟩

theorem Core.tkRxPush_over {c : Core} {n : Nat} (h : c.obj (0x2C10 + n) 5 ≠ 0 ∨ 8 ≤ (c.eng1 n).rx.length)
    (now : Nat) (w : Word32) : c.tkRxPush now n w = c.mapEng1 n (fun e => { e with rxOver := true }) :=
  if_neg fun ⟨h1, h2⟩ => h.elim (· h1) (Nat.not_le.mpr h2)

theorem Core.tkTxPop_cons {c : Core} {n : Nat} {w : Word32} {l : List Word32} (h : (c.eng1 n).tx = w :: l) (now : Nat) :
    c.tkTxPop now n = (w.toNat, (c.tickMark now n).mapEng1 n (fun e => { e with tx := l })) := by
  simp only [Core.tkTxPop, h]

theorem Core.tkTxPop_nil {c : Core} {n : Nat} (h : (c.eng1 n).tx = []) (now : Nat) :
    c.tkTxPop now n = (0, c.mapEng1 n (fun e => { e with txUnder := true })) := by
  simp only [Core.tkTxPop, h]

@[simp] theorem Core.tickMark_out (now n : Nat) (c : Core) : (c.tickMark now n).out = c.out := by
  obtain ⟨o, ho⟩ := c.tickMark_eq now n
  rw [ho]
  rfl

section
variable {t : Nat} {o : Orig} {n : Fin 16} {s : State} {c : Core} {v : Nat}

theorem State.run_tkRxWrite {bar : Bool} (w : Word32) (hm : bar = false → s.core.mayWrite o (0x2C10 + n.val) 10 2) :
    ∃ u, exec (.tkRxWrite t bar o n w) s = .next u ∧
      u.core = ((s.core.tkSync (s.at_ t)).tkRxPush (s.at_ t) n.val w).under u.core := by
  rw [exec_tkRxWrite]
  cases bar with
  | true =>
    obtain ⟨u, hu, -, hc, -⟩ := State.run_ends t (fun now c => (c.tkSync now).tkRxPush now n.val w) s
    exact ⟨u, hu, hc⟩
  | false =>
    exact State.run_command_taken (own := fun _ => [])
      (eff := fun now c => (c.tkSync now).tkRxPush now n.val w) (hm rfl).2.2.2.2 (Core.writeCodes_rx n (hm rfl))

theorem State.run_tkTxRead_bar (h : (s.core.tkSync (s.at_ t)).tkTxPop (s.at_ t) n.val = (v, c)) :
    ∃ u, exec (.tkTxRead t true o n) s = .next u ∧ c.out ++ [.bar (some v)] <+: u.core.out ∧
      u.core = c.under u.core := by
  obtain ⟨u, hu, -, hc, ho⟩ := State.run_ends t (fun now c =>
    ((c.tkSync now).tkTxPop now n.val).2.emit (.bar (some ((c.tkSync now).tkTxPop now n.val).1))) s
  simp only [h] at hc ho
  exact ⟨u, hu, ho, hc⟩

theorem State.run_tkTxRead_sdo (h : (s.core.tkSync (s.at_ t)).tkTxPop (s.at_ t) n.val = (v, c))
    (he : o ≠ .sdo ∨ s.core.emergencyOn = true) :
    ∃ u, exec (.tkTxRead t false o n) s = .next u ∧
      c.out ++ [.sdo (0x2C10 + n.val) 11 0 (leBytes 4 v)] <+: u.core.out ∧ u.core = c.under u.core := by
  obtain ⟨u, hu, -, hc, ho⟩ := State.run_ends t (fun now c => if o = .sdo ∧ c.emergencyOn = false then c
    else ((c.tkSync now).tkTxPop now n.val).2.emit
      (.sdo (0x2C10 + n.val) 0x0B 0 (leBytes 4 ((c.tkSync now).tkTxPop now n.val).1))) s
  have hn : ¬(o = .sdo ∧ s.core.emergencyOn = false) := fun ⟨h1, h2⟩ => by simp [h1, h2] at he
  simp only [if_neg hn, h] at hc ho
  exact ⟨u, hu, ho, hc⟩

end

/-! ### Alarm words delivered (09 R304, R306, 12 R378) -/

theorem Core.mapEng1_mapEng1 (n : Nat) (f g : Tk → Tk) (c : Core) :
    (c.mapEng1 n f).mapEng1 n g = c.mapEng1 n (fun e => g (f e)) := by
  unfold Core.mapEng1 Core.mapTk
  dsimp only
  rw [modAt_modAt]

/-- A delivery to one engine changes of the tinker block that engine alone. -/
theorem Core.deliverTo_tk (now : Nat) (w : BusWord) (c : Core) (n : Nat) :
    ∃ g, (c.deliverTo now w n).tk = (c.mapEng1 n g).tk := by
  unfold Core.deliverTo
  split
  · exact ⟨id, by rw [Core.mapEng1_eq_self rfl]⟩
  · split
    · obtain ⟨o, ho⟩ := c.tickMark_eq now n
      rw [ho, Core.mapEng1_mapEng1]
      exact ⟨_, rfl⟩
    · rw [Core.event_tk, Core.bump_tk]
      exact ⟨_, rfl⟩

section
variable {w : BusWord} {c : Core} {n : Nat} (now : Nat)

theorem Core.deliverTo_none (h : w.targets.getLsbD n = false) : c.deliverTo now w n = c := by
  simp [Core.deliverTo, h]

theorem Core.deliverTo_room (hn : n < c.tk.engs.length) (h : w.targets.getLsbD n = true)
    (hr : (c.eng1 n).rx.length < 8) :
    ∃ o, (c.deliverTo now w n).eng1 n = { c.eng1 n with snap := o, rx := (c.eng1 n).rx ++ [w.word] } := by
  obtain ⟨o, ho⟩ := c.tickMark_eq now n
  refine ⟨o, ?_⟩
  rw [Core.deliverTo, if_neg (by simp [h]), if_pos hr, ho, Core.mapEng1_mapEng1, Core.eng1_mapEng1_self hn]

theorem Core.deliverTo_full (hn : n < c.tk.engs.length) (h : w.targets.getLsbD n = true)
    (hr : 8 ≤ (c.eng1 n).rx.length) :
    (c.deliverTo now w n).eng1 n = { c.eng1 n with alarmLost := true, lostCh := w.ch } := by
  have htk : (c.deliverTo now w n).tk = (c.mapEng1 n (fun e => { e with alarmLost := true, lostCh := w.ch })).tk := by
    rw [Core.deliverTo, if_neg (by simp [h]), if_neg (Nat.not_lt.mpr hr), Core.event_tk, Core.bump_tk]
  rw [Core.eng1_of_tk htk, Core.eng1_mapEng1_self hn]

end

/-- A word delivered to every engine of its set: each engine sees the delivery to itself alone. -/
theorem Core.eng1_foldl_deliverTo (now : Nat) (w : BusWord) (c : Core) {n : Nat} (h16 : n < 16) :
    ∃ d : Core, d.eng1 n = c.eng1 n ∧ d.tk.engs.length = c.tk.engs.length ∧
      ((List.range 16).foldl (Core.deliverTo now w) c).eng1 n = (d.deliverTo now w n).eng1 n := by
  refine Core.eng1_foldl_range (fun c m n h => ?_) (fun c m => ?_) n c 16 h16
  · obtain ⟨g, hg⟩ := c.deliverTo_tk now w m
    exact (Core.eng1_of_tk hg n).trans (Core.eng1_mapEng1_ne h g c)
  · obtain ⟨g, hg⟩ := c.deliverTo_tk now w m
    rw [hg, Core.length_mapEng1]

theorem Core.deliverTo_eng (now : Nat) (w : BusWord) (n : Nat) (c : Core) : (c.deliverTo now w n).eng = c.eng :=
  TinkerBlind.deliverTo (g := Core.eng)
    ⟨fun _ _ _ _ => rfl, fun _ _ => rfl, fun _ _ => rfl, fun _ _ => rfl, fun h => h.same Core.eng⟩ now w n c

theorem Core.deliverTo_busTick (now : Nat) (w : BusWord) (n : Nat) (c : Core) :
    (c.deliverTo now w n).tk.busTick = c.tk.busTick := by
  obtain ⟨g, hg⟩ := c.deliverTo_tk now w n
  rw [hg]
  rfl

/-- A requester that meets no error that is not yet listed changes nothing. -/
theorem Core.sramFind_eq_self {c : Core} {now : Nat} {p : Nat → Bool}
    (h : ∀ a ∈ c.faulty, p a = true → a ∈ c.sram.poison) : c.sramFind now p = c := by
  have hl : c.faulty.filter (fun a => p a && !c.sram.poison.contains a) = [] := by
    rw [List.filter_eq_nil_iff]
    intro a ha hp
    simp only [Bool.and_eq_true, Bool.not_eq_true', List.contains_eq_mem, decide_eq_false_iff_not] at hp
    exact hp.2 (h a ha hp.1)
  unfold Core.sramFind
  rw [hl]
  rfl

theorem Core.wordBad_of_poison {c : Core} {a : Nat} (h : a ∈ c.sram.poison) : c.wordBad a = true := by
  simp [Core.wordBad, h]

/-- A word without an error, and not listed, reads without a bus error. -/
theorem Core.wordBad_of_not_faulty {c : Core} {a : Nat} (h : a ∉ c.faulty) : c.wordBad a = false := by
  simp only [Core.faulty, List.mem_dedup, List.mem_append, List.mem_map, not_or, not_exists, not_and] at h
  obtain ⟨hp, hf⟩ := h
  have hx : c.sram.flips.find? (fun p => p.1 == a) = none :=
    List.find?_eq_none.mpr fun p hm he => hf p hm (by simpa using he)
  simp [Core.wordBad, Core.flipsAt, hp, hx]

/-- The oldest word on a bus whose route words hold no error goes out (09 R304). -/
theorem Core.deliver_first {c : Core} {now : Nat} {w : BusWord} {l : List BusWord}
    (ht : c.tk.withheld ≠ some (tickOf now)) (hb : c.eng.bus = w :: l) (hc : ∀ x ∈ c.eng.bus, routeWord x.ch ∉ c.faulty) :
    c.deliver now = (List.range 16).foldl (Core.deliverTo now w)
      ((c.mapEng (fun e => { e with bus := l })).mapTk (fun t => { t with
        busTick := (if w.targets = 0 then t.busTick else some (tickOf now)) })) := by
  have hs : c.sramFind now (fun a => c.eng.bus.any (fun w => routeWord w.ch == a)) = c :=
    Core.sramFind_eq_self fun a ha hp => by
      obtain ⟨x, hx, he⟩ := List.any_eq_true.mp hp
      exact absurd ha (eq_of_beq he ▸ hc x hx)
  have hw : c.routeBad w.ch = false := Core.wordBad_of_not_faulty (hc w (by rw [hb]; exact List.mem_cons_self))
  have hf : c.eng.bus.find? (fun w => !c.routeBad w.ch) = some w := by rw [hb, List.find?_cons_of_pos (by simp [hw])]
  have he : c.mapEng (fun e => { e with bus := e.bus.erase w }) = c.mapEng (fun e => { e with bus := l }) := by
    have hl : c.eng.bus.erase w = l := by rw [hb, List.erase_cons_head]
    exact congrArg (fun b => c.mapEng (fun e => { e with bus := b })) hl
  unfold Core.deliver
  rw [if_neg ht]
  dsimp only
  rw [hs, hf]
  dsimp only
  rw [he]

/-- In a tick that the bus withholds, or with every route word poisoned, no word goes out. -/
theorem Core.deliver_held {c : Core} {now : Nat}
    (h : c.tk.withheld = some (tickOf now) ∨ ∀ w ∈ c.eng.bus, routeWord w.ch ∈ c.sram.poison) : c.deliver now = c := by
  unfold Core.deliver
  split
  · rfl
  · next hn =>
    have hp := h.resolve_left hn
    have hs : c.sramFind now (fun a => c.eng.bus.any (fun w => routeWord w.ch == a)) = c :=
      Core.sramFind_eq_self fun a _ ha => by
        obtain ⟨x, hx, he⟩ := List.any_eq_true.mp ha
        exact eq_of_beq he ▸ hp x hx
    have hf : c.eng.bus.find? (fun w => !c.routeBad w.ch) = none :=
      List.find?_eq_none.mpr fun x hx => by simp [Core.routeBad, Core.wordBad_of_poison (hp x hx)]
    simp [hs, hf]

/-! ### Routes that change (09 R305) -/

section
variable {c : Core} {now : Nat} {x : RouteChange} (hx : c.tk.changes = [x])
include hx

theorem Core.routesInForce_due (h : tickOf x.at_ < tickOf now) :
    c.routesInForce now = (c.routeInForce x).mapTk (fun t => { t with changes := [] }) := by
  simp [Core.routesInForce, hx, h]

theorem Core.routesInForce_early (h : tickOf now ≤ tickOf x.at_) : c.routesInForce now = c := by
  have hn : ¬tickOf x.at_ < tickOf now := Nat.not_lt.mpr h
  have hc : c.mapTk (fun t => { t with changes := [x] }) = c := by
    rw [← hx]
    rfl
  simpa [Core.routesInForce, hx, hn] using hc

/-- A quiet point, or one that the bus makes after 256 ticks. -/
theorem Core.routesApply_due (ht : c.ticks = true)
    (hb : c.tk.busTick ≠ some (tickOf now)) (hd : c.busDelivers now = false ∨ tickOf x.at_ + 256 ≤ tickOf now) :
    c.routesApply now = if c.busDelivers now = false then c.routesInForce now
      else (c.routesInForce now).mapTk (fun t => { t with withheld := some (tickOf now) }) := by
  cases hq : c.busDelivers now with
  | false => simp [Core.routesApply, ht, hq]
  | true =>
    have h256 := hd.resolve_left (by simp [hq])
    simp [Core.routesApply, ht, hq, hx, hb, h256]

theorem Core.routesApply_waits (h : c.ticks = false ∨ tickOf now ≤ tickOf x.at_ ∨ c.tk.busTick = some (tickOf now) ∨
    (c.busDelivers now = true ∧ tickOf now < tickOf x.at_ + 256)) : c.routesApply now = c := by
  unfold Core.routesApply
  rcases h with h | h | h | ⟨h, h256⟩
  · simp [h]
  · split
    · rfl
    · split
      · exact Core.routesInForce_early hx h
      · have hn : ¬tickOf x.at_ + 256 ≤ tickOf now := by omega
        simp [hx, hn]
  · have hq : c.busDelivers now = true := by simp [Core.busDelivers, h]
    simp [hq, h]
  · simp [h, hx, Nat.not_le.mpr h256]

end

@[simp] theorem Core.routeInForce_tk (c : Core) (x : RouteChange) : (c.routeInForce x).tk =
    if x.key = 32 then { c.tk with routeEn := x.value }
    else { c.tk with routes := (List.range 32).map (fun r => if r = x.key then x.value else c.tk.routes.getD r 0) } := by
  rw [Core.routeInForce, Core.bump_tk]
  rfl

/-- A change in force shows in its route alone. -/
theorem Core.routeInForce_route (c : Core) (x : RouteChange) {r : Nat} (hr : r < 32) :
    (c.routeInForce x).route r = if r = x.key then x.value.toNat else c.route r := by
  unfold Core.route
  rw [Core.routeInForce_tk]
  split
  · next h => rw [if_neg (by omega)]
  · simp only [List.getD_eq_getElem?_getD, List.getElem?_map, List.getElem?_range hr, Option.map_some,
      Option.getD_some]
    split <;> rfl

theorem Core.routeInForce_routeEn (c : Core) (x : RouteChange) :
    (c.routeInForce x).tk.routeEn = if x.key = 32 then x.value else c.tk.routeEn := by
  rw [Core.routeInForce_tk]
  split <;> rfl

theorem Core.routeInForce_withheld (c : Core) (x : RouteChange) : (c.routeInForce x).tk.withheld = c.tk.withheld := by
  rw [Core.routeInForce_tk]
  split <;> rfl

theorem Core.keeps_routeInForce (c : Core) (x : RouteChange) : c.keeps (c.routeInForce x) [(0x2C42, 0)] := by
  rw [Core.routeInForce, Core.bump_eq]
  exact Core.keeps_put (by decide) rfl

/-- What a change in force shows: nothing waits any more, its route or the enables have its value, it is counted, and
the bus withholds its events where it had to make the quiet point. -/
theorem Core.routesApply_shows {c : Core} {now : Nat} {x : RouteChange} (hx : c.tk.changes = [x]) (ht : c.ticks = true)
    (h : tickOf x.at_ < tickOf now) (hb : c.tk.busTick ≠ some (tickOf now))
    (hd : c.busDelivers now = false ∨ tickOf x.at_ + 256 ≤ tickOf now) :
    (c.routesApply now).tk.changes = [] ∧
    (∀ r, r < 32 → (c.routesApply now).route r = if r = x.key then x.value.toNat else c.route r) ∧
    (c.routesApply now).tk.routeEn = (if x.key = 32 then x.value else c.tk.routeEn) ∧
    (c.routesApply now).tk.withheld = (if c.busDelivers now = false then c.tk.withheld else some (tickOf now)) ∧
    c.keeps (c.routesApply now) [(0x2C42, 0)] := by
  have hroute := fun r (hr : r < 32) => c.routeInForce_route x hr
  have hen := c.routeInForce_routeEn x
  have hwh := c.routeInForce_withheld x
  have hkeep := c.keeps_routeInForce x
  rw [Core.routesApply_due hx ht hb hd, Core.routesInForce_due hx h]
  generalize c.routeInForce x = d at hroute hen hwh hkeep ⊢
  split
  · exact ⟨rfl, hroute, hen, hwh, hkeep⟩
  · exact ⟨rfl, hroute, hen, rfl, hkeep⟩

/-- The first word that is not held decides whether the bus delivers an event. -/
theorem Core.busDelivers_first {c : Core} {w : BusWord} {l : List BusWord} (hb : c.eng.bus = w :: l)
    (hw : c.routeBad w.ch = false) (now : Nat) :
    c.busDelivers now = (c.tk.busTick == some (tickOf now) || w.targets != 0) := by
  have hf : c.eng.bus.find? (fun w => !c.routeBad w.ch) = some w := by rw [hb, List.find?_cons_of_pos (by simp [hw])]
  simp only [Core.busDelivers, hf]

/-- The tick of a delivery to some engine is noted; the bus goes on with what stands behind the word, and each engine
of the word's set has it in its RX or shows it lost. -/
theorem Core.deliver_engines {c : Core} {now : Nat} {w : BusWord} {l : List BusWord}
    (ht : c.tk.withheld ≠ some (tickOf now)) (hb : c.eng.bus = w :: l) (hc : ∀ x ∈ c.eng.bus, routeWord x.ch ∉ c.faulty) :
    (c.deliver now).eng = { c.eng with bus := l } ∧
    (c.deliver now).tk.busTick = (if w.targets = 0 then c.tk.busTick else some (tickOf now)) ∧
    ∀ n, n < 16 → n < c.tk.engs.length → ∃ o,
      (c.deliver now).eng1 n = if w.targets.getLsbD n then
        if (c.eng1 n).rx.length < 8 then { c.eng1 n with snap := o, rx := (c.eng1 n).rx ++ [w.word] }
        else { c.eng1 n with alarmLost := true, lostCh := w.ch }
      else c.eng1 n := by
  rw [Core.deliver_first ht hb hc]
  refine ⟨foldl_leaves Core.eng (fun c n => c.deliverTo_eng now w n) _ _,
    foldl_leaves (fun c : Core => c.tk.busTick) (fun c n => c.deliverTo_busTick now w n) _ _, fun n h16 hn => ?_⟩
  obtain ⟨d, h1, h2, h3⟩ := Core.eng1_foldl_deliverTo now w ((c.mapEng (fun e => { e with bus := l })).mapTk
    (fun t => { t with busTick := (if w.targets = 0 then t.busTick else some (tickOf now)) })) h16
  have he : d.eng1 n = c.eng1 n := h1
  have hlen : n < d.tk.engs.length := hn.trans_eq h2.symm
  rw [h3]
  cases hw : w.targets.getLsbD n with
  | false => exact ⟨none, by rw [Core.deliverTo_none now hw, he]; rfl⟩
  | true =>
    by_cases hr : (c.eng1 n).rx.length < 8
    · obtain ⟨o, ho⟩ := Core.deliverTo_room now hlen hw (he ▸ hr)
      exact ⟨o, by rw [ho, he, if_pos rfl, if_pos hr]⟩
    · exact ⟨none, by rw [Core.deliverTo_full now hlen hw (he ▸ Nat.not_lt.mp hr), he, if_pos rfl, if_neg hr]⟩

/-- Settles O44: a word, a read and a cleared interrupt act on the engines brought to the moment; a delivery acts on each
engine by itself; a changed route is in force at its quiet point alone. -/
theorem tinkerWords : Obligations.TinkerWords := by
  unfold Obligations.TinkerWords
  refine ⟨?_, ?_, ?_, ?_, ?_, ?_, ?_, ?_, fun now _ _ _ hb hw => Core.busDelivers_first hb hw now⟩
  · intro t bar o n w d s hd hm
    subst hd
    obtain ⟨u, hu, hc⟩ := State.run_tkRxWrite (t := t) w hm
    refine ⟨fun h hl => ⟨u, hu, ?_⟩, fun h => ⟨u, hu, ?_⟩⟩
    · rwa [Core.tkRxPush_room h hl] at hc
    · rwa [Core.tkRxPush_over h] at hc
  · intro t o n d s hd
    subst hd
    refine ⟨fun w l h => ?_, fun h => ?_, fun w l h he => ?_⟩
    · obtain ⟨u, hu, ho, hc⟩ := State.run_tkTxRead_bar (t := t) (o := o) (Core.tkTxPop_cons h (s.at_ t))
      exact ⟨u, hu, by rwa [Core.mapEng1_out, Core.tickMark_out] at ho, hc⟩
    · obtain ⟨u, hu, ho, hc⟩ := State.run_tkTxRead_bar (t := t) (o := o) (Core.tkTxPop_nil h (s.at_ t))
      exact ⟨u, hu, by rwa [Core.mapEng1_out] at ho, hc⟩
    · obtain ⟨u, hu, ho, hc⟩ := State.run_tkTxRead_sdo (t := t) (Core.tkTxPop_cons h (s.at_ t)) he
      exact ⟨u, hu, by rwa [Core.mapEng1_out, Core.tickMark_out] at ho, hc⟩
  · intro t mask d s hd
    obtain ⟨u, hu, -, hc, -⟩ := State.run_ends t (fun now c =>
      (c.tkSync now).mapTk (fun k => { k with irq := k.irq &&& ~~~(mask.setWidth 16) })) s
    rw [← hd] at hc
    exact ⟨u, hu, hc⟩
  · intro t w l d s ht hd hwh hb hf
    obtain ⟨u, hu, -, hc, -⟩ := State.run_ends t (fun now c => if c.ticks then (c.tkSync now).deliver now else c) s
    rw [if_pos ht, ← hd] at hc
    obtain ⟨heng, htick, hone⟩ := Core.deliver_engines hwh hb hf
    refine ⟨u, hu, (Core.of_under hc Core.eng).trans heng, (Core.of_under hc (·.tk.busTick)).trans htick,
      fun n h16 hn => ?_⟩
    obtain ⟨o, ho⟩ := hone n h16 hn
    have he := (Core.of_under hc (·.eng1 n)).trans ho
    refine ⟨fun hw hr => ?_, fun hw hr => ?_, fun hw => ?_⟩
    · rw [if_pos hw, if_pos hr] at he
      rw [he]
      exact ⟨rfl, rfl⟩
    · rwa [if_pos hw, if_neg (Nat.not_lt.mpr hr)] at he
    · rwa [if_neg (by simp [hw])] at he
  · intro t s ht
    obtain ⟨u, hu, -, hc, -⟩ := State.run_ends t (fun now c => if c.ticks then (c.tkSync now).deliver now else c) s
    rw [if_neg (by simp [ht])] at hc
    exact ⟨u, hu, hc⟩
  · intro t d s ht hd h
    obtain ⟨u, hu, -, hc, -⟩ := State.run_ends t (fun now c => if c.ticks then (c.tkSync now).deliver now else c) s
    rw [if_pos ht, ← hd, Core.deliver_held h] at hc
    exact ⟨u, hu, hc⟩
  · intro t x s hx ht hlt hb hdue
    obtain ⟨u, hu, -, hc, -⟩ := State.run_ends t (fun now c => c.routesApply now) s
    obtain ⟨hch, hroute, hen, hwh, hkeep⟩ := Core.routesApply_shows hx ht hlt hb hdue
    exact ⟨u, hu, (Core.of_under hc (·.tk.changes)).trans hch,
      fun r hr => (Core.of_under hc (·.route r)).trans (hroute r hr), (Core.of_under hc (·.tk.routeEn)).trans hen,
      (Core.of_under hc (·.tk.withheld)).trans hwh, Core.keeps_under hkeep hc⟩
  · intro t x s hx h
    obtain ⟨u, hu, -, hc, -⟩ := State.run_ends t (fun now c => c.routesApply now) s
    rw [Core.routesApply_waits hx h] at hc
    exact ⟨u, hu, hc⟩

end Sys2Proof.Machine
end

section
namespace Sys2Proof.Machine

/-! ### What an operation of clock synthesis makes of the two PLLs (10 R314 to R326) -/

theorem Core.pll_mapPll {p q : Nat} (hp : p < 2) (hq : q < 2) (f : Pll → Pll) (c : Core) :
    (c.mapPll p f).pll q = if q = p then f (c.pll q) else c.pll q := by
  have h : p = 0 ∨ p = 1 := by omega
  have h' : q = 0 ∨ q = 1 := by omega
  rcases h with rfl | rfl <;> rcases h' with rfl | rfl <;> rfl

theorem Core.pll_of_clk {c d : Core} (h : d.clk = c.clk) (p : Nat) : d.pll p = c.pll p := by
  unfold Core.pll; rw [h]

/-- `d` is `c` after an operation that makes `f p x` of PLL `p` in state `x`, and may hold outputs and end a coast:
REFIN, the active events, the mode, the power record and the configuration in force stand. -/
structure Core.Retuned (f : Nat → Pll → Pll) (c d : Core) : Prop where
  pll : ∀ p, p < 2 → d.pll p = f p (c.pll p)
  refOn : d.clk.refOn = c.clk.refOn
  coastOver : c.clk.coastAt = none → d.clk.coastAt = none
  ev : d.ev = c.ev
  mode : d.mode = c.mode
  pw : d.pw = c.pw
  inForce : ∀ s, s < 256 → d.obj 0x2D02 s = c.obj 0x2D02 s

/-- No PLL changes. -/
abbrev Core.Stilled (c d : Core) : Prop := c.Retuned (fun _ x => x) d

namespace Core.Retuned

theorem refl (c : Core) : c.Stilled c := ⟨fun _ _ => rfl, rfl, id, rfl, rfl, rfl, fun _ _ => rfl⟩

theorem trans {f g : Nat → Pll → Pll} {c d e : Core} (h1 : c.Retuned f d) (h2 : d.Retuned g e) :
    c.Retuned (fun p x => g p (f p x)) e where
  pll p hp := (h2.pll p hp).trans (congrArg (g p) (h1.pll p hp))
  refOn := h2.refOn.trans h1.refOn
  coastOver h := h2.coastOver (h1.coastOver h)
  ev := h2.ev.trans h1.ev
  mode := h2.mode.trans h1.mode
  pw := h2.pw.trans h1.pw
  inForce s hs := (h2.inForce s hs).trans (h1.inForce s hs)

/-- What leaves clock synthesis leaves its PLLs. -/
theorem of_clk {c d : Core} (hk : d.clk = c.clk) (he : d.ev = c.ev) (hm : d.mode = c.mode) (hp : d.pw = c.pw)
    (ho : ∀ s, s < 256 → d.obj 0x2D02 s = c.obj 0x2D02 s) : c.Stilled d :=
  ⟨fun p _ => Core.pll_of_clk hk p, by rw [hk], by rw [hk]; exact id, he, hm, hp, ho⟩

theorem put {i s : Nat} (v : Nat) (hs : s < 256) (hi : i ≠ 0x2D02) (c : Core) : c.Stilled (c.put i s v) :=
  of_clk rfl rfl rfl rfl fun _ hr => c.obj_keep _ _ _ _ _ hs hr fun e => hi (Prod.mk.inj e).1.symm

theorem bumpBy {i s : Nat} (n : Nat) (hs : s < 256) (hi : i ≠ 0x2D02) (c : Core) : c.Stilled (c.bumpBy i s n) := by
  unfold Core.bumpBy
  dsimp only
  split <;> exact put _ hs hi c

theorem raiseTo {i s : Nat} (v : Nat) (hs : s < 256) (hi : i ≠ 0x2D02) (c : Core) : c.Stilled (c.raiseTo i s v) := by
  unfold Core.raiseTo
  split
  · exact put _ hs hi c
  · exact refl c

/-- A change of clock synthesis that is none of its PLLs or of REFIN. -/
theorem mapClk (k : Clk → Clk) (c : Core) (hc : (k c.clk).pllC = c.clk.pllC) (ht : (k c.clk).pllT = c.clk.pllT)
    (hr : (k c.clk).refOn = c.clk.refOn) (ha : c.clk.coastAt = none → (k c.clk).coastAt = none) :
    c.Stilled (c.mapClk k) :=
  ⟨fun p _ => by simp only [Core.pll, Core.mapClk, hc, ht], hr, ha, rfl, rfl, rfl, fun _ _ => rfl⟩

theorem mapPll {p : Nat} (hp : p < 2) (g : Pll → Pll) (c : Core) :
    c.Retuned (fun q x => if q = p then g x else x) (c.mapPll p g) := by
  refine ⟨fun q hq => c.pll_mapPll hp hq g, ?_, ?_, rfl, rfl, rfl, fun _ _ => rfl⟩
  · unfold Core.mapPll Core.mapClk; dsimp only; split <;> rfl
  · unfold Core.mapPll Core.mapClk; dsimp only; split <;> exact id

/-- Each of the PLLs changed. -/
theorem mapBoth (g : Pll → Pll) (c : Core) : c.Retuned (fun _ x => g x) ((c.mapPll 0 g).mapPll 1 g) := by
  have h := (mapPll (p := 0) (by decide) g c).trans (mapPll (p := 1) (by decide) g _)
  refine ⟨fun p hp => (h.pll p hp).trans ?_, h.refOn, h.coastOver, h.ev, h.mode, h.pw, h.inForce⟩
  have hp' : p = 0 ∨ p = 1 := by omega
  rcases hp' with rfl | rfl <;> rfl

/-- Operations on the PLLs, each under its condition, one after another. -/
theorem when {f : Nat → Pll → Pll} {g : Core → Core} (b : Bool) {c : Core} (h : c.Retuned f (g c)) :
    c.Retuned (fun p x => if b then f p x else x) (c.when b g) := by
  cases b
  · exact refl c
  · exact h

theorem of_tested {c d : Core} (h : c.Tested d) : c.Stilled d :=
  of_clk (h.same Core.clk) (h.same Core.ev) (h.same Core.mode) (h.same Core.pw)
    fun s hs => h.obj _ s hs (by decide)

/-! #### Outputs held (10 R319, R328) -/

theorem testCounts (now n : Nat) (c : Core) : c.Stilled (c.testCounts now n) := by
  unfold Core.testCounts
  split
  · exact refl c
  · extract_lets a b sent bits
    have hb : c.Stilled b.2 := of_clk rfl rfl rfl rfl fun _ _ => rfl
    exact ((hb.trans (bumpBy _ (by decide) (by decide) _)).trans (bumpBy _ (by decide) (by decide) _)).trans
      (of_clk rfl rfl rfl rfl fun _ _ => rfl)

theorem testStop (now : Nat) (c : Core) : c.Stilled (c.testStop now) := by
  unfold Core.testStop
  split
  · exact refl c
  · exact (testCounts now _ c).trans (of_clk rfl rfl rfl rfl fun _ _ => rfl)

theorem linksStop (now : Nat) (c : Core) : c.Stilled (c.linksStop now) :=
  (testStop now c).trans (of_clk rfl rfl rfl rfl fun _ _ => rfl)

theorem walksRestart (c : Core) : c.Stilled c.walksRestart := by
  have h := foldl_leaves (fun c : Core => (c.clk, c.ev, c.mode, c.pw, c.dict)) (f := fun c q => c.walkRestart q)
    (fun _ _ => rfl) (List.range 16) c
  simp only [Prod.mk.injEq] at h
  obtain ⟨hk, he, hm, hp, hd⟩ := h
  exact of_clk hk he hm hp fun s _ => congrArg (fun l => sget dfltOf l (key 0x2D02 s)) hd

theorem holdC (c : Core) : c.Stilled c.holdC :=
  ((mapClk _ c rfl rfl rfl id).trans (put _ (by decide) (by decide) _)).trans (walksRestart _)

theorem releaseAll (c : Core) : c.Stilled c.releaseAll :=
  of_tested (Core.Tested.foldl (fun c x => Core.Tested.coastExpo _ x c) _ c)

theorem mapMot (f : Motion → Motion) (c : Core) : c.Stilled (c.mapMot f) := of_clk rfl rfl rfl rfl fun _ _ => rfl

theorem skipUnmade (now : Nat) (c : Core) : c.Stilled (c.skipUnmade now) := of_clk rfl rfl rfl rfl fun _ _ => rfl

theorem holdT (now : Nat) (c : Core) : c.Stilled (c.holdT now) := by
  have h : c.Stilled (((c.markCoasted now).skipUnmade now).releaseAll.linksStop now) :=
    (((of_tested (.markCoasted now c)).trans (skipUnmade now _)).trans (releaseAll _)).trans (linksStop now _)
  unfold Core.holdT
  split
  · exact refl c
  · exact (h.trans (mapMot _ _)).trans (mapClk _ _ rfl rfl rfl id)

theorem holdPll (now p : Nat) (c : Core) : c.Stilled (c.holdPll now p) := by
  unfold Core.holdPll
  split
  · exact holdT now c
  · exact holdC c

/-! #### Relocks, coasts and searches (10 R317, R326) -/

theorem relockOver (p : Nat) (c : Core) : c.Stilled (c.relockOver p) :=
  (mapClk _ c rfl rfl rfl id).trans (put _ (by decide) (by decide) _)

theorem coastEnds (now : Nat) (c : Core) : c.Stilled (c.coastEnds now) := by
  unfold Core.coastEnds
  split
  · exact (raiseTo _ (by decide) (by decide) c).trans (mapClk _ _ rfl rfl rfl fun _ => rfl)
  · exact refl c

end Core.Retuned

theorem Core.coastEnds_over (now : Nat) (c : Core) : (c.coastEnds now).clk.coastAt = none := by
  unfold Core.coastEnds
  split
  · rfl
  · assumption

/-- A PLL at the start of a band search (10 R317). -/
def Pll.restarted (x : Pll) : Pll := { x.search with fails := 0, locked := false }

namespace Core.Retuned

theorem searchStart (now : Nat) {p : Nat} (hp : p < 2) (c : Core) :
    c.Retuned (fun q x => if q = p then x.restarted else x) (c.searchStart now p) := by
  unfold Core.searchStart
  extract_lets d
  have hd : c.Retuned (fun q x => if q = p then x.restarted else x) d :=
    (holdPll now p c).trans (mapPll hp Pll.restarted _)
  exact Core.when_of _ _ d hd (hd.trans (coastEnds now d))

end Core.Retuned

end Sys2Proof.Machine
end

section
namespace Sys2Proof.Machine

/-! ### The commands of clock synthesis: what each runs (10 R314 to R329) -/

section
variable (t : Nat) (p : Bool) (s : State)

theorem exec_pllApply (o : Orig) (v : Byte) : exec (.pllApply t o v) s =
    State.run t (fun now c => c.command now o 0x2D01 4 1 v.toNat c.applyCodes (Core.pllApply now)) s := rfl

theorem exec_pllSearchWindow (ppm : Int) (ok : Bool) : exec (.pllSearchWindow t p ppm ok) s =
    State.run t (fun now c => c.pllWindow now (b2n p) ppm ok) s := rfl

theorem exec_outputRestart : exec (.outputRestart t p) s =
    State.run t (fun now c => c.outputRestart now (b2n p)) s := rfl

theorem exec_pllUnlock : exec (.pllUnlock t p) s = State.run t (fun now c => c.pllUnlock now (b2n p)) s := rfl

theorem exec_refinLost : exec (.refinLost t) s = State.run t (fun now c => c.refinLost now) s := rfl

theorem exec_refinReturn (ppm err : Int) : exec (.refinReturn t ppm err) s =
    State.run t (fun now c => c.refinReturn now ppm err) s := rfl

theorem exec_slewComplete : exec (.slewComplete t p) s = State.run t (fun now c => c.slewDone now (b2n p)) s := rfl

theorem exec_holdoverExpired : exec (.holdoverExpired t) s = State.run t (fun now c => c.holdoverExpires now) s := rfl

theorem exec_pllTRestart : exec (.pllTRestart t) s = State.run t (fun now c => c.tickResume now) s := rfl

theorem exec_fineDelayStep (n : Fin 8) : exec (.fineDelayStep t n) s =
    State.run t (fun _ c => c.fineStep n.val) s := rfl

end

theorem b2n_lt_two (p : Bool) : b2n p < 2 := Nat.lt_succ_of_le (b2n_le_one p)

theorem Core.pll_mapPll_self {p : Nat} (hp : p < 2) (f : Pll → Pll) (c : Core) : (c.mapPll p f).pll p = f (c.pll p) :=
  (c.pll_mapPll hp hp f).trans (if_pos rfl)

theorem Core.pll_logged {c d : Core} (h : c.Logged d) (p : Nat) : d.pll p = c.pll p := Core.pll_of_clk (h.same Core.clk) p

@[simp] theorem Core.bump_clk (i s : Nat) (c : Core) : (c.bump i s).clk = c.clk := by rw [Core.bump_eq]; rfl

/-! ### Apply (10 R314 to R316) -/

theorem Core.writeCodes_apply {c : Core} {o : Orig} {own : List Nat} (hm : c.mayWrite o 0x2D01 4 9) :
    c.writeCodes o 0x2D01 4 (leBytes 1 1) own = own :=
  Core.writeCodes_may (r := row 0x2D01 0x2D01 4 4 .u8 .wo (.val 0) false (.oneOf [1]) 0 false) hm rfl rfl rfl rfl rfl
    (.inl rfl) rfl rfl

theorem Core.applyCodes_none {c : Core} (hm : c.mode = .standby ∨ c.mode = .calibrate ∨ c.applyRelocks = [])
    (hb : c.flag 0x2D01 5 = false) : c.applyCodes = [] := by
  rcases hm with h | h | h <;> simp [Core.applyCodes, reason, h, hb]

theorem Core.applyRelocks_lt {c : Core} {p : Nat} (h : p ∈ c.applyRelocks) : p < 2 := by
  have hp := (List.mem_filter.mp h).1
  simp only [List.mem_cons, List.not_mem_nil, or_false] at hp
  omega

/-- Every object in force takes its shadow's value. -/
theorem Core.shadowsLoad_inForce (c : Core) :
    (∀ k, 1 ≤ k → k ≤ 3 → c.shadowsLoad.obj 0x2D02 k = c.obj 0x2D01 k) ∧
      c.shadowsLoad.obj 0x2D02 4 = c.shadowDividers := by
  refine ⟨fun k h1 h3 => ?_, Core.obj_put_self _ _ _ _⟩
  have hk : k = 1 ∨ k = 2 ∨ k = 3 := by omega
  have hput : ∀ (d : Core) (s v j r : Nat), s < 256 → r < 256 → (j, r) ≠ (0x2D02, s) →
      (d.put 0x2D02 s v).obj j r = d.obj j r := fun d s v j r hs hr h => d.obj_keep _ _ _ _ _ hs hr h
  rcases hk with rfl | rfl | rfl <;> simp [Core.shadowsLoad, hput]

/-- Searches on PLLs, one after another. -/
theorem Core.Retuned.relocks (now : Nat) (l : List Nat) : ∀ (c : Core), (∀ p ∈ l, p < 2) →
    c.Retuned (fun q x => if q ∈ l then x.restarted else x) (l.foldl (fun c p => (c.searchStart now p).mapClk
      (fun k => { k with relock := modAt k.relock p (fun _ => true) })) c) := by
  induction l with
  | nil => exact fun c _ => by simpa using Core.Retuned.refl c
  | cons p l ih =>
    intro c hl
    obtain ⟨hp, hl⟩ := List.forall_mem_cons.mp hl
    have h := ((Core.Retuned.searchStart now hp c).trans (Core.Retuned.mapClk
      (fun k => { k with relock := modAt k.relock p (fun _ => true) }) _ rfl rfl rfl id)).trans (ih _ hl)
    refine { h with pll := fun q hq => (h.pll q hq).trans ?_ }
    have htwice : ∀ x : Pll, x.restarted.restarted = x.restarted := fun _ => rfl
    by_cases hqp : q = p
    · by_cases hql : q ∈ l <;> simp [hqp, htwice]
    · simp [hqp]

/-- An apply puts the shadows in force and starts a search on the PLLs it relocks. -/
theorem Core.pllApply_retuned (now : Nat) (c : Core) :
    c.shadowsLoad.Retuned (fun q x => if q ∈ c.applyRelocks then x.restarted else x) (c.pllApply now) :=
  (Core.Retuned.relocks now _ c.shadowsLoad fun _ h => Core.applyRelocks_lt h).trans
    (.put _ (by decide) (by decide) _)

end Sys2Proof.Machine
end

section
namespace Sys2Proof.Machine

/-! ### Counter windows of a search (10 R317, R318) -/

section
variable {c : Core} {now p : Nat} {ppm : Int} {ok : Bool} (hr : c.clk.refOn = true) (hl : (c.pll p).locked = false)
include hr hl

/-- A window of the search, but for the sixth after which no band is right. -/
theorem Core.pllWindow_steps (h1 : (c.pll p).st = 1)
    (h : ¬ ((c.pll p).step = 5 ∧ (c.pll p).okBand = none ∧ ppm < -500)) :
    c.pllWindow now p ppm ok = c.mapPll p (Pll.searchStep ppm) := by
  have hb : ((c.pll p).step = 5 && (c.pll p).okBand.isNone && ppm < -500) = false := by
    rw [Bool.eq_false_iff]
    simpa [and_assoc] using h
  simp [Core.pllWindow, hr, hl, h1, hb]

/-- The sixth window of a search in which no band was right. -/
theorem Core.pllWindow_noBand (h1 : (c.pll p).st = 1) (h5 : (c.pll p).step = 5) (hb : (c.pll p).okBand = none)
    (hp : ppm < -500) : c.pllWindow now p ppm ok = c.searchFails now p := by
  simp [Core.pllWindow, hr, hl, h1, h5, hb, hp]

/-- The first lock window on a band that no window has measured yet. -/
theorem Core.pllWindow_guess (h2 : (c.pll p).st = 2) (hg : (c.pll p).guess = true) : c.pllWindow now p ppm ok =
    if ppmOk ppm then c.mapPll p (fun x => { x with guess := false, good := 1 }) else c.searchFails now p := by
  simp [Core.pllWindow, hr, hl, h2, hg]

/-- A lock window on a band that is found. -/
theorem Core.pllWindow_lock (h2 : (c.pll p).st = 2) (hg : (c.pll p).guess = false) : c.pllWindow now p ppm ok =
    if !ppmOk ppm then c.mapPll p (fun x => { x with good := 0 })
    else if (c.pll p).good = 0 || !ok then c.mapPll p (fun x => { x with good := 1 })
    else c.mapPll p (fun x => { x with good := 2, locked := true }) := by
  simp [Core.pllWindow, hr, hl, h2, hg]

end

theorem Pll.searchStep_within {x : Pll} (h : x.step < 5) (ppm : Int) : x.searchStep ppm = { x with
    step := x.step + 1, band := bandNext x.step ppm x.band, okBand := if ppmOk ppm then some x.band else x.okBand } := by
  simp [Pll.searchStep, h]

/-- The sixth window leaves a band that a window has found right. -/
theorem Pll.searchStep_found {x : Pll} {ppm : Int} {b : Nat} (h : x.step = 5)
    (hb : (if ppmOk ppm then some x.band else x.okBand) = some b) :
    x.searchStep ppm = { x with st := 2, step := 0, band := b, good := 0, okBand := none } := by
  simp only [Pll.searchStep, h, hb, Nat.lt_irrefl, if_false]

theorem ppmOk_fast {ppm : Int} (h : 500 < ppm) : ppmOk ppm = false := by
  simp only [ppmOk, Bool.and_eq_false_iff, decide_eq_false_iff_not]
  omega

theorem ppmOk_slow {ppm : Int} (h : ppm < -500) : ppmOk ppm = false := by
  simp only [ppmOk, Bool.and_eq_false_iff, decide_eq_false_iff_not]
  omega

/-- Where the output ran too fast in the sixth window, the band below is left, which no window has measured. -/
theorem Pll.searchStep_below {x : Pll} {ppm : Int} (h : x.step = 5) (hp : 500 < ppm) (hb : x.okBand = none) :
    x.searchStep ppm = { x with st := 2, step := 0, band := x.band - 1, good := 0, guess := true } := by
  have h0 : 0 < ppm := by omega
  simp [Pll.searchStep, h, hb, ppmOk_fast hp, h0, bandNext]

/-- A search that fails begins again, twice. -/
theorem Core.searchFails_again {c : Core} {p : Nat} (h : (c.pll p).fails < 2) (now : Nat) :
    c.searchFails now p = c.mapPll p (fun x => { x.search with fails := x.fails + 1 }) := if_pos h

/-- An event of class 2 or 3 is active, for the unit that its data name. -/
theorem Core.event_active {c : Core} (now : Nat) {code : Nat} (seg : Nat) (tail : List Byte) (hm : c.mode ≠ .compline)
    (hc : 2 ≤ evClass code) : (c.event now code seg tail).active code (leAt tail 0 1) = true := by
  unfold Core.active Core.event
  rw [Core.eventRaw_active _ _ _ _ _ hm hc]
  simp

theorem leAt_pll {p : Nat} (hp : p < 2) : leAt (leBytes 1 p) 0 1 = p := by
  have hp' : p = 0 ∨ p = 1 := by omega
  rcases hp' with rfl | rfl <;> rfl

/-- A PLL in FAULT (10 R318). -/
def Pll.faults (x : Pll) : Pll := { x with st := 6, step := 0, fails := 0, guess := false }

/-- The third search that fails ends in FAULT, and the fault is shown. -/
theorem Core.searchFails_fault {c : Core} {p : Nat} (hp : p < 2) (h : 2 ≤ (c.pll p).fails) (now : Nat) :
    (c.searchFails now p).pll p = (c.pll p).faults ∧
      (c.mode ≠ .compline → (c.searchFails now p).active 0x5063 p = true) := by
  have hf : c.searchFails now p = ((c.mapPll p Pll.faults).event now 0x5063 0xFF (leBytes 1 p)).relockOver p :=
    if_neg (Nat.not_lt.mpr h)
  rw [hf]
  constructor
  · rw [(Core.Retuned.relockOver p _).pll p hp, Core.pll_logged (.event _ _ _ _), Core.pll_mapPll_self hp]
  · intro hm
    have he := Core.event_active (c := c.mapPll p Pll.faults) (code := 0x5063) now 0xFF (leBytes 1 p) hm (by decide)
    rw [leAt_pll hp] at he
    exact (Core.active_of_ev (Core.Retuned.relockOver p _).ev _ _).trans he

/-- A counter window that makes `g` of its PLL. -/
theorem State.run_pllWindow {t : Nat} {p : Bool} {ppm : Int} {ok : Bool} {s : State} {g : Pll → Pll}
    (h : s.core.pllWindow (s.at_ t) (b2n p) ppm ok = s.core.mapPll (b2n p) g) :
    ∃ u, exec (.pllSearchWindow t p ppm ok) s = .next u ∧ u.core.pll (b2n p) = g (s.core.pll (b2n p)) := by
  obtain ⟨u, hu, -, hc, -⟩ := State.run_ends t (fun now c => c.pllWindow now (b2n p) ppm ok) s
  rw [h] at hc
  exact ⟨u, hu, (Core.of_under hc (·.pll (b2n p))).trans (Core.pll_mapPll_self (b2n_lt_two p) _ _)⟩

section
variable {t : Nat} {p : Bool} {ppm : Int} {ok : Bool} {s : State}
  (h : s.core.pllWindow (s.at_ t) (b2n p) ppm ok = s.core.searchFails (s.at_ t) (b2n p))
include h

/-- A counter window after which the search is repeated. -/
theorem State.run_searchFails_again (hf : (s.core.pll (b2n p)).fails < 2) :
    ∃ u, exec (.pllSearchWindow t p ppm ok) s = .next u ∧ u.core.pll (b2n p) =
      { (s.core.pll (b2n p)).search with fails := (s.core.pll (b2n p)).fails + 1 } :=
  State.run_pllWindow (h.trans (Core.searchFails_again hf _))

/-- A counter window after which the PLL stands in FAULT. -/
theorem State.run_searchFails_fault (hf : 2 ≤ (s.core.pll (b2n p)).fails) :
    ∃ u, exec (.pllSearchWindow t p ppm ok) s = .next u ∧ u.core.pll (b2n p) =
        (s.core.pll (b2n p)).faults ∧
      (s.core.mode ≠ .compline → u.core.active 0x5063 (b2n p) = true) := by
  obtain ⟨u, hu, -, hc, -⟩ := State.run_ends t (fun now c => c.pllWindow now (b2n p) ppm ok) s
  rw [h] at hc
  obtain ⟨hp, ha⟩ := Core.searchFails_fault (b2n_lt_two p) hf (s.at_ t)
  exact ⟨u, hu, (Core.of_under hc (·.pll (b2n p))).trans hp, fun hm =>
    (Core.of_under hc (·.active 0x5063 (b2n p))).trans (ha hm)⟩

end

end Sys2Proof.Machine
end

section
namespace Sys2Proof.Machine

/-! ### Outputs that start (10 R315, R319, R321, R328) -/

theorem Core.startEdge_congr {c d : Core} (ho : d.obj 0x2D02 1 = c.obj 0x2D02 1) (he : d.clk.refEdge = c.clk.refEdge)
    (hr : d.clk.divRise = c.clk.divRise) (now : Nat) : d.startEdge now = c.startEdge now := by
  unfold Core.startEdge
  rw [ho, he, hr]

theorem Core.segOn_congr {c d : Core} (h : d.obj 0x2201 0 = c.obj 0x2201 0) (n : Nat) : d.segOn n = c.segOn n :=
  congrArg (Nat.testBit · n) h

theorem Core.condOff_inactive (c : Core) (code unit : Nat) : (c.condOff code unit).active code unit = false := by
  unfold Core.active
  rw [Core.condOff_active]
  simp

/-- A PLL whose outputs start: it is locked (10 R319). -/
def Pll.locks (x : Pll) : Pll := { x with st := 3, good := 0, locked := false }

/-- PLL `p` is locked, its alarm cleared: what the start of its outputs begins with. -/
def Core.lockTaken (p : Nat) (c : Core) : Core :=
  (((c.mapPll p Pll.locks).bump 0x2D03 6).condOff 0x5060 p).relockOver p

/-- But for the PLLs and the relock flags clock synthesis stands. -/
theorem Core.lockTaken_clk (p : Nat) (c : Core) : (c.lockTaken p).clk.refEdge = c.clk.refEdge ∧
    (c.lockTaken p).clk.divRise = c.clk.divRise ∧ (c.lockTaken p).clk.segs = c.clk.segs := by
  have h := (Core.Logged.condOff (c := (c.mapPll p Pll.locks).bump 0x2D03 6) 0x5060 p).same Core.clk
  rw [Core.bump_clk] at h
  unfold Core.lockTaken Core.relockOver Core.relockFlag
  simp only [Core.put_clk, Core.mapClk_clk, h]
  unfold Core.mapPll
  split <;> simp only [Core.mapClk_clk, and_self]

/-- An object that neither PLLs nor events change. -/
theorem Core.lockTaken_obj (p : Nat) (c : Core) {i s : Nat} (hs : s < 256) (h1 : i ≠ 0x2D01) (h2 : i ≠ 0x2D03)
    (h3 : i ≠ 0x3200) : (c.lockTaken p).obj i s = c.obj i s := by
  have hne : ∀ {j r : Nat}, i ≠ j → (i, s) ≠ (j, r) := fun h e => h (Prod.mk.inj e).1
  have hb : ((c.mapPll p Pll.locks).bump 0x2D03 6).obj i s = c.obj i s :=
    Core.obj_bumpBy_keep _ _ _ _ _ _ (by decide) hs (hne h2)
  unfold Core.lockTaken Core.relockOver Core.relockFlag
  rw [Core.obj_keep _ _ _ _ _ _ (by decide) hs (hne h1), Core.mapClk_obj, (Core.Logged.condOff _ _).obj i s hs h3, hb]

theorem Core.lockTaken_inactive (p : Nat) (c : Core) : (c.lockTaken p).active 0x5060 p = false :=
  (Core.active_of_ev (Core.Retuned.relockOver p _).ev _ _).trans (Core.condOff_inactive _ _ _)

theorem Core.lockTaken_pll {p : Nat} (hp : p < 2) (c : Core) : ((c.lockTaken p).pll p).st = 3 := by
  unfold Core.lockTaken
  rw [(Core.Retuned.relockOver p _).pll p hp, Core.pll_logged (.condOff _ _), Core.pll_of_clk (Core.bump_clk _ _ _),
    Core.pll_mapPll_self hp]
  rfl

theorem Core.lockTaken_startEdge (p : Nat) (c : Core) (now : Nat) :
    (c.lockTaken p).startEdge now = c.startEdge now := by
  obtain ⟨hedge, hrise, -⟩ := c.lockTaken_clk p
  exact Core.startEdge_congr (c.lockTaken_obj p (by decide) (by decide) (by decide) (by decide)) hedge hrise now

theorem Core.outputStart_pllT (now : Nat) (c : Core) : c.outputStart now 1 =
    (((c.lockTaken 1).fresh.2.put 0x2D20 3 (650 + (c.lockTaken 1).fresh.1 % 501)).mapClk
      (fun k => { k with tickEdge := (c.lockTaken 1).startEdge now })) := by
  unfold Core.outputStart
  exact if_pos rfl

theorem Core.outputStart_pllC (now : Nat) (c : Core) : c.outputStart now 0 = (c.lockTaken 0).startC now := by
  unfold Core.outputStart
  exact if_neg (by decide)

/-- The index of a tick counted from the restart: 10 in each period of REFIN (10 R321). -/
theorem Core.tickIndex_refin {c : Core} {a : Nat} (h : c.clk.tickEdge = a) (k : Nat) :
    c.tickIndex (a + 40 * k) = 10 * k := by
  unfold Core.tickIndex
  rw [h]
  omega

theorem Core.startC_eq (now : Nat) (c : Core) : ∃ a, c.startC now = { (c.mapClk (fun k => { k with
    segs := k.segs.zipIdx.map (fun s => if c.segOn s.2 then
      { s.1 with held := false, lastEnd := some (c.startEdge now) } else s.1) })).put 0x2D13 0 (c.obj 0x2201 0) with
    calAt := a } := by
  unfold Core.startC
  dsimp only
  split
  · exact ⟨_, rfl⟩
  · exact ⟨_, rfl⟩

/-- The start of the clocks: those of the enabled segments run, and the mask shows them. -/
theorem Core.startC_runs (now : Nat) (c : Core) :
    (c.startC now).clk.pllC = c.clk.pllC ∧ (c.startC now).ev = c.ev ∧
      (c.startC now).obj 0x2D13 0 = c.obj 0x2201 0 ∧
      ∀ (n : Nat) (k : ClkHold), c.clk.segs[n]? = some k → c.segOn n = true →
        (c.startC now).clk.segs[n]? = some { k with held := false, lastEnd := some (c.startEdge now) } := by
  obtain ⟨a, h⟩ := c.startC_eq now
  rw [h]
  exact ⟨rfl, rfl, Core.obj_put_self _ _ _ _, fun n k hk hn => by simp [hk, hn]⟩

/-- PLL-T locked: its ticks count from the REFIN edge, within the offset of 10 R321, the alarm cleared. -/
theorem Core.outputStart_ticks (now : Nat) (c : Core) :
    (c.outputStart now 1).clk.pllT.st = 3 ∧ (c.outputStart now 1).clk.tickEdge = c.startEdge now ∧
      650 ≤ (c.outputStart now 1).obj 0x2D20 3 ∧ (c.outputStart now 1).obj 0x2D20 3 ≤ 1150 ∧
      (c.outputStart now 1).active 0x5060 1 = false := by
  have hoff : (c.outputStart now 1).obj 0x2D20 3 = 650 + (c.lockTaken 1).fresh.1 % 501 := by
    rw [Core.outputStart_pllT, Core.mapClk_obj, Core.obj_put_self]
  have hclk : (c.outputStart now 1).clk = { (c.lockTaken 1).clk with tickEdge := (c.lockTaken 1).startEdge now } := by
    rw [Core.outputStart_pllT, Core.mapClk_clk, Core.put_clk]
    rfl
  have hev : (c.outputStart now 1).ev = (c.lockTaken 1).ev := by
    rw [Core.outputStart_pllT, Core.mapClk_ev, Core.put_ev]
    rfl
  refine ⟨?_, ?_, by omega, by omega, (Core.active_of_ev hev _ _).trans (c.lockTaken_inactive 1)⟩
  · rw [hclk]
    exact c.lockTaken_pll (p := 1) (by decide)
  · rw [hclk]
    exact c.lockTaken_startEdge 1 now

/-- PLL-C locked: the clocks of the enabled segments run from the REFIN edge, the alarm cleared. -/
theorem Core.outputStart_clocks (now : Nat) (c : Core) :
    (c.outputStart now 0).clk.pllC.st = 3 ∧ (c.outputStart now 0).obj 0x2D13 0 = c.obj 0x2201 0 ∧
      (c.outputStart now 0).active 0x5060 0 = false ∧
      ∀ (n : Nat) (k : ClkHold), c.clk.segs[n]? = some k → c.segOn n = true →
        (c.outputStart now 0).clk.segs[n]? = some { k with held := false, lastEnd := some (c.startEdge now) } := by
  have hen : (c.lockTaken 0).obj 0x2201 0 = c.obj 0x2201 0 :=
    c.lockTaken_obj 0 (by decide) (by decide) (by decide) (by decide)
  obtain ⟨-, -, hseg⟩ := c.lockTaken_clk 0
  obtain ⟨hpll, hev, hmask, hsegs⟩ := (c.lockTaken 0).startC_runs now
  rw [Core.outputStart_pllC]
  refine ⟨(congrArg Pll.st hpll).trans (c.lockTaken_pll (p := 0) (by decide)), hmask.trans hen,
    (Core.active_of_ev hev _ _).trans (c.lockTaken_inactive 0), fun n k hk hn => ?_⟩
  rw [hsegs n k ((congrArg (·[n]?) hseg).trans hk) ((Core.segOn_congr hen n).trans hn),
    c.lockTaken_startEdge]

/-- A lock declared while REFIN is present starts the outputs. -/
theorem Core.outputRestart_due {c : Core} {p : Nat} (h2 : (c.pll p).st = 2) (hl : (c.pll p).locked = true)
    (hr : c.clk.refOn = true) (now : Nat) : c.outputRestart now p = c.outputStart now p := by
  simp [Core.outputRestart, h2, hl, hr]

end Sys2Proof.Machine
end

section
namespace Sys2Proof.Machine

/-! ### Loss of lock and of REFIN (10 R320, R323 to R326) -/

/-- A PLL that leaves its window begins a search, and the loss is shown. -/
theorem Core.pllUnlock_searches {c : Core} {p : Nat} (hp : p < 2) (h : (c.pll p).st = 3 ∨ (c.pll p).st = 5) (now : Nat) :
    (c.pllUnlock now p).pll p = (c.pll p).restarted ∧
      (c.mode ≠ .compline → (c.pllUnlock now p).active 0x5060 p = true) := by
  have hu : c.pllUnlock now p = ((c.bump 0x2D03 2).condOn now 0x5060 0xFF p (leBytes 1 p)).searchStart now p := by
    refine if_neg ?_
    omega
  have hs := Core.Retuned.searchStart now hp ((c.bump 0x2D03 2).condOn now 0x5060 0xFF p (leBytes 1 p))
  rw [hu]
  constructor
  · rw [hs.pll p hp, if_pos rfl, Core.pll_logged (.condOn _ _ _ _ _), Core.pll_of_clk (Core.bump_clk _ _ c)]
  · intro hm
    rw [Core.active_of_ev hs.ev]
    refine Core.condOn_active _ _ _ _ ?_ (by decide)
    rw [Core.bump_eq]
    exact hm

/-- A PLL without REFIN: locked or slewing, it coasts (10 R323). -/
def Pll.coasts (x : Pll) : Pll := if x.st = 3 ∨ x.st = 5 then { x with st := 4 } else x

/-- Clock synthesis without REFIN. -/
def Core.refStopped (now : Nat) (c : Core) : Core :=
  ((((c.mapClk (fun k => { k with refLost := true })).mapClk (fun k => { k with refOn := false })).mapPll 0
    Pll.coasts).mapPll 1 Pll.coasts).mapClk (fun k => { k with
      coastAt := if k.pllC.st == 4 || k.pllT.st == 4 then some now else none })

theorem Core.refinLost_on {c : Core} (hr : c.clk.refOn = true) (now : Nat) : c.refinLost now =
    (((c.refStopped now).bump 0x2D03 1).condOn now 0x5061 0xFF 0 []).ecatStops now := by
  have h : (!(c.mapClk (fun k => { k with refLost := true })).clk.refOn) = false := by simp [Core.mapClk, hr]
  unfold Core.refinLost
  dsimp only
  rw [h]
  rfl

theorem Core.refStopped_pll {p : Nat} (hp : p < 2) (now : Nat) (c : Core) :
    (c.refStopped now).pll p = (c.pll p).coasts :=
  (Core.Retuned.mapBoth Pll.coasts
    ((c.mapClk (fun k => { k with refLost := true })).mapClk (fun k => { k with refOn := false }))).pll p hp

theorem Core.refStopped_obj (now : Nat) (c : Core) (i s : Nat) : (c.refStopped now).obj i s = c.obj i s := by
  simp only [Core.refStopped, Core.mapPll, Core.mapClk_obj]

theorem Core.refStopped_mode (now : Nat) (c : Core) : (c.refStopped now).mode = c.mode := by
  simp only [Core.refStopped, Core.mapPll, Core.mapClk_mode]

theorem Core.refStopped_refOn (now : Nat) (c : Core) : (c.refStopped now).clk.refOn = false :=
  (Core.Retuned.mapBoth Pll.coasts
    ((c.mapClk (fun k => { k with refLost := true })).mapClk (fun k => { k with refOn := false }))).refOn

/-- The end of DC in sync, an event of class 1: clock synthesis, the active events and all objects but those of 3200h
stand. -/
theorem Core.ecatStops_leaves (now : Nat) (c : Core) : (c.ecatStops now).clk = c.clk ∧
    (c.ecatStops now).ev.active = c.ev.active ∧
    ∀ i s, s < 256 → i ≠ 0x3200 → (c.ecatStops now).obj i s = c.obj i s := by
  have hlog : (c.mapEc (fun e => { e with dcInSync := false })).Logged
      ((c.mapEc (fun e => { e with dcInSync := false })).event now 0x0126 0xFF []) := .event _ _ _ _
  unfold Core.ecatStops
  cases c.ec.dcInSync
  · exact ⟨rfl, rfl, fun _ _ _ _ => rfl⟩
  · exact ⟨hlog.same Core.clk, Core.eventRaw_informs _ _ _ _ _ (by decide), hlog.obj⟩

/-- REFIN is lost: each PLL coasts that was locked or slewing; the loss is counted and shown. -/
theorem Core.refinLost_coasts {c : Core} (hr : c.clk.refOn = true) (now : Nat) :
    (c.refinLost now).clk.refOn = false ∧ (∀ p, p < 2 → (c.refinLost now).pll p = (c.pll p).coasts) ∧
      (c.refinLost now).obj 0x2D03 1 = (c.bump 0x2D03 1).obj 0x2D03 1 ∧
      (c.mode ≠ .compline → (c.refinLost now).active 0x5061 0 = true) := by
  have hlog : ((c.refStopped now).bump 0x2D03 1).Logged
      (((c.refStopped now).bump 0x2D03 1).condOn now 0x5061 0xFF 0 []) := .condOn _ _ _ _ _
  obtain ⟨hk, ha, ho⟩ := (((c.refStopped now).bump 0x2D03 1).condOn now 0x5061 0xFF 0 []).ecatStops_leaves now
  have hclk := (hk.trans (hlog.same Core.clk)).trans (Core.bump_clk _ _ _)
  rw [Core.refinLost_on hr]
  refine ⟨?_, fun p hp => ?_, ?_, fun hm => ?_⟩
  · rw [hclk, Core.refStopped_refOn]
  · rw [Core.pll_of_clk hclk, Core.refStopped_pll hp]
  · rw [ho _ _ (by decide) (by decide), hlog.obj _ _ (by decide) (by decide)]
    exact Core.obj_bump_congr (c.refStopped_obj now _ _)
  · refine (congrArg (·.contains (0x5061, 0)) ha).trans (Core.condOn_active _ _ _ _ ?_ (by decide))
    rw [Core.bump_eq, Core.put_mode, Core.refStopped_mode]
    exact hm

namespace Core.Retuned

theorem blocksOn {f : Nat → Pll → Pll} {c d : Core} (h : c.Retuned f d) : d.blocksOn = c.blocksOn := by
  unfold Core.blocksOn
  rw [h.mode, h.pw]

/-- A search where the PLL is off and the blocks are on. -/
theorem searchOff (now : Nat) {p : Nat} (hp : p < 2) (c : Core) :
    c.Retuned (fun q x => if q = p ∧ x.st = 0 ∧ c.blocksOn = true then x.restarted else x)
      (c.when ((c.pll p).st == 0 && c.blocksOn) (Core.searchStart now p)) := by
  have h := when ((c.pll p).st == 0 && c.blocksOn) (searchStart now hp c)
  refine { h with pll := fun q hq => (h.pll q hq).trans ?_ }
  by_cases hqp : q = p
  · subst hqp
    by_cases hs : (c.pll q).st = 0 <;> simp [hs]
  · simp [hqp]

/-- A search on every PLL that is off, while the blocks are on. -/
theorem searchesOff (now : Nat) (c : Core) :
    c.Retuned (fun _ x => if x.st = 0 ∧ c.blocksOn = true then x.restarted else x)
      ([0, 1].foldl (fun c p => c.when ((c.pll p).st == 0 && c.blocksOn) (Core.searchStart now p)) c) := by
  have h0 := searchOff now (p := 0) (by decide) c
  have h := h0.trans (searchOff now (p := 1) (by decide) _)
  refine { h with pll := fun q hq => (h.pll q hq).trans ?_ }
  rw [h0.blocksOn]
  have hq' : q = 0 ∨ q = 1 := by omega
  rcases hq' with rfl | rfl <;> simp

theorem outputsFollow (now : Nat) (c : Core) : c.Stilled (c.outputsFollow now) := by
  unfold Core.outputsFollow
  split
  · exact refl c
  · exact (mapClk _ c rfl rfl rfl id).trans (put _ (by decide) (by decide) _)

end Core.Retuned

/-- A PLL with REFIN back: where it coasted, it slews (10 R325). -/
def Pll.slews (x : Pll) : Pll := if x.st = 4 then { x with st := 5 } else x

/-- REFIN's edges are seen again. -/
def Core.refSeen (now : Nat) (c : Core) : Core :=
  ((c.mapClk (fun k => { k with refLost := false })).refPhase now false).mapClk (fun k => { k with refOn := true })

theorem Core.refSeen_pll (now p : Nat) (c : Core) : (c.refSeen now).pll p = c.pll p := by
  simp only [Core.pll, Core.refSeen, Core.refPhase, Core.fresh, Core.mapClk_clk]

theorem Core.refSeen_blocksOn (now : Nat) (c : Core) : (c.refSeen now).blocksOn = c.blocksOn := by
  simp only [Core.blocksOn, Core.refSeen, Core.refPhase, Core.fresh, Core.mapClk_mode, Core.mapClk_pw]

/-- REFIN back within its range: REFIN is present, its loss ceases, each coasting PLL slews, and each that was off
searches while the blocks are on. -/
theorem Core.refinReturn_back {c : Core} {ppm : Int} (hl : c.clk.refLost = true) (hf : c.pw.fwRuns = true)
    (hp : ppmOk ppm = true) (now : Nat) (err : Int) :
    (c.refinReturn now ppm err).clk.refOn = true ∧ (c.refinReturn now ppm err).active 0x5061 0 = false ∧
      ∀ p, p < 2 → (c.refinReturn now ppm err).pll p =
        if (c.pll p).slews.st = 0 ∧ c.blocksOn = true then (c.pll p).slews.restarted else (c.pll p).slews := by
  unfold Core.refinReturn
  rw [if_neg (by simp [hl]), if_neg (by simp [hf]), if_neg (by simp [hp])]
  extract_lets a h er coasts b d back e f
  have hb : (c.refSeen now).Stilled b := .coastEnds now (c.refSeen now)
  have hd : b.Stilled d := Core.when_of (P := fun x => b.Stilled x) _ _ b (.refl b)
    ((Core.Retuned.put _ (by decide) (by decide) b).trans (.mapClk _ _ rfl rfl rfl id))
  have he : (c.refSeen now).Retuned (fun _ x => x.slews) e := (hb.trans hd).trans (.mapBoth Pll.slews d)
  have hall := he.trans ((Core.Retuned.searchesOff now e).trans (.outputsFollow now f))
  have hk := (Core.Logged.condOff (c := f.outputsFollow now) 0x5061 0).same Core.clk
  refine ⟨?_, Core.condOff_inactive _ _ _, fun p hq => ?_⟩
  · rw [hk, hall.refOn]
    rfl
  · rw [Core.pll_of_clk hk, hall.pll p hq, he.blocksOn, Core.refSeen_blocksOn, Core.refSeen_pll]

end Sys2Proof.Machine
end

section
namespace Sys2Proof.Machine

/-! ### Slews and coasts that end (10 R325, R326) -/

/-- A slew whose time is over ends in lock, the loss of lock no longer shown. -/
theorem Core.slewDone_locks {c : Core} {now p : Nat} (hp : p < 2) (h : (c.pll p).st = 5)
    (ht : c.clk.slewAt + 10 * c.clk.phaseErr.natAbs ≤ now) :
    ((c.slewDone now p).pll p).st = 3 ∧ (c.slewDone now p).active 0x5060 p = false := by
  have hd : c.slewDone now p = (c.mapPll p (fun x => { x with st := 3 })).condOff 0x5060 p := by
    simp [Core.slewDone, h, ht]
  rw [hd]
  refine ⟨?_, Core.condOff_inactive _ _ _⟩
  rw [Core.pll_logged (.condOff _ _), Core.pll_mapPll_self hp]

/-- A PLL at the end of the holdover: where it coasted, it is off (10 R326). -/
def Pll.expires (x : Pll) : Pll := if x.st = 4 then { x with st := 0 } else x

theorem Core.holdoverExpires_due {c : Core} {now a : Nat} (ha : c.clk.coastAt = some a)
    (ht : a + c.obj 0x2D04 1 * 1000 ≤ now) (hs : c.clk.pllC.st = 4 ∨ c.clk.pllT.st = 4) : c.holdoverExpires now =
    ((((((c.coastEnds now).bump 0x2D03 3).event now 0x5062 0xFF []).holdPll now 0).holdPll now 1).mapPll 0
      Pll.expires).mapPll 1 Pll.expires := by
  have h : (now < a + c.obj 0x2D04 1 * 1000 || (c.clk.pllC.st != 4 && c.clk.pllT.st != 4)) = false := by
    rcases hs with hs | hs <;> simp [hs, ht]
  unfold Core.holdoverExpires
  rw [ha]
  simp only [h]
  rfl

/-- Holdover expires: no PLL coasts any more, each that did is off, and the expiry is shown. -/
theorem Core.holdoverExpires_off {c : Core} {now a : Nat} (ha : c.clk.coastAt = some a)
    (ht : a + c.obj 0x2D04 1 * 1000 ≤ now) (hs : c.clk.pllC.st = 4 ∨ c.clk.pllT.st = 4) :
    (c.holdoverExpires now).clk.coastAt = none ∧
      (∀ p, p < 2 → (c.holdoverExpires now).pll p = (c.pll p).expires) ∧
      (c.mode ≠ .compline → (c.holdoverExpires now).active 0x5062 0 = true) := by
  have hco := Core.Retuned.coastEnds now c
  have hlog : ((c.coastEnds now).bump 0x2D03 3).Logged (((c.coastEnds now).bump 0x2D03 3).event now 0x5062 0xFF []) :=
    .event _ _ _ _
  have hclk := (hlog.same Core.clk).trans (Core.bump_clk _ _ _)
  have hall := ((Core.Retuned.holdPll now 0 (((c.coastEnds now).bump 0x2D03 3).event now 0x5062 0xFF [])).trans
    (.holdPll now 1 _)).trans (.mapBoth Pll.expires _)
  rw [Core.holdoverExpires_due ha ht hs]
  refine ⟨hall.coastOver ?_, fun p hp => ?_, fun hm => ?_⟩
  · rw [hclk, Core.coastEnds_over]
  · rw [hall.pll p hp, Core.pll_of_clk hclk, hco.pll p hp]
  · rw [Core.active_of_ev hall.ev]
    refine Core.event_active now 0xFF [] ?_ (by decide)
    rw [Core.bump_eq, Core.put_mode, hco.mode]
    exact hm

end Sys2Proof.Machine
end

section
namespace Sys2Proof.Machine

/-! ### Ticks that occur again (09 R297, 10 R327) -/

/-- The first tick after a hold of PLL-T that ends at `now`. -/
def Core.firstTick (now : Nat) (c : Core) : Nat := max (tickUp now) c.clk.tickEdge

/-- Ticks occur again, and the engines resume. -/
def Core.enginesBack (now : Nat) (c : Core) : Core :=
  ((c.tkSync now).mapTk (fun t => { t with engs := t.engs.map (Tk.resume c.clk.heldAt (c.firstTick now)) })).mapClk
    (fun k => { k with tHeld := false })

/-- Ticks occur again, and DC time is loaded anew where it runs. -/
def Core.ticksBack (now : Nat) (c : Core) : Core :=
  (c.enginesBack now).when (c.enginesBack now).ec.dcRunning (Core.dcLoad (c.firstTick now))

theorem Core.skipTimed_leaves {α : Type} (g : Core → α) (hg : ∀ f c, g (Core.mapMot f c) = g c) (now k : Nat) (c : Core) :
    g (c.skipTimed now k) = g c := by
  induction k generalizing c with
  | zero => rfl
  | succ k ih =>
    unfold Core.skipTimed
    extract_lets q base last d
    split
    · rfl
    · rw [ih, Core.when_of (P := fun e => g e = g d) _ _ d rfl (hg _ d)]
      exact (hg _ _).trans (hg _ c)

/-- What looks at neither the sequencer, the alarm bus nor the active events sees no more of a resumption than that. -/
theorem Core.tickResume_ticksBack {α : Type} {g : Core → α} (hbus : BusBlind g)
    (hmot : ∀ f c, g (Core.mapMot f c) = g c) (hoff : ∀ code unit c, g (Core.condOff code unit c) = g c) {c : Core}
    (hh : c.clk.tHeld = true) (h3 : c.clk.pllT.st = 3) (now : Nat) : g (c.tickResume now) = g (c.ticksBack now) := by
  unfold Core.tickResume
  rw [if_neg (by simp [hh, h3])]
  extract_lets first d e f
  have hf : g f = g e := by
    unfold f
    split
    · exact (hmot _ _).trans (Core.skipTimed_leaves g hmot _ _ e)
    · split
      · exact (hmot _ _).trans ((hoff _ _ _).trans (hoff _ _ e))
      · exact hmot _ e
  exact (hbus.alarmsFollow now f).trans hf

theorem Core.tickResume_clk {c : Core} (hh : c.clk.tHeld = true) (h3 : c.clk.pllT.st = 3) (now : Nat) :
    (c.tickResume now).clk = (c.ticksBack now).clk :=
  Core.tickResume_ticksBack (g := Core.clk) ⟨fun _ _ => rfl, fun _ _ => rfl, fun _ _ => rfl, Core.bump_clk _ _⟩
    (fun _ _ => rfl) (fun _ _ _ => (Core.Logged.condOff _ _).same Core.clk) hh h3 now

theorem Core.tickResume_tk {c : Core} (hh : c.clk.tHeld = true) (h3 : c.clk.pllT.st = 3) (now : Nat) :
    (c.tickResume now).tk = (c.ticksBack now).tk :=
  Core.tickResume_ticksBack (g := Core.tk) ⟨fun _ _ => rfl, fun _ _ => rfl, fun _ _ => rfl, Core.bump_tk _ _⟩
    (fun _ _ => rfl) (fun _ _ _ => (Core.Logged.condOff _ _).same Core.tk) hh h3 now

theorem Core.tkSync_clk (now : Nat) (c : Core) : (c.tkSync now).clk = c.clk :=
  Core.of_tinkerRest Core.clk (Core.tinkerRest_blind.tkSync now c)

theorem Core.tkSync_dcRunning (now : Nat) (c : Core) : (c.tkSync now).ec.dcRunning = c.ec.dcRunning :=
  TinkerBlind.tkSync (g := fun c => c.ec.dcRunning) ⟨fun _ _ _ _ => rfl, fun _ _ => rfl, fun _ _ => rfl,
    fun _ _ => rfl, fun h => h.ecSame Ecat.dcRunning⟩ now c

theorem Core.enginesBack_clk (now : Nat) (c : Core) : (c.enginesBack now).clk = { c.clk with tHeld := false } := by
  rw [Core.enginesBack, Core.mapClk_clk, Core.mapTk_clk, Core.tkSync_clk]

theorem Core.enginesBack_dcRunning (now : Nat) (c : Core) : (c.enginesBack now).ec.dcRunning = c.ec.dcRunning := by
  rw [Core.enginesBack, Core.mapClk_ec, Core.mapTk_ec, Core.tkSync_dcRunning]

theorem Core.enginesBack_engs (now : Nat) (c : Core) : (c.enginesBack now).tk.engs =
    (c.tkSync now).tk.engs.map (Tk.resume c.clk.heldAt (c.firstTick now)) := by
  rw [Core.enginesBack, Core.mapClk_tk, Core.mapTk_tk]

theorem Core.dcLoad_clk (a : Nat) (c : Core) : (c.dcLoad a).clk = { c.clk with dcAcc := (a : Int) * 65536, dcAt := a } := rfl
theorem Core.dcLoad_tk (a : Nat) (c : Core) : (c.dcLoad a).tk = c.tk := rfl

/-- The hold is over; else clock synthesis keeps all but DC time, and that where Distributed Clocks do not run. -/
theorem Core.ticksBack_clk (now : Nat) (c : Core) :
    (c.ticksBack now).clk = { c.clk with
        tHeld := false, dcAcc := (c.ticksBack now).clk.dcAcc, dcAt := (c.ticksBack now).clk.dcAt } ∧
      (c.ec.dcRunning = false → (c.ticksBack now).clk.dcAcc = c.clk.dcAcc) := by
  unfold Core.ticksBack
  rw [Core.enginesBack_dcRunning]
  cases c.ec.dcRunning with
  | false => simp only [Core.when_false, Core.enginesBack_clk, implies_true, and_self]
  | true => simp only [Core.when_true, Core.dcLoad_clk, Core.enginesBack_clk, Bool.true_eq_false, false_implies, and_self]

theorem Core.ticksBack_engs (now : Nat) (c : Core) : (c.ticksBack now).tk.engs =
    (c.tkSync now).tk.engs.map (Tk.resume c.clk.heldAt (c.firstTick now)) := by
  unfold Core.ticksBack
  cases (c.enginesBack now).ec.dcRunning with
  | false => rw [Core.when_false, Core.enginesBack_engs]
  | true => rw [Core.when_true, Core.dcLoad_tk, Core.enginesBack_engs]

/-- A running engine with a delay left over keeps its state and the ticks that remained. -/
theorem Tk.resume_running {e : Tk} {held : Nat} (hr : e.running = true) (hn : tickOf held < tickOf e.next) (first : Nat) :
    (e.resume held first).running = true ∧ (e.resume held first).st = e.st ∧
      (e.resume held first).next = first + (tickOf e.next - tickOf held - 1) * 4 := by
  simp [Tk.resume, hr, hn]

theorem Core.eng1_of_map {c d : Core} {f : Tk → Tk} {n : Nat} {e : Tk} (h : d.tk.engs = c.tk.engs.map f)
    (he : c.tk.engs[n]? = some e) : d.eng1 n = f e := by
  simp [Core.eng1, h, List.getD_eq_getElem?_getD, he]

/-! ### Fine delays (10 R329) -/

theorem Core.fineStep_on {c : Core} {n : Nat} (h : (c.obj 0x2D13 0).testBit n = true) : c.fineStep n =
    c.put 0x2D11 (n + 1) (if c.obj 0x2D11 (n + 1) < c.obj 0x2D10 (n + 1) then c.obj 0x2D11 (n + 1) + 1
      else if c.obj 0x2D10 (n + 1) < c.obj 0x2D11 (n + 1) then c.obj 0x2D11 (n + 1) - 1
      else c.obj 0x2D11 (n + 1)) := by
  simp [Core.fineStep, h]

end Sys2Proof.Machine
end

section
namespace Sys2Proof.Machine

/-! ### The clauses on clock synthesis -/

section
variable {t : Nat} {s : State}

theorem State.run_pllApply {o : Orig} (hm : s.core.mayWrite o 0x2D01 4 9)
    (hmode : s.core.mode = .standby ∨ s.core.mode = .calibrate ∨ s.core.applyRelocks = [])
    (hb : s.core.flag 0x2D01 5 = false) :
    ∃ u, exec (.pllApply t o 1) s = .next u ∧ u.core = (s.core.pllApply (s.at_ t)).under u.core := by
  obtain ⟨-, -, -, -, hw⟩ := id hm
  rw [exec_pllApply]
  exact State.run_command_taken (own := Core.applyCodes) (eff := Core.pllApply) hw
    ((Core.writeCodes_apply hm).trans (Core.applyCodes_none hmode hb))

theorem State.run_outputRestart {p : Bool} (h2 : (s.core.pll (b2n p)).st = 2) (hl : (s.core.pll (b2n p)).locked = true)
    (hr : s.core.clk.refOn = true) :
    ∃ u, exec (.outputRestart t p) s = .next u ∧ u.core = (s.core.outputStart (s.at_ t) (b2n p)).under u.core := by
  obtain ⟨u, hu, -, hc, -⟩ := State.run_ends t (fun now c => c.outputRestart now (b2n p)) s
  rw [Core.outputRestart_due h2 hl hr] at hc
  exact ⟨u, hu, hc⟩

end

/-- Settles O47: each command is one operation on the PLLs, on the outputs or on the ticks, and each clause reads off what
that operation makes of them. -/
theorem clockSynthesis : Obligations.ClockSynthesis := by
  unfold Obligations.ClockSynthesis
  refine ⟨?_, ?_, ?_, ?_, ?_, ?_, ?_, ?_, ?_, ?_, ?_, ?_⟩
  · intro t o s hm hmode hb
    obtain ⟨u, hu, hc⟩ := State.run_pllApply (t := t) hm hmode hb
    have h := s.core.pllApply_retuned (s.at_ t)
    obtain ⟨hload, hdiv⟩ := s.core.shadowsLoad_inForce
    refine ⟨u, hu, fun k h1 h3 => ?_, ?_, fun p hp => ?_⟩
    · exact (Core.of_under hc (·.obj 0x2D02 k)).trans ((h.inForce k (by omega)).trans (hload k h1 h3))
    · exact (Core.of_under hc (·.obj 0x2D02 4)).trans ((h.inForce 4 (by decide)).trans hdiv)
    · exact (Core.of_under hc (·.pll p)).trans (h.pll p hp)
  · rintro t p ppm ok x s hr rfl hl
    refine ⟨?_, ?_, ?_, ?_, ?_, ?_, ?_, ?_, ?_, ?_, ?_, ?_⟩
    · intro h1 h5
      obtain ⟨u, hu, hp⟩ := State.run_pllWindow (t := t) (ok := ok)
        (Core.pllWindow_steps hr hl h1 (ppm := ppm) fun h => by omega)
      exact ⟨u, hu, hp.trans (Pll.searchStep_within h5 ppm)⟩
    · intro h1 h5 hok
      obtain ⟨u, hu, hp⟩ := State.run_pllWindow (t := t) (ok := ok)
        (Core.pllWindow_steps hr hl h1 (ppm := ppm) fun h => by simp [ppmOk_slow h.2.2] at hok)
      exact ⟨u, hu, hp.trans (Pll.searchStep_found h5 (if_pos hok))⟩
    · intro b h1 h5 hok hb
      obtain ⟨u, hu, hp⟩ := State.run_pllWindow (t := t) (ok := ok)
        (Core.pllWindow_steps hr hl h1 (ppm := ppm) fun h => by simp [hb] at h)
      exact ⟨u, hu, hp.trans (Pll.searchStep_found h5 (by simp [hok, hb]))⟩
    · intro h1 h5 hfast hb
      obtain ⟨u, hu, hp⟩ := State.run_pllWindow (t := t) (ok := ok)
        (Core.pllWindow_steps hr hl h1 (ppm := ppm) fun h => by omega)
      exact ⟨u, hu, hp.trans (Pll.searchStep_below h5 hfast hb)⟩
    · exact fun h1 h5 hslow hb hf => State.run_searchFails_again (Core.pllWindow_noBand hr hl h1 h5 hb hslow) hf
    · exact fun h1 h5 hslow hb hf => State.run_searchFails_fault (Core.pllWindow_noBand hr hl h1 h5 hb hslow) hf
    · exact fun h2 hg hok => State.run_pllWindow ((Core.pllWindow_guess hr hl h2 hg).trans (if_pos hok))
    · exact fun h2 hg hok hf => State.run_searchFails_again
        ((Core.pllWindow_guess hr hl h2 hg).trans (if_neg (by simp [hok]))) hf
    · exact fun h2 hg hok hf => State.run_searchFails_fault
        ((Core.pllWindow_guess hr hl h2 hg).trans (if_neg (by simp [hok]))) hf
    · exact fun h2 hg hok => State.run_pllWindow ((Core.pllWindow_lock hr hl h2 hg).trans (if_pos (by simp [hok])))
    · intro h2 hg hok hgood
      have hw : ((s.core.pll (b2n p)).good = 0 || !ok) = true := by simpa using hgood
      exact State.run_pllWindow ((Core.pllWindow_lock hr hl h2 hg).trans ((if_neg (by simp [hok])).trans (if_pos hw)))
    · intro h2 hg hok hgood hphase
      exact State.run_pllWindow ((Core.pllWindow_lock hr hl h2 hg).trans ((if_neg (by simp [hok])).trans
        (if_neg (by simp [hgood, hphase]))))
  · intro t s h2 hl hr
    obtain ⟨u, hu, hc⟩ := State.run_outputRestart (t := t) (p := true) h2 hl hr
    obtain ⟨hst, hedge, hlo, hhi, ha⟩ := s.core.outputStart_ticks (s.at_ t)
    have hedge' := (Core.of_under hc (·.clk.tickEdge)).trans hedge
    have hoff := Core.of_under hc (·.obj 0x2D20 3)
    exact ⟨u, hu, (Core.of_under hc (·.clk.pllT.st)).trans hst, hedge', Core.tickIndex_refin hedge',
      hlo.trans_eq hoff.symm, hoff.trans_le hhi, (Core.of_under hc (·.active 0x5060 1)).trans ha⟩
  · intro t s h2 hl hr
    obtain ⟨u, hu, hc⟩ := State.run_outputRestart (t := t) (p := false) h2 hl hr
    obtain ⟨hst, hmask, ha, hsegs⟩ := s.core.outputStart_clocks (s.at_ t)
    exact ⟨u, hu, (Core.of_under hc (·.clk.pllC.st)).trans hst, (Core.of_under hc (·.obj 0x2D13 0)).trans hmask,
      (Core.of_under hc (·.active 0x5060 0)).trans ha, fun n k hk hn =>
        (Core.of_under hc (fun c => c.clk.segs[n]?)).trans (hsegs n k hk hn)⟩
  · intro t p s h
    obtain ⟨u, hu, -, hc, -⟩ := State.run_ends t (fun now c => c.pllUnlock now (b2n p)) s
    obtain ⟨hp, ha⟩ := Core.pllUnlock_searches (b2n_lt_two p) h (s.at_ t)
    exact ⟨u, hu, (Core.of_under hc (·.pll (b2n p))).trans hp, fun hm =>
      (Core.of_under hc (·.active 0x5060 (b2n p))).trans (ha hm)⟩
  · intro t s hr
    obtain ⟨u, hu, -, hc, -⟩ := State.run_ends t (fun now c => c.refinLost now) s
    obtain ⟨hoff, hp, ho, ha⟩ := Core.refinLost_coasts hr (s.at_ t)
    refine ⟨u, hu, (Core.of_under hc (·.clk.refOn)).trans hoff, fun p hp2 => ?_,
      (Core.of_under hc (·.obj 0x2D03 1)).trans ho, fun hm => (Core.of_under hc (·.active 0x5061 0)).trans (ha hm)⟩
    rw [Core.of_under hc (·.pll p), hp p hp2, Pll.coasts]
    split <;> rfl
  · intro t ppm err s hl hf
    obtain ⟨u, hu, -, hc, -⟩ := State.run_ends t (fun now c => c.refinReturn now ppm err) s
    constructor
    · intro hok
      have h : s.core.refinReturn (s.at_ t) ppm err = s.core.bump 0x2D03 1 := by simp [Core.refinReturn, hl, hf, hok]
      rw [h] at hc
      refine ⟨u, hu, (Core.of_under hc Core.clk).trans (Core.bump_clk _ _ _), Core.of_under hc (·.obj 0x2D03 1), ?_⟩
      rw [Core.bump_eq] at hc
      exact Core.keeps_put (by decide) (Core.of_under hc Core.dict)
    · intro hok
      obtain ⟨hon, ha, hp⟩ := Core.refinReturn_back hl hf hok (s.at_ t) err
      refine ⟨u, hu, (Core.of_under hc (·.clk.refOn)).trans hon, (Core.of_under hc (·.active 0x5061 0)).trans ha,
        fun p hp2 => ?_⟩
      rw [Core.of_under hc (·.pll p), hp p hp2]
      exact ⟨fun h4 => by simp [Pll.slews, h4], fun h0 hb => by simp [Pll.slews, h0, hb, Pll.restarted, Pll.search]⟩
  · intro t p s h ht
    obtain ⟨u, hu, -, hc, -⟩ := State.run_ends t (fun now c => c.slewDone now (b2n p)) s
    obtain ⟨hp, ha⟩ := Core.slewDone_locks (b2n_lt_two p) h ht
    exact ⟨u, hu, (Core.of_under hc (fun c => (c.pll (b2n p)).st)).trans hp,
      (Core.of_under hc (·.active 0x5060 (b2n p))).trans ha⟩
  · intro t a s ha ht hs
    obtain ⟨u, hu, -, hc, -⟩ := State.run_ends t (fun now c => c.holdoverExpires now) s
    obtain ⟨hco, hp, hact⟩ := Core.holdoverExpires_off ha ht hs
    refine ⟨u, hu, (Core.of_under hc (·.clk.coastAt)).trans hco, fun p hp2 => ?_, fun hm =>
      (Core.of_under hc (·.active 0x5062 0)).trans (hact hm)⟩
    rw [Core.of_under hc (·.pll p), hp p hp2, Pll.expires]
    split <;> rfl
  · intro t s hh h3
    obtain ⟨u, hu, -, hc, -⟩ := State.run_ends t (fun now c => c.tickResume now) s
    obtain ⟨hk, hd⟩ := s.core.ticksBack_clk (s.at_ t)
    have hclk := (Core.of_under hc Core.clk).trans (Core.tickResume_clk hh h3 (s.at_ t))
    refine ⟨u, hu, ?_⟩
    rw [hclk]
    exact ⟨hk, hd⟩
  · intro t n s h
    obtain ⟨u, hu, hmem, hc, -⟩ := State.run_ends t (fun _ c => c.fineStep n.val) s
    rw [Core.fineStep_on h] at hc
    refine ⟨u, hu, hmem, Core.under_of_dict hc rfl, Core.keeps_put (by omega) (Core.of_under hc Core.dict), ?_⟩
    exact (Core.of_under hc (·.obj 0x2D11 (n.val + 1))).trans (Core.obj_put_self _ _ _ _)
  · intro t n e s hh h3 he hr hn
    obtain ⟨u, hu, -, hc, -⟩ := State.run_ends t (fun now c => c.tickResume now) s
    have htk := (Core.of_under hc Core.tk).trans (Core.tickResume_tk hh h3 (s.at_ t))
    refine ⟨u, hu, ?_⟩
    rw [Core.eng1_of_map ((congrArg Tinker.engs htk).trans (s.core.ticksBack_engs (s.at_ t))) he]
    exact Tk.resume_running hr hn _

end Sys2Proof.Machine
end

section
namespace Sys2Proof.Machine

/-! ### What a channel's command does to the DRAM's bytes -/

/-- `m'` is `m` as it was, or `m` after one masked write: what a channel's command can leave. -/
def Memory.oneWrite (m m' : List Host.Cell) : Prop :=
  m' = m ∨ ∃ (a : Nat) (mask : BitVec 64) (data : List Byte), m' = Memory.masked m a mask 0 data

theorem Memory.wf_oneWrite {m m' : List Host.Cell} (h : Memory.oneWrite m m') (hm : Memory.wf m = true) :
    Memory.wf m' = true := by
  obtain rfl | ⟨a, mask, data, rfl⟩ := h
  · exact hm
  · exact Memory.wf_masked a mask data m 0 hm

/-- A write is refused, or stores its masked bytes at its line. -/
theorem Core.dramWriteIssue_oneWrite (now : Nat) (m : List Host.Cell) (r : DramReq) (mask : BitVec 64)
    (data : List Byte) (c : Core) : Memory.oneWrite m (c.dramWriteIssue now m r mask data).1 := by
  unfold Core.dramWriteIssue
  split
  case isTrue => exact .inl rfl
  case isFalse => exact .inr ⟨_, _, _, rfl⟩

/-- A spare that fails takes no byte (11 R357). -/
theorem Core.copyLine_spareFails (now : Nat) (r : DramReq) (m : List Host.Cell) (c : Core) :
    (c.copyLine now r .spareUncorrectable m).1 = m := by
  unfold Core.copyLine
  split <;> rfl

/-- A copy's read stores nothing; its write stores the line, where the spare takes it. -/
theorem Core.copyLine_oneWrite (now : Nat) (r : DramReq) (res : DramOutcome) (m : List Host.Cell) (c : Core) :
    Memory.oneWrite m (c.copyLine now r res m).1 := by
  by_cases hres : res = .spareUncorrectable
  · subst hres
    exact .inl (Core.copyLine_spareFails now r m c)
  · unfold Core.copyLine
    split
    case h_1 => exact .inl rfl
    case h_2 g _ =>
      rw [if_neg (by simpa using hres)]
      split
      case h_1 b _ => exact .inr ⟨_, _, b, rfl⟩
      case h_2 => exact .inl rfl

theorem Core.dramCommand_oneWrite (now chan : Nat) (res : DramOutcome) (m : List Host.Cell) (c : Core) :
    Memory.oneWrite m (c.dramCommand now chan res m).1 := by
  unfold Core.dramCommand
  split
  case isTrue => exact .inl rfl
  case isFalse =>
    dsimp only
    split
    case h_1 => exact .inl rfl
    case h_2 r _ =>
      split
      case isTrue => exact Core.copyLine_oneWrite _ _ _ _ _
      case isFalse =>
        split
        case h_1 => exact .inl rfl
        case h_2 => exact Core.dramWriteIssue_oneWrite _ _ _ _ _ _

/-- The pick of a running migration goes to its copy. -/
theorem Core.dramCommand_copies {c : Core} {now chan : Nat} {r : DramReq} (hr : c.dramReady = true)
    (hp : c.pick now chan = some r) (hid : r.id = c.dram.nextId) (res : DramOutcome) (m : List Host.Cell) :
    c.dramCommand now chan res m =
      (c.mapDram fun d => { d with draining := modAt d.draining chan fun _ => c.drains now chan }).copyLine
        now r res m := by
  have hid' : r.id = (c.mapDram fun d => { d with
      draining := modAt d.draining chan fun _ => c.drains now chan }).dram.nextId := hid
  simp [Core.dramCommand, hr, hp, hid']

/-- Where the spare fails at the command that the migration's pick is, the DRAM stands. -/
theorem exec_dramCommand_spareFails {t : Nat} {n : Fin 5} {r : DramReq} {s u : State} (hr : s.core.dramReady = true)
    (hp : s.core.pick (s.at_ t) n.val = some r) (hid : r.id = s.core.dram.nextId)
    (h : exec (.dramCommand t n .spareUncorrectable) s = .next u) : u.mem = s.mem := by
  have hu : u.mem = (s.core.dramCommand (s.at_ t) n.val .spareUncorrectable s.mem).1 :=
    (congrArg State.mem (Host.Outcome.next.inj h)).symm
  rw [hu, Core.dramCommand_copies hr hp hid, Core.copyLine_spareFails]

end Sys2Proof.Machine
end

section
namespace Sys2Proof.Machine

/-! ### The DRAM's canonical form over every step -/

/-- BOOT zeroes the DRAM, or leaves it where it does not run (11 R338). -/
theorem exec_boot_mem {t : Nat} {p : Int} {l : List Bool} {s u : State} (h : exec (.boot t p l) s = .next u) :
    u.mem = s.mem ∨ u.mem = [] := by
  have hu : u.mem = (if s.core.mayBoot (s.at_ t) then ([], s.core.boot (s.at_ t) p l) else (s.mem, s.core)).1 :=
    (congrArg State.mem (Host.Outcome.next.inj h)).symm
  rw [hu]
  split
  · exact .inr rfl
  · exact .inl rfl

theorem exec_dramCommand_mem {t : Nat} {n : Fin 5} {res : DramOutcome} {s u : State}
    (h : exec (.dramCommand t n res) s = .next u) : Memory.oneWrite s.mem u.mem := by
  have hu : u.mem = (s.core.dramCommand (s.at_ t) n.val res s.mem).1 :=
    (congrArg State.mem (Host.Outcome.next.inj h)).symm
  exact hu ▸ Core.dramCommand_oneWrite _ _ _ _ _

/-- All that a command can leave of the DRAM: what it was, nothing listed, or one masked write more. -/
theorem exec_mem_cases {i : Instr} {s u : State} (h : exec i s = .next u) :
    u.mem = [] ∨ Memory.oneWrite s.mem u.mem := by
  by_cases hd : ∃ t n res, i = .dramCommand t n res
  · obtain ⟨t, n, res, rfl⟩ := hd
    exact .inr (exec_dramCommand_mem h)
  · by_cases hb : ∃ t p l, i = .boot t p l
    · obtain ⟨t, p, l, rfl⟩ := hb
      exact (exec_boot_mem h).elim (fun hm => .inr (.inl hm)) .inl
    · exact .inr (.inl (exec_mem h (fun t n res e => hd ⟨t, n, res, e⟩) fun t p l e => hb ⟨t, p, l, e⟩))

theorem exec_wf {i : Instr} {s u : State} (hs : Memory.wf s.mem = true) (h : exec i s = .next u) :
    Memory.wf u.mem = true := by
  obtain hm | hm := exec_mem_cases h
  · rw [hm, Memory.wf_nil]
  · exact Memory.wf_oneWrite hm hs

/-- Settles O5: an empty queue leaves the DRAM, and the front command leaves it, empties it or writes bytes to it one
by one, each in its place. -/
theorem dramFormKept : Obligations.DramFormKept := by
  unfold Obligations.DramFormKept
  intro s u hs h
  unfold step at h
  split at h
  case h_1 =>
    cases h
    exact hs
  case h_2 i rest _ => exact exec_wf (s := { s with pending := rest }) hs h

end Sys2Proof.Machine
end

section
namespace Sys2Proof.Machine

/-! ### Every command answers -/

/-- The address of a request exists: below the end of the device address space, or of host-managed memory. -/
def addressExists (i : Instr) : Prop :=
  (∀ t p a op, i = .dramRequest t p a op → a < dpaEnd) ∧ (∀ t a op, i = .cxlMemRequest t a op → a < hdmEnd)

theorem exec_dramRequest_beyond {t a : Nat} {p : Fin 6} {op : DramOp} {s : State} (h : dpaEnd ≤ a) :
    exec (.dramRequest t p a op) s = .fault (.noSuchAddress a) := if_pos h

theorem exec_cxlMemRequest_beyond {t a : Nat} {op : DramOp} {s : State} (h : hdmEnd ≤ a) :
    exec (.cxlMemRequest t a op) s = .fault (.noSuchAddress a) := if_pos h

/-- Every command has one of the two frames, which move the clock to its moment and keep the queue. -/
theorem exec_next {i : Instr} (h : addressExists i) (s : State) :
    ∃ m c, exec i s = .next { s with now := s.at_ i.moment, mem := m, core := c } := by
  obtain ⟨hd, hc⟩ := h
  cases i
  case dramRequest => exact ⟨_, _, if_neg (Nat.not_le.mpr (hd _ _ _ _ rfl))⟩
  case cxlMemRequest => exact ⟨_, _, if_neg (Nat.not_le.mpr (hc _ _ _ rfl))⟩
  all_goals exact ⟨_, _, rfl⟩

/-- What answers a next state has an address that exists. -/
theorem addressExists_of_next {i : Instr} {s u : State} (h : exec i s = .next u) : addressExists i := by
  constructor
  · rintro t p a op rfl
    by_contra ha
    rw [exec_dramRequest_beyond (Nat.not_lt.mp ha)] at h
    cases h
  · rintro t a op rfl
    by_contra ha
    rw [exec_cxlMemRequest_beyond (Nat.not_lt.mp ha)] at h
    cases h

theorem exec_pending_now {i : Instr} {s u : State} (h : exec i s = .next u) :
    u.pending = s.pending ∧ u.now = s.at_ i.moment := by
  obtain ⟨m, c, hn⟩ := exec_next (addressExists_of_next h) s
  obtain rfl := Host.Outcome.next.inj (hn.symm.trans h)
  exact ⟨rfl, rfl⟩

theorem exec_keeps_queue_and_clock {i : Instr} {s u : State} (h : exec i s = .next u) :
    u.pending = s.pending ∧ s.now ≤ u.now := by
  obtain ⟨hq, hn⟩ := exec_pending_now h
  exact ⟨hq, hn ▸ Nat.le_max_left _ _⟩

/-- Settles O2: every command answers by one of the two frames, and only the two requests judge an address first. -/
theorem everyCommandAnswers : Obligations.EveryCommandAnswers := by
  unfold Obligations.EveryCommandAnswers
  refine ⟨fun i s hd hc => ?_, fun _ _ _ _ _ h => exec_dramRequest_beyond h,
    fun _ _ _ _ h => exec_cxlMemRequest_beyond h, fun _ _ _ h => exec_keeps_queue_and_clock h⟩
  obtain ⟨m, c, hn⟩ := exec_next ⟨hd, hc⟩ s
  exact ⟨_, hn, exec_keeps_queue_and_clock hn⟩

end Sys2Proof.Machine
end

section
namespace Sys2Proof.Machine

/-! ### The copy's write that its spare does not take -/

/-- Rank 0 migrates to spare 8. Its first line is poisoned with a byte 1 in it, so that the copy's read has taken zeros
for it (11 R357), and the copy's write stands next. -/
def copyOfPoison : State :=
  { State.reset with
    mem := [(0, 1)]
    core := ((({ dram := { poison := [0] } } : Core).put 0x2E00 4 2).migrate 0 0 8 0).mapDram fun d =>
      { d with mig := d.mig.map fun g => { g with pend := some (0, zeros 64) } } }

/-- The write of that line to the spare. -/
def copyOfPoisonWrite : DramReq := ⟨0, 5, 0, .write (BitVec.allOnes 64) (zeros 64), 0, 200000⟩

/-- Channel 4, that of the spare, issues the copy's write. -/
theorem copyOfPoison_pick : copyOfPoison.core.dramReady = true ∧
    copyOfPoison.core.pick (copyOfPoison.at_ 0) (4 : Fin 5).val = some copyOfPoisonWrite ∧
    copyOfPoisonWrite.id = copyOfPoison.core.dram.nextId := by decide +kernel

/-- The spare fails at that write: the line keeps its byte. -/
theorem copyOfPoison_kept {u : State} (h : exec (.dramCommand 0 4 .spareUncorrectable) copyOfPoison = .next u) :
    u.mem = [(0, 1)] := by
  obtain ⟨hr, hp, hid⟩ := copyOfPoison_pick
  exact exec_dramCommand_spareFails hr hp hid h

/-- Refutes O60: a write that a channel issues need not replace its line, where it is a migration's and its spare fails
(`copyOfPoison`). -/
theorem not_maskedWrites : ¬ Obligations.MaskedWrites := by
  unfold Obligations.MaskedWrites
  intro h
  obtain ⟨hwrite, -⟩ := h
  obtain ⟨hr, hp, -⟩ := copyOfPoison_pick
  obtain ⟨u, hu, hline, -⟩ := hwrite 0 4 .spareUncorrectable copyOfPoisonWrite (BitVec.allOnes 64) (zeros 64)
    copyOfPoison (by decide) hr hp rfl (by decide) (.inl rfl)
  have h0 := hline 0 (by decide)
  rw [copyOfPoison_kept hu] at h0
  exact absurd h0 (by decide)

/-- Refutes O48: a picked write need not store its bytes at its line, where it is a migration's and its spare fails
(`copyOfPoison`). -/
theorem not_dramController : ¬ Obligations.DramController := by
  unfold Obligations.DramController
  intro h
  obtain ⟨-, -, hwrite, -⟩ := h
  obtain ⟨hr, hp, -⟩ := copyOfPoison_pick
  obtain ⟨u, hu, hmem, -⟩ := hwrite 0 4 .spareUncorrectable copyOfPoisonWrite (BitVec.allOnes 64) (zeros 64)
    copyOfPoison hr hp rfl (.inl rfl)
  rw [copyOfPoison_kept hu] at hmem
  exact absurd hmem (by decide)

end Sys2Proof.Machine
end

section
namespace Sys2Proof.Machine

/-! ### A narrow write to a word that no port has written (12 R363, R368) -/

theorem Core.sramFill_of_init {c : Core} {a : Nat} (h : c.sram.isInit (pageOf a) = true) : c.sramFill a = c := by
  simp [Core.sramFill, h]

/-- New check bits leave a word's data. -/
theorem Core.wordsWritten_words (p : Nat → Bool) (c : Core) : (c.wordsWritten p).sram.words = c.sram.words := by
  unfold Core.wordsWritten
  dsimp only
  split
  · exact Core.when_of (P := fun d => d.sram.words = c.sram.words) _ _ _ rfl rfl
  · exact Core.when_of (P := fun d => d.sram.words = c.sram.words) _ _ _ rfl rfl

/-- A port's whole-word write is what the word holds; the words of region 4 are objects. -/
theorem Core.sramData_portWord_self {a : Nat} (h : sramRegion a ≠ 4) (v : Nat) (c : Core) :
    (c.portWord a v).sramData a = v := by
  have hp : (c.portWord a v).sram.words = sput wordDflt (c.sramFill a).sram.words (a / 8) v := by
    have hown : (c.portWord a v).sram.words = (c.sramWord a v).sram.words := by
      unfold Core.portWord Core.mapSram
      dsimp only
      split <;> rfl
    rw [hown, Core.sramWord, Core.wordsWritten_words, Core.sramPut, if_neg h]
    rfl
  rw [Core.sramData, if_neg h, hp, sget_sput_self]

/-- A word whose contents are not stated holds the next free value (log entry 9). -/
theorem Core.wordHeld_of_unknown {c : Core} {a : Nat} (h : c.wordKnown a = false) :
    c.wordHeld a = (Config.free c.free % 2 ^ 64, c.fresh.2) := by
  simp [Core.wordHeld, h, Core.fresh]

theorem sramRegion_of_unknown {c : Core} {a : Nat} (h : c.wordKnown a = false) : sramRegion a ≠ 4 := by
  intro h4
  simp [Core.wordKnown, h4] at h

/-- A partial entry for a word whose contents are not stated is merged with the next free value. -/
theorem Core.sramData_retire_of_unknown {c : Core} {e : Merge} (now : Nat) (hm : e.mask ≠ 0xFF#8)
    (hi : c.sram.isInit (pageOf e.addr) = true) (hp : c.sram.poison.contains e.addr = false)
    (hw : c.wordFound e.addr .clean = .clean) (hk : c.wordKnown e.addr = false) :
    (c.retire now e .clean).sramData e.addr = mergeWord e.mask e.data.toNat (Config.free c.free % 2 ^ 64) := by
  have hfill : (c.dropMerge e.port e.addr).sramFill e.addr = c.dropMerge e.port e.addr := Core.sramFill_of_init hi
  have hfound : (c.dropMerge e.port e.addr).wordFound e.addr .clean = .clean := hw
  have hheld := Core.wordHeld_of_unknown (c := c.dropMerge e.port e.addr) hk
  have hpoison : (c.dropMerge e.port e.addr).sram.poison.contains e.addr = false := hp
  unfold Core.retire
  simp only [if_neg hm, hfill, hpoison, hfound, hheld, Bool.false_eq_true, if_false]
  exact Core.sramData_portWord_self (sramRegion_of_unknown hk) _ _

theorem Core.mergeIdle_of_due {c : Core} {now a p : Nat} {e : Merge} (he : c.mergeAt p a = some e)
    (hd : e.last + 64 ≤ now) (f : WordOutcome) : c.mergeIdle now a p f = c.retire now e f := by
  simp [Core.mergeIdle, he, hd]

/-- Where an idle entry's retirement leaves the word it names. -/
theorem exec_mergeIdleRetire_sramData {t a p : Nat} {f : WordOutcome} {e : Merge} {s u : State}
    (he : s.core.mergeAt p a = some e) (hd : e.last + 64 ≤ s.at_ t)
    (h : exec (.mergeIdleRetire t a p f) s = .next u) :
    u.core.sramData a = (s.core.retire (s.at_ t) e f).sramData a := by
  obtain ⟨v, hv, -, hcore, -⟩ := State.run_ends t (fun now c => c.mergeIdle now a p f) s
  obtain rfl := Host.Outcome.next.inj (hv.symm.trans h)
  rw [hcore, ← Core.mergeIdle_of_due he hd f]
  rfl

/-- A write of byte 1 of word 0, in the merge buffer of port 0. -/
def byteEntry : Merge := ⟨0, 0, 0x02, 0, 0⟩

/-- `byteEntry` waits. Its word is stored as `v`, in an initialised page, but no port has written either. -/
def blockWord (v : Nat) : State :=
  { State.reset with core := { sram := { words := [(0, v)], init := [(0, 0)], merge := [byteEntry] } } }

/-- What the retirement leaves in the word does not depend on what the word was stored as. -/
theorem blockWord_retired {v : Nat} {u : State} (h : exec (.mergeIdleRetire 64 0 0 .clean) (blockWord v) = .next u) :
    u.core.sramData 0 = mergeWord 0x02 0 (Config.free 0 % 2 ^ 64) := by
  rw [exec_mergeIdleRetire_sramData (s := blockWord v) (e := byteEntry) rfl (Nat.le_max_right 0 64) h]
  exact Core.sramData_retire_of_unknown (c := (blockWord v).core) (e := byteEntry) _ (by decide) rfl rfl rfl rfl

/-- Refutes O46: a partial entry's bytes need not go over those of its word, where no port has written the word nor
filled its page. What the block keeps there is a free value, so that words stored as 1 and as 2 (`blockWord`) become the
same word, though byte 0 is not the entry's. -/
theorem not_onDieMemory : ¬ Obligations.OnDieMemory := by
  unfold Obligations.OnDieMemory
  intro h
  obtain ⟨hretire, -⟩ := h
  have hmerged : ∀ v, mergeWord 0x02 0 (Config.free 0 % 2 ^ 64) = mergeWord 0x02 0 v := by
    intro v
    obtain ⟨u, hu, -, -, hpartial⟩ := hretire 64 0 0 byteEntry (blockWord v) rfl
      (Nat.le_max_right 0 64) rfl List.not_mem_nil rfl
    exact (blockWord_retired hu).symm.trans (hpartial (by decide))
  exact absurd ((hmerged 1).symm.trans (hmerged 2)) (by decide)

end Sys2Proof.Machine
end

section
namespace Sys2Proof.Machine

/-! ### A record of the line in which the last one was lost, at the ring's own command -/

/-- `lineZeroLost` with all ten rings and payload areas, of which DFR is open with nothing held. -/
def lineZeroLostRings : State :=
  { lineZeroLost with core := lineZeroLost.core.mapCxl (fun x => { x with
      rings := modAt ({} : Cxl).rings 0 (fun r => { r with enable := true, size := 4 }) }) }

/-- What the clause on the collector's records asks of the state holds of it. -/
theorem lineZeroLostRings_ready : lineZeroLostRings.core.firstRec = some lineZeroRec ∧
    lineZeroLostRings.core.settledTo lineZeroRec.first = true ∧ lineZeroLostRings.core.ringOpen 0 = true ∧
    (lineZeroLostRings.core.ring 0).held = [] := by decide +kernel

/-- Records are kept again from the first one of a later web line on (15 R451): this one begins a loss run, and takes no
number. -/
theorem lineZeroLostRings_entryIssue :
    (lineZeroLostRings.core.entryIssue (lineZeroLostRings.at_ 1) 0).eng.recSeq = 0 := by decide +kernel

/-- Refutes O50: the first record that the collector has settled, with no loss run open, need not go to the open DFR
with its number where an earlier record of its first web line was lost (`lineZeroLostRings`). -/
theorem not_ringsAndHold : ¬ Obligations.RingsAndHold := by
  unfold Obligations.RingsAndHold
  rintro ⟨-, -, -, -, -, hrec, -⟩
  obtain ⟨hfirst, hset, hopen, hheld⟩ := lineZeroLostRings_ready
  obtain ⟨hout, -⟩ := hrec 1 lineZeroRec lineZeroRec _ lineZeroLostRings rfl rfl hfirst hset rfl rfl
  obtain ⟨u, hu, -, hseq, -⟩ := hout hopen hheld
  obtain ⟨v, hv, -, hc, -⟩ := State.run_ends 1 (fun now c => c.entryIssue now 0) lineZeroLostRings
  obtain rfl : u = v := Host.Outcome.next.inj (hu.symm.trans hv)
  rw [Core.of_under hc (·.eng.recSeq), lineZeroLostRings_entryIssue] at hseq
  exact absurd hseq (by decide)

end Sys2Proof.Machine
end


section
namespace Sys2Proof.Machine

/-! ### Association lists without order -/

theorem alook_aput_self (l : List (Nat × Nat)) (k v : Nat) : alook (aput l k v) k = some v := by
  unfold aput
  split
  next h =>
    induction l with
    | nil => simp at h
    | cons p l ih =>
      by_cases hp : p.1 = k
      · simp [alook, hp]
      · have hl : l.any (fun q => q.1 == k) = true := by simpa [hp] using h
        simpa [alook, hp] using ih hl
  next h =>
    have hn : l.find? (fun p => p.1 == k) = none := by
      rw [List.find?_eq_none]
      exact fun p hp he => h (List.any_of_mem hp he)
    simp [alook, List.find?_append, hn]

/-! ### A host access ended (13 R388 to R390) -/

theorem exec_barWrite {t off size : Nat} {sp : Space} {v : Word64} {s : State} {d : Core}
    (h : s.core.hostWrite (s.at_ t) sp off size v.toNat = d) :
    ∃ u, exec (.barWrite t sp off size v) s = .next u ∧ u.core = d.under u.core := by
  obtain ⟨u, hu, -, hc, -⟩ := State.run_ends t (fun now c => c.hostWrite now sp off size v.toNat) s
  exact ⟨u, hu, h ▸ hc⟩

/-- An access read: its effect, then its completion. -/
theorem exec_barRead {t off size : Nat} {sp : Space} {s : State} {o : Out} {d : Core}
    (h : s.core.hostRead (s.at_ t) sp off size = (o, d)) :
    ∃ u, exec (.barRead t sp off size) s = .next u ∧ d.out ++ [o] <+: u.core.out ∧ u.core = d.under u.core := by
  obtain ⟨u, hu, -, hc, ho⟩ := State.run_ends t (fun now c =>
    let r := c.hostRead now sp off size
    r.2.emit r.1) s
  simp only [h, Core.emit_out, Core.under_emit] at hc ho
  exact ⟨u, hu, ho, hc⟩

theorem Core.barWrite_badSize {off size : Nat} (h : barOk off size = false) (now : Nat) (bar2 : Bool) (v : Nat)
    (c : Core) :
    c.barWrite now bar2 off size v = c.barRefused := by
  simp [Core.barWrite, h]

theorem Core.barRead_badSize {off size : Nat} (h : barOk off size = false) (now : Nat) (bar2 : Bool) (c : Core) :
    c.barRead now bar2 off size = (none, c) := by
  simp [Core.barRead, h]

theorem Core.barWrite_four {off : Nat} (h4 : off % 4 = 0) (hb : off < 0x10000) (now v : Nat) (c : Core) :
    c.barWrite now false off 4 v = c.barWrite4 now false off (v % 2 ^ 32) := by
  have hok : barOk off 4 = true := by simp [barOk, h4]
  simp [Core.barWrite, hok, barBytes, Nat.not_le.mpr hb]

theorem Core.barRead_four {off : Nat} (h4 : off % 4 = 0) (hb : off < 0x10000) (now : Nat) (c : Core) :
    c.barRead now false off 4 = c.barRead4 now false off := by
  have hok : barOk off 4 = true := by simp [barOk, h4]
  simp [Core.barRead, hok, barBytes, Nat.not_le.mpr hb]

/-- A doubleword of BAR0 written. -/
theorem exec_bar0Write {t off : Nat} {v : Word32} {s : State} {d : Core} (h4 : off % 4 = 0) (hb : off < 0x10000)
    (h : s.core.barWrite4 (s.at_ t) false off v.toNat = d) :
    ∃ u, exec (.barWrite t .bar0 off 4 (v.setWidth 64)) s = .next u ∧ u.core = d.under u.core := by
  have hv : (v.setWidth 64).toNat % 2 ^ 32 = v.toNat := by bv_omega
  refine exec_barWrite ((Core.barWrite_four h4 hb (s.at_ t) _ s.core).trans ?_)
  rw [hv, h]

/-- A doubleword of BAR0 read. -/
theorem exec_bar0Read {t off : Nat} {v : Option Nat} {s : State} {d : Core} (h4 : off % 4 = 0) (hb : off < 0x10000)
    (h : s.core.barRead4 (s.at_ t) false off = (v, d)) :
    ∃ u, exec (.barRead t .bar0 off 4) s = .next u ∧ d.out ++ [.bar v] <+: u.core.out ∧ u.core = d.under u.core :=
  exec_barRead (congrArg (fun r : Option Nat × Core => (Out.bar r.1, r.2)) ((Core.barRead_four h4 hb _ _).trans h))

/-- Doublewords of the other spaces. -/
theorem Core.hostRead_dword {off : Nat} (h4 : off % 4 = 0) (now : Nat) (c : Core) :
    c.hostRead now .bar4 off 4 = c.bar4Read off ∧ c.hostRead now .config off 4 = c.cfgRead off ∧
      c.hostRead now .cdat off 4 = c.cdatRead off := by
  simp [Core.hostRead, h4]

/-! ### The halves of RING_BASE (13 R390, R403) -/

theorem ringAt_base {i : Nat} (hi : i < 10) : ringAt (0x3000 + 0x40 * i) = some (i, 0) := by
  unfold ringAt
  rw [if_pos (by omega)]
  congr 2 <;> omega

theorem ringAt_baseHigh {i : Nat} (hi : i < 10) : ringAt (0x3004 + 0x40 * i) = some (i, 4) := by
  unfold ringAt
  rw [if_pos (by omega)]
  congr 2 <;> omega

theorem isWide_ringBase {i : Nat} (hi : i < 10) : isWide false (0x3000 + 0x40 * i) = true := by
  simp [isWide, ringAt_base hi]

theorem isWide_ringBaseHigh {i : Nat} (hi : i < 10) : isWide false (0x3004 + 0x40 * i) = false := by
  have h : 0x3004 + 0x40 * i ≠ 0x6000 := by omega
  simp [isWide, ringAt_baseHigh hi, h]

section
variable {c : Core} {i : Nat} (hi : i < 10) (ho : c.ringOwned = true) (he : (c.ring i).enable = false) (now v : Nat)
include hi ho he

/-- The low half waits for the high half. -/
theorem Core.barWrite4_ringBase : c.barWrite4 now false (0x3000 + 0x40 * i) v =
    c.mapCxl (fun x => { x with half := aput x.half (0x3000 + 0x40 * i) v }) := by
  have hl : c.lowRefused now false (0x3000 + 0x40 * i) = none := by simp [Core.lowRefused, ringAt_base hi, ho, he]
  have h6 : (0x3000 + 0x40 * i != 0x6000) = true := bne_iff_ne.mpr (by omega)
  simp [Core.barWrite4, isWide_ringBase hi, Core.holdLow, hl, h6, halfKey, b2n]

/-- The high half writes both, as one value. -/
theorem Core.barWrite4_ringBaseHigh {lo : Nat} (hlo : alook c.cxl.half (0x3000 + 0x40 * i) = some lo) :
    c.barWrite4 now false (0x3004 + 0x40 * i) v =
      (c.dropHalf (0x3000 + 0x40 * i)).mapRing i (fun r => { r with base := v * 2 ^ 32 + lo }) := by
  have h8 : (0x3004 + 0x40 * i) % 8 = 4 := by omega
  have hsub : 0x3004 + 0x40 * i - 4 = 0x3000 + 0x40 * i := by omega
  have ho' : (c.dropHalf (0x3000 + 0x40 * i)).ringOwned = true := ho
  have he' : ((c.dropHalf (0x3000 + 0x40 * i)).ring i).enable = false := he
  simp [Core.barWrite4, isWide_ringBaseHigh hi, h8, hsub, isWide_ringBase hi, Core.highWrite, halfKey, b2n, hlo,
    Core.wideWrite, ringAt_base hi, Core.ringAddr, ho', he']

end

/-! ### CLK_DC (13 R390) -/

/-- The low half of CLK_DC keeps the high half of its instant. -/
theorem Core.barRead4_clkDc (now : Nat) (c : Core) : c.barRead4 now false 0x6000 = (some (c.stamp now % 2 ^ 32),
    c.mapCxl (fun x => { x with shadow := aput x.shadow 0x6000 (c.stamp now % 2 ^ 64 / 2 ^ 32) })) := by
  simp only [Core.barRead4, isWide, Core.wideRead, halfKey, b2n]
  simp

theorem Core.barRead4_clkDcHigh {c : Core} {x : Nat} (h : alook c.cxl.shadow 0x6000 = some x) (now : Nat) :
    c.barRead4 now false 0x6004 = (some x, c) := by
  simp [Core.barRead4, isWide, ringAt, halfKey, b2n, h]

/-! ### Configuration space, the CDAT and BAR4 -/

theorem Core.cfgRead_asleep {c : Core} (h : c.cxl.memActive = false) (off : Nat) :
    c.cfgRead off = (.cfgRetry, c) := by
  simp [Core.cfgRead, h]

theorem Core.cdatRead_asleep {c : Core} (h : c.cxl.memActive = false) (off : Nat) :
    c.cdatRead off = (.cfgRetry, c) := by
  simp [Core.cdatRead, h]

/-- What a configuration read answers, and that it leaves what the module has put out. -/
theorem Core.cfgRead_awake {c : Core} (h : c.cxl.memActive = true) (off : Nat) : ∃ v d,
    c.cfgRead off = (.bar (some v), d) ∧ d.out = c.out ∧ (off = 0 → v = 0x32061F3D) ∧
      (off = 0x104 → v = c.obj 0x1018 4) := by
  by_cases h4 : off = 4
  · subst h4
    refine ⟨withBit c.freeWord.1 2 c.cxl.master, c.freeWord.2, ?_, rfl, by simp, by simp⟩
    simp [Core.cfgRead, h]
  · cases hk : c.cfgKnown off with
    | some v =>
      refine ⟨v, c, by simp [Core.cfgRead, h, h4, hk], rfl, ?_, ?_⟩
      · rintro rfl
        exact (Option.some.inj hk).symm
      · rintro rfl
        exact (Option.some.inj hk).symm
    | none =>
      refine ⟨c.freeWord.1, c.freeWord.2, by simp [Core.cfgRead, h, h4, hk], rfl, ?_, ?_⟩
      · rintro rfl
        cases hk
      · rintro rfl
        cases hk

theorem Core.bar4Read_outside {off : Nat} (h : off < 0x1000 ∨ 0x2000 ≤ off) (c : Core) :
    c.bar4Read off = (.bar (some 0), c) := by
  have hn : (decide (0x1000 ≤ off) && decide (off < 0x2000)) = false := by
    rcases h with h | h <;> simp <;> omega
  simp [Core.bar4Read, hn]

/-- A 1 clears the RAS status. -/
theorem Core.bar4Write_ras {v : Nat} (h : v.testBit 7 = true) (c : Core) :
    c.bar4Write 0x1100 v = c.mapCxl (fun x => { x with ras := [] }) := by
  simp [Core.bar4Write, h]

/-- Settles O20: each access is one case of its space's register, whose effect and completion are read off. -/
theorem barAccess : Obligations.BarAccess := by
  unfold Obligations.BarAccess
  refine ⟨?_, ?_, ?_, ?_, ?_, ?_, ?_, ?_, ?_, ?_, ?_, ?_⟩
  · rintro t off size sp v s hsp hok
    refine exec_barWrite (d := s.core.barRefused) ?_
    rcases hsp with rfl | rfl <;> exact Core.barWrite_badSize hok _ _ _ _
  · intro t i v s hi hh he
    have ho : s.core.ringOwned = true := by simp [Core.ringOwned, hh]
    exact exec_bar0Write (by omega) (by omega) (Core.barWrite4_ringBase hi ho he _ _)
  · intro t i lo v s hi hh he hlo
    have ho : s.core.ringOwned = true := by simp [Core.ringOwned, hh]
    obtain ⟨u, hu, hc⟩ := exec_bar0Write (by omega) (by omega) (Core.barWrite4_ringBaseHigh hi ho he _ _ hlo)
    exact ⟨u, hu, Core.of_under hc (·.cxl.rings), Core.of_under hc (·.cxl.half)⟩
  · intro t s
    obtain ⟨u, hu, ho, hc⟩ := exec_bar0Read (by decide) (by decide) (s.core.barRead4_clkDc (s.at_ t))
    refine ⟨u, hu, ho, ?_⟩
    rw [Core.of_under hc (·.cxl.shadow)]
    exact alook_aput_self _ _ _
  · intro t x s hx
    exact exec_bar0Read (by decide) (by decide) (Core.barRead4_clkDcHigh hx _)
  · rintro t off size sp s hsp hok
    refine exec_barRead ?_
    rcases hsp with rfl | rfl <;>
      exact congrArg (fun r : Option Nat × Core => (Out.bar r.1, r.2)) (Core.barRead_badSize hok _ _ _)
  · rintro t off sp s hsp h4 hm
    obtain ⟨-, hcfg, hcdat⟩ := Core.hostRead_dword h4 (s.at_ t) s.core
    refine exec_barRead ?_
    rcases hsp with rfl | rfl
    · rw [hcfg, Core.cfgRead_asleep hm]
    · rw [hcdat, Core.cdatRead_asleep hm]
  · intro t off s h4 hm
    obtain ⟨-, hcfg, -⟩ := Core.hostRead_dword h4 (s.at_ t) s.core
    obtain ⟨v, d, hr, hd, hid, hsn⟩ := Core.cfgRead_awake hm off
    obtain ⟨u, hu, ho, -⟩ := exec_barRead (hcfg.trans hr)
    rw [hd] at ho
    exact ⟨u, v, hu, ho, hid, hsn⟩
  · intro t off s h4 hm
    obtain ⟨-, -, hcdat⟩ := Core.hostRead_dword h4 (s.at_ t) s.core
    refine exec_barRead (hcdat.trans ?_)
    simp [Core.cdatRead, hm]
  · intro t off s h4 hoff
    obtain ⟨hbar4, -, -⟩ := Core.hostRead_dword h4 (s.at_ t) s.core
    exact exec_barRead (hbar4.trans (Core.bar4Read_outside hoff _))
  · intro t s
    exact ⟨exec_barRead rfl, exec_barRead rfl⟩
  · intro t v s hv
    refine exec_barWrite ?_
    calc s.core.hostWrite (s.at_ t) .bar4 0x1100 4 v.toNat
      _ = s.core.bar4Write 0x1100 (v.toNat % 2 ^ 32) := rfl
      _ = _ := Core.bar4Write_ras (by rw [hv]; decide) _

end Sys2Proof.Machine
end

section
namespace Sys2Proof.Machine

/-! ### The event summary and the vectors leave the objects (13 R388, R415) -/

theorem Core.summary_dict (b : Nat) (c : Core) : (c.summary b).dict = c.dict := by
  unfold Core.summary
  split
  · rfl
  · dsimp only
    split
    · exact Core.msix_dict _ _
    · rfl

/-- A bit of EVT_SUMMARY is set from then on. -/
theorem Core.summary_bit {b : Nat} (hb : b < 32) (c : Core) : (c.summary b).cxl.summary.getLsbD b = true := by
  have hset : (c.cxl.summary ||| BitVec.ofNat 32 (2 ^ b)).getLsbD b = true := by
    rw [BitVec.getLsbD_or, BitVec.getLsbD_ofNat, Nat.testBit_two_pow_self, decide_eq_true hb, Bool.true_and,
      Bool.or_true]
  unfold Core.summary
  split
  · assumption
  · dsimp only
    split
    · rw [Core.msix_cxl]
      exact hset
    · exact hset

/-! ### Bias flips (13 R394, R395) -/

theorem Core.writeCodes_flip {c : Core} {o : Orig} {v : Nat} {own : List Nat} (hm : c.mayWrite o 0x3010 3 7)
    (hv : v = 1 ∨ v = 2) : c.writeCodes o 0x3010 3 (leBytes 1 v) own = own := by
  refine Core.writeCodes_may (r := row 0x3010 0x3010 3 3 .u8 .wo (.val 0) false (.rng 1 2) 0 false) hm rfl rfl
    rfl rfl rfl (.inl rfl) rfl ?_
  rcases hv with rfl | rfl <;> rfl

section
variable {t v : Nat} {o : Orig} {s : State} (hm : s.core.mayWrite o 0x3010 3 7) (hv : v = 1 ∨ v = 2)
include hm hv

/-- A flip that nothing refuses runs over its range and reads running. -/
theorem State.run_flip_taken (hc : s.core.flipCodes = []) :
    ∃ u, State.run t (fun now c => c.flipCommand now o v) s = .next u ∧ u.mem = s.mem ∧
      u.core.obj 0x3010 4 = 1 ∧ u.core.cxl.flip = some ⟨s.core.obj 0x3010 1 / 2 ^ 21, s.core.obj 0x3010 2, v == 1⟩ ∧
      u.core.cxl.devBias = s.core.cxl.devBias ∧ s.core.keeps u.core [(0x3010, 4)] := by
  obtain ⟨-, -, -, -, hw⟩ := id hm
  have hn : leNat (leBytes 1 v) = v := by rcases hv with rfl | rfl <;> rfl
  have hf : s.core.flipWrite (s.at_ t) o (leBytes 1 v) = (0, s.core.flipStart v) := by
    have hj : s.core.judged (s.at_ t) o 0x3010 3 (leBytes 1 v) s.core.flipCodes (Core.flipStart (leNat (leBytes 1 v))) =
        (0, s.core.flipStart v) := by
      rw [Core.judged_ok hw (firstCode_eq_none.mpr ((Core.writeCodes_flip hm hv).trans hc)), hn]
    rw [Core.flipWrite, hj]
    simp [hc]
  obtain ⟨u, hu, hmem, hcore, -⟩ := State.run_answered (t := t) (x := s) (f := fun now c => c.flipCommand now o v)
    (congrArg (Core.answered o 0x3010 3) hf)
  exact ⟨u, hu, hmem, (Core.of_under hcore (·.obj 0x3010 4)).trans (Core.obj_put_self _ _ _ _),
    Core.of_under hcore (·.cxl.flip), Core.of_under hcore (·.cxl.devBias),
    Core.keeps_put (v := 1) (by decide) (Core.of_under hcore Core.dict)⟩

/-- A flip while one runs is refused, and what reads running stays. -/
theorem State.run_flip_refused (hc : s.core.flipCodes = [0x08000031]) (ho : o ≠ .pdo) :
    ∃ u, State.run t (fun now c => c.flipCommand now o v) s = .next u ∧ u.core = s.core.under u.core ∧
      s.puts u [.answer o 0x3010 3 0x08000031] := by
  have hruns : s.core.cxl.flip.isNone = false := by
    by_contra hn
    have hnone : s.core.cxl.flip.isSome = false := by simpa using hn
    have hmem : 0x08000031 ∈ s.core.flipCodes := by simp [hc]
    simp [Core.flipCodes, hnone, mem_reason] at hmem
  have hcode : firstCode [0x08000031] = some 0x08000031 := by decide
  have hf : s.core.flipWrite (s.at_ t) o (leBytes 1 v) = (0x08000031, s.core) := by
    have hj : s.core.judged (s.at_ t) o 0x3010 3 (leBytes 1 v) s.core.flipCodes (Core.flipStart (leNat (leBytes 1 v))) =
        (0x08000031, s.core) := Core.judged_no (by rw [Core.writeCodes_flip hm hv, hc, hcode]) _
    rw [Core.flipWrite, hj]
    simp [hruns]
  obtain ⟨u, hu, -, hcore, hans⟩ := State.run_answered (t := t) (x := s) (f := fun now c => c.flipCommand now o v)
    (congrArg (Core.answered o 0x3010 3) hf)
  exact ⟨u, hu, hcore, hans ho⟩

end

/-- The page table after a flip's end. -/
def Flip.bias (f : Flip) (l : List Nat) : List Nat :=
  l.filter (fun p => !(f.first ≤ p && p < f.first + f.pages)) ++
    (if f.toDev then (List.range f.pages).map (f.first + ·) else [])

/-- A flip moves exactly its pages. -/
theorem Flip.mem_bias (f : Flip) (l : List Nat) (p : Nat) : p ∈ f.bias l ↔
    if f.first ≤ p ∧ p < f.first + f.pages then f.toDev = true else p ∈ l := by
  have hrange : p ∈ (List.range f.pages).map (f.first + ·) ↔ f.first ≤ p ∧ p < f.first + f.pages := by
    simp only [List.mem_map, List.mem_range]
    constructor
    · rintro ⟨k, hk, rfl⟩
      omega
    · rintro ⟨h1, h2⟩
      exact ⟨p - f.first, by omega, by omega⟩
  have hout : (!(decide (f.first ≤ p) && decide (p < f.first + f.pages))) = true ↔
      ¬(f.first ≤ p ∧ p < f.first + f.pages) := by
    rw [← Bool.decide_and, ← decide_not, decide_eq_true_iff]
  unfold Flip.bias
  rw [List.mem_append, List.mem_filter, hout]
  by_cases hp : f.first ≤ p ∧ p < f.first + f.pages
  · rw [if_pos hp]
    cases f.toDev <;> simp [hp, hrange]
  · rw [if_neg hp]
    cases f.toDev <;> simp only [hp, hrange, Bool.false_eq_true, if_false, if_true, List.not_mem_nil, or_false,
      not_false_iff, and_true]

theorem Core.flipDone_waits {c : Core} {f : Flip} (hf : c.cxl.flip = some f) (hd : f.toDev = false)
    (hr : c.readsIn f.first f.pages = true) : c.flipDone = c := by
  simp [Core.flipDone, hf, hd, hr]

theorem Core.flipDone_ends {c : Core} {f : Flip} (hf : c.cxl.flip = some f)
    (h : f.toDev = true ∨ c.readsIn f.first f.pages = false) : c.flipDone =
      (((c.mapCxl (fun x => { x with
        flip := none, devBias := f.bias x.devBias })).put 0x3010 4 2).summary 4).msix 10 := by
  have hn : (!f.toDev && c.readsIn f.first f.pages) = false := by rcases h with h | h <;> simp [h]
  simp only [Core.flipDone, hf, hn, Bool.false_eq_true, if_false]
  rfl

/-! ### CXL.mem requests and snoops (13 R396 to R398) -/

theorem exec_cxlMemRequest {off : Nat} (h : off < hdmEnd) (t : Nat) (op : DramOp) (s : State) :
    exec (.cxlMemRequest t off op) s = State.run t (fun now c => c.memRequest now off op) s :=
  if_neg (Nat.not_le.mpr h)

/-- A request takes its place in the queue of the DRAM controller. -/
theorem Core.dramArrive_queue (now port a : Nat) (op : DramOp) (c : Core) : (c.dramArrive now port a op).dram.queue =
    c.dram.queue ++ [⟨c.dram.nextId, port, a / 64 * 64, op, now, now + c.obj 0x2E21 (port + 1)⟩] := rfl

section
variable {c : Core} (ho : c.memOpen = true) (now off : Nat) (op : DramOp)
include ho

/-- An access to a page in device bias is counted before it takes its place. -/
theorem Core.memRequest_awake (hs : c.hdmAsleep = false) : c.memRequest now off op =
    (c.when (c.deviceBias (off / 2 ^ 21)) (Core.bump 0x3010 6)).dramArrive now 2 off op := by
  simp [Core.memRequest, ho, hs]

theorem Core.memRequest_asleep (hs : c.hdmAsleep = true) :
    (c.memRequest now off op).dict = c.dict ∧ (c.memRequest now off op).dram.queue = c.dram.queue ∧
      (c.memRequest now off op).cxl.ras = c.cxl.ras ++ [off / 64 * 64] ∧
      (op = .read → (c.memRequest now off op).out = c.out ++ [.dramData 2 c.dram.nextId none]) := by
  have hn : (!c.memOpen) = false := by simp [ho]
  simp only [Core.memRequest, hn, hs, Bool.false_eq_true, if_false, if_true]
  split
  next h => exact ⟨rfl, rfl, rfl, fun _ => rfl⟩
  next h => exact ⟨rfl, rfl, rfl, fun e => absurd (by simp [e]) h⟩

end

theorem Core.memRequest_closed {c : Core} (ho : c.memOpen = false) (now off : Nat) (op : DramOp) :
    c.memRequest now off op = c := by
  simp [Core.memRequest, ho]

/-- Only the count of accesses to device-biased pages moves. -/
theorem Core.when_bump_leaves {α : Type} (g : Core → α) (h : ∀ i s v c, g (Core.put i s v c) = g c) (b : Bool)
    (i s : Nat) (c : Core) : g (c.when b (Core.bump i s)) = g c :=
  Core.when_of (P := fun d => g d = g c) b _ c rfl (by rw [Core.bump_eq, h])

theorem Core.keeps_when_bump (b : Bool) {i s : Nat} (hs : s < 256) (c : Core) :
    c.keeps (c.when b (Core.bump i s)) [(i, s)] := fun j r hr hn =>
  Core.when_of (P := fun d => d.obj j r = c.obj j r) b _ c rfl (c.obj_bump_keep hs hr (by simpa using hn))

/-- A snoop while the link runs CXL: the line dropped, the count, the answer. -/
theorem Core.snoop_answers {c : Core} (hd : c.cxl.dlUp = true) (hx : c.cxl.cxlMode = true) (a : Nat) (inv : Bool) :
    c.snoop a inv = ((c.mapCxl (fun x => { x with
      cache := if inv then x.cache.filter (fun l => l != a / 64) else x.cache })).bump
        0x3030 3).emit (.snoopAnswer a) := by
  have hon : (!(c.cxl.dlUp && c.cxl.cxlMode)) = false := by simp [hd, hx]
  unfold Core.snoop
  rw [hon, if_neg Bool.false_ne_true]
  cases inv <;> rfl

theorem Core.keeps_bump_of {c d : Core} (h : d.dict = c.dict) {i s : Nat} (hs : s < 256) :
    c.keeps (d.bump i s) [(i, s)] := fun j r hr hn =>
  (d.obj_bump_keep hs hr (by simpa using hn)).trans (congrArg (fun l => sget dfltOf l (key j r)) h)

/-- The decoder commits for the whole of HDM with one way, and errs otherwise. -/
theorem Core.hdmCommit_eq (size ways : Nat) (c : Core) : c.hdmCommit size ways = c.mapCxl (fun x => { x with
    hdmOk := decide (size = hdmEnd ∧ ways = 1), hdmErr := !decide (size = hdmEnd ∧ ways = 1) }) := by
  unfold Core.hdmCommit
  by_cases h : size = hdmEnd ∧ ways = 1 <;> simp [h]

/-- Settles O51: each command is one case of its operation, and each clause reads off what that case leaves. -/
theorem hostMemory : Obligations.HostMemory := by
  unfold Obligations.HostMemory
  refine ⟨?_, ?_, ?_, ?_, ?_, ?_⟩
  · intro t o s hm hc
    exact ⟨State.run_flip_taken hm (.inl rfl) hc, State.run_flip_taken hm (.inr rfl) hc⟩
  · rintro t o i s hm ho hc (rfl | rfl)
    · exact State.run_flip_refused hm (.inl rfl) hc ho
    · exact State.run_flip_refused hm (.inr rfl) hc ho
  · intro t f s hf
    obtain ⟨u, hu, hmem, hc, -⟩ := State.run_ends t (fun _ c => c.flipDone) s
    refine ⟨fun hd hr => ⟨u, hu, ?_⟩, fun h => ⟨u, hu, hmem, ?_⟩⟩
    · rwa [Core.flipDone_waits hf hd hr] at hc
    · rw [Core.flipDone_ends hf h] at hc
      have hlog := (Core.Logged.summary (c := (s.core.mapCxl (fun x => { x with
        flip := none, devBias := f.bias x.devBias })).put 0x3010 4 2) 4).trans (Core.Logged.msix 10)
      have hdict : u.core.dict = (s.core.put 0x3010 4 2).dict := by
        rw [Core.of_under hc Core.dict, Core.msix_dict, Core.summary_dict]
        rfl
      refine ⟨?_, ?_, ?_, Core.keeps_put (by decide) hdict, fun p => ?_⟩
      · rw [Core.of_under hc (·.cxl.flip), hlog.cxlSame Cxl.flip]
        rfl
      · exact (congrArg (fun l => sget dfltOf l (key 0x3010 4)) hdict).trans (Core.obj_put_self _ _ _ _)
      · rw [Core.of_under hc (·.cxl.summary), Core.msix_cxl]
        exact Core.summary_bit (by decide) _
      · rw [Core.of_under hc (·.cxl.devBias), hlog.cxlSame Cxl.devBias]
        exact f.mem_bias _ p
  · intro t off op s
    refine ⟨exec_cxlMemRequest_beyond, fun h ho hs => ?_, fun h ho hs => ?_, fun h ho => ?_⟩
    all_goals
      rw [exec_cxlMemRequest h]
      obtain ⟨u, hu, hmem, hc, hout⟩ := State.run_ends t (fun now c => c.memRequest now off op) s
    · rw [Core.memRequest_awake ho _ _ _ hs] at hc
      refine ⟨u, hu, hmem, ?_, fun i r hr hn => ?_⟩
      · rw [Core.of_under hc (·.dram.queue), Core.dramArrive_queue,
          Core.when_bump_leaves Core.dram (fun _ _ _ _ => rfl),
          Core.keeps_when_bump _ (by decide) _ 0x2E21 3 (by decide) (by decide)]
      · rw [Core.of_under hc (·.obj i r)]
        exact Core.keeps_when_bump _ (by decide) _ i r hr hn
    · obtain ⟨hdict, hq, hras, hread⟩ := Core.memRequest_asleep ho (s.at_ t) off op hs
      refine ⟨u, hu, hmem, (Core.of_under hc Core.dict).trans hdict, (Core.of_under hc (·.dram.queue)).trans hq,
        (Core.of_under hc (·.cxl.ras)).trans hras, fun e => ?_⟩
      rw [hread e] at hout
      exact hout
    · rw [Core.memRequest_closed ho] at hc
      exact ⟨u, hu, hc⟩
  · intro t a inv s hd hx
    obtain ⟨u, hu, hmem, hc, hout⟩ := State.run_ends t (fun _ c => c.snoop a inv) s
    rw [Core.snoop_answers hd hx] at hc hout
    refine ⟨u, hu, hmem, ?_, fun i r hr hn => ?_, ?_⟩
    · rw [Core.emit_out, Core.out_bump] at hout
      exact hout
    · rw [Core.of_under hc (·.obj i r)]
      exact Core.keeps_bump_of rfl (by decide) i r hr hn
    · rw [Core.of_under hc (·.cxl.cache), Core.bump_with]
      rfl
  · intro t size ways s
    obtain ⟨u, hu, hmem, hc, -⟩ := State.run_ends t (fun _ c => (c.mapCxl (fun x => { x with
      comp := aput (aput x.comp 0x1218 (size % 2 ^ 32)) 0x121C (size / 2 ^ 32 % 2 ^ 32) })).hdmCommit size ways) s
    rw [Core.hdmCommit_eq] at hc
    exact ⟨u, hu, hmem, hc⟩

end Sys2Proof.Machine
end

section
namespace Sys2Proof.Machine

/-! ### What the attachment's commands leave (13 R384 to R387, R417) -/

/-- A core without the attachment, its mailbox, the streams and the references, and without what events and free values
touch. -/
def Core.hostRest (c : Core) : Core := { c.rest with ctx := {}, eng := {}, mbx := {}, free := 0 }

theorem Core.hostRest_of_rest {c d : Core} (h : d.rest = c.rest) : d.hostRest = c.hostRest :=
  congrArg (fun x : Core => { x with ctx := {}, eng := {}, mbx := {}, free := 0 }) h

theorem Core.of_hostRest {α : Type} (f : Core → α) {c d : Core} (h : d.hostRest = c.hostRest)
    (hf : ∀ c : Core, f c.hostRest = f c := by intros; rfl) : f d = f c := by rw [← hf d, h, hf c]

/-- A field of the attachment that logging leaves. -/
theorem Cxl.same_of_quiet {x y : Cxl} (h : x.quiet = y.quiet) {α : Type} (f : Cxl → α)
    (hf : ∀ x : Cxl, f x.quiet = f x := by intros; rfl) : f x = f y := by rw [← hf x, h, hf y]

/-! ### Units issued leave the objects (13 R404, R407) -/

theorem Core.writeback_dict (now i : Nat) (c : Core) : (c.writeback now i).dict = c.dict := by
  unfold Core.writeback
  dsimp only
  split
  · rfl
  · split
    · rw [Core.msix_dict]
      rfl
    · rfl

/-- Only a record shows in an object, as the last number. -/
theorem Core.produce_dict {i : Nat} (hi : i ≠ 0) (now : Nat) (e : List Byte) (c : Core) :
    (c.produce now i e).dict = c.dict := by
  unfold Core.produce
  dsimp only
  rw [if_neg hi, Core.writeback_dict]
  rfl

theorem Core.issue_dict {i : Nat} (hi : i ≠ 0) (now : Nat) (e : List Byte) (c : Core) :
    (c.issue now i e).dict = c.dict := by
  unfold Core.issue
  split
  · exact Core.produce_dict hi _ _ _
  · exact Core.summary_dict _ _

/-! ### What waits for the link tries again (07 R243, 13 R409) -/

/-- The objects that waiting outputs move: units not started, pictures written, the staging area's fill. -/
def waitingObjs : List (Nat × Nat) := [(0x3210, 10), (0x2840, 7), (0x2840, 9)]

/-- `d` is `c` after waiting outputs were issued: rings, streams, vectors, the outputs and `waitingObjs` may differ, and
free values may have been taken. -/
structure Core.Retried (c d : Core) : Prop where
  rest : d.hostRest = c.hostRest
  cxl : d.cxl.quiet = c.cxl.quiet
  active : d.ev.active = c.ev.active
  obj : c.keeps d waitingObjs

namespace Core.Retried

theorem refl (c : Core) : c.Retried c := ⟨rfl, rfl, rfl, fun _ _ _ _ => rfl⟩

theorem trans {c d e : Core} (h1 : c.Retried d) (h2 : d.Retried e) : c.Retried e :=
  ⟨h2.rest.trans h1.rest, h2.cxl.trans h1.cxl, h2.active.trans h1.active,
    fun i s hs hn => (h2.obj i s hs hn).trans (h1.obj i s hs hn)⟩

theorem of_logged {c d : Core} (h : c.Logged d) (hd : d.dict = c.dict) (he : d.ev = c.ev) : c.Retried d :=
  ⟨Core.hostRest_of_rest h.rest, h.cxl, congrArg Ev.active he, Core.keeps_of_dict hd⟩

theorem when {c : Core} {b : Bool} {f : Core → Core} (h : c.Retried (f c)) : c.Retried (c.when b f) :=
  Core.when_of (P := c.Retried) b f c (refl c) h

theorem foldl {α : Type} {f : Core → α → Core} (h : ∀ (c : Core) (a : α), c.Retried (f c a)) (l : List α) (c : Core) :
    c.Retried (l.foldl f c) := by
  induction l generalizing c with
  | nil => exact refl c
  | cons a l ih => exact (h c a).trans (ih _)

theorem put (c : Core) {i s : Nat} (v : Nat) (h : (i, s) ∈ waitingObjs) (hs : s < 256) : c.Retried (c.put i s v) :=
  ⟨rfl, rfl, rfl, fun _ _ hr hn => c.obj_keep _ _ _ _ _ hs hr fun e => hn (e ▸ h)⟩

theorem bump (c : Core) {i s : Nat} (h : (i, s) ∈ waitingObjs) (hs : s < 256) : c.Retried (c.bump i s) := by
  rw [Core.bump_eq]
  exact put c _ h hs

theorem mapCtx (c : Core) (f : Ctx → Ctx) : c.Retried (c.mapCtx f) := ⟨rfl, rfl, rfl, fun _ _ _ _ => rfl⟩

theorem mapRing (c : Core) (i : Nat) (f : Ring → Ring) : c.Retried (c.mapRing i f) :=
  of_logged (Core.Logged.mapRing i f) rfl rfl

theorem hostCarries (c : Core) (k : Nat) : c.Retried (c.hostCarries k).2 := by
  rcases Core.hostCarries_core k c with h | h <;> rw [h]
  · exact refl c
  · exact ⟨rfl, rfl, rfl, fun _ _ _ _ => rfl⟩

theorem issue (c : Core) (now : Nat) {i : Nat} (e : List Byte) (hi : i ≠ 0) : c.Retried (c.issue now i e) :=
  of_logged (Core.Logged.issue now i e hi) (Core.issue_dict hi _ _ _) (Core.issue_ev _ _ _ _)

theorem payloadWait (c : Core) : c.Retried c.payloadWait :=
  (of_logged (Core.Logged.summary 6) (Core.summary_dict _ _) (Core.summary_ev _ _)).trans
    (of_logged (Core.Logged.msix 15) (Core.msix_dict _ _) (Core.msix_ev _ _))

theorem notStarted (c : Core) (k n : Nat) : c.Retried (c.notStarted k n) :=
  (bump c (i := 0x3210) (s := 0x0A) (by decide) (by decide)).trans ⟨rfl, rfl, rfl, fun _ _ _ _ => rfl⟩

theorem payTake {c d : Core} {i n off : Nat} (h : c.payTake i n = some (off, d)) : c.Retried d := by
  unfold Core.payTake at h
  extract_lets r sz k pos skip at h
  obtain ⟨-, h⟩ := (Option.ite_none_right_eq_some).1 h
  obtain ⟨-, rfl⟩ := Prod.mk.inj (Option.some.inj h)
  exact mapRing c i _

theorem payWrite (c : Core) (now i off : Nat) (data : List Byte) : c.Retried (c.payWrite now i off data) :=
  (of_logged (Core.Logged.emit (.hostWrite ((c.ring i).base + off) data)) rfl rfl).trans
    (of_logged (Core.Logged.writeback now i) (Core.writeback_dict _ _ _) (Core.writeback_ev _ _ _))

theorem takeSeq (c : Core) (k n run : Nat) : c.Retried (c.takeSeq k n run) := by
  unfold Core.takeSeq
  exact mapCtx c _

/-- A frame that waits for the link no more. -/
theorem sent (c : Core) (q : AuxFrame) (f : AuxFrame → AuxFrame) : c.Retried (c.mapFrame q f).freeSlots :=
  (mapCtx c _).trans (mapCtx (c.mapFrame q f) _)

/-- A picture or GAP leaves the staging area. -/
theorem unstaged (c : Core) (l : List Picture) : c.Retried (c.mapCtx (fun x => { x with staged := l })).stagingFill :=
  (mapCtx c _).trans (put _ (i := 0x2840) (s := 9) _ (by decide) (by decide))

/-- A frame leaves its slot, is counted as not started, or waits. -/
theorem auxSend (c : Core) (now p : Nat) : c.Retried (c.auxSend now p) := by
  unfold Core.auxSend
  split
  · exact refl c
  next r _ =>
    split
    · exact refl c
    · split
      · exact (notStarted c 2 (p + 2)).trans (sent _ r _)
      · extract_lets n w h rows pitch link d out x
        have hd : c.Retried d := by
          unfold d link
          split
          · exact hostCarries c 2
          · exact refl c
        rcases hout : out with _ | ⟨off, e⟩
        · exact hd.trans (when (payloadWait d))
        · have he : d.Retried e := by
            unfold out at hout
            split at hout
            · obtain ⟨-, rfl⟩ := Prod.mk.inj (Option.some.inj hout)
              exact refl d
            · split at hout
              · exact payTake hout
              · cases hout
          dsimp only
          exact hd.trans (he.trans ((when (payWrite e now 7 off _)).trans ((issue _ now _ (by decide)).trans
            ((takeSeq _ 1 (p + 2) r.run).trans (sent _ r _)))))

/-- Staged pictures and GAPs go out, in order, while there is space. -/
theorem archiveDrain (now f : Nat) (c : Core) : c.Retried (c.archiveDrain now f) := by
  induction f generalizing c with
  | zero => exact refl c
  | succ f ih =>
    unfold Core.archiveDrain
    split
    · exact refl c
    next p l _ =>
      split
      · exact refl c
      · extract_lets seq done link
        split
        · exact (unstaged c l).trans ((issue _ now _ (by decide)).trans (ih _))
        · have hl : c.Retried link.2 := hostCarries c 3
          split
          · exact hl.trans (when (payloadWait _))
          next off d hr =>
            have hd : link.2.Retried d := by
              split at hr
              · exact payTake hr
              · cases hr
            exact hl.trans (hd.trans ((payWrite d now 9 off _).trans ((issue _ now _ (by decide)).trans
              ((bump _ (by decide) (by decide)).trans ((unstaged _ l).trans
                ((takeSeq _ 2 p.ctx p.run).trans (ih _)))))))

theorem payloadFreed (c : Core) (now i : Nat) : c.Retried (c.payloadFreed now i) := by
  unfold Core.payloadFreed
  split
  · refine foldl (fun c f => ?_) _ c
    split
    · exact auxSend c now _
    · exact refl c
  · split
    · exact archiveDrain now _ c
    · exact refl c

theorem payloadRetry (c : Core) (now : Nat) : c.Retried (c.payloadRetry now) :=
  (payloadFreed c now 7).trans (payloadFreed _ now 9)

end Core.Retried

end Sys2Proof.Machine
end

section
namespace Sys2Proof.Machine

/-! ### Events while EVR is disabled are held (13 R407) -/

/-- The rings of `d` are those of `c`, but for entries held behind those of EVR. -/
def Core.evrHolds (c d : Core) : Prop :=
  ∃ l, d.cxl.rings = modAt c.cxl.rings 4 (fun r => { r with held := r.held ++ l })

theorem Core.evrHolds_of_rings {c d : Core} (h : d.cxl.rings = c.cxl.rings) : c.evrHolds d := by
  refine ⟨[], h.trans ?_⟩
  have hid : (fun r : Ring => { r with held := r.held ++ [] }) = id := by
    funext r
    simp
  rw [hid, modAt, List.modify_id]

theorem Core.bump_cxl (i s : Nat) (c : Core) : (c.bump i s).cxl = c.cxl := by rw [Core.bump_eq]; rfl

theorem Core.summary_rings (b : Nat) (c : Core) : (c.summary b).cxl.rings = c.cxl.rings := by
  unfold Core.summary
  split
  · rfl
  · dsimp only
    split
    · exact Core.rings_msix _ _
    · rfl

theorem Core.emergency_cxl (now code cls seg line : Nat) (c : Core) :
    (c.emergency now code cls seg line).cxl = c.cxl := by
  unfold Core.emergency
  dsimp only
  split <;> split <;> exact Core.bump_cxl _ _ _

section
variable {c : Core} (h : (c.ring 4).enable = false)
include h

theorem Core.toEvr_evrHolds (now code dc : Nat) (data : List Byte) : c.evrHolds (c.toEvr now code dc data) := by
  unfold Core.toEvr
  split
  · exact Core.evrHolds_of_rings rfl
  · split
    · have hclosed : c.ringOpen 4 = false := by simp [Core.ringOpen, h]
      dsimp only
      rw [Core.issue, Core.ringOpen_put, hclosed, Bool.false_and, if_neg Bool.false_ne_true]
      exact ⟨_, Core.summary_rings _ _⟩
    · exact Core.evrHolds_of_rings (congrArg Cxl.rings (Core.bump_cxl _ _ _))

theorem Core.eventRaw_evrHolds (now code dc seg unit : Nat) (data : List Byte) :
    c.evrHolds (c.eventRaw now code dc seg unit data) := by
  have hb := Core.bump_cxl 0x3200 1 c
  have hring : ((c.bump 0x3200 1).ring 4).enable = false := by rw [Core.ring_bump, h]
  unfold Core.eventRaw
  dsimp only
  split
  · exact Core.evrHolds_of_rings rfl
  · split
    · obtain ⟨l, hl⟩ := Core.toEvr_evrHolds (c := (c.bump 0x3200 1).mapEv (fun v => { v with
        active := v.active ++ [(code, unit)] })) hring now code dc data
      refine ⟨l, ?_⟩
      rw [Core.emergency_cxl]
      exact hl.trans (by rw [Core.mapEv_cxl, hb])
    · obtain ⟨l, hl⟩ := Core.toEvr_evrHolds hring now code dc data
      exact ⟨l, hl.trans (by rw [hb])⟩

theorem Core.condOn_evrHolds (now code seg unit : Nat) (tail : List Byte) :
    c.evrHolds (c.condOn now code seg unit tail) := by
  unfold Core.condOn
  split
  · exact Core.evrHolds_of_rings rfl
  · exact Core.eventRaw_evrHolds h _ _ _ _ _ _

end

/-! ### The host link goes down (13 R386, 15 R447) -/

/-- The link as it is down from `now` on. -/
def Cxl.lost (now : Nat) (x : Cxl) : Cxl :=
  { x with hostUp := false, downAt := if x.hostUp then now else x.downAt }

/-- A link that is up is lost and counted, and its event follows. -/
theorem Core.linkDown_up {c : Core} (h : c.cxl.hostUp = true) (now cause : Nat) : c.linkDown now cause =
    ((c.mapCxl (Cxl.lost now)).bump 0x3000 7).condOn now 0x8110 0xFF 0 (leBytes 1 cause) := by
  simp [Core.linkDown, Cxl.lost, Core.mapCxl, h]

theorem Core.linkDown_down {c : Core} (h : c.cxl.hostUp = false) (now cause : Nat) : c.linkDown now cause = c := by
  simp [Core.linkDown, h]

theorem Core.rest_linkDown (now cause : Nat) (c : Core) : (c.linkDown now cause).rest = c.rest := by
  unfold Core.linkDown
  split <;> simp

theorem Core.linkDown_cxl (now cause : Nat) (c : Core) :
    (c.linkDown now cause).cxl.quiet = (c.cxl.lost now).quiet := by
  cases h : c.cxl.hostUp with
  | true =>
    rw [Core.linkDown_up h, (Core.Logged.condOn now 0x8110 0xFF 0 (leBytes 1 cause)).cxl, Core.bump_cxl]
    rfl
  | false =>
    rw [Core.linkDown_down h]
    simp [Cxl.lost, Cxl.quiet, h]

theorem Core.linkDown_active {c : Core} (h : c.cxl.hostUp = true) (hm : c.mode ≠ .compline) (now cause : Nat) :
    (c.linkDown now cause).active 0x8110 0 = true := by
  rw [Core.linkDown_up h]
  refine Core.condOn_active _ _ _ _ ?_ (by decide)
  rw [Core.bump_with]
  exact hm

theorem Core.linkDown_evrHolds {c : Core} (h : (c.ring 4).enable = false) (now cause : Nat) :
    c.evrHolds (c.linkDown now cause) := by
  cases hu : c.cxl.hostUp with
  | true =>
    have hb := Core.bump_cxl 0x3000 7 (c.mapCxl (Cxl.lost now))
    rw [Core.linkDown_up hu]
    obtain ⟨l, hl⟩ := Core.condOn_evrHolds (c := (c.mapCxl (Cxl.lost now)).bump 0x3000 7)
      (by rw [Core.ring_bump]; exact h) now 0x8110 0xFF 0 (leBytes 1 cause)
    exact ⟨l, hl.trans (by rw [hb]; rfl)⟩
  | false =>
    rw [Core.linkDown_down hu]
    exact Core.evrHolds_of_rings rfl

/-! ### A reset of the attachment (13 R387) -/

/-- A mailbox request stopped: nothing but the mailbox changes, and it is not busy. -/
theorem Core.mbxStop_stops (c : Core) :
    ∃ m : Mbx, m.busy = false ∧ c.mbxStop = ({ c with mbx := m } : Core).under c.mbxStop := by
  cases hb : c.mbx.busy with
  | true => exact ⟨_, rfl, c.under_mbxStop c.mbxStop hb⟩
  | false =>
    refine ⟨c.mbx, hb, ?_⟩
    have hs : c.mbxStop = c := by simp [Core.mbxStop, hb]
    rw [hs]
    rfl

/-- A ring as a reset leaves it: disabled, with what it holds. -/
def Ring.reset (r : Ring) : Ring := { held := r.held, old := r.old, lastOut := r.lastOut }

/-- The pages that stay in device bias: staging of a running job. -/
def Core.biasKept (c : Core) : List Nat := if c.job.running then c.cxl.devBias.filter c.stagingPage else []

theorem Core.mem_biasKept (c : Core) (p : Nat) : p ∈ c.biasKept ↔
    c.job.running = true ∧ p ∈ c.cxl.devBias ∧ c.stagingPage p = true := by
  unfold Core.biasKept
  cases c.job.running <;> simp

/-- The attachment reset, with the pages that stay in device bias. -/
def Cxl.reset (bias : List Nat) (x : Cxl) : Cxl :=
  { x with
    rings := x.rings.map Ring.reset, devBias := bias, dlUp := false, d0 := true, master := false, recSince := none,
    training := false, msix := [], pba := [], shadow := [], half := [], hdmOk := false, hdmErr := false, cache := [],
    cfg := [], comp := [], d3Want := false }

theorem Core.refsDiscard_leaves (c : Core) : c.refsDiscard.cxl = c.cxl ∧ c.refsDiscard.mbx = c.mbx ∧
    c.refsDiscard.hostRest = c.hostRest := by
  unfold Core.refsDiscard Core.bumpBy
  dsimp only
  split <;> exact ⟨rfl, rfl, rfl⟩

theorem Core.dlDown_eq (c : Core) : c.dlDown = c.mapCxl (fun x => { x with dlUp := false }) := by
  unfold Core.dlDown
  cases h : c.cxl.dlUp with
  | true => rfl
  | false =>
    have hx : { c.cxl with dlUp := false } = c.cxl := by rw [← h]
    simp only [Core.when_false, Core.mapCxl, hx]

/-- `d` is `c` after a reset of the attachment at `now`. -/
structure Core.Reset (now : Nat) (c d : Core) : Prop where
  rest : d.hostRest = c.hostRest
  busy : d.mbx.busy = false
  cxl : d.cxl.quiet = ((c.cxl.reset c.biasKept).lost now).quiet
  rings : ∃ l, d.cxl.rings = modAt (c.cxl.rings.map Ring.reset) 4 (fun r => { r with held := r.held ++ l })
  active : c.cxl.hostUp = true → c.mode ≠ .compline → d.active 0x8110 0 = true

theorem Core.attachReset_eq (now : Nat) (c : Core) : ∃ d : Core, c.attachReset now = d.linkDown now 1 ∧
    d.cxl = c.cxl.reset c.biasKept ∧ d.mbx.busy = false ∧ d.hostRest = c.hostRest := by
  obtain ⟨m, hm, hs⟩ := c.mbxStop_stops
  let b := (c.mbxStop.ringsOff true).biasReset
  have hb : b.cxl = { c.cxl with
      pba := c.mbxStop.cxl.pba, rings := c.cxl.rings.map Ring.reset, devBias := c.biasKept } := by
    unfold b
    rw [hs]
    rfl
  have hmb : b.mbx = m := by
    unfold b
    rw [hs]
    rfl
  have hr : b.hostRest = c.hostRest := by
    unfold b
    rw [hs]
    rfl
  obtain ⟨hdc, hdm, hdr⟩ := b.refsDiscard_leaves
  have hrest : ∀ f : Cxl → Cxl, ((b.refsDiscard.dlDown.mapCxl f).bump 0x3000 0x0A).rest =
      b.refsDiscard.rest := fun f => by
    rw [Core.rest_bump, Core.rest_mapCxl, Core.dlDown_eq, Core.rest_mapCxl]
  refine ⟨_, rfl, ?_, ?_, ?_⟩
  · rw [Core.bump_cxl, Core.mapCxl_cxl, Core.dlDown_eq, Core.mapCxl_cxl, hdc, hb]
    rfl
  · rw [Core.of_rest (·.mbx.busy) (fun _ => rfl) (hrest _), hdm, hmb, hm]
  · exact (Core.hostRest_of_rest (hrest _)).trans (hdr.trans hr)

theorem Core.attachReset_resets (now : Nat) (c : Core) : c.Reset now (c.attachReset now) := by
  obtain ⟨d, hd, hcxl, hbusy, hrest⟩ := c.attachReset_eq now
  have hoff : (d.ring 4).enable = false := by
    rw [Core.ring, hcxl]
    exact congrArg Ring.enable (List.getD_map (f := Ring.reset) (d := {}) (l := c.cxl.rings) (n := 4) )
  obtain ⟨l, hl⟩ := Core.linkDown_evrHolds hoff now 1
  have hmode : d.mode = c.mode := Core.of_hostRest Core.mode hrest
  rw [hd]
  refine ⟨(Core.hostRest_of_rest (d.rest_linkDown now 1)).trans hrest, ?_, ?_, ⟨l, ?_⟩, fun hu hm => ?_⟩
  · rw [Core.of_rest (·.mbx.busy) (fun _ => rfl) (d.rest_linkDown now 1), hbusy]
  · rw [Core.linkDown_cxl, hcxl]
  · rw [hl, hcxl]
    rfl
  · exact Core.linkDown_active (by rw [hcxl]; exact hu) (hmode ▸ hm) now 1

namespace Core.Reset

variable {now : Nat} {c d : Core} (h : c.Reset now d)
include h

/-- Each ring is as the reset leaves it; EVR's events come behind what it held. -/
theorem ring (i : Nat) : ∃ l, (i ≠ 4 → l = []) ∧
    d.ring i = { (c.ring i).reset with held := (c.ring i).held ++ l } := by
  obtain ⟨l, hl⟩ := h.rings
  have hr : (c.cxl.rings.map Ring.reset).getD i {} = (c.ring i).reset :=
    List.getD_map (f := Ring.reset) (d := {}) (l := c.cxl.rings) (n := i)
  by_cases hi : 4 = i
  · subst hi
    by_cases hlen : 4 < (c.cxl.rings.map Ring.reset).length
    · refine ⟨l, fun hne => absurd rfl hne, ?_⟩
      rw [Core.ring, hl, getD_modAt_self hlen, hr]
      rfl
    · have hle := Nat.not_lt.mp hlen
      have hnone : c.ring 4 = {} := List.getD_eq_default _ _ (by simpa using hle)
      refine ⟨[], fun _ => rfl, ?_⟩
      rw [hnone, Core.ring, hl]
      exact List.getD_eq_default _ _ (by simpa [modAt] using hle)
  · refine ⟨[], fun _ => rfl, ?_⟩
    rw [Core.ring, hl, getD_modAt_ne hi, hr, List.append_nil]
    rfl

end Core.Reset

/-! ### A function-level reset (13 R387) -/

theorem Core.flr_stands (c : Core) : ∃ m : Mbx, ∃ x : Ctx, m.busy = false ∧ c.flr = ({ c with
    mbx := m, ctx := x, cxl := { c.cxl with
      msix := [], rings := c.cxl.rings.map (fun r => { r with enable := false }) } } : Core).under c.flr := by
  obtain ⟨m, hm, hs⟩ := c.mbxStop_stops
  refine ⟨m, c.flr.ctx, hm, ?_⟩
  unfold Core.flr
  rw [hs]
  rfl

end Sys2Proof.Machine
end

section
namespace Sys2Proof.Machine

/-! ### The host link goes down by each of its causes (13 R386, R417) -/

theorem Core.toD3_waits {c : Core} (h : ∃ r ∈ c.eng.refs, r.got < r.asked) (now : Nat) :
    c.toD3 now = c.mapCxl (fun x => { x with d3Want := true }) := by
  obtain ⟨r, hr, hlt⟩ := h
  exact if_pos (List.any_of_mem hr (decide_eq_true hlt))

theorem Core.toD3_takes {c : Core} (h : ∀ r ∈ c.eng.refs, r.asked ≤ r.got) (now : Nat) :
    c.toD3 now = (c.mapCxl (fun x => { x with d0 := false, d3Want := false })).linkDown now 2 := by
  refine if_neg ?_
  rw [List.any_eq_true]
  rintro ⟨r, hr, hlt⟩
  exact absurd (of_decide_eq_true hlt) (Nat.not_lt.mpr (h r hr))

/-- A recovery takes the link down once it has lasted 1 ms. -/
theorem Core.hostLinkDown_recovery {c : Core} {a : Nat} (ha : c.cxl.recSince = some a) (now : Nat) :
    c.hostLinkDown now .recovery = if a + 1000000 ≤ now then c.linkDown now 0 else c := by
  simp [Core.hostLinkDown, ha]

/-- DL_Down resets the attachment where its reset has not come yet. -/
theorem Core.hostLinkDown_dl (now : Nat) (c : Core) : c.hostLinkDown now .dlDown =
    if c.cxl.dlUp then c.attachReset now
    else (c.mapCxl (fun x => { x with recSince := none })).linkDown now 1 := rfl

theorem Core.hostRest_linkDown (now cause : Nat) (c : Core) : (c.linkDown now cause).hostRest = c.hostRest :=
  Core.hostRest_of_rest (c.rest_linkDown now cause)

theorem Core.hostRest_hostLinkDown (now : Nat) (cause : LinkDownCause) (c : Core) :
    (c.hostLinkDown now cause).hostRest = c.hostRest := by
  cases cause with
  | recovery =>
    cases ha : c.cxl.recSince with
    | none => simp [Core.hostLinkDown, ha]
    | some a =>
      rw [Core.hostLinkDown_recovery ha]
      split
      · exact c.hostRest_linkDown _ _
      · rfl
  | dlDown =>
    rw [Core.hostLinkDown_dl]
    split
    · exact (c.attachReset_resets now).rest
    · exact Core.hostRest_linkDown _ _ _
  | d3hot =>
    show (c.toD3 now).hostRest = _
    unfold Core.toD3
    split
    · rfl
    · exact Core.hostRest_linkDown _ _ _
  | busMasterOff => exact Core.hostRest_linkDown _ _ _

/-! ### The host link comes up (13 R386) -/

theorem Core.Logged.msixPending (c : Core) : c.Logged c.msixPending := by
  have hsent : ∀ (l : List Nat) (d : Core), d.Logged (l.foldl (fun c v => c.emit (.msix v)) d) := by
    intro l
    induction l with
    | nil => exact Core.Logged.refl
    | cons v l ih => exact fun d => (Core.Logged.emit (.msix v)).trans (ih _)
  unfold Core.msixPending
  split
  · exact Core.Logged.refl c
  · exact (Core.Logged.mapCxl _ rfl).trans (hsent _ _)

/-- The attachment with the conditions of the link met. -/
def Cxl.up (x : Cxl) : Cxl := { x with hostUp := true, d0 := true, master := true, d3Want := false, recSince := none }

/-- The link up again, with the time that it was down kept where its event was active. -/
def Core.upAgain (now : Nat) (c : Core) : Core :=
  (c.mapCxl Cxl.up).when (c.active 0x8110 0) (Core.raiseTo 0x3000 9 ((now - c.cxl.downAt) / 1000000 % 2 ^ 32))

theorem Core.upAgain_leaves (now : Nat) (c : Core) : (c.upAgain now).hostRest = c.hostRest ∧
    (c.upAgain now).cxl = c.cxl.up := by
  unfold Core.upAgain Core.raiseTo
  cases c.active 0x8110 0 with
  | true =>
    dsimp only [Core.when_true]
    split <;> exact ⟨rfl, rfl⟩
  | false => exact ⟨rfl, rfl⟩

theorem Core.hostLinkUp_eq {c : Core} (hu : c.cxl.hostUp = false) (hd : c.cxl.dlUp = true) (hp : c.cxl.perst = false)
    (now : Nat) : c.hostLinkUp now =
      (((c.upAgain now).msixPending.condOff 0x8110 0).event now 0x012A 0xFF []).payloadRetry now := by
  simp only [Core.hostLinkUp, hu, hd, hp, Bool.not_true, Bool.or_false, Bool.false_eq_true, if_false]
  rfl

theorem Core.hostLinkUp_stays {c : Core} (h : (c.cxl.hostUp || !c.cxl.dlUp || c.cxl.perst) = true) (now : Nat) :
    c.hostLinkUp now = c := if_pos h

/-- What comes up: the attachment's conditions, its event over, and nothing of the rest. -/
theorem Core.linkComesUp (now : Nat) (c : Core) {d : Core}
    (hd : d = (((c.upAgain now).msixPending.condOff 0x8110 0).event now 0x012A 0xFF []).payloadRetry now) :
    d.hostRest = c.hostRest ∧ d.cxl.quiet = c.cxl.up.quiet ∧ d.active 0x8110 0 = false := by
  obtain ⟨hrest, hcxl⟩ := c.upAgain_leaves now
  have hretry := Core.Retried.payloadRetry
    (((c.upAgain now).msixPending.condOff 0x8110 0).event now 0x012A 0xFF []) now
  have hlog : (c.upAgain now).Logged (((c.upAgain now).msixPending.condOff 0x8110 0).event now 0x012A 0xFF []) :=
    (Core.Logged.msixPending _).trans ((Core.Logged.condOff 0x8110 0).trans (Core.Logged.event now 0x012A 0xFF []))
  rw [hd]
  refine ⟨hretry.rest.trans ((Core.hostRest_of_rest hlog.rest).trans hrest), ?_, ?_⟩
  · rw [hretry.cxl, hlog.cxl, hcxl]
  · unfold Core.active
    rw [hretry.active, Core.event, Core.eventRaw_informs _ _ _ _ _ (by decide)]
    exact Core.condOff_inactive _ _ _

theorem Core.hostRest_hostLinkUp (now : Nat) (c : Core) : (c.hostLinkUp now).hostRest = c.hostRest := by
  cases hs : (c.cxl.hostUp || !c.cxl.dlUp || c.cxl.perst) with
  | true => rw [Core.hostLinkUp_stays hs]
  | false =>
    simp only [Bool.or_eq_false_iff, Bool.not_eq_eq_eq_not, Bool.not_false] at hs
    obtain ⟨⟨hu, hd⟩, hp⟩ := hs
    exact (c.linkComesUp now (Core.hostLinkUp_eq hu hd hp now)).1

/-! ### The link trains (13 R382, R384, R385) -/

/-- The trained link's width, rate and planning figure, and the protocol that it runs. -/
def Core.trained (width rate10 : Nat) (cxl : Bool) (c : Core) : Core :=
  (((c.mapCxl (fun x => { x with
    dlUp := true, training := false, recSince := none,
    cxlMode := (if c.cxl.dlUp then c.cxl.cxlMode else cxl && c.flag 0x3001 1) && decide (80 ≤ rate10) })).put
    0x3000 2 (width % 256)).put 0x3000 3 (rate10 % 65536)).put 0x3000 4 (toF32 (planning width rate10))

/-- The event of a link below full width or rate, and the retry of what waits. -/
def Core.trainedRetry (now width rate10 : Nat) (c : Core) : Core :=
  (c.when (decide (width < 8) || decide (rate10 < 320)) (fun c => (c.summary 0).event now 0x0129 0xFF
    (leBytes 1 width ++ leBytes 1 (rate10 / 10)))).payloadRetry now

theorem Core.linkTrained_trains {c : Core} (h : c.mayTrain = true) (now width rate10 : Nat) (cxl : Bool) :
    c.linkTrained now width rate10 cxl = (c.trained width rate10 cxl).trainedRetry now width rate10 := by
  unfold Core.linkTrained
  rw [h]
  rfl

theorem Core.linkTrained_stays {c : Core} (h : c.mayTrain = false) (now width rate10 : Nat) (cxl : Bool) :
    c.linkTrained now width rate10 cxl = c := by
  unfold Core.linkTrained
  rw [h]
  rfl

/-- Beyond the rest and the attachment, the retry leaves the objects outside the event log and the waiting outputs. -/
theorem Core.trainedRetry_leaves (now width rate10 : Nat) (c : Core) :
    (c.trainedRetry now width rate10).hostRest = c.hostRest ∧
    (c.trainedRetry now width rate10).cxl.quiet = c.cxl.quiet ∧
    (∀ i s, s < 256 → i ≠ 0x3200 → (i, s) ∉ waitingObjs → (c.trainedRetry now width rate10).obj i s = c.obj i s) := by
  have hlog : c.Logged (c.when (decide (width < 8) || decide (rate10 < 320)) (fun c =>
      (c.summary 0).event now 0x0129 0xFF (leBytes 1 width ++ leBytes 1 (rate10 / 10)))) :=
    Core.Logged.when ((Core.Logged.summary 0).trans (Core.Logged.event _ _ _ _))
  have hretry := Core.Retried.payloadRetry (c.when (decide (width < 8) || decide (rate10 < 320)) (fun c =>
    (c.summary 0).event now 0x0129 0xFF (leBytes 1 width ++ leBytes 1 (rate10 / 10)))) now
  exact ⟨hretry.rest.trans (Core.hostRest_of_rest hlog.rest), hretry.cxl.trans hlog.cxl,
    fun i s hs hi hn => (hretry.obj i s hs hn).trans (hlog.obj i s hs hi)⟩

/-- At full width and rate there is no event. -/
theorem Core.trainedRetry_full {width rate10 : Nat} (hw : 8 ≤ width) (hr : 320 ≤ rate10) (now : Nat) (c : Core) :
    c.trainedRetry now width rate10 = c.payloadRetry now := by
  have hn : (decide (width < 8) || decide (rate10 < 320)) = false := by simp; omega
  rw [Core.trainedRetry, hn, Core.when_false]

theorem Core.hostRest_linkTrained (now width rate10 : Nat) (cxl : Bool) (c : Core) :
    (c.linkTrained now width rate10 cxl).hostRest = c.hostRest := by
  cases h : c.mayTrain with
  | true =>
    rw [Core.linkTrained_trains h]
    exact (Core.trainedRetry_leaves _ _ _ _).1
  | false => rw [Core.linkTrained_stays h]

/-! ### What no command of the links changes -/

theorem Core.hostRest_when (b : Bool) (f : Core → Core) (c : Core) (h : (f c).hostRest = c.hostRest) :
    (c.when b f).hostRest = c.hostRest :=
  Core.when_of (P := fun d => d.hostRest = c.hostRest) b f c rfl h

/-- A command whose effect is the attachment's own. -/
theorem State.run_hostRest {t : Nat} {f : Nat → Core → Core} {s u : State} (h : State.run t f s = .next u)
    (hf : ∀ now c, (f now c).hostRest = c.hostRest) :
    u.mem = s.mem ∧ u.core.mode = s.core.mode ∧ u.core.job = s.core.job ∧ u.core.owners = s.core.owners ∧
    u.core.pipe = s.core.pipe ∧ u.core.mot = s.core.mot ∧ u.core.trans = s.core.trans := by
  obtain ⟨v, hv, hmem, hc, -⟩ := State.run_ends t f s
  obtain rfl : u = v := Host.Outcome.next.inj (h.symm.trans hv)
  have hr : u.core.hostRest = s.core.hostRest := (Core.of_under hc Core.hostRest).trans (hf _ _)
  exact ⟨hmem, Core.of_hostRest Core.mode hr, Core.of_hostRest Core.job hr, Core.of_hostRest Core.owners hr,
    Core.of_hostRest Core.pipe hr, Core.of_hostRest Core.mot hr, Core.of_hostRest Core.trans hr⟩

/-! ### The clauses on the host link -/

theorem exec_perstNAssert_resets (t : Nat) (k : AttachReset) (s : State) :
    ∃ u, exec (.perstNAssert t k) s = .next u ∧ u.mem = s.mem ∧ u.core.cxl.dlUp = false ∧
      u.core.cxl.hostUp = false ∧ (k = .perstN → u.core.cxl.perst = true) ∧
      (∀ i, (u.core.ring i).enable = false ∧ (i ≠ 4 → (u.core.ring i).held = (s.core.ring i).held)) ∧
      (∃ l, (u.core.ring 4).held = (s.core.ring 4).held ++ l) ∧ u.core.cxl.msix = [] ∧
      (∀ p, p ∈ u.core.cxl.devBias ↔
        s.core.job.running = true ∧ p ∈ s.core.cxl.devBias ∧ s.core.stagingPage p = true) ∧
      u.core.mbx.busy = false := by
  obtain ⟨u, hu, hmem, hc, -⟩ := State.run_ends t (fun now c => (c.attachReset now).mapCxl (fun x => { x with
    perst := x.perst || k == .perstN })) s
  have h := s.core.attachReset_resets (s.at_ t)
  generalize s.core.attachReset (s.at_ t) = d at h hc
  have hring : ∀ i, u.core.ring i = d.ring i := fun i => Core.of_under hc (·.ring i)
  refine ⟨u, hu, hmem, ?_, ?_, ?_, fun i => ?_, ?_, ?_, fun p => ?_, ?_⟩
  · rw [Core.of_under hc (·.cxl.dlUp)]
    exact Cxl.same_of_quiet h.cxl Cxl.dlUp
  · rw [Core.of_under hc (·.cxl.hostUp)]
    exact Cxl.same_of_quiet h.cxl Cxl.hostUp
  · rintro rfl
    rw [Core.of_under hc (·.cxl.perst)]
    exact Bool.or_true _
  · obtain ⟨l, hl, hi⟩ := h.ring i
    rw [hring, hi]
    exact ⟨rfl, fun hne => by rw [hl hne, List.append_nil]⟩
  · obtain ⟨l, -, hi⟩ := h.ring 4
    exact ⟨l, by rw [hring, hi]⟩
  · rw [Core.of_under hc (·.cxl.msix)]
    exact Cxl.same_of_quiet h.cxl Cxl.msix
  · rw [Core.of_under hc (·.cxl.devBias), ← Core.mem_biasKept]
    exact iff_of_eq (congrArg (p ∈ ·) (Cxl.same_of_quiet h.cxl Cxl.devBias))
  · rw [Core.of_under hc (·.mbx.busy)]
    exact h.busy

section
variable (t : Nat) {s : State} (hup : s.core.cxl.hostUp = true)
include hup

theorem exec_hostLinkDown_dl : ∃ u, exec (.hostLinkDown t .dlDown) s = .next u ∧ u.core.cxl.hostUp = false ∧
    u.core.cxl.dlUp = false ∧ (s.core.cxl.dlUp = true → ∀ i, (u.core.ring i).enable = false) ∧
    u.core.cxl.downAt = s.at_ t ∧ (s.core.mode ≠ .compline → u.core.active 0x8110 0 = true) := by
  obtain ⟨u, hu, -, hc, -⟩ := State.run_ends t (fun now c => c.hostLinkDown now .dlDown) s
  rw [Core.hostLinkDown_dl] at hc
  cases hd : s.core.cxl.dlUp with
  | true =>
    rw [hd, if_pos rfl] at hc
    have h := s.core.attachReset_resets (s.at_ t)
    generalize s.core.attachReset (s.at_ t) = d at h hc
    refine ⟨u, hu, ?_, ?_, fun _ i => ?_, ?_, fun hm => ?_⟩
    · rw [Core.of_under hc (·.cxl.hostUp)]
      exact Cxl.same_of_quiet h.cxl Cxl.hostUp
    · rw [Core.of_under hc (·.cxl.dlUp)]
      exact Cxl.same_of_quiet h.cxl Cxl.dlUp
    · obtain ⟨l, -, hi⟩ := h.ring i
      rw [Core.of_under hc (·.ring i), hi]
      rfl
    · rw [Core.of_under hc (·.cxl.downAt), Cxl.same_of_quiet h.cxl Cxl.downAt]
      exact if_pos hup
    · rw [Core.of_under hc (·.active 0x8110 0)]
      exact h.active hup hm
  | false =>
    rw [hd, if_neg Bool.false_ne_true] at hc
    have h := Core.linkDown_cxl (s.at_ t) 1 (s.core.mapCxl (fun x => { x with recSince := none }))
    refine ⟨u, hu, ?_, ?_, fun hn => absurd hn Bool.false_ne_true, ?_, fun hm => ?_⟩
    · rw [Core.of_under hc (·.cxl.hostUp), Cxl.same_of_quiet h Cxl.hostUp]
      rfl
    · rw [Core.of_under hc (·.cxl.dlUp), Cxl.same_of_quiet h Cxl.dlUp]
      exact hd
    · rw [Core.of_under hc (·.cxl.downAt), Cxl.same_of_quiet h Cxl.downAt]
      exact if_pos hup
    · rw [Core.of_under hc (·.active 0x8110 0)]
      exact Core.linkDown_active (by exact hup) (by exact hm) _ _

theorem exec_hostLinkDown_recovery {a : Nat} (ha : s.core.cxl.recSince = some a) :
    ∃ u, exec (.hostLinkDown t .recovery) s = .next u ∧ u.core.cxl.hostUp = decide (s.at_ t < a + 1000000) := by
  obtain ⟨u, hu, -, hc, -⟩ := State.run_ends t (fun now c => c.hostLinkDown now .recovery) s
  refine ⟨u, hu, ?_⟩
  rw [Core.hostLinkDown_recovery ha] at hc
  rw [Core.of_under hc (·.cxl.hostUp)]
  split
  next hle => rw [Cxl.same_of_quiet (Core.linkDown_cxl _ _ _) Cxl.hostUp, decide_eq_false (Nat.not_lt.mpr hle)]; rfl
  next hlt => rw [hup, decide_eq_true (Nat.not_le.mp hlt)]

end

theorem exec_hostLinkUp_comes {s : State} (hu : s.core.cxl.hostUp = false) (hd : s.core.cxl.dlUp = true)
    (hp : s.core.cxl.perst = false) (t : Nat) :
    ∃ u, exec (.hostLinkUp t) s = .next u ∧ u.mem = s.mem ∧ u.core.cxl.hostUp = true ∧ u.core.cxl.d0 = true ∧
      u.core.cxl.master = true ∧ u.core.active 0x8110 0 = false := by
  obtain ⟨u, hrun, hmem, hc, -⟩ := State.run_ends t (fun now c => c.hostLinkUp now) s
  obtain ⟨-, hcxl, hact⟩ := s.core.linkComesUp (s.at_ t) (Core.hostLinkUp_eq hu hd hp _)
  refine ⟨u, hrun, hmem, ?_, ?_, ?_, ?_⟩
  · rw [Core.of_under hc (·.cxl.hostUp)]
    exact Cxl.same_of_quiet hcxl Cxl.hostUp
  · rw [Core.of_under hc (·.cxl.d0)]
    exact Cxl.same_of_quiet hcxl Cxl.d0
  · rw [Core.of_under hc (·.cxl.master)]
    exact Cxl.same_of_quiet hcxl Cxl.master
  · rw [Core.of_under hc (·.active 0x8110 0)]
    exact hact

theorem exec_linkTrained_trains {s : State} (h : s.core.mayTrain = true) (t w r : Nat) (cxl : Bool) :
    ∃ u, exec (.linkTrained t w r cxl) s = .next u ∧ u.core.cxl.dlUp = true ∧ u.core.cxl.recSince = none ∧
      u.core.obj 0x3000 2 = w % 256 ∧ u.core.obj 0x3000 3 = r % 65536 ∧
      (s.core.cxl.dlUp = false → u.core.cxl.cxlMode = (cxl && s.core.flag 0x3001 1 && decide (80 ≤ r))) ∧
      (8 ≤ w → 320 ≤ r → s.core.keeps u.core [(0x3000, 2), (0x3000, 3), (0x3000, 4), (0x3210, 10), (0x2840, 7),
        (0x2840, 9)]) := by
  obtain ⟨u, hu, -, hc, -⟩ := State.run_ends t (fun now c => c.linkTrained now w r cxl) s
  rw [Core.linkTrained_trains h] at hc
  obtain ⟨-, hcxl, hobj⟩ := Core.trainedRetry_leaves (s.at_ t) w r (s.core.trained w r cxl)
  have hput : ∀ i v k, (s.core.trained w r cxl).obj i v = k → v < 256 → i ≠ 0x3200 → (i, v) ∉ waitingObjs →
      u.core.obj i v = k := fun i v k hk hv hi hn => (Core.of_under hc (·.obj i v)).trans ((hobj i v hv hi hn).trans hk)
  refine ⟨u, hu, ?_, ?_, ?_, ?_, fun hd => ?_, fun hw hr i v hv hn => ?_⟩
  · rw [Core.of_under hc (·.cxl.dlUp)]
    exact Cxl.same_of_quiet hcxl Cxl.dlUp
  · rw [Core.of_under hc (·.cxl.recSince)]
    exact Cxl.same_of_quiet hcxl Cxl.recSince
  · refine hput _ _ _ ?_ (by decide) (by decide) (by decide)
    rw [Core.trained, Core.obj_keep _ _ _ _ _ _ (by decide) (by decide) (by decide),
      Core.obj_keep _ _ _ _ _ _ (by decide) (by decide) (by decide), Core.obj_put_self]
  · refine hput _ _ _ ?_ (by decide) (by decide) (by decide)
    rw [Core.trained, Core.obj_keep _ _ _ _ _ _ (by decide) (by decide) (by decide), Core.obj_put_self]
  · have hm : u.core.cxl.cxlMode = (s.core.trained w r cxl).cxl.cxlMode :=
      (Core.of_under hc (·.cxl.cxlMode)).trans (Cxl.same_of_quiet hcxl Cxl.cxlMode)
    rw [hm]
    simp only [Core.trained, Core.put_cxl, Core.mapCxl_cxl, hd, Bool.false_eq_true, if_false]
  · rw [Core.of_under hc (·.obj i v), Core.trainedRetry_full hw hr,
      (Core.Retried.payloadRetry _ _).obj i v hv (fun hm => hn (by simp [waitingObjs] at hm; simp [hm]))]
    have hne : ∀ k, (0x3000, k) ∈ [(0x3000, 2), (0x3000, 3), (0x3000, 4), (0x3210, 10), (0x2840, 7), (0x2840, 9)] →
        (i, v) ≠ (0x3000, k) := fun k hk e => hn (e ▸ hk)
    rw [Core.trained, Core.obj_keep _ _ _ _ _ _ (by decide) hv (hne 4 (by decide)),
      Core.obj_keep _ _ _ _ _ _ (by decide) hv (hne 3 (by decide)),
      Core.obj_keep _ _ _ _ _ _ (by decide) hv (hne 2 (by decide))]
    rfl

/-- Settles O49: a reset of the attachment, a loss of the link, its return and its training are each one change of the
attachment, with what is logged and what waits for the link after it. -/
theorem hostLink : Obligations.HostLink := by
  unfold Obligations.HostLink
  refine ⟨exec_perstNAssert_resets, ?_, ?_, ?_, fun t s hu hd hp => exec_hostLinkUp_comes hu hd hp t,
    fun t w r cxl s h => exec_linkTrained_trains h t w r cxl, ?_, ?_⟩
  · intro t s hp
    obtain ⟨u, hu, hmem, hc, -⟩ := State.run_ends t (fun _ c => c.when c.cxl.perst (Core.mapCxl (fun x => { x with
      perst := false, training := true }))) s
    rw [hp, Core.when_true] at hc
    exact ⟨u, hu, hmem, hc⟩
  · intro t s
    obtain ⟨u, hu, hmem, hc, -⟩ := State.run_ends t (fun _ c => c.flr) s
    obtain ⟨m, x, hm, hs⟩ := s.core.flr_stands
    rw [hs, Core.under_under] at hc
    exact ⟨u, hu, hmem, Core.of_under hc (·.cxl.msix), (Core.of_under hc (·.mbx.busy)).trans hm,
      Core.of_under hc (·.cxl.rings), Core.of_under hc (·.cxl.dlUp), Core.of_under hc (·.cxl.hostUp),
      Core.of_under hc Core.dict⟩
  · intro t s hup
    refine ⟨exec_hostLinkDown_dl t hup, fun h => ?_, fun h => ?_, ?_, fun a ha => exec_hostLinkDown_recovery t hup ha⟩
    · obtain ⟨u, hu, -, hc, -⟩ := State.run_ends t (fun now c => c.toD3 now) s
      rw [Core.toD3_takes h] at hc
      exact ⟨u, hu, (Core.of_under hc (·.cxl.hostUp)).trans (Cxl.same_of_quiet (Core.linkDown_cxl _ _ _) Cxl.hostUp),
        (Core.of_under hc (·.cxl.d0)).trans (Cxl.same_of_quiet (Core.linkDown_cxl _ _ _) Cxl.d0)⟩
    · obtain ⟨u, hu, -, hc, -⟩ := State.run_ends t (fun now c => c.toD3 now) s
      rw [Core.toD3_waits h] at hc
      exact ⟨u, hu, hc⟩
    · obtain ⟨u, hu, -, hc, -⟩ := State.run_ends t
        (fun now c => (c.mapCxl (fun x => { x with master := false })).linkDown now 3) s
      exact ⟨u, hu, (Core.of_under hc (·.cxl.hostUp)).trans (Cxl.same_of_quiet (Core.linkDown_cxl _ _ _) Cxl.hostUp),
        (Core.of_under hc (·.cxl.master)).trans (Cxl.same_of_quiet (Core.linkDown_cxl _ _ _) Cxl.master)⟩
  · intro t s hd hr
    obtain ⟨u, hu, -, hc, -⟩ := State.run_ends t (fun now c => c.when (c.cxl.dlUp && c.cxl.recSince.isNone) (fun c =>
      (c.mapCxl (fun x => { x with recSince := some now })).bump 0x3000 8)) s
    simp only [hd, hr, Option.isNone_none, Bool.and_self, Core.when_true] at hc
    refine ⟨u, hu, ?_, ?_, ?_, fun i v hv hn => ?_⟩
    · rw [Core.of_under hc (·.cxl.recSince), Core.bump_cxl]
      rfl
    · rw [Core.of_under hc (·.cxl.dlUp), Core.bump_cxl]
      exact hd
    · rw [Core.of_under hc (·.cxl.hostUp), Core.bump_cxl]
      rfl
    · rw [Core.of_under hc (·.obj i v)]
      exact Core.keeps_bump_of rfl (by decide) i v hv hn
  · rintro i s u h (⟨t, k, rfl⟩ | ⟨t, rfl⟩ | ⟨t, rfl⟩ | ⟨t, k, rfl⟩ | ⟨t, rfl⟩ | ⟨t, w, r, x, rfl⟩ | ⟨t, rfl⟩)
    · exact State.run_hostRest (f := fun now c => (c.attachReset now).mapCxl (fun x => { x with
        perst := x.perst || k == .perstN })) h fun now c =>
        (Core.hostRest_of_rest (Core.rest_mapCxl _ _)).trans (c.attachReset_resets now).rest
    · exact State.run_hostRest (f := fun _ c => c.when c.cxl.perst (Core.mapCxl (fun x => { x with
        perst := false, training := true }))) h fun _ c => Core.hostRest_when _ _ _ rfl
    · refine State.run_hostRest (f := fun _ c => c.flr) h fun _ c => ?_
      obtain ⟨m, x, -, hs⟩ := c.flr_stands
      rw [hs]
      rfl
    · exact State.run_hostRest (f := fun now c => c.hostLinkDown now k) h fun now c => c.hostRest_hostLinkDown now k
    · exact State.run_hostRest (f := fun now c => c.hostLinkUp now) h fun now c => c.hostRest_hostLinkUp now
    · exact State.run_hostRest (f := fun now c => c.linkTrained now w r x) h fun now c =>
        c.hostRest_linkTrained now w r x
    · exact State.run_hostRest (f := fun now c => c.when (c.cxl.dlUp && c.cxl.recSince.isNone) (fun c =>
        (c.mapCxl (fun x => { x with recSince := some now })).bump 0x3000 8)) h fun now c =>
        Core.hostRest_when _ _ _ (Core.hostRest_of_rest (Core.rest_bump _ _ _))

end Sys2Proof.Machine
end

section
namespace Sys2Proof.Machine

/-! ### One segment link among the eight -/

theorem Core.link_mapLink_self {c : Core} {n : Nat} (h : n < c.links.length) (f : Link → Link) :
    (c.mapLink n f).link n = f (c.link n) := getD_modAt_self h f _

theorem Core.link_of_links {c d : Core} (h : d.links = c.links) (m : Nat) : d.link m = c.link m :=
  congrArg (fun l => l.getD m {}) h

theorem Core.link_of_modAt {c d : Core} {n : Nat} {f : Link → Link} (h : d.links = modAt c.links n f)
    (hn : n < c.links.length) : d.link n = f (c.link n) :=
  (congrArg (fun l => l.getD n {}) h).trans (getD_modAt_self hn f _)

theorem Core.link_of_modAt_ne {c d : Core} {n m : Nat} {f : Link → Link} (h : d.links = modAt c.links n f)
    (hm : m ≠ n) : d.link m = c.link m :=
  (congrArg (fun l => l.getD m {}) h).trans (getD_modAt_ne hm.symm _ f _)

/-- A link that is in some state other than asleep is one of the list's. -/
theorem Core.lt_of_linkSt {c : Core} {n : Nat} (h : (c.link n).st ≠ 0) : n < c.links.length :=
  lt_length_of_getD_ne (d := ({} : Link)) fun e => h (congrArg Link.st e)

/-- Two changes that agree on a link make the same list of it. -/
theorem Core.modAt_link_congr {c : Core} {n : Nat} {f g : Link → Link} (h : f (c.link n) = g (c.link n)) :
    modAt c.links n f = modAt c.links n g := by
  refine List.ext_getElem? fun m => ?_
  by_cases hm : n = m
  · subst hm
    simp only [modAt, List.getElem?_modify_eq]
    cases he : c.links[n]? with
    | none => rfl
    | some l => simpa [Core.link, List.getD_eq_getElem?_getD, he] using h
  · simp [modAt, List.getElem?_modify_ne _ _ hm]

/-! ### What leaves the links -/

@[simp] theorem Core.event_links (now code seg : Nat) (tail : List Byte) (c : Core) :
    (c.event now code seg tail).links = c.links := (Core.Logged.event _ _ _ _).same Core.links
@[simp] theorem Core.bumpBy_links (i s n : Nat) (c : Core) : (c.bumpBy i s n).links = c.links :=
  Core.of_rest Core.links (fun _ => rfl) (c.rest_bumpBy i s n)
@[simp] theorem Core.bump_links (i s : Nat) (c : Core) : (c.bump i s).links = c.links := c.bumpBy_links i s 1
@[simp] theorem Core.store_links (i s v : Nat) (c : Core) : (c.store i s v).links = c.links := by rw [Core.store_eq]
@[simp] theorem Core.segWalksRestart_links (n : Nat) (c : Core) : (c.segWalksRestart n).links = c.links := rfl
@[simp] theorem Core.segWalksRestart_dict (n : Nat) (c : Core) : (c.segWalksRestart n).dict = c.dict := rfl

/-! ### Bring-up and FAULT (14 R428, R429) -/

/-- A link in FAULT; its columns stand BLIND to the end of a job that runs. -/
def Link.faulted (job : Bool) (l : Link) : Link := { l with st := 5, blindJob := l.blindJob || job }

theorem Core.linkBlind_links (n : Nat) (c : Core) :
    (c.linkBlind n).links = modAt c.links n (fun l => { l with blindJob := l.blindJob || c.job.running }) := by
  unfold Core.linkBlind
  cases c.job.running with
  | true => simp
  | false =>
    simp only [Bool.or_false]
    exact (List.modify_id n c.links).symm

theorem Core.linkBlind_dict (n : Nat) (c : Core) : (c.linkBlind n).dict = c.dict :=
  Core.when_of (P := fun d => d.dict = c.dict) _ _ c rfl rfl

theorem Core.linkFault_links (now n : Nat) (c : Core) :
    (c.linkFault now n).links = modAt c.links n (Link.faulted c.job.running) := by
  unfold Core.linkFault
  rw [Core.event_links, Core.linkBlind_links, Core.mapLink_links, modAt_modAt]
  rfl

section
variable {c : Core} {n : Nat} {ls : List LaneResult} (now : Nat)
  (hon : c.segOn n = true) (hst : (c.link n).st = 1) (ht : c.clk.tHeld = false)
include hon hst ht

/-- A link whose map and rate were in force before a restart of PLL-T keeps them. -/
theorem Core.bringUp_keeps (hk : (c.link n).keep = true) : c.bringUp now n ls = c.mapLink n Link.up := by
  simp [Core.bringUp, hon, hst, ht, hk]

theorem Core.bringUp_takes {w r : Nat} (hk : (c.link n).keep = false)
    (hf : linkConfigs.find? (fun k => decide (k.1 ≤ (c.passing n k.2 ls).length)) = some (w, r)) :
    c.bringUp now n ls = c.mapLink n (fun l => Link.up { l with
      rate := r, spare := if w = 8 then (c.passing n r ls)[8]? else none,
      map := ((c.passing n r ls).take w).map some ++ List.replicate (8 - w) none }) := by
  simp [Core.bringUp, hon, hst, ht, hk, hf]

theorem Core.bringUp_faults (hk : (c.link n).keep = false)
    (hf : linkConfigs.find? (fun k => decide (k.1 ≤ (c.passing n k.2 ls).length)) = none) :
    c.bringUp now n ls = c.linkFault now n := by
  simp [Core.bringUp, hon, hst, ht, hk, hf]

end

/-! ### Retrain (14 R431, R432) -/

/-- A link that begins to retrain; one that has lost block lock has no lane locked. -/
def Link.retraining (now cause : Nat) (l : Link) : Link :=
  { l with st := 3, since := now, attempts := 0, lock := if cause = 2 then 0 else l.lock }

theorem Core.retrain_links {c : Core} {n : Nat} (h : (c.link n).st = 2) (now cause : Nat) :
    (c.retrain now n cause).links = modAt c.links n (Link.retraining now cause) := by
  unfold Core.retrain
  rw [if_neg (not_not_intro h)]
  dsimp only
  rw [Core.event_links, Core.segWalksRestart_links, Core.bump_links]
  rfl

theorem Core.retrain_counts {c : Core} {n : Nat} (h : (c.link n).st = 2) (hn : n < 8) (now cause : Nat) :
    (c.retrain now n cause).obj 0x3105 (n + 1) = (c.bump 0x3105 (n + 1)).obj 0x3105 (n + 1) := by
  unfold Core.retrain
  rw [if_neg (not_not_intro h)]
  dsimp only
  rw [(Core.Logged.event _ _ _ _).obj _ _ (by omega) (by decide)]
  exact Core.obj_bump_congr (c := c) rfl

theorem Core.retrainLate_waits {c : Core} {n now : Nat} (ht : now < (c.link n).since + 1000000) :
    c.retrainLate now n = c := by
  simp [Core.retrainLate, ht]

section
variable {c : Core} {n now : Nat} (h : (c.link n).st = 3)
include h

theorem Core.retrainLate_again (ht : (c.link n).since + 1000000 ≤ now) (ha : (c.link n).attempts < 2) :
    (c.retrainLate now n).links =
      modAt c.links n (fun l => { l with since := now, attempts := (c.link n).attempts + 1 }) := by
  have e : c.retrainLate now n = ((c.mapLink n (fun l => { l with since := now, attempts := l.attempts + 1 })).bump
      0x3105 (n + 1)).segWalksRestart n := by
    simp [Core.retrainLate, h, Nat.not_lt.mpr ht, Nat.not_le.mpr ha]
  rw [e, Core.segWalksRestart_links, Core.bump_links]
  exact Core.modAt_link_congr rfl

theorem Core.retrainLate_faults (ht : (c.link n).since + 1000000 ≤ now) (ha : 2 ≤ (c.link n).attempts) :
    c.retrainLate now n = c.linkFault now n := by
  simp [Core.retrainLate, h, Nat.not_lt.mpr ht, ha]

theorem Core.retrainEnds_completes : c.retrainEnds n = c.mapLink n (fun l => { l with
    st := 2, fails := List.replicate 9 0, failed := List.replicate 9 false, lock := l.used }) := by
  simp [Core.retrainEnds, h]

end

/-! ### Lost commands and status blocks (14 R425, R427) -/

/-- A lost command in whose place no row is missing. -/
theorem Core.commandLost_noRow {c : Core} {n : Nat} (h : c.segOn n = true) (now : Nat) :
    c.commandLost now n [] =
      ((c.bump 0x3108 (n + 1)).mapLink n (fun l => { l with missed := true })).event now 0x5032 n [] := by
  simp [Core.commandLost, h]

/-- A reading of a sensor die's temperature puts its object in force and is logged; it decides no more than since when
a band stands as candidate. -/
theorem Core.tempSample_logs {c : Core} {k : Nat} (h : c.sensing k = true) (hk : k < 16) (now : Nat) (x : Int) :
    ∃ d a, (c.put 0x3330 (k + 1) (ofSigned 16 (clampInt (-32768) 32767 x))).Logged d ∧
      c.tempSample now k x = d.mapPw (fun p => { p with candAt := a }) := by
  unfold Core.tempSample
  rw [h]
  simp only [Bool.not_true, Bool.false_eq_true, if_false, if_pos hk]
  refine ⟨_, _, ?_, rfl⟩
  split
  · exact Core.Logged.condOn _ _ _ _ _
  · exact Core.Logged.condOff _ _

theorem Core.tempSample_leaves {c : Core} {k : Nat} (h : c.sensing k = true) (hk : k < 16) (now : Nat) (x : Int) :
    (c.tempSample now k x).obj 0x3330 (k + 1) = ofSigned 16 (clampInt (-32768) 32767 x) ∧
    (c.tempSample now k x).links = c.links ∧
    (∀ j, (c.tempSample now k x).sensing j = c.sensing j) ∧
    (∀ j, j < 16 → j ≠ k → (c.tempSample now k x).obj 0x3330 (j + 1) = c.obj 0x3330 (j + 1)) := by
  obtain ⟨d, a, hd, e⟩ := Core.tempSample_logs h hk now x
  rw [e]
  refine ⟨?_, hd.same Core.links, fun j => ?_, fun j hj hn => ?_⟩
  · exact (hd.obj _ _ (by omega) (by decide)).trans (Core.obj_put_self _ _ _ _)
  · exact hd.same (fun c => c.sensing j)
  · exact (hd.obj _ _ (by omega) (by decide)).trans
      (c.obj_keep _ _ _ _ _ (by omega) (by omega) (by simpa using hn))

/-- Where the first sensor is read, all of the sensor dies' are. -/
theorem Core.sensing_of_zero {c : Core} (h : c.sensing 0 = true) (k : Nat) : c.sensing k = true := by
  simp only [Core.sensing, Bool.and_eq_true, Bool.or_eq_true, decide_eq_true_eq] at h ⊢
  obtain ⟨hrun, hd⟩ := h
  exact ⟨hrun, .inl (hd.resolve_right (by omega))⟩

theorem Core.statusTaken_acknowledges {c : Core} {n : Nat} (hst : (c.link n).st = 2)
    (hd : (c.link n).dataSleep = false) (hs : c.sensing 0 = true) (hn : n < 8) (now : Nat) (w e : Int) :
    (c.statusTaken now n w e).links = modAt c.links n (fun l => { l with ackOk := !l.missed, missed := false }) ∧
    (c.statusTaken now n w e).obj 0x3330 (2 * n + 1) = ofSigned 16 (clampInt (-32768) 32767 w) ∧
    (c.statusTaken now n w e).obj 0x3330 (2 * n + 2) = ofSigned 16 (clampInt (-32768) 32767 e) := by
  have he : c.statusTaken now n w e = ((c.tempSample now (2 * n) w).tempSample now (2 * n + 1) e).mapLink n
      (fun l => { l with ackOk := !l.missed, missed := false }) := by
    simp [Core.statusTaken, hst, hd]
  obtain ⟨hwest, hlinks, hsense, -⟩ := Core.tempSample_leaves (Core.sensing_of_zero hs (2 * n)) (by omega) now w
  obtain ⟨heast, hlinks', -, hother⟩ := Core.tempSample_leaves (c := c.tempSample now (2 * n) w) (k := 2 * n + 1)
    ((hsense _).trans (Core.sensing_of_zero hs _)) (by omega) now e
  rw [he]
  refine ⟨?_, (hother (2 * n) (by omega) (by omega)).trans hwest, heast⟩
  rw [Core.mapLink_links, hlinks', hlinks]

end Sys2Proof.Machine
end

section
namespace Sys2Proof.Machine

/-! ### Eye scans (14 R430) -/

/-- A lane's BIP-8 errors in the present window of 1 s, with `n` more. -/
def Link.bipErrors (now lane n : Nat) (l : Link) : Nat :=
  let p := (l.bip[lane]?).getD (0, 0)
  (if p.1 = now / 1000000000 then p.2 else 0) + n

/-- A lane's `n` marker errors counted; beyond the limit the lane fails margin. -/
def Link.bipCounted (now lane n limit : Nat) (l : Link) : Link := { l with
  bip := modAt l.bip lane (fun _ => (now / 1000000000, l.bipErrors now lane n))
  failed := modAt l.failed lane (fun f => f || decide (limit < l.bipErrors now lane n)) }

/-- A lane's scan noted; the second bad one in a row fails margin. -/
def Link.scanned (lane : Nat) (bad : Bool) (l : Link) : Link := { l with
  fails := modAt l.fails lane (fun f => if bad then f + 1 else 0)
  failed := modAt l.failed lane (fun f => f || (bad && decide (1 ≤ (l.fails[lane]?).getD 0))) }

/-- A scan is bad where its eye is narrower or lower than the limits of 3110h. -/
def Core.badScan (c : Core) (h v : Nat) : Bool := decide (h < c.obj 0x3110 1) || decide (v < c.obj 0x3110 2)

theorem Core.laneUsed_st {c : Core} {n l : Nat} (h : c.laneUsed n l = true) : (c.link n).st = 2 := by
  simp only [Core.laneUsed, Bool.and_eq_true, decide_eq_true_eq] at h
  obtain ⟨⟨⟨hst, -⟩, -⟩, -⟩ := h
  exact hst

theorem Core.countBip_links (c : Core) (now n l k : Nat) :
    (c.countBip now n l k).links = modAt c.links n (Link.bipCounted now l k (c.obj 0x3110 3)) := by
  unfold Core.countBip
  dsimp only
  rw [Core.mapLink_links, Core.bumpBy_links]
  exact Core.modAt_link_congr rfl

theorem Core.countBip_dict (c : Core) (now n l k : Nat) :
    (c.countBip now n l k).dict = (c.bumpBy 0x3103 (9 * n + l + 1) k).dict := rfl

/-- The value that a scan puts into 3102h of its lane. -/
def scanWord (old h v : Nat) : Nat := min 255 h + 256 * min 255 v + 65536 * min 65535 (old / 65536 + 1)

section
variable {c : Core} (hf : c.flag 0x3110 5 = true)
include hf

theorem Core.scanLane_links (n l h v : Nat) :
    (c.scanLane n l h v).links = modAt c.links n (Link.scanned l (c.badScan h v)) := by
  simp only [Core.scanLane, hf, Bool.not_true, Bool.false_eq_true, if_false]
  exact Core.modAt_link_congr (c := c) rfl

theorem Core.scanLane_dict (n l h v : Nat) : (c.scanLane n l h v).dict =
    (c.put 0x3102 (9 * n + l + 1) (scanWord (c.obj 0x3102 (9 * n + l + 1)) h v)).dict := by
  simp only [Core.scanLane, hf, Bool.not_true, Bool.false_eq_true, if_false]
  rfl

end

/-- A scan of a lane in use: what it makes of its link and of the objects. -/
structure Core.EyeScanned (c : Core) (now n l h v b : Nat) (d : Core) : Prop where
  link : d.link n = Link.scanned l (c.badScan h v) (Link.bipCounted now l b (c.obj 0x3110 3) (c.link n))
  keeps : c.keeps d [(0x3102, 9 * n + l + 1), (0x3103, 9 * n + l + 1)]
  margins : d.obj 0x3102 (9 * n + l + 1) = scanWord (c.obj 0x3102 (9 * n + l + 1)) h v
  errors : d.obj 0x3103 (9 * n + l + 1) = (c.bumpBy 0x3103 (9 * n + l + 1) b).obj 0x3103 (9 * n + l + 1)

/-- A count leaves all but its own object, which is listed. -/
theorem Core.keeps_bumpBy_mem {c d : Core} {i s : Nat} {l : List (Nat × Nat)} (h : c.keeps d l) (n : Nat)
    (hs : s < 256) (hm : (i, s) ∈ l) : c.keeps (d.bumpBy i s n) l := fun j r hr hn =>
  (d.obj_bumpBy_keep i s n j r hs hr fun e => hn (e ▸ hm)).trans (h j r hr hn)

theorem Core.eyeScan_scans {c : Core} {n l : Nat} (hn : n < c.links.length) (h8 : n < 8) (h9 : l < 9)
    (hf : c.flag 0x3110 5 = true) (now h v b : Nat) :
    c.EyeScanned now n l h v b ((c.countBip now n l b).scanLane n l h v) := by
  have hobj : ∀ i s, s < 256 → i ≠ 0x3103 → (c.countBip now n l b).obj i s = c.obj i s := fun i s hs hi =>
    (c.obj_bumpBy_keep 0x3103 (9 * n + l + 1) b i s (by omega) hs fun e => hi (Prod.mk.inj e).1)
  have hf' : (c.countBip now n l b).flag 0x3110 5 = true := by
    rw [Core.flag, hobj _ _ (by decide) (by decide)]
    exact hf
  have hbad : (c.countBip now n l b).badScan h v = c.badScan h v := by
    simp only [Core.badScan, hobj 0x3110 1 (by decide) (by decide), hobj 0x3110 2 (by decide) (by decide)]
  have hbip := Core.link_of_modAt (c.countBip_links now n l b) hn
  have hlen : n < (c.countBip now n l b).links.length := by
    rw [Core.countBip_links]
    exact hn.trans_eq (List.length_modify _ _ _).symm
  have hdict := fun i s => congrArg (fun d => sget dfltOf d (key i s)) (Core.scanLane_dict hf' n l h v)
  refine ⟨?_, fun i s hs hm => ?_, ?_, ?_⟩
  · rw [Core.link_of_modAt (Core.scanLane_links hf' n l h v) hlen, hbip, hbad]
  · refine (hdict i s).trans ?_
    refine Core.keeps_put_mem _ ?_ (by omega) (List.mem_cons_self) i s hs hm
    exact Core.keeps_bumpBy_mem (Core.keeps_refl c _) b (by omega) (by simp)
  · refine (hdict _ _).trans ((Core.obj_put_self _ _ _ _).trans ?_)
    rw [hobj _ _ (by omega) (by decide)]
  · exact (hdict _ _).trans (Core.obj_keep _ _ _ _ _ _ (by omega) (by omega) (by simp))

theorem objBits_bip : ∀ (n : Fin 8) (l : Fin 9), objBits 0x3103 (9 * n.val + l.val + 1) = 32 := by decide

theorem Core.obj_bumpBy_self {c : Core} {i s n : Nat} (h : c.obj i s + n < 2 ^ objBits i s) :
    (c.bumpBy i s n).obj i s = c.obj i s + n := by
  unfold Core.bumpBy
  dsimp only
  rw [if_pos h, Core.obj_put_self]

/-- Neither a bad scan before it nor errors before it in the window: a scan leaves failed what the errors alone fail. -/
theorem Link.scanned_failed_first {k : Link} {now l b limit : Nat} (bad : Bool) (hf : k.failed[l]? = some false)
    (hs : k.fails[l]? = some 0) (hb : k.bip[l]? = some (now / 1000000000, 0)) :
    (Link.scanned l bad (Link.bipCounted now l b limit k)).failed[l]? = some (decide (limit < b)) := by
  simp [Link.scanned, Link.bipCounted, Link.bipErrors, modAt, hf, hs, hb]

/-- A bad scan after a bad scan fails margin. -/
theorem Link.scanned_failed_again {k : Link} {now l b limit f : Nat} (hl : l < k.failed.length)
    (hs : k.fails[l]? = some (f + 1)) :
    (Link.scanned l true (Link.bipCounted now l b limit k)).failed[l]? = some true := by
  simp [Link.scanned, Link.bipCounted, modAt, hs, hl]

/-! ### Lanes retired and replaced (14 R431 to R434) -/

@[simp] theorem Core.retireLane_links (now n l : Nat) (c : Core) : (c.retireLane now n l).links = c.links := by
  unfold Core.retireLane
  rw [Core.event_links, Core.store_links]

theorem Core.retireLane_retires {n : Nat} (hn : n < 8) (now l : Nat) (c : Core) :
    (c.retireLane now n l).laneRetired n l = true := by
  unfold Core.laneRetired Core.retireLane
  rw [(Core.Logged.event _ _ _ _).obj _ _ (by omega) (by decide), Core.store_obj, Core.obj_put_self]
  simp

/-- The spare in a lane's logical place. -/
def Link.spared (lane p : Nat) (l : Link) : Link :=
  { l with map := l.map.map (fun x => if x == some lane then some p else x), spare := none }

/-- A lane given up, and no other in its place. -/
def Link.without (lane : Nat) (l : Link) : Link := { l with map := l.map.filter (· != some lane) ++ [none] }

theorem Core.laneRetired_of_dict {c d : Core} (h : d.dict = c.dict) (n l : Nat) :
    d.laneRetired n l = c.laneRetired n l :=
  congrArg (fun x => (sget dfltOf x (key 0x3104 (n + 1))).testBit l) h

section
variable {c : Core} {n l : Nat} (hr : c.laneRetired n l = false)
include hr

/-- The spare itself retired. -/
theorem Core.spareLane_spare (hm : (c.link n).map.contains (some l) = false) (hs : (c.link n).spare = some l)
    (now : Nat) : c.spareLane now n l = (c.mapLink n (fun k => { k with spare := none })).retireLane now n l := by
  simp only [Core.spareLane, hr, hm, hs, Bool.not_false, Bool.false_eq_true, if_false, if_true, beq_self_eq_true]

variable (hm : (c.link n).map.contains (some l) = true)
include hm

theorem Core.spareLane_faults (hs : (c.link n).spare = none) (h7 : (c.link n).lanes ≤ 7) (now : Nat) :
    c.spareLane now n l = c.linkFault now n := by
  simp only [Core.spareLane, hr, hm, hs, h7, Bool.not_true, Bool.false_eq_true, if_false, if_true]

variable (hst : (c.link n).st = 2) (hlen : n < c.links.length) (h8 : n < 8) (now : Nat)
include hst hlen h8

/-- A data lane's logical place taken by the spare. -/
theorem Core.spareLane_replaces {p : Nat} (hs : (c.link n).spare = some p) :
    (c.spareLane now n l).links = modAt c.links n (fun k => (k.spared l p).retraining now 0) ∧
      (c.spareLane now n l).laneRetired n l = true := by
  have e : c.spareLane now n l = ((c.mapLink n (Link.spared l p)).retrain now n 0).retireLane now n l := by
    simp only [Core.spareLane, hr, hm, hs, Bool.not_true, Bool.false_eq_true, if_false]
    rfl
  have hst' : ((c.mapLink n (Link.spared l p)).link n).st = 2 := by
    rw [Core.link_mapLink_self hlen]
    exact hst
  rw [e]
  refine ⟨?_, Core.retireLane_retires h8 _ _ _⟩
  rw [Core.retireLane_links, Core.retrain_links hst', Core.mapLink_links, modAt_modAt]

/-- A data lane given up for seven lanes. -/
theorem Core.spareLane_narrows (hs : (c.link n).spare = none) (h7 : 7 < (c.link n).lanes) :
    (∃ job, (c.spareLane now n l).links = modAt c.links n (fun k =>
      let k := (k.without l).retraining now 0
      { k with blindJob := k.blindJob || job })) ∧
      (c.spareLane now n l).laneRetired n l = true := by
  generalize hd : ((c.mapLink n (Link.without l)).retrain now n 0).retireLane now n l = d
  have e : c.spareLane now n l = d.when (!d.linkAdequate d.mode n) (Core.linkBlind n) := by
    simp only [Core.spareLane, hr, hm, hs, Bool.not_true, Bool.false_eq_true, if_false, if_neg (Nat.not_le.mpr h7)]
    rw [← hd]
    rfl
  have hst' : ((c.mapLink n (Link.without l)).link n).st = 2 := by
    rw [Core.link_mapLink_self hlen]
    exact hst
  have hlinks : d.links = modAt c.links n (fun k => (k.without l).retraining now 0) := by
    rw [← hd, Core.retireLane_links, Core.retrain_links hst', Core.mapLink_links, modAt_modAt]
  have hret : d.laneRetired n l = true := by
    rw [← hd]
    exact Core.retireLane_retires h8 _ _ _
  rw [e]
  cases (!d.linkAdequate d.mode n) with
  | true =>
    rw [Core.when_true]
    refine ⟨⟨d.job.running, ?_⟩, (Core.laneRetired_of_dict (d.linkBlind_dict n) n l).trans hret⟩
    rw [Core.linkBlind_links, hlinks, modAt_modAt]
  | false =>
    rw [Core.when_false]
    refine ⟨⟨false, ?_⟩, hret⟩
    simpa only [Bool.or_false] using hlinks

end

/-! ### Lanes that fail margin (14 R431, R433) -/

/-- A core that differs from another in which lanes of one link hold block lock and which failed margin. -/
structure Core.SameButLocks (c : Core) (n : Nat) (d : Core) : Prop where
  dict : d.dict = c.dict
  length : d.links.length = c.links.length
  others : ∀ m, m ≠ n → d.link m = c.link m
  st : (d.link n).st = (c.link n).st
  map : (d.link n).map = (c.link n).map
  spare : (d.link n).spare = (c.link n).spare

/-- A link without block lock on a lane, which so fails margin. -/
def Link.lockLost (lane : Nat) (l : Link) : Link := { l with
  lock := l.lock &&& ~~~ BitVec.ofNat 9 (2 ^ lane), failed := modAt l.failed lane (fun _ => true) }

theorem Core.lockLoss_same (n l : Nat) (c : Core) : c.SameButLocks n (c.lockLoss n l) where
  dict := rfl
  length := List.length_modify _ _ _
  others _ hm := Core.link_of_modAt_ne (c := c) rfl hm
  st := getD_modAt_same (f := Link.lockLost l) Link.st (fun _ => rfl) _ _ _
  map := getD_modAt_same (f := Link.lockLost l) Link.map (fun _ => rfl) _ _ _
  spare := getD_modAt_same (f := Link.lockLost l) Link.spare (fun _ => rfl) _ _ _

/-- A lane that fails margin, or loses block lock, on a link that spares: the lane is dealt with. -/
theorem Core.spareFailed_acts {c : Core} {n l : Nat} {k : Bool} (hlen : n < c.links.length)
    (hk : k = true ∨ (c.link n).failed[l]? = some true) (h9 : l < (c.link n).failed.length)
    (hs : c.flag 0x3110 4 = true ∨ (c.link n).spare = some l ∨ (c.link n).spare = none) (now : Nat) :
    ∃ d, c.SameButLocks n d ∧ c.spareFailed now n l k = d.spareLane now n l := by
  have hsame : c.SameButLocks n (c.when k (Core.lockLoss n l)) :=
    Core.when_of (P := c.SameButLocks n) k _ c ⟨rfl, rfl, fun _ _ => rfl, rfl, rfl, rfl⟩ (c.lockLoss_same n l)
  refine ⟨_, hsame, ?_⟩
  have hfailed : ((c.when k (Core.lockLoss n l)).link n).failed[l]? = some true := by
    cases k with
    | true =>
      rw [Core.when_true, Core.lockLoss, Core.link_mapLink_self hlen]
      simp [modAt, h9]
    | false => exact hk.resolve_left Bool.false_ne_true
  have hspare : ((c.when k (Core.lockLoss n l)).flag 0x3110 4 ||
      ((c.when k (Core.lockLoss n l)).link n).spare == some l ||
      ((c.when k (Core.lockLoss n l)).link n).spare.isNone) = true := by
    have hflag : (c.when k (Core.lockLoss n l)).flag 0x3110 4 = c.flag 0x3110 4 := by
      unfold Core.flag Core.obj
      rw [hsame.dict]
    rw [hsame.spare, hflag]
    rcases hs with h | h | h <;> simp [h]
  simp only [Core.spareFailed, hfailed, hspare, Option.getD_some, Bool.and_self, Core.when_true]

end Sys2Proof.Machine
end

section
namespace Sys2Proof.Machine

/-! ### Tests in SERVICE (14 R436) -/

/-- A link whose test is over is what it was before it. -/
def Link.testOver (l : Link) : Link := { l with st := l.before, test := none }

/-- A link under a test. -/
def Link.underTest (k : LinkTest) (l : Link) : Link := { l with before := l.st, st := 4, test := some k }

/-- The objects in which a test counts. -/
def testCounters : List (Nat × Nat) := [(0x3120, 6), (0x3120, 7)]

/-- A running test's counts brought to a moment: `b` bits, no more than its lanes can have carried, and `e` errors among
them. -/
theorem Core.testCounts_adds {c : Core} {n : Nat} {k : LinkTest} (hk : (c.link n).test = some k) (now : Nat) :
    ∃ e b f, e ≤ b ∧ b ≤ laneCount k.lanes * rateGbs (c.link n).rate * (now - k.at_) ∧
      c.testCounts now n = ((({ c with free := f } : Core).bumpBy 0x3120 6 e).bumpBy 0x3120 7 b).mapLink n
        (fun l => { l with test := some { k with at_ := now } }) := by
  unfold Core.testCounts
  simp only [hk]
  refine ⟨_, _, _, Nat.le_of_lt_succ (Nat.mod_lt _ (Nat.succ_pos _)), ?_, rfl⟩
  split
  · exact Nat.le_of_lt_succ (Nat.mod_lt _ (Nat.succ_pos _))
  · exact le_rfl

theorem Core.testCounts_none {c : Core} {n : Nat} (hk : (c.link n).test = none) (now : Nat) :
    c.testCounts now n = c := by
  unfold Core.testCounts
  simp only [hk]

theorem Core.keeps_testCounts (c : Core) (now n : Nat) : c.keeps (c.testCounts now n) testCounters := by
  cases hk : (c.link n).test with
  | none =>
    rw [Core.testCounts_none hk]
    exact Core.keeps_refl c _
  | some k =>
    obtain ⟨e, b, f, -, -, h⟩ := Core.testCounts_adds hk now
    have hcounted : c.keeps ((({ c with free := f } : Core).bumpBy 0x3120 6 e).bumpBy 0x3120 7 b) testCounters :=
      Core.keeps_bumpBy_mem (Core.keeps_bumpBy_mem (Core.keeps_of_dict rfl) e (by decide) (by decide)) b
        (by decide) (by decide)
    rw [h]
    exact hcounted

theorem Core.testStop_none {c : Core} (h : c.testing = none) (now : Nat) : c.testStop now = c := by
  simp only [Core.testStop, h]

theorem Core.testStop_some {c : Core} {q : Nat} (h : c.testing = some q) (now : Nat) :
    c.testStop now = (c.testCounts now q).mapLink q Link.testOver := by
  simp only [Core.testStop, h]
  rfl

theorem Core.keeps_testStop (c : Core) (now : Nat) : c.keeps (c.testStop now) testCounters := by
  cases h : c.testing with
  | none =>
    rw [Core.testStop_none h]
    exact Core.keeps_refl c _
  | some q =>
    rw [Core.testStop_some h]
    exact c.keeps_testCounts now q

theorem Core.testStop_links {c : Core} {q : Nat} (h : c.testing = some q) (now : Nat) :
    (c.testStop now).links = modAt c.links q Link.testOver := by
  rw [Core.testStop_some h, Core.mapLink_links]
  cases hk : (c.link q).test with
  | none => rw [Core.testCounts_none hk]
  | some k =>
    obtain ⟨e, b, f, -, -, hc⟩ := Core.testCounts_adds hk now
    rw [hc, Core.mapLink_links, Core.bumpBy_links, Core.bumpBy_links, modAt_modAt]
    rfl

/-- A segment under test is one of eight, its link in the state of a test. -/
theorem Core.testing_st {c : Core} {q : Nat} (h : c.testing = some q) : (c.link q).st = 4 := by
  simpa using List.find?_some h

theorem Core.obj_bumpBy_congr {c d : Core} {i s : Nat} (h : d.obj i s = c.obj i s) (n : Nat) :
    (d.bumpBy i s n).obj i s = (c.bumpBy i s n).obj i s := by
  unfold Core.bumpBy
  dsimp only
  rw [h]
  split
  · rw [Core.obj_put_self, Core.obj_put_self]
  · rw [Core.obj_put_self, Core.obj_put_self]

/-- What a stop adds to the counts of the test that it ends. -/
theorem Core.testStop_adds {c : Core} {q : Nat} {k : LinkTest} (h : c.testing = some q) (hk : (c.link q).test = some k)
    (now : Nat) : ∃ e b, e ≤ b ∧ b ≤ laneCount k.lanes * rateGbs (c.link q).rate * (now - k.at_) ∧
      (c.testStop now).obj 0x3120 6 = (c.bumpBy 0x3120 6 e).obj 0x3120 6 ∧
      (c.testStop now).obj 0x3120 7 = (c.bumpBy 0x3120 7 b).obj 0x3120 7 := by
  obtain ⟨e, b, f, heb, hb, hc⟩ := Core.testCounts_adds hk now
  generalize hd : ({ c with free := f } : Core) = d at hc
  have hobj : ∀ s, d.obj 0x3120 s = c.obj 0x3120 s := fun s => by rw [← hd]; rfl
  refine ⟨e, b, heb, hb, ?_, ?_⟩ <;> rw [Core.testStop_some h, hc, Core.mapLink_obj, Core.mapLink_obj]
  · rw [Core.obj_bumpBy_keep _ _ _ _ _ _ (by decide) (by decide) (by decide)]
    exact Core.obj_bumpBy_congr (hobj 6) e
  · refine Core.obj_bumpBy_congr ?_ b
    rw [Core.obj_bumpBy_keep _ _ _ _ _ _ (by decide) (by decide) (by decide)]
    exact hobj 7

/-- The test that the objects name, started at a moment. -/
def Core.testAsked (c : Core) (now : Nat) : LinkTest := ⟨now, c.obj 0x3120 2, c.obj 0x3120 3, c.obj 0x3120 4⟩

theorem Core.testStart_eq (c : Core) (now : Nat) : c.testStart now =
    ((((c.testStop now).mapLink c.testSeg (Link.underTest (c.testAsked now))).put 0x3120 6 0).put 0x3120 7 0) := by
  have hobj : ∀ s, s < 6 → (c.testStop now).obj 0x3120 s = c.obj 0x3120 s := fun s hs =>
    c.keeps_testStop now 0x3120 s (by omega) (by simp [testCounters]; omega)
  simp only [Core.testStart, Core.testSeg, hobj 1 (by decide), hobj 2 (by decide), hobj 3 (by decide),
    hobj 4 (by decide)]
  rfl

theorem Core.testStart_links (c : Core) (now : Nat) : (c.testStart now).links =
    modAt (c.testStop now).links c.testSeg (Link.underTest (c.testAsked now)) := by
  rw [Core.testStart_eq]
  rfl

/-- The counts of a test that starts are at 0, and nothing else is written. -/
theorem Core.testStart_clears (c : Core) (now : Nat) : (c.testStart now).obj 0x3120 6 = 0 ∧
    (c.testStart now).obj 0x3120 7 = 0 ∧ c.keeps (c.testStart now) testCounters := by
  rw [Core.testStart_eq]
  refine ⟨?_, Core.obj_put_self _ _ _ _, ?_⟩
  · rw [Core.obj_keep _ _ _ _ _ _ (by decide) (by decide) (by decide), Core.obj_put_self]
  · exact Core.keeps_put_mem 0 (Core.keeps_put_mem 0 (c.keeps_testStop now) (by decide) (by decide)) (by decide)
      (by decide)

/-- A test on another segment ends as one starts on the segment selected. -/
theorem Core.testStart_moves {c : Core} {q : Nat} (h : c.testing = some q) (hq : q ≠ c.testSeg)
    (hs : c.testSeg < c.links.length) (now : Nat) :
    ((c.testStart now).link q).st = (c.link q).before ∧ ((c.testStart now).link c.testSeg).st = 4 ∧
      ((c.testStart now).link c.testSeg).before = (c.link c.testSeg).st := by
  have hstop := Core.testStop_links h now
  have hstart := c.testStart_links now
  have hlen : q < c.links.length := Core.lt_of_linkSt (by rw [Core.testing_st h]; decide)
  have hseg : c.testSeg < (c.testStop now).links.length := by
    rw [hstop]
    exact hs.trans_eq (List.length_modify _ _ _).symm
  rw [Core.link_of_modAt hstart hseg, Core.link_of_modAt_ne hstart hq, Core.link_of_modAt hstop hlen]
  refine ⟨rfl, rfl, ?_⟩
  rw [Link.underTest, Core.link_of_modAt_ne hstop hq.symm]

/-! ### Bit slips and sleep (14 R435, R437) -/

theorem Core.slip_none {c : Core} (h : c.flag 0x3121 1 = false) (l : Nat) : c.slip l = c := by
  simp [Core.slip, h]

/-- A bit slip on a lane of the segment selected. -/
theorem Core.slip_shifts {c : Core} (h : c.flag 0x3121 1 = true) (l : Nat) :
    ∃ lock : Link → BitVec 9, (c.slip l).dict = c.dict ∧ (c.slip l).links = modAt c.links c.testSeg (fun k =>
      { k with slips := modAt k.slips l (fun n => (n + 1) % 66), lock := lock k }) := by
  simp only [Core.slip, h, Bool.not_true, Bool.false_eq_true, if_false]
  exact ⟨_, rfl, rfl⟩

/-- What a sleep command makes of a link; `held` while a hold of PLL-T keeps links from running. -/
def Link.slept (held : Bool) (v : Nat) (l : Link) : Link := { l with
  dataSleep := v.testBit 0, bcSleep := v.testBit 1,
  keep := if l.st = 0 ∧ v % 4 ≠ 3 ∧ (l.rate = 0 ∨ l.keep = true ∨ held = true) then l.rate != 0 else l.keep,
  st := if l.st = 2 ∧ v % 4 = 3 then 0 else if l.st = 0 ∧ v % 4 ≠ 3 then
    (if l.rate = 0 ∨ l.keep = true ∨ held = true then 1 else 2) else l.st }

theorem Core.linkWake_eq (c : Core) (l : Link) : c.linkWake l = { l with
    keep := if l.st = 0 ∧ (l.rate = 0 ∨ l.keep = true ∨ c.clk.tHeld = true) then l.rate != 0 else l.keep,
    st := if l.st = 0 then (if l.rate = 0 ∨ l.keep = true ∨ c.clk.tHeld = true then 1 else 2) else l.st } := by
  unfold Core.linkWake
  by_cases h0 : l.st = 0
  · by_cases hb : l.rate = 0 ∨ l.keep = true ∨ c.clk.tHeld = true
    · have hb' : (decide (l.rate = 0) || l.keep || c.clk.tHeld) = true := by simpa [or_assoc] using hb
      simp only [ne_eq, h0, not_true_eq_false, if_false, hb', hb, and_self, if_true]
    · have hb' : (decide (l.rate = 0) || l.keep || c.clk.tHeld) = false := by simpa [not_or, and_assoc] using hb
      simp only [ne_eq, h0, not_true_eq_false, if_false, hb', hb, and_false, if_true, Bool.false_eq_true]
  · simp only [ne_eq, h0, not_false_eq_true, if_true, false_and, if_false]

/-- The two bits of a sleep command are all that it carries. -/
theorem testBit_mod_four (v : Nat) : (v % 4).testBit 0 = v.testBit 0 ∧ (v % 4).testBit 1 = v.testBit 1 :=
  ⟨(Nat.testBit_mod_two_pow v 2 0).trans (by simp), (Nat.testBit_mod_two_pow v 2 1).trans (by simp)⟩

theorem Core.linkSleep_sleeps {c : Core} (h : c.segOn c.testSeg = true) (v : Nat) :
    c.linkSleep (v % 4) = c.mapLink c.testSeg (Link.slept c.clk.tHeld v) := by
  unfold Core.linkSleep
  rw [h, Core.when_true]
  refine congrArg (fun f => c.mapLink c.testSeg f) (funext fun l => ?_)
  obtain ⟨h0, h1⟩ := testBit_mod_four v
  simp only [h0, h1, Nat.mod_mod, Link.slept]
  by_cases h3 : v % 4 = 3
  · by_cases h2 : l.st = 2 <;> simp [h3, h2]
  · by_cases hst : l.st = 0 <;> simp [h3, Core.linkWake_eq, hst]

theorem Core.linkSleep_none {c : Core} (h : c.segOn c.testSeg = false) (v : Nat) : c.linkSleep v = c := by
  rw [Core.linkSleep, h, Core.when_false]

end Sys2Proof.Machine
end

section
namespace Sys2Proof.Machine

/-! ### Writes of the segment links' commands judged (02 R51, 14 R434 to R437) -/

/-- With nothing against a write but its value and the object's own reasons, these alone are judged. -/
theorem Core.writeCodes_valued {c : Core} {o : Orig} {i s d : Nat} {data : List Byte} {own : List Nat}
    {r : ObjRow}
    (hm : c.mayWrite o i s d) (hr : rowOf i s = some r) (hd : domainOf i s = some d) (ha : r.acc = .rw ∨ r.acc = .wo)
    (h2 : i ≠ 0x2102) (hl : lengthOk r data.length = true) (ht : r.ty = .u8) :
    c.writeCodes o i s data own = reason (!permits r.ty r.perm (leNat data)) 0x06090030 ++ own := by
  obtain ⟨ho, hc, hn, hmap, -⟩ := hm
  obtain ⟨k, hk⟩ := Option.isSome_iff_exists.mp (topSub_isSome hr)
  have hmapped : (o != .pdo && c.isMapped i s) = false := by
    rcases hmap with rfl | h
    · rfl
    · rw [h, Bool.and_false]
  have hro : (r.acc == .ro) = false ∧ (r.acc == .rws) = false := by
    rcases ha with h | h <;> rw [h] <;> decide
  simp [Core.writeCodes, Core.absent, hn, hk, hr, Core.rowCodes, hro, h2, hd, ho, hmapped, hc, hl, ht, reason]

theorem Core.wordOk_of_mayWrite {c : Core} {o : Orig} {i s d : Nat} (hm : c.mayWrite o i s d) : c.wordOk i s = true := by
  obtain ⟨-, -, -, -, hword⟩ := hm
  exact hword

section
variable {c : Core} {o : Orig}

theorem Core.writeCodes_spare (hm : c.mayWrite o 0x3111 0 9) (v : Nat) (own : List Nat) :
    c.writeCodes o 0x3111 0 (leBytes 1 v) own = own :=
  Core.writeCodes_valued (r := row 0x3111 0x3111 0 0 .u8 .wo (.val 0) false (.mask 0x7F) 0 false) hm rfl rfl (.inr rfl)
    (by decide) (by rw [length_leBytes]; rfl) rfl

theorem Core.writeCodes_test (hm : c.mayWrite o 0x3120 5 9) {v : Nat} (h1 : 1 ≤ v) (h2 : v ≤ 2) (own : List Nat) :
    c.writeCodes o 0x3120 5 (leBytes 1 v) own = own := by
  refine (Core.writeCodes_valued (r := row 0x3120 0x3120 5 5 .u8 .wo (.val 0) false (.rng 1 2) 0 false) hm rfl rfl
    (.inr rfl) (by decide) (by rw [length_leBytes]; rfl) rfl).trans ?_
  rw [leNat_leBytes, Nat.mod_eq_of_lt (by omega)]
  simp [row, permits, reason, h1, h2]

theorem Core.writeCodes_slip (hm : c.mayWrite o 0x3121 2 9) (v : Byte) (own : List Nat) :
    c.writeCodes o 0x3121 2 (leBytes 1 v.toNat) own = reason (decide (8 < v.toNat)) 0x06090030 ++ own := by
  refine (Core.writeCodes_valued (r := row 0x3121 0x3121 2 2 .u8 .wo (.val 0) false (.rng 0 8) 0 false) hm rfl rfl
    (.inr rfl) (by decide) (by rw [length_leBytes]; rfl) rfl).trans ?_
  have hp : permits .u8 (.rng 0 8) v.toNat = decide (v.toNat ≤ 8) := by simp [permits]
  rw [leNat_leBytes, Nat.mod_eq_of_lt (v.isLt.trans_eq (by decide))]
  simp [row, hp, ← decide_not]

theorem Core.writeCodes_sleep (hm : c.mayWrite o 0x3122 1 9) (v : Nat) (own : List Nat) :
    c.writeCodes o 0x3122 1 (leBytes 1 v) own = own :=
  Core.writeCodes_valued (r := row 0x3122 0x3122 1 1 .u8 .wo (.val 0) false (.mask 3) 0 false) hm rfl rfl (.inr rfl)
    (by decide) (by rw [length_leBytes]; rfl) rfl

theorem Core.serviceCodes_in (h : c.mode = .service) : c.serviceCodes = [] := by
  simp [Core.serviceCodes, h, reason]

theorem Core.serviceCodes_out (h : c.mode ≠ .service) : c.serviceCodes = [0x08000021] := by
  simp [Core.serviceCodes, h, reason]

end

/-- A lane's number in 3111h.00. -/
theorem spareValue (n : Fin 8) (l : Fin 9) :
    field (n.val * 16 + l.val) 6 4 = n.val ∧ (n.val * 16 + l.val) % 16 = l.val := by
  simp only [field, Nat.shiftRight_eq_div_pow]
  omega

theorem Core.spareCodes_eq (c : Core) (n : Fin 8) (l : Fin 9) : c.spareCodes (n.val * 16 + l.val) =
    reason (7 < l.val) 0x06090030 ++ reason ((c.link n.val).st == 3 || c.laneRetired n.val l.val ||
      !(c.link n.val).map.contains (some l.val)) 0x08000031 := by
  obtain ⟨hn, hl⟩ := spareValue n l
  unfold Core.spareCodes
  rw [hn, hl]

theorem Core.spareWrite_eq (now : Nat) (c : Core) (n : Fin 8) (l : Fin 9) :
    c.spareWrite now (n.val * 16 + l.val) = c.spareLane now n.val l.val := by
  obtain ⟨hn, hl⟩ := spareValue n l
  unfold Core.spareWrite
  rw [hn, hl]

/-! ### Commands of SERVICE, taken and refused -/

section
variable {t v i s : Nat} {o : Orig} {eff : Nat → Core → Core} {x : State}

/-- A command of SERVICE in it. -/
theorem State.run_service (hw : x.core.wordOk i s = true) (hs : x.core.mode = .service)
    (h : x.core.writeCodes o i s (leBytes 1 v) x.core.serviceCodes = x.core.serviceCodes) :
    ∃ u, State.run t (fun now c => c.command now o i s 1 v c.serviceCodes (eff now)) x = .next u ∧
      u.core = (eff (x.at_ t) x.core).under u.core :=
  State.run_command_taken (own := Core.serviceCodes) hw (h.trans (Core.serviceCodes_in hs))

/-- A command of SERVICE outside it; that its value is bad besides does not show. -/
theorem State.run_service_refused (hp : o ≠ .pdo) (hs : x.core.mode ≠ .service) {b : Bool}
    (h : x.core.writeCodes o i s (leBytes 1 v) x.core.serviceCodes = reason b 0x06090030 ++ x.core.serviceCodes) :
    ∃ u, State.run t (fun now c => c.command now o i s 1 v c.serviceCodes (eff now)) x = .next u ∧
      u.core = x.core.under u.core ∧ x.puts u [.answer o i s 0x08000021] := by
  have hfirst : firstCode (x.core.writeCodes o i s (leBytes 1 v) x.core.serviceCodes) = some 0x08000021 := by
    rw [h, Core.serviceCodes_out hs]
    cases b <;> decide
  obtain ⟨u, hu, ho, hc⟩ := State.run_command_refused (own := Core.serviceCodes) (eff := eff) (t := t) hfirst hp
  exact ⟨u, hu, hc, ho⟩

end

/-! ### Bring-up and scans -/

section
variable {n : Fin 8} {ls : List LaneResult} {s : State} (t : Nat) (hon : s.core.segOn n.val = true)
  (hst : (s.core.link n.val).st = 1) (ht : s.core.clk.tHeld = false)
include hon hst ht

theorem exec_linkBringUp_keeps (hk : (s.core.link n.val).keep = true) :
    ∃ u, exec (.linkBringUp t n ls) s = .next u ∧
      u.core.dict = s.core.dict ∧ u.core.links = modAt s.core.links n.val Link.up := by
  obtain ⟨u, hu, -, hc, -⟩ := State.run_ends t (fun now c => c.bringUp now n.val ls) s
  rw [Core.bringUp_keeps _ hon hst ht hk] at hc
  exact ⟨u, hu, Core.of_under hc Core.dict, Core.of_under hc Core.links⟩

variable (hk : (s.core.link n.val).keep = false)
include hk

theorem exec_linkBringUp_takes {w r : Nat}
    (hf : linkConfigs.find? (fun k => decide (k.1 ≤ (s.core.passing n.val k.2 ls).length)) = some (w, r)) :
    ∃ u, exec (.linkBringUp t n ls) s = .next u ∧ u.core.dict = s.core.dict ∧
      u.core.links = modAt s.core.links n.val (fun l => Link.up { l with
        rate := r, spare := if w = 8 then (s.core.passing n.val r ls)[8]? else none,
        map := ((s.core.passing n.val r ls).take w).map some ++ List.replicate (8 - w) none }) := by
  obtain ⟨u, hu, -, hc, -⟩ := State.run_ends t (fun now c => c.bringUp now n.val ls) s
  rw [Core.bringUp_takes _ hon hst ht hk hf] at hc
  exact ⟨u, hu, Core.of_under hc Core.dict, Core.of_under hc Core.links⟩

theorem exec_linkBringUp_faults
    (hf : linkConfigs.find? (fun k => decide (k.1 ≤ (s.core.passing n.val k.2 ls).length)) = none) :
    ∃ u, exec (.linkBringUp t n ls) s = .next u ∧ (u.core.link n.val).st = 5 ∧
      (∀ m, m ≠ n.val → u.core.link m = s.core.link m) := by
  obtain ⟨u, hu, -, hc, -⟩ := State.run_ends t (fun now c => c.bringUp now n.val ls) s
  rw [Core.bringUp_faults _ hon hst ht hk hf] at hc
  have hlinks := (Core.of_under hc Core.links).trans (Core.linkFault_links _ _ _)
  have hlen : n.val < s.core.links.length := Core.lt_of_linkSt (by rw [hst]; decide)
  exact ⟨u, hu, congrArg Link.st (Core.link_of_modAt hlinks hlen), fun m hm => Core.link_of_modAt_ne hlinks hm⟩

end

theorem exec_eyeScan_scans (t h v b : Nat) (n : Fin 8) (l : Fin 9) (s : State)
    (hused : s.core.laneUsed n.val l.val = true) (hf : s.core.flag 0x3110 5 = true) :
    ∃ u, exec (.eyeScan t n l h v b) s = .next u ∧ s.core.EyeScanned (s.at_ t) n.val l.val h v b u.core := by
  obtain ⟨u, hu, -, hc, -⟩ := State.run_ends t (fun now c => c.when (c.laneUsed n.val l.val)
    (fun c => (c.countBip now n.val l.val b).scanLane n.val l.val h v)) s
  rw [hused, Core.when_true] at hc
  have hlen : n.val < s.core.links.length := Core.lt_of_linkSt (by rw [Core.laneUsed_st hused]; decide)
  obtain ⟨hlink, hkeeps, hmargins, herrors⟩ := Core.eyeScan_scans hlen n.isLt l.isLt hf (s.at_ t) h v b
  exact ⟨u, hu, (Core.of_under hc (·.link n.val)).trans hlink, Core.keeps_under hkeeps hc,
    (Core.of_under hc (·.obj _ _)).trans hmargins, (Core.of_under hc (·.obj _ _)).trans herrors⟩

theorem exec_eyeScan_unused (t h v b : Nat) (n : Fin 8) (l : Fin 9) (s : State)
    (hused : s.core.laneUsed n.val l.val = false) :
    ∃ u, exec (.eyeScan t n l h v b) s = .next u ∧ u.core = s.core.under u.core := by
  obtain ⟨u, hu, -, hc, -⟩ := State.run_ends t (fun now c => c.when (c.laneUsed n.val l.val)
    (fun c => (c.countBip now n.val l.val b).scanLane n.val l.val h v)) s
  rw [hused, Core.when_false] at hc
  exact ⟨u, hu, hc⟩

/-! ### Sparing -/

/-- A lane of a link that is up fails margin or loses block lock, where something answers: the lane is dealt with, on a
link that differs in its locks alone. -/
theorem exec_laneSpare_fails {t : Nat} {k : Bool} {n : Fin 8} {l : Fin 9} {s : State}
    (hst : (s.core.link n.val).st = 2) (hk : k = true ∨ (s.core.link n.val).failed[l.val]? = some true)
    (h9 : (s.core.link n.val).failed.length = 9)
    (hs : s.core.flag 0x3110 4 = true ∨ (s.core.link n.val).spare = some l.val ∨ (s.core.link n.val).spare = none) :
    ∃ d u, exec (.laneSpare t none k n l) s = .next u ∧ s.core.SameButLocks n.val d ∧
      u.core = (d.spareLane (s.at_ t) n.val l.val).under u.core := by
  obtain ⟨u, hu, -, hc, -⟩ := State.run_ends t (fun now c => c.when ((c.link n.val).st == 2 || (c.link n.val).st == 3)
    (Core.spareFailed now n.val l.val k)) s
  have hlen : n.val < s.core.links.length := Core.lt_of_linkSt (by rw [hst]; decide)
  obtain ⟨d, hsame, hd⟩ := Core.spareFailed_acts hlen hk (h9.symm ▸ l.isLt) hs (s.at_ t)
  rw [hst, beq_self_eq_true, Bool.true_or, Core.when_true, hd] at hc
  exact ⟨d, u, hu, hsame, hc⟩

section
variable {t : Nat} {n : Fin 8} {l : Fin 9} {s : State} (hst : (s.core.link n.val).st = 2)
  (hret : s.core.laneRetired n.val l.val = false)
include hst hret

section
variable {k : Bool} (hk : k = true ∨ (s.core.link n.val).failed[l.val]? = some true)
  (h9 : (s.core.link n.val).failed.length = 9)
include hk h9

theorem exec_laneSpare_replaces {p : Nat} (hflag : s.core.flag 0x3110 4 = true)
    (hmap : (s.core.link n.val).map.contains (some l.val) = true) (hsp : (s.core.link n.val).spare = some p) :
    ∃ u, exec (.laneSpare t none k n l) s = .next u ∧ (u.core.link n.val).st = 3 ∧
      (u.core.link n.val).map = (s.core.link n.val).map.map (fun x => if x == some l.val then some p else x) ∧
      (u.core.link n.val).spare = none ∧ u.core.laneRetired n.val l.val = true ∧
      (∀ m, m ≠ n.val → u.core.link m = s.core.link m) := by
  obtain ⟨d, u, hu, hd, hc⟩ := exec_laneSpare_fails (t := t) hst hk h9 (.inl hflag)
  have hlen : n.val < d.links.length := hd.length ▸ Core.lt_of_linkSt (by rw [hst]; decide)
  obtain ⟨hlinks, hr⟩ := Core.spareLane_replaces ((Core.laneRetired_of_dict hd.dict _ _).trans hret) (hd.map ▸ hmap)
    (hd.st.trans hst) hlen n.isLt (s.at_ t) (hd.spare.trans hsp)
  have hlinks' := (Core.of_under hc Core.links).trans hlinks
  have hlink := Core.link_of_modAt hlinks' hlen
  refine ⟨u, hu, congrArg Link.st hlink, ?_, congrArg Link.spare hlink,
    (Core.of_under hc (·.laneRetired n.val l.val)).trans hr, fun m hm => ?_⟩
  · rw [hlink, ← hd.map]
    rfl
  · exact (Core.link_of_modAt_ne hlinks' hm).trans (hd.others m hm)

theorem exec_laneSpare_narrows (hmap : (s.core.link n.val).map.contains (some l.val) = true)
    (hsp : (s.core.link n.val).spare = none) (h7 : 7 < (s.core.link n.val).lanes) :
    ∃ u, exec (.laneSpare t none k n l) s = .next u ∧
      (u.core.link n.val).st = 3 ∧ u.core.laneRetired n.val l.val = true ∧
      (u.core.link n.val).map = (s.core.link n.val).map.filter (· != some l.val) ++ [none] := by
  obtain ⟨d, u, hu, hd, hc⟩ := exec_laneSpare_fails (t := t) hst hk h9 (.inr (.inr hsp))
  have hlen : n.val < d.links.length := hd.length ▸ Core.lt_of_linkSt (by rw [hst]; decide)
  have hlanes : (d.link n.val).lanes = (s.core.link n.val).lanes := by rw [Link.lanes, hd.map]; rfl
  obtain ⟨⟨job, hlinks⟩, hr⟩ := Core.spareLane_narrows ((Core.laneRetired_of_dict hd.dict _ _).trans hret)
    (hd.map ▸ hmap) (hd.st.trans hst) hlen n.isLt (s.at_ t) (hd.spare.trans hsp) (h7.trans_eq hlanes.symm)
  have hlink := Core.link_of_modAt ((Core.of_under hc Core.links).trans hlinks) hlen
  refine ⟨u, hu, congrArg Link.st hlink, (Core.of_under hc (·.laneRetired n.val l.val)).trans hr, ?_⟩
  rw [hlink, ← hd.map]
  rfl

theorem exec_laneSpare_faults (hmap : (s.core.link n.val).map.contains (some l.val) = true)
    (hsp : (s.core.link n.val).spare = none) (h7 : (s.core.link n.val).lanes ≤ 7) :
    ∃ u, exec (.laneSpare t none k n l) s = .next u ∧ (u.core.link n.val).st = 5 := by
  obtain ⟨d, u, hu, hd, hc⟩ := exec_laneSpare_fails (t := t) hst hk h9 (.inr (.inr hsp))
  have hlen : n.val < d.links.length := hd.length ▸ Core.lt_of_linkSt (by rw [hst]; decide)
  have hlanes : (d.link n.val).lanes = (s.core.link n.val).lanes := by rw [Link.lanes, hd.map]; rfl
  rw [Core.spareLane_faults ((Core.laneRetired_of_dict hd.dict _ _).trans hret) (hd.map ▸ hmap)
    (hd.spare.trans hsp) (hlanes.trans_le h7)] at hc
  exact ⟨u, hu, congrArg Link.st
    (Core.link_of_modAt ((Core.of_under hc Core.links).trans (Core.linkFault_links _ _ _)) hlen)⟩

theorem exec_laneSpare_spare (hmap : (s.core.link n.val).map.contains (some l.val) = false)
    (hsp : (s.core.link n.val).spare = some l.val) :
    ∃ u, exec (.laneSpare t none k n l) s = .next u ∧ (u.core.link n.val).st = 2 ∧
      (u.core.link n.val).spare = none ∧ u.core.laneRetired n.val l.val = true ∧
      (u.core.link n.val).map = (s.core.link n.val).map := by
  obtain ⟨d, u, hu, hd, hc⟩ := exec_laneSpare_fails (t := t) hst hk h9 (.inr (.inl hsp))
  have hlen : n.val < d.links.length := hd.length ▸ Core.lt_of_linkSt (by rw [hst]; decide)
  rw [Core.spareLane_spare ((Core.laneRetired_of_dict hd.dict _ _).trans hret) (hd.map ▸ hmap)
    (hd.spare.trans hsp)] at hc
  have hlink := Core.link_of_modAt ((Core.of_under hc Core.links).trans (Core.retireLane_links _ _ _ _)) hlen
  refine ⟨u, hu, ?_, congrArg Link.spare hlink,
    (Core.of_under hc (·.laneRetired n.val l.val)).trans (Core.retireLane_retires n.isLt _ _ _), ?_⟩
  · rw [hlink, ← hst, ← hd.st]
  · rw [hlink, ← hd.map]

end

/-- A write of 3111h.00 for a lane in use. -/
theorem exec_laneSpare_asked {o : Orig} {k : Bool} {p : Nat} (hm : s.core.mayWrite o 0x3111 0 9) (h8 : l.val < 8)
    (hmap : (s.core.link n.val).map.contains (some l.val) = true) (hsp : (s.core.link n.val).spare = some p) :
    ∃ u, exec (.laneSpare t (some o) k n l) s = .next u ∧ (u.core.link n.val).st = 3 ∧
      (u.core.link n.val).map = (s.core.link n.val).map.map (fun x => if x == some l.val then some p else x) ∧
      (u.core.link n.val).spare = none ∧ u.core.laneRetired n.val l.val = true := by
  have hword := Core.wordOk_of_mayWrite hm
  have hcodes : s.core.spareCodes (n.val * 16 + l.val) = [] := by
    rw [Core.spareCodes_eq, hst, hret, hmap, decide_eq_false (by omega)]
    rfl
  obtain ⟨u, hu, hc⟩ := State.run_command_taken (t := t) (own := fun c => c.spareCodes (n.val * 16 + l.val))
    (eff := fun now => Core.spareWrite now (n.val * 16 + l.val)) hword ((Core.writeCodes_spare hm _ _).trans hcodes)
  have hlen : n.val < s.core.links.length := Core.lt_of_linkSt (by rw [hst]; decide)
  obtain ⟨hlinks, hr⟩ := Core.spareLane_replaces hret hmap hst hlen n.isLt (s.at_ t) hsp
  rw [Core.spareWrite_eq] at hc
  have hlink := Core.link_of_modAt ((Core.of_under hc Core.links).trans hlinks) hlen
  exact ⟨u, hu, congrArg Link.st hlink, congrArg Link.map hlink, congrArg Link.spare hlink,
    (Core.of_under hc (·.laneRetired n.val l.val)).trans hr⟩

end

/-- A write of 3111h.00 that its own reasons refuse. -/
theorem exec_laneSpare_refused {t : Nat} {o : Orig} {k : Bool} {n : Fin 8} {l : Fin 9} {s : State} {code : Nat}
    (hm : s.core.mayWrite o 0x3111 0 9) (hp : o ≠ .pdo)
    (h : firstCode (s.core.spareCodes (n.val * 16 + l.val)) = some code) :
    ∃ u, exec (.laneSpare t (some o) k n l) s = .next u ∧ u.core = s.core.under u.core ∧
      s.puts u [.answer o 0x3111 0 code] := by
  obtain ⟨u, hu, ho, hc⟩ := State.run_command_refused (t := t) (own := fun c => c.spareCodes (n.val * 16 + l.val))
    (eff := fun now => Core.spareWrite now (n.val * 16 + l.val)) (v := n.val * 16 + l.val) (k := code)
    (by rw [Core.writeCodes_spare hm]; exact h) hp
  exact ⟨u, hu, hc, ho⟩

/-- Lane 8 lies outside what a write of 3111h.00 may name, whatever else stands against it. -/
theorem Core.spareCodes_lane8 (c : Core) (n : Fin 8) {l : Fin 9} (h : l.val = 8) :
    firstCode (c.spareCodes (n.val * 16 + l.val)) = some 0x06090030 := by
  rw [Core.spareCodes_eq, decide_eq_true (by omega : 7 < l.val)]
  cases ((c.link n.val).st == 3 || c.laneRetired n.val l.val || !(c.link n.val).map.contains (some l.val)) <;> decide

theorem Core.spareCodes_unfit {c : Core} {n : Fin 8} {l : Fin 9} (h8 : l.val < 8)
    (h : c.laneRetired n.val l.val = true ∨ (c.link n.val).st = 3 ∨
      (c.link n.val).map.contains (some l.val) = false) :
    firstCode (c.spareCodes (n.val * 16 + l.val)) = some 0x08000031 := by
  have hunfit : ((c.link n.val).st == 3 || c.laneRetired n.val l.val ||
      !(c.link n.val).map.contains (some l.val)) = true := by
    rcases h with h | h | h <;> rw [h]
    · rw [Bool.or_true, Bool.true_or]
    · rfl
    · exact Bool.or_true _
  rw [Core.spareCodes_eq, decide_eq_false (by omega : ¬7 < l.val), hunfit]
  decide

/-! ### Retrains -/

theorem exec_linkRetrain_retrains (t : Nat) (n : Fin 8) (k : RetrainCause) (s : State)
    (hst : (s.core.link n.val).st = 2) : ∃ u, exec (.linkRetrain t n k) s = .next u ∧
      u.core.links = modAt s.core.links n.val (fun l => { l with
        st := 3, since := s.at_ t, attempts := 0, lock := if k = .blockLock then 0 else l.lock }) ∧
      u.core.obj 0x3105 (n.val + 1) = (s.core.bump 0x3105 (n.val + 1)).obj 0x3105 (n.val + 1) := by
  obtain ⟨u, hu, -, hc, -⟩ := State.run_ends t (fun now c => c.retrain now n.val (RetrainCause.code k)) s
  refine ⟨u, hu, ?_, (Core.of_under hc (·.obj _ _)).trans (Core.retrain_counts hst n.isLt _ _)⟩
  rw [Core.of_under hc Core.links, Core.retrain_links hst]
  cases k <;> rfl

theorem exec_retrain_ends (t : Nat) (n : Fin 8) (s : State) (hst : (s.core.link n.val).st = 3) :
    ((s.core.link n.val).since + 1000000 ≤ s.at_ t → (s.core.link n.val).attempts < 2 →
      ∃ u, exec (.retrainTimeout t n) s = .next u ∧
      u.core.links = modAt s.core.links n.val (fun l => { l with
        since := s.at_ t, attempts := (s.core.link n.val).attempts + 1 })) ∧
    ((s.core.link n.val).since + 1000000 ≤ s.at_ t → 2 ≤ (s.core.link n.val).attempts →
      ∃ u, exec (.retrainTimeout t n) s = .next u ∧ (u.core.link n.val).st = 5) ∧
    (s.at_ t < (s.core.link n.val).since + 1000000 →
      ∃ u, exec (.retrainTimeout t n) s = .next u ∧ u.core = s.core.under u.core) ∧
    (∃ u, exec (.retrainComplete t n) s = .next u ∧ u.core.dict = s.core.dict ∧
      u.core.links = modAt s.core.links n.val (fun l => { l with
        st := 2, fails := List.replicate 9 0, failed := List.replicate 9 false, lock := l.used })) := by
  obtain ⟨u, hu, -, hc, -⟩ := State.run_ends t (fun now c => c.retrainLate now n.val) s
  obtain ⟨w, hw, -, hwc, -⟩ := State.run_ends t (fun _ c => c.retrainEnds n.val) s
  rw [Core.retrainEnds_completes hst] at hwc
  refine ⟨fun ht ha => ?_, fun ht ha => ?_, fun ht => ?_, w, hw, Core.of_under hwc Core.dict,
    Core.of_under hwc Core.links⟩
  · exact ⟨u, hu, (Core.of_under hc Core.links).trans (Core.retrainLate_again hst ht ha)⟩
  · rw [Core.retrainLate_faults hst ht ha] at hc
    have hlen : n.val < s.core.links.length := Core.lt_of_linkSt (by rw [hst]; decide)
    exact ⟨u, hu, congrArg Link.st
      (Core.link_of_modAt ((Core.of_under hc Core.links).trans (Core.linkFault_links _ _ _)) hlen)⟩
  · rw [Core.retrainLate_waits ht] at hc
    exact ⟨u, hu, hc⟩

/-! ### The back-channel -/

theorem exec_bcCommandLost_noRow (t : Nat) (n : Fin 8) (s : State) (hon : s.core.segOn n.val = true) :
    ∃ u, exec (.bcCommandLost t n []) s = .next u ∧
      u.core.obj 0x3108 (n.val + 1) = (s.core.bump 0x3108 (n.val + 1)).obj 0x3108 (n.val + 1) ∧
      (s.core.mode ≠ .compline → u.core.active 0x5032 0 = true) ∧ u.core.pipe = s.core.pipe ∧
      u.core.links = modAt s.core.links n.val (fun l => { l with missed := true }) := by
  obtain ⟨u, hu, -, hc, -⟩ := State.run_ends t (fun now c => c.commandLost now n.val []) s
  rw [Core.commandLost_noRow hon] at hc
  have hlog := Core.Logged.event
    (c := (s.core.bump 0x3108 (n.val + 1)).mapLink n.val (fun l => { l with missed := true })) (s.at_ t) 0x5032 n.val []
  refine ⟨u, hu, ?_, fun hm => ?_, ?_, ?_⟩
  · exact (Core.of_under hc (·.obj _ _)).trans (hlog.obj _ _ (by omega) (by decide))
  · have hmode : (s.core.bump 0x3108 (n.val + 1)).mode = s.core.mode :=
      Core.of_rest Core.mode (fun _ => rfl) (Core.rest_bump _ _ _)
    rw [Core.of_under hc (·.active 0x5032 0), Core.active, Core.event,
      Core.eventRaw_active _ _ _ _ _ (by rw [Core.mapLink_mode, hmode]; exact hm) (by decide)]
    simp [leAt, slice, zeros]
  · rw [Core.of_under hc Core.pipe, hlog.same Core.pipe, Core.mapLink_pipe, Core.bump_pipe]
  · rw [Core.of_under hc Core.links, Core.event_links, Core.mapLink_links, Core.bump_links]

theorem exec_statusBlock_acknowledges (t : Nat) (n : Fin 8) (w e : Int) (s : State) (hst : (s.core.link n.val).st = 2)
    (hd : (s.core.link n.val).dataSleep = false) (hs : s.core.sensing 0 = true) :
    ∃ u, exec (.statusBlock t n w e) s = .next u ∧
      u.core.links = modAt s.core.links n.val (fun l => { l with ackOk := !l.missed, missed := false }) ∧
      u.core.obj 0x3330 (2 * n.val + 1) = ofSigned 16 (clampInt (-32768) 32767 w) ∧
      u.core.obj 0x3330 (2 * n.val + 2) = ofSigned 16 (clampInt (-32768) 32767 e) := by
  obtain ⟨u, hu, -, hc, -⟩ := State.run_ends t (fun now c => c.statusTaken now n.val w e) s
  obtain ⟨hlinks, hwest, heast⟩ := Core.statusTaken_acknowledges hst hd hs n.isLt (s.at_ t) w e
  exact ⟨u, hu, (Core.of_under hc Core.links).trans hlinks, (Core.of_under hc (·.obj _ _)).trans hwest,
    (Core.of_under hc (·.obj _ _)).trans heast⟩

/-! ### Tests, bit slips and sleep in SERVICE -/

section
variable {t : Nat} {o : Orig} {s : State} (hserv : s.core.mode = .service)
include hserv

section
variable (hm : s.core.mayWrite o 0x3120 5 9)
include hm

theorem State.run_linkTestStart : ∃ u, exec (.linkTestStart t o) s = .next u ∧
    u.core = (s.core.testStart (s.at_ t)).under u.core := by
  have hword := Core.wordOk_of_mayWrite hm
  exact State.run_service (eff := fun now => Core.testCommand now 1) hword hserv
    (Core.writeCodes_test (v := 1) hm (by decide) (by decide) _)

theorem exec_linkTestStart_starts :
    ∃ u, exec (.linkTestStart t o) s = .next u ∧ u.core.obj 0x3120 6 = 0 ∧ u.core.obj 0x3120 7 = 0 ∧
      s.core.keeps u.core [(0x3120, 6), (0x3120, 7)] ∧
      (s.core.testing = none → u.core.links = modAt s.core.links s.core.testSeg (fun l => { l with
        before := l.st, st := 4,
        test := some ⟨s.at_ t, s.core.obj 0x3120 2, s.core.obj 0x3120 3, s.core.obj 0x3120 4⟩ })) ∧
      (∀ q, s.core.testing = some q → q ≠ s.core.testSeg → s.core.links.length = 8 → s.core.testSeg < 8 →
        (u.core.link q).st = (s.core.link q).before ∧ (u.core.link s.core.testSeg).st = 4 ∧
        (u.core.link s.core.testSeg).before = (s.core.link s.core.testSeg).st) := by
  obtain ⟨u, hu, hc⟩ := State.run_linkTestStart (t := t) hserv hm
  obtain ⟨h6, h7, hkeeps⟩ := s.core.testStart_clears (s.at_ t)
  refine ⟨u, hu, (Core.of_under hc (·.obj _ _)).trans h6, (Core.of_under hc (·.obj _ _)).trans h7,
    Core.keeps_under hkeeps hc, fun hn => ?_, fun q hq hne hlen h8 => ?_⟩
  · rw [Core.of_under hc Core.links, Core.testStart_links, Core.testStop_none hn]
    rfl
  · obtain ⟨h1, h2, h3⟩ := Core.testStart_moves hq hne (hlen ▸ h8) (s.at_ t)
    have hlink := fun m => Core.of_under hc (·.link m)
    exact ⟨(congrArg Link.st (hlink q)).trans h1, (congrArg Link.st (hlink _)).trans h2,
      (congrArg Link.before (hlink _)).trans h3⟩

theorem State.run_linkTestStop : ∃ u, exec (.linkTestStop t o) s = .next u ∧
    u.core = (s.core.testStop (s.at_ t)).under u.core := by
  have hword := Core.wordOk_of_mayWrite hm
  exact State.run_service (eff := fun now => Core.testCommand now 2) hword hserv
    (Core.writeCodes_test (v := 2) hm (by decide) (by decide) _)

theorem exec_linkTestStop_stops {q : Nat} {k : LinkTest} (hq : s.core.testing = some q)
    (hk : (s.core.link q).test = some k) : ∃ u e b, exec (.linkTestStop t o) s = .next u ∧
      u.core.links = modAt s.core.links q (fun l => { l with st := l.before, test := none }) ∧
      e ≤ b ∧ b ≤ laneCount k.lanes * rateGbs (s.core.link q).rate * (s.at_ t - k.at_) ∧
      u.core.obj 0x3120 6 = (s.core.bumpBy 0x3120 6 e).obj 0x3120 6 ∧
      u.core.obj 0x3120 7 = (s.core.bumpBy 0x3120 7 b).obj 0x3120 7 ∧
      s.core.keeps u.core [(0x3120, 6), (0x3120, 7)] := by
  obtain ⟨u, hu, hc⟩ := State.run_linkTestStop (t := t) hserv hm
  obtain ⟨e, b, heb, hb, h6, h7⟩ := Core.testStop_adds hq hk (s.at_ t)
  exact ⟨u, e, b, hu, (Core.of_under hc Core.links).trans (Core.testStop_links hq _), heb, hb,
    (Core.of_under hc (·.obj _ _)).trans h6, (Core.of_under hc (·.obj _ _)).trans h7,
    Core.keeps_under (s.core.keeps_testStop _) hc⟩

theorem exec_linkTestStop_none (hn : s.core.testing = none) :
    ∃ u, exec (.linkTestStop t o) s = .next u ∧ u.core = s.core.under u.core := by
  obtain ⟨u, hu, hc⟩ := State.run_linkTestStop (t := t) hserv hm
  rw [Core.testStop_none hn] at hc
  exact ⟨u, hu, hc⟩

end

theorem exec_bitSlip_slips {v : Byte} (hm : s.core.mayWrite o 0x3121 2 9) (hv : v.toNat ≤ 8) :
    (s.core.flag 0x3121 1 = true → s.core.links.length = 8 → s.core.testSeg < 8 →
      ∃ u, exec (.bitSlip t o v) s = .next u ∧ u.core.dict = s.core.dict ∧
      (u.core.link s.core.testSeg).slips =
        modAt (s.core.link s.core.testSeg).slips v.toNat (fun k => (k + 1) % 66) ∧
      (∀ m, m ≠ s.core.testSeg → u.core.link m = s.core.link m)) ∧
    (s.core.flag 0x3121 1 = false → ∃ u, exec (.bitSlip t o v) s = .next u ∧ u.core = s.core.under u.core) := by
  have hword := Core.wordOk_of_mayWrite hm
  obtain ⟨u, hu, hc⟩ := State.run_service (t := t) (eff := fun _ => Core.slip v.toNat) hword hserv (by
    rw [Core.writeCodes_slip hm, decide_eq_false (Nat.not_lt.mpr hv)]
    rfl)
  refine ⟨fun hf hlen h8 => ?_, fun hf => ?_⟩
  · obtain ⟨lock, hdict, hlinks⟩ := Core.slip_shifts hf v.toNat
    have hlinks' := (Core.of_under hc Core.links).trans hlinks
    exact ⟨u, hu, (Core.of_under hc Core.dict).trans hdict,
      congrArg Link.slips (Core.link_of_modAt hlinks' (hlen ▸ h8)), fun m hm => Core.link_of_modAt_ne hlinks' hm⟩
  · rw [Core.slip_none hf] at hc
    exact ⟨u, hu, hc⟩

theorem exec_sleepCommand_sleeps {v : Byte} (hm : s.core.mayWrite o 0x3122 1 9) :
    ∃ u, exec (.sleepCommand t o v) s = .next u ∧ u.core.dict = s.core.dict ∧
      (s.core.segOn s.core.testSeg = false → u.core.links = s.core.links) ∧
      (s.core.segOn s.core.testSeg = true →
        u.core.links = modAt s.core.links s.core.testSeg (Link.slept s.core.clk.tHeld v.toNat)) := by
  have hword := Core.wordOk_of_mayWrite hm
  obtain ⟨u, hu, hc⟩ := State.run_service (t := t) (eff := fun _ => Core.linkSleep (v.toNat % 4)) hword hserv
    (Core.writeCodes_sleep hm _ _)
  cases hon : s.core.segOn s.core.testSeg with
  | true =>
    rw [Core.linkSleep_sleeps hon] at hc
    exact ⟨u, hu, Core.of_under hc Core.dict, fun h => absurd h.symm Bool.false_ne_true,
      fun _ => Core.of_under hc Core.links⟩
  | false =>
    rw [Core.linkSleep_none hon] at hc
    exact ⟨u, hu, Core.of_under hc Core.dict, fun _ => Core.of_under hc Core.links,
      fun h => absurd h Bool.false_ne_true⟩

end

/-- Outside SERVICE each of its commands is refused for the mode. -/
theorem exec_service_refused (t : Nat) (o : Orig) (v : Byte) (s : State) (hs : s.core.mode ≠ .service) (hp : o ≠ .pdo) :
    (s.core.mayWrite o 0x3120 5 9 → ∃ u w, exec (.linkTestStart t o) s = .next u ∧ u.core = s.core.under u.core ∧
      s.puts u [.answer o 0x3120 5 0x08000021] ∧ exec (.linkTestStop t o) s = .next w ∧
      w.core = s.core.under w.core ∧ s.puts w [.answer o 0x3120 5 0x08000021]) ∧
    (s.core.mayWrite o 0x3121 2 9 → ∃ u, exec (.bitSlip t o v) s = .next u ∧ u.core = s.core.under u.core ∧
      s.puts u [.answer o 0x3121 2 0x08000021]) ∧
    (s.core.mayWrite o 0x3122 1 9 → ∃ u, exec (.sleepCommand t o v) s = .next u ∧ u.core = s.core.under u.core ∧
      s.puts u [.answer o 0x3122 1 0x08000021]) := by
  refine ⟨fun hm => ?_, fun hm => ?_, fun hm => ?_⟩
  · obtain ⟨u, hu, huc, huo⟩ := State.run_service_refused (t := t) (eff := fun now => Core.testCommand now 1) (b := false)
      hp hs (Core.writeCodes_test hm (v := 1) (by decide) (by decide) _)
    obtain ⟨w, hw, hwc, hwo⟩ := State.run_service_refused (t := t) (eff := fun now => Core.testCommand now 2) (b := false)
      hp hs (Core.writeCodes_test hm (v := 2) (by decide) (by decide) _)
    exact ⟨u, w, hu, huc, huo, hw, hwc, hwo⟩
  · exact State.run_service_refused (eff := fun _ => Core.slip v.toNat) hp hs (Core.writeCodes_slip hm v _)
  · exact State.run_service_refused (eff := fun _ => Core.linkSleep (v.toNat % 4)) (b := false) hp hs
      (Core.writeCodes_sleep hm _ _)

/-! ### The clauses on the segment links -/

/-- Settles O52: each command makes one change of one link, by its link's state, and logs and counts it; what comes after
the change leaves the links. -/
theorem segmentLinks : Obligations.SegmentLinks := by
  unfold Obligations.SegmentLinks
  refine ⟨?_, fun t h v b n l s => ⟨fun hused hf => ?_, exec_eyeScan_unused t h v b n l s⟩, ?_, ?_, ?_, ?_,
    exec_linkRetrain_retrains, exec_retrain_ends, exec_bcCommandLost_noRow, exec_statusBlock_acknowledges, ?_,
    fun t o v s hm hserv hv => exec_bitSlip_slips hserv hm hv,
    fun t o v s hm hserv => exec_sleepCommand_sleeps hserv hm, exec_service_refused⟩
  · intro t w r n ls s hon hst ht
    exact ⟨exec_linkBringUp_keeps t hon hst ht, fun hk hf => exec_linkBringUp_takes t hon hst ht hk hf,
      fun hk hf _ => exec_linkBringUp_faults t hon hst ht hk hf⟩
  · obtain ⟨u, hu, hlink, hkeeps, hmargins, herrors⟩ := exec_eyeScan_scans t h v b n l s hused hf
    refine ⟨u, hu, hkeeps, hmargins, fun hlt => ?_, ?_, fun hfail hfails hbip => ?_, fun hbad h9 ⟨f, hfails⟩ => ?_⟩
    · exact herrors.trans (Core.obj_bumpBy_self (by rw [objBits_bip]; exact hlt))
    · rw [hlink]
      simp [Link.scanned, Link.bipCounted, Core.badScan]
    · rw [hlink]
      exact Link.scanned_failed_first _ hfail hfails hbip
    · have hb : s.core.badScan h v = true := by rw [Core.badScan, decide_eq_true hbad, Bool.true_or]
      rw [hlink, hb]
      exact Link.scanned_failed_again (h9.symm ▸ l.isLt) hfails
  · intro t p k n l s hst hflag hk h9 hret hmap hsp _
    exact exec_laneSpare_replaces hst hret hk h9 hflag hmap hsp
  · intro t k n l s hst hk h9 hret _
    exact ⟨fun hmap hsp => ⟨exec_laneSpare_narrows hst hret hk h9 hmap hsp,
      exec_laneSpare_faults hst hret hk h9 hmap hsp⟩, exec_laneSpare_spare hst hret hk h9⟩
  · intro t p k n l o s hm h8 hst hret hmap hsp _
    exact exec_laneSpare_asked hst hret hm h8 hmap hsp
  · intro t k n l o s hm hp
    exact ⟨fun h8 => exec_laneSpare_refused hm hp (s.core.spareCodes_lane8 n h8),
      fun h8 h => exec_laneSpare_refused hm hp (Core.spareCodes_unfit h8 h)⟩
  · intro t o s hm hserv
    exact ⟨exec_linkTestStart_starts hserv hm, fun _ _ => exec_linkTestStop_stops hserv hm,
      exec_linkTestStop_none hserv hm⟩

end Sys2Proof.Machine
end

section
namespace Sys2Proof.Machine

/-! ### The DRAM's contents at reset -/

/-- Settles O4: at reset nothing is listed. -/
theorem dramFormAtReset : Obligations.DramFormAtReset := Memory.wf_nil

end Sys2Proof.Machine
end

section
namespace Sys2Proof.Machine

/-! ### An event counted, active and in the history (15 R445 to R447) -/

/-- An event's way to EVR counts what EVR does not keep, and the entries; how many events were issued stands. -/
theorem Core.toEvr_issued (now code dc : Nat) (data : List Byte) (c : Core) :
    (c.toEvr now code dc data).obj 0x3200 1 = c.obj 0x3200 1 := by
  unfold Core.toEvr
  split
  · rfl
  · split
    · dsimp only
      rw [Core.obj, Core.issue_dict (by decide)]
      exact c.obj_keep _ _ _ _ _ (by decide) (by decide) (by decide)
    · exact c.obj_bumpBy_keep _ _ _ _ _ (by decide) (by decide) (by decide)

/-- Of the event log an event's way to EVR changes at most how many events were not kept. -/
theorem Core.toEvr_ev {α : Type} (f : Ev → α) (hf : ∀ v n, f { v with notKept := n } = f v) (now code dc : Nat)
    (data : List Byte) (c : Core) : f (c.toEvr now code dc data).ev = f c.ev := by
  unfold Core.toEvr
  split
  · rfl
  · split
    · rw [Core.issue_ev, Core.put_ev]
    · exact (hf _ _).trans (congrArg f (c.bump_ev 0x3200 7))

/-- An event changes the active events, the error history and how many events were not kept; the rest of the event log
stands. -/
theorem Core.eventRaw_ev {α : Type} (f : Ev → α)
    (hf : ∀ v a h n, f { v with active := a, hist := h, notKept := n } = f v)
    (now code dc seg unit : Nat) (data : List Byte) (c : Core) : f (c.eventRaw now code dc seg unit data).ev = f c.ev := by
  have hw : ∀ d : Core, f (d.toEvr now code dc data).ev = f d.ev := Core.toEvr_ev f (fun v n => hf v _ _ n) _ _ _ _
  have hb : f (c.bump 0x3200 1).ev = f c.ev := congrArg f (c.bump_ev _ _)
  unfold Core.eventRaw
  split
  · rfl
  · dsimp only
    split
    · rw [Core.emergency_ev]
      exact (hf _ _ _ _).trans ((hw _).trans ((hf _ _ _ _).trans hb))
    · exact (hw _).trans hb

/-- Emergency messages are counted on their own. -/
theorem Core.emergency_issued (now code cls seg line : Nat) (c : Core) :
    (c.emergency now code cls seg line).obj 0x3200 1 = c.obj 0x3200 1 := by
  have hb : ∀ (d : Core) (s : Nat), s = 3 ∨ s = 4 → (d.bump 0x3200 s).obj 0x3200 1 = d.obj 0x3200 1 := by
    rintro d s (rfl | rfl) <;> exact d.obj_bumpBy_keep _ _ _ _ _ (by decide) (by decide) (by decide)
  unfold Core.emergency
  dsimp only
  split <;> split
  · exact hb _ _ (.inr rfl)
  · exact hb (c.emit _) _ (.inl rfl)
  · exact hb _ _ (.inr rfl)
  · exact hb (c.emit _) _ (.inl rfl)

/-- Outside COMPLINE every event is counted as issued. -/
theorem Core.eventRaw_issued {c : Core} (hm : c.mode ≠ .compline) (now code dc seg unit : Nat) (data : List Byte) :
    (c.eventRaw now code dc seg unit data).obj 0x3200 1 = (c.bump 0x3200 1).obj 0x3200 1 := by
  unfold Core.eventRaw
  rw [if_neg hm]
  dsimp only
  split
  · rw [Core.emergency_issued, Core.mapEv_obj, Core.toEvr_issued, Core.mapEv_obj]
  · rw [Core.toEvr_issued]

/-- An event of class 2 or 3 heads the error history. -/
theorem Core.eventRaw_hist {c : Core} {code : Nat} (hm : c.mode ≠ .compline) (hc : 2 ≤ evClass code)
    (now dc seg unit : Nat) (data : List Byte) : (c.eventRaw now code dc seg unit data).ev.hist =
      ((code + seg * 2 ^ 16 + evClass code * 2 ^ 24) :: c.ev.hist).take 16 := by
  unfold Core.eventRaw
  rw [if_neg hm]
  dsimp only
  rw [if_pos hc, if_pos hc, Core.emergency_ev, Core.mapEv_ev]
  dsimp only
  rw [Core.toEvr_ev Ev.hist fun _ _ => rfl, Core.mapEv_ev, Core.bump_ev]

/-- An event of class 0 or 1 is neither an active event nor in the error history. -/
theorem Core.eventRaw_minor {c : Core} {code : Nat} (hc : evClass code < 2) (now dc seg unit : Nat) (data : List Byte) :
    (c.eventRaw now code dc seg unit data).ev.active = c.ev.active ∧
      (c.eventRaw now code dc seg unit data).ev.hist = c.ev.hist := by
  unfold Core.eventRaw
  split
  · exact ⟨rfl, rfl⟩
  · dsimp only
    rw [if_neg (Nat.not_le.mpr hc), if_neg (Nat.not_le.mpr hc), Core.toEvr_active, Core.toEvr_ev Ev.hist fun _ _ => rfl,
      Core.bump_ev]
    exact ⟨rfl, rfl⟩

/-- An event of the specification that is no condition active already is issued. -/
theorem Core.eventIssue_issues {c : Core} {code : Nat} {data : List Byte} (hf : c.pw.fwRuns = true)
    (hc : evCodes.contains code = true) (h : evCondition code = false ∨ c.active code (evUnit code data) = false)
    (now seg : Nat) : c.eventIssue now code seg data =
      c.eventRaw now code (c.stamp now) seg (evUnit code data) (slice data 0 14) := by
  have h' : (evCondition code && c.active code (evUnit code data)) = false := by
    rcases h with h | h <;> simp [h]
  simp only [Core.eventIssue, hf, hc, h', Bool.not_true, Bool.or_self, Bool.false_eq_true, if_false]

/-- A condition that is active already is not issued again. -/
theorem Core.eventIssue_active {c : Core} {code : Nat} {data : List Byte} (hc : evCondition code = true)
    (ha : c.active code (evUnit code data) = true) (now seg : Nat) : c.eventIssue now code seg data = c := by
  simp only [Core.eventIssue, hc, ha, Bool.and_self, Bool.or_true, if_true]

/-! ### The heartbeat (15 R456) -/

/-- Firmware that is not healthy shows on every pad that stands for it. -/
theorem Core.pads_of_unhealthy {c : Core} (h : c.healthy = false) :
    c.liveOn = false ∧ c.inspectValid = false ∧ c.faultN = true := by
  simp [Core.liveOn, Core.inspectValid, Core.faultN, h]

theorem Core.heartbeatFails_healthy {c : Core} (h : c.healthy = true) (now : Nat) : c.heartbeatFails now =
    (c.mapEv (fun v => { v with hbFailed := some now })).mapNv (fun n => { n with hbRecord := some 0 }) := by
  simp [Core.heartbeatFails, h]

/-! ### A reset (16 R465) -/

/-- A key that is not listed reads as its default. -/
theorem sget_unlisted {α : Type} (d : Nat → α) {l : List (Nat × α)} {k : Nat} (h : ∀ p ∈ l, p.1 ≠ k) :
    sget d l k = d k := by
  induction l with
  | nil => rfl
  | cons p l ih =>
    rw [sget, if_neg (Ne.symm (h p (List.mem_cons_self ..)))]
    exact ih fun q hq => h q (List.mem_cons_of_mem _ hq)

/-- `d` is the module after a reset that leaves `code` as its cause: in BOOT with its first owners, no job, no transition
and no firmware running, and what was put out already. -/
structure Core.IsReset (c : Core) (code : Nat) (d : Core) : Prop where
  mode : d.mode = .boot
  trans : d.trans = none
  job : d.job = {}
  fwRuns : d.pw.fwRuns = false
  heldReset : d.pw.heldReset = false
  cause : d.obj 0x3310 6 = code
  owners : d.owners = [.press, .press, .press, .press, .host, .host, .host, .host, .host, .host]
  out : d.out = c.out
  dflt : ∀ i n, n < 256 → i ≠ 0x2A01 → (i, n) ≠ (0x3310, 6) → (i, n) ≠ (0x3400, 1) → d.obj i n = dfltOf (key i n)

theorem Core.afterReset_isReset (start code : Nat) (straps : BitVec 5) (c : Core) :
    c.IsReset code (c.afterReset start code straps) where
  mode := rfl
  trans := rfl
  job := rfl
  fwRuns := rfl
  heldReset := rfl
  cause := (Core.obj_keep _ _ _ _ _ _ (by decide) (by decide) (by decide)).trans (Core.obj_put_self _ _ _ _)
  owners := rfl
  out := rfl
  dflt i n hn hi h1 h2 := by
    refine (Core.obj_keep _ _ _ _ _ _ (by decide) hn h2).trans ((Core.obj_keep _ _ _ _ _ _ (by decide) hn h1).trans ?_)
    refine sget_unlisted dfltOf fun p hp he => ?_
    have hk : p.1 = key 0x2A01 0 := by simpa using (List.mem_filter.mp hp).2
    exact hi (key_inj (by decide) hn (hk.symm.trans he)).1.symm

theorem Core.doReset_isReset (now : Nat) (k : ResetCause) (straps : BitVec 5) (c : Core) :
    c.IsReset (resetCode k) (c.doReset now k straps) := by
  refine Core.when_of (P := fun d => c.IsReset (resetCode k) (d.afterReset (resetEnd now k) (resetCode k) straps)) _ _ c
    (c.afterReset_isReset _ _ _) ?_
  have h := Core.afterReset_isReset (resetEnd now k) (resetCode k) straps (c.slotBad c.pw.running)
  exact { h with out := h.out }

/-- Flash stands, but for a TRIAL slot that its heartbeat failed in. -/
theorem Core.doReset_nv {k : ResetCause} (hk : k ≠ .heartbeat) (now : Nat) (straps : BitVec 5) (c : Core) :
    (c.doReset now k straps).nv = c.nv := by
  cases k with
  | heartbeat => exact absurd rfl hk
  | _ => rfl

/-- The straps show in 3400h.01. -/
theorem Core.doReset_straps (now : Nat) (k : ResetCause) (straps : BitVec 5) (c : Core) :
    (c.doReset now k straps).obj 0x3400 1 = 88 + straps.toNat % 8 := Core.obj_put_self _ _ _ _

theorem Core.ownReset_isReset (now : Nat) (k : ResetCause) (c : Core) : c.IsReset (resetCode k) (c.ownReset now k) :=
  have h := c.fresh.2.doReset_isReset now k (BitVec.ofNat 5 c.fresh.1)
  { h with out := h.out }

theorem Core.ownReset_nv {k : ResetCause} (hk : k ≠ .heartbeat) (now : Nat) (c : Core) : (c.ownReset now k).nv = c.nv :=
  Core.doReset_nv hk now _ c.fresh.2

/-! ### The reset that follows a heartbeat failure (15 R456) -/

theorem Core.heartbeatReset_due {c : Core} {a now : Nat} (ha : c.ev.hbFailed = some a) (h : a + 10000000 ≤ now)
    (hm : c.mode ≠ .compline) : c.heartbeatReset now = c.ownReset now .heartbeat := by
  simp [Core.heartbeatReset, ha, h, hm]

theorem Core.heartbeatReset_early {c : Core} {a now : Nat} (ha : c.ev.hbFailed = some a)
    (h : now < a + 10000000 ∨ c.mode = .compline) : c.heartbeatReset now = c := by
  rcases h with h | h
  · simp [Core.heartbeatReset, ha, Nat.not_le.mpr h]
  · simp [Core.heartbeatReset, ha, h]

/-- Settles O53: an event that is issued is logged once, by its class; a missed feed is recorded, and 10 ms later resets. -/
theorem eventsAndHeartbeat : Obligations.EventsAndHeartbeat := by
  unfold Obligations.EventsAndHeartbeat
  refine ⟨?_, ?_, ?_, ?_⟩
  · intro t code seg d s hf hc hm h
    obtain ⟨u, hu, -, hcore, -⟩ := State.run_ends t (fun now c => c.eventIssue now code (seg % 256) d) s
    rw [Core.eventIssue_issues hf hc h] at hcore
    refine ⟨u, hu, ?_, fun h2 => ⟨?_, ?_⟩, fun h2 => ?_⟩
    · exact (Core.of_under hcore (·.obj 0x3200 1)).trans (Core.eventRaw_issued hm _ _ _ _ _ _)
    · exact (Core.of_under hcore (·.ev.active)).trans (Core.eventRaw_active _ _ _ _ _ hm h2)
    · rw [Core.of_under hcore (·.ev.hist), Core.eventRaw_hist hm h2]
      rfl
    · rw [Core.of_under hcore Core.ev]
      exact Core.eventRaw_minor h2 _ _ _ _ _
  · intro t code seg d s hc ha
    obtain ⟨u, hu, -, hcore, -⟩ := State.run_ends t (fun now c => c.eventIssue now code (seg % 256) d) s
    rw [Core.eventIssue_active hc ha] at hcore
    exact ⟨u, hu, hcore⟩
  · intro t s hh
    obtain ⟨u, hu, hmem, hcore, -⟩ := State.run_ends t (fun now c => c.heartbeatFails now) s
    rw [Core.heartbeatFails_healthy hh] at hcore
    have hev : u.core.ev.hbFailed = some (s.at_ t) := Core.of_under hcore (·.ev.hbFailed)
    obtain ⟨hlive, hvalid, hfault⟩ := Core.pads_of_unhealthy (c := u.core) (by simp [Core.healthy, hev])
    exact ⟨u, hu, hev, hlive, hvalid, hfault, Core.of_under hcore Core.mode, Core.of_under hcore Core.job,
      Core.of_under hcore Core.pipe, Core.of_under hcore Core.dict, hmem⟩
  · intro t a s ha
    obtain ⟨u, hu, -, hcore, -⟩ := State.run_ends t (fun now c => c.heartbeatReset now) s
    refine ⟨fun hdue hm => ?_, fun h => ?_⟩
    · rw [Core.heartbeatReset_due ha hdue hm] at hcore
      have hr := s.core.ownReset_isReset (s.at_ t) .heartbeat
      exact ⟨u, hu, (Core.of_under hcore Core.mode).trans hr.mode, (Core.of_under hcore (·.obj 0x3310 6)).trans hr.cause,
        congrArg Job.running ((Core.of_under hcore Core.job).trans hr.job),
        (Core.of_under hcore (·.pw.fwRuns)).trans hr.fwRuns⟩
    · rw [Core.heartbeatReset_early ha h] at hcore
      exact ⟨u, hu, hcore⟩

end Sys2Proof.Machine
end

section
namespace Sys2Proof.Machine

/-! ### Samples (16 R486, R487, 15 R457) -/

theorem Core.sensing_notCompline {c : Core} {k : Nat} (h : c.sensing k = true) : c.mode ≠ .compline := by
  intro hm
  simp [Core.sensing, hm] at h

/-- While its sensor is read, a sample puts its reading in force; the band in force stands. -/
theorem Core.tempSample_reads {c : Core} {k : Nat} (h : c.sensing k = true) (hk : k < 24) (now : Nat) (x : Int) :
    (c.tempSample now k x).obj 0x3330 (k + 1) = ofSigned 16 (clampInt (-32768) 32767 x) ∧
      (c.tempSample now k x).pw.band = c.pw.band := by
  by_cases h16 : k < 16
  · obtain ⟨d, a, hd, e⟩ := Core.tempSample_logs h h16 now x
    rw [e]
    exact ⟨(hd.obj _ _ (by omega) (by decide)).trans (Core.obj_put_self _ _ _ _), hd.same (·.pw.band)⟩
  · simp only [Core.tempSample, h, Bool.not_true, Bool.false_eq_true, if_false, h16]
    exact ⟨Core.obj_put_self _ _ _ _, rfl⟩

/-- A sensor die's condition is active exactly above 60.00 °C (16 R487). -/
theorem Core.tempSample_condition {c : Core} {k : Nat} (h : c.sensing k = true) (hk : k < 16) (now : Nat) (x : Int) :
    (c.tempSample now k x).active 0x4210 k = decide (6000 < x) := by
  have hclamp : 6000 < clampInt (-32768) 32767 x ↔ 6000 < x := by unfold clampInt; omega
  simp only [Core.tempSample, h, Bool.not_true, Bool.false_eq_true, if_false, hk, if_true, hclamp]
  split
  · next hx =>
    rw [decide_eq_true hx]
    exact Core.condOn_active (c := c.put _ _ _) _ _ _ _ (Core.sensing_notCompline h) (by decide)
  · next hx =>
    rw [decide_eq_false hx, Core.active, Core.mapPw_ev, Core.condOff_active, List.contains_eq_mem]
    simp

/-! ### Bands (16 R487, R488) -/

/-- A band's tables copied on-die leave what looks at neither objects nor on-die words. -/
theorem TinkerBlind.darkCopy {α : Type} {g : Core → α} (hg : TinkerBlind g) (b : Nat) (c : Core) :
    g (c.darkCopy b) = g c := by
  unfold Core.darkCopy
  dsimp only
  split
  · rfl
  · exact (hg.wordsWritten _ _).trans (hg.words _ c)

/-- The words that a copy writes whole show in the poison table's count and in the armed injection alone. -/
theorem Core.keeps_wordsWritten (p : Nat → Bool) (c : Core) :
    c.keeps (c.wordsWritten p) [(0x2F00, 4), (0x2F30, 4)] := by
  unfold Core.wordsWritten
  extract_lets d
  have hd : c.keeps d [(0x2F00, 4), (0x2F30, 4)] :=
    Core.when_of (P := fun d => c.keeps d _) _ _ c (c.keeps_refl _)
      (Core.keeps_put_mem _ (Core.keeps_of_dict rfl) (by decide) (by decide))
  split
  · exact Core.keeps_put_mem (d := d.mapSram _) _ hd (by decide) (by decide)
  · exact hd

theorem Core.keeps_darkCopy (b : Nat) (c : Core) : c.keeps (c.darkCopy b) [(0x2F00, 4), (0x2F30, 4)] := by
  unfold Core.darkCopy
  dsimp only
  split
  · exact c.keeps_refl _
  · exact Core.keeps_wordsWritten _ (c.mapSram _)

theorem Core.darkCopy_pw (b : Nat) (c : Core) : (c.darkCopy b).pw = c.pw :=
  TinkerBlind.darkCopy (g := Core.pw) ⟨fun _ _ _ _ => rfl, fun _ _ => rfl, fun _ _ => rfl, fun _ _ => rfl,
    fun h => h.same Core.pw⟩ b c

theorem Core.walksRestart_leaves (c : Core) : c.walksRestart.pw = c.pw ∧ c.walksRestart.dict = c.dict :=
  ⟨foldl_leaves Core.pw (f := fun c q => c.walkRestart q) (fun _ _ => rfl) (List.range 16) c,
    foldl_leaves Core.dict (f := fun c q => c.walkRestart q) (fun _ _ => rfl) (List.range 16) c⟩

/-- A band set is in force at once, and none waits; what was decided stands. -/
theorem Core.bandSet_sets (now b : Nat) (c : Core) :
    (c.bandSet now b).pw = { c.pw with band := some b, bandPend := none } ∧
      (c.bandSet now b).obj 0x3330 0x1C = c.obj 0x3330 0x1C := by
  unfold Core.bandSet
  extract_lets old d
  have hd : d.pw = { c.pw with band := some b, bandPend := none } ∧ d.obj 0x3330 0x1C = c.obj 0x3330 0x1C :=
    ⟨congrArg (fun p : Power => { p with band := some b, bandPend := none }) (c.darkCopy_pw b),
      c.keeps_darkCopy b _ _ (by decide) (by decide)⟩
  split
  · exact hd
  · have hlog := Core.Logged.event (c := (((d.put 0x2E30 1 (if b = 4 then 1 else if b = 3 then 2 else 4)).put 0x3330 0x1B b).bump
      0x3330 0x1E).when (!d.job.running) Core.walksRestart) now 0x0120 0xFF (leBytes 1 b ++ leBytes 1 old)
    refine ⟨(hlog.same Core.pw).trans ?_, (hlog.obj _ _ (by decide) (by decide)).trans ?_⟩
    · refine Core.when_of (P := fun e => e.pw = _) _ _ _ ?_ ((Core.walksRestart_leaves _).1.trans ?_) <;>
        rw [Core.bump_eq] <;> exact hd.1
    · have hobj : (((d.put 0x2E30 1 (if b = 4 then 1 else if b = 3 then 2 else 4)).put 0x3330 0x1B b).bump 0x3330 0x1E).obj
          0x3330 0x1C = c.obj 0x3330 0x1C := by
        rw [Core.bump_eq, Core.obj_keep _ _ _ _ _ _ (by decide) (by decide) (by decide),
          Core.obj_keep _ _ _ _ _ _ (by decide) (by decide) (by decide),
          Core.obj_keep _ _ _ _ _ _ (by decide) (by decide) (by decide), hd.2]
      exact Core.when_of (P := fun e => e.obj 0x3330 0x1C = _) _ _ _ hobj
        ((congrArg (fun l => sget dfltOf l (key 0x3330 0x1C)) (Core.walksRestart_leaves _).2).trans hobj)

/-- A candidate that has stood long enough is decided (16 R487). -/
theorem Core.bandDecided_due {c : Core} {a now : Nat} (ha : c.pw.candAt = some a) (hs : c.sensing 0 = true)
    (h1 : a + 200000000 ≤ now) (h2 : c.pw.lastDec + 200000000 ≤ now) (hne : c.candidate ≠ c.pw.decided) :
    c.bandDecided now = c.bandDecide now c.candidate := by
  simp [Core.bandDecided, ha, hs, h1, h2, hne]

/-- A band that is decided is in force at once, or waits where commits wait (16 R487, R488). -/
theorem Core.bandDecide_decides (now b : Nat) (c : Core) :
    (c.bandDecide now b).pw.decided = b ∧ (c.bandDecide now b).pw.lastDec = now ∧
      (c.bandDecide now b).obj 0x3330 0x1C = b ∧
      (c.commitWaits = true → (c.bandDecide now b).pw.bandPend = some (b, now) ∧
        (c.bandDecide now b).pw.band = c.pw.band) ∧
      (c.commitWaits = false → (c.bandDecide now b).pw.band = some b) := by
  unfold Core.bandDecide
  extract_lets d
  have hw : d.commitWaits = c.commitWaits := rfl
  have hobj : d.obj 0x3330 0x1C = b := Core.obj_put_self _ _ _ _
  rw [hw]
  split
  · next h =>
    rw [h]
    simp only [Core.mapPw_pw, Core.mapPw_obj, Core.darkCopy_pw]
    exact ⟨rfl, rfl, (d.keeps_darkCopy b _ _ (by decide) (by decide)).trans hobj, fun _ => ⟨trivial, rfl⟩, nofun⟩
  · next h =>
    obtain ⟨hpw, hkept⟩ := d.bandSet_sets now b
    rw [hpw]
    exact ⟨rfl, rfl, hkept.trans hobj, fun hc => absurd hc h, fun _ => rfl⟩

/-! ### Throttling (15 R457) -/

theorem Core.Logged.lossReports (now : Nat) (c : Core) : c.Logged (c.lossReports now) := by
  unfold Core.lossReports
  extract_lets a ready b
  have ha : c.Logged a := by
    unfold a
    split
    · split
      · exact (mapEv _).trans (eventRaw _ _ _ _ _ _)
      · exact refl c
    · exact refl c
  have hb : c.Logged b :=
    List.foldlRecOn (motive := c.Logged) ready _ ha fun d hd p _ => hd.trans ((mapEv _).trans (event _ _ _ _))
  split
  · exact hb.trans ((mapEv _).trans (event _ _ _ _))
  · exact hb

/-- A throttle level shows in its object. -/
theorem Core.throttleSet_throttle (now l : Nat) (c : Core) : (c.throttleSet now l).throttle = l := by
  unfold Core.throttleSet
  extract_lets down d e
  have he : d.Logged e := by
    unfold e
    split
    · exact .condOff _ _
    · exact .condOn _ _ _ _ _
  have hd : d.obj 0x3330 0x1D = l := Core.obj_put_self _ _ _ _
  exact ((he.trans (.when (.lossReports now e))).obj _ _ (by decide) (by decide)).trans hd

/-- A level above the last is the condition THROTTLED, and its moment is kept. -/
theorem Core.throttleSet_up {c : Core} {l : Nat} (hm : c.mode ≠ .compline) (hl : c.throttle < l) (now : Nat) :
    (c.throttleSet now l).ev.hotAt = now ∧ (c.throttleSet now l).active 0x4220 0 = true := by
  have h0 : l ≠ 0 := by omega
  have hdown : ¬ l < c.throttle := by omega
  unfold Core.throttleSet
  extract_lets down d e
  simp only [down, e, h0, hdown, if_false, decide_false, Core.when_false]
  refine ⟨?_, Core.condOn_active _ _ _ _ hm (by decide)⟩
  unfold Core.condOn
  split
  · rfl
  · exact Core.eventRaw_ev Ev.hotAt (fun _ _ _ _ => rfl) _ _ _ _ _ _ d

/-! ### Margins (16 R490) -/

/-- The object of a block's margin. -/
def marginObj (b : Nat) : Nat × Nat := if b < 6 then (0x3350, b + 1) else (0x2A86, b - 5)

/-- The lowest margin of a block is kept. -/
theorem Core.replica_keeps {c : Core} {b : Nat} (hon : c.blocksOn = true) (hb : b < 14)
    (hj : 6 ≤ b → c.job.running = true)
    (m : Nat) : (c.replica b m).obj (marginObj b).1 (marginObj b).2 = (if c.pw.replica.contains b then
        min (min m 65535) (c.obj (marginObj b).1 (marginObj b).2) else min m 65535) ∧
      c.keeps (c.replica b m) [marginObj b] := by
  have hoff : (!c.blocksOn || (decide (6 ≤ b) && !c.job.running)) = false := by
    by_cases h6 : 6 ≤ b
    · simp [hon, hj h6]
    · simp [hon, h6]
  have hs : (marginObj b).2 < 256 := by unfold marginObj; split <;> simp only <;> omega
  unfold Core.replica
  dsimp only
  rw [hoff, if_neg Bool.false_ne_true]
  exact ⟨Core.obj_put_self _ _ _ _, Core.keeps_put_mem _ (c.keeps_refl _) hs (List.mem_singleton.mpr rfl)⟩

/-- Settles O54: a sample is put in force and moves its condition; a decided band, a throttle step and a margin are each
one write. -/
theorem thermalControl : Obligations.ThermalControl := by
  unfold Obligations.ThermalControl
  refine ⟨?_, ?_, ?_, ?_⟩
  · intro t n x s h
    obtain ⟨u, hu, -, hc, -⟩ := State.run_ends t (fun now c => c.tempSample now n.val x) s
    obtain ⟨hobj, hband⟩ := Core.tempSample_reads h n.isLt (s.at_ t) x
    have hcond : n.val < 16 → u.core.active 0x4210 n.val = decide (6000 < x) := fun hn =>
      (Core.of_under hc (·.active 0x4210 n.val)).trans (Core.tempSample_condition h hn _ _)
    refine ⟨u, hu, (Core.of_under hc (·.obj 0x3330 (n.val + 1))).trans hobj, fun hn hx => ?_, fun hn hx => ?_,
      (Core.of_under hc Core.mode).trans (Core.of_heldBy (w := ⟨true, true, true⟩) Core.mode (by simp)),
      (Core.of_under hc (·.pw.band)).trans hband⟩
    · rw [hcond hn, decide_eq_true hx]
    · rw [hcond hn, decide_eq_false (Int.not_lt.mpr hx)]
  · intro t a s ha hs h1 h2 hne
    obtain ⟨u, hu, -, hc, -⟩ := State.run_ends t (fun now c => c.bandDecided now) s
    rw [Core.bandDecided_due ha hs h1 h2 hne] at hc
    have h := s.core.bandDecide_decides (s.at_ t) s.core.candidate
    rw [← Core.of_under hc Core.pw, ← Core.of_under hc (·.obj 0x3330 0x1C)] at h
    exact ⟨u, hu, h⟩
  · intro t s hs
    obtain ⟨u, hu, -, hc, -⟩ := State.run_ends t (fun now c => c.throttleStep now) s
    refine ⟨fun hhot hl hr => ?_, fun a ha hcool hl _ h1 h2 => ?_⟩
    · have hstep : s.core.throttleStep (s.at_ t) = s.core.throttleSet (s.at_ t) (s.core.throttle + 1) := by
        simp [Core.throttleStep, hs, hhot, hl, hr]
      rw [hstep] at hc
      obtain ⟨hat, hact⟩ := Core.throttleSet_up (Core.sensing_notCompline hs) (Nat.lt_succ_self _) (s.at_ t)
      exact ⟨u, hu, (Core.of_under hc Core.throttle).trans (Core.throttleSet_throttle _ _ _),
        (Core.of_under hc (·.ev.hotAt)).trans hat, (Core.of_under hc (·.active 0x4220 0)).trans hact⟩
    · have hstep : s.core.throttleStep (s.at_ t) = s.core.throttleSet (s.at_ t) (s.core.throttle - 1) := by
        have hcool' : ¬ (10000 ≤ s.core.tj) := by omega
        simp [Core.throttleStep, hs, hcool', ha, hl, h1, h2]
      rw [hstep] at hc
      exact ⟨u, hu, (Core.of_under hc Core.throttle).trans (Core.throttleSet_throttle _ _ _)⟩
  · intro t m b s hon
    obtain ⟨u, hu, -, hc, -⟩ := State.run_ends t (fun _ c => c.replica b.val m) s
    have key : (6 ≤ b.val → s.core.job.running = true) →
        u.core.obj (marginObj b.val).1 (marginObj b.val).2 = (if s.core.pw.replica.contains b.val then
          min (min m 65535) (s.core.obj (marginObj b.val).1 (marginObj b.val).2) else min m 65535) ∧
        s.core.keeps u.core [marginObj b.val] := fun hj => by
      obtain ⟨hobj, hkeep⟩ := Core.replica_keeps hon b.isLt hj m
      exact ⟨(Core.of_under hc (·.obj (marginObj b.val).1 (marginObj b.val).2)).trans hobj, Core.keeps_under hkeep hc⟩
    refine ⟨fun hb => ⟨u, hu, ?_⟩, fun hb hj => ⟨u, hu, ?_⟩⟩
    · simpa [marginObj, hb] using key (fun h => absurd h (Nat.not_le.mpr hb))
    · simpa [marginObj, Nat.not_lt.mpr hb] using key fun _ => hj

end Sys2Proof.Machine
end

section
namespace Sys2Proof.Machine

/-! ### Objects with no effect on a domain, as commands (02 R51) -/

/-- Against a command of an object of no domain that its row lets write this value stand only its own reasons. -/
theorem Core.writeCodes_open {c : Core} {o : Orig} {i s n v : Nat} {own : List Nat} {r : ObjRow}
    (hr : rowOf i s = some r)
    (hi : 0x3200 ≤ i ∧ i ≤ 0x3340) (hd : domainOf i s = none) (hacc : r.acc = .wo) (hl : lengthOk r n = true)
    (hv : permits r.ty r.perm (leNat (leBytes n v)) = true) (hmap : c.isMapped i s = false) (hm : c.mode ≠ .compline) :
    c.writeCodes o i s (leBytes n v) own = own := by
  have habs : c.absent i = false := by simp [Core.absent, hi.1, hi.2]
  have h2 : (i == 0x2102) = false := by simp; omega
  rw [Core.writeCodes_either habs hr hd (by rw [hacc]; rfl) (.inr hmap) hm (by rw [length_leBytes]; exact hl), h2, hv]
  simp [reason]

/-! ### What the module's own time is read from (00 R13) -/

/-- What a timestamp is made of: clock synthesis, whether Distributed Clocks run, boot time zero and the rate. -/
def Core.clockShown (c : Core) : Clk × Bool × Nat × Nat := (c.clk, c.ec.dcRunning, c.pw.bootZero, c.obj 0x2D20 1)

theorem Core.clockShown_eq {c d : Core} (hg : (d.clk, d.ec.dcRunning, d.pw) = (c.clk, c.ec.dcRunning, c.pw))
    (ho : d.obj 0x2D20 1 = c.obj 0x2D20 1) : d.clockShown = c.clockShown := by
  simp only [Prod.mk.injEq] at hg
  obtain ⟨hk, he, hp⟩ := hg
  rw [Core.clockShown, hk, he, hp, ho, Core.clockShown]

theorem Core.stamp_of_clockShown {c d : Core} (h : d.clockShown = c.clockShown) (a : Nat) : d.stamp a = c.stamp a := by
  simp only [Core.clockShown, Prod.mk.injEq] at h
  obtain ⟨hk, he, hz, hr⟩ := h
  simp only [Core.stamp, Core.dcTime, Core.dcMoment, Core.dcEps, Core.objI, hk, he, hz, hr]

theorem clocks_blind : TinkerBlind fun c : Core => (c.clk, c.ec.dcRunning, c.pw) where
  put _ _ _ _ := rfl
  words _ _ := rfl
  engines _ _ := rfl
  pads _ _ := rfl
  logged h := by rw [h.same Core.clk, h.ecSame Ecat.dcRunning, h.same Core.pw]

theorem Core.sameLow_tkSync (now : Nat) (c : Core) : c.sameLow (c.tkSync now) :=
  (Core.Debugged.tkDue now c).low.trans (Core.sameLow_foldl (fun d n => d.sameLow_mapEng1 n _) _ _)

theorem Core.sameLow_tkHalt (now : Nat) (c : Core) : c.sameLow (c.tkHalt now) :=
  (c.sameLow_tkSync now).trans (Core.sameLow_of_dict rfl)

theorem Core.clockShown_tkHalt (now : Nat) (c : Core) : (c.tkHalt now).clockShown = c.clockShown :=
  Core.clockShown_eq ((clocks_blind.engines _ _).trans (clocks_blind.tkSync now c))
    (c.sameLow_tkHalt now _ _ (by decide) (by decide))

theorem Core.clockShown_outcome (a : OpenAlarm) (o : Outcome) (c : Core) :
    (c.outcome a o).clockShown = c.clockShown := by
  have hb : ∀ (k r n : Nat) (m : BitVec 16) (d : Core), (d.busSend a.ch k r n m).clockShown = d.clockShown :=
    fun k r n m d => Core.when_of (P := fun e : Core => e.clockShown = d.clockShown) _ _ (d.emit _) rfl rfl
  have ht : ∀ d : Core, (d.bump 0x2421 6).clockShown = d.clockShown := fun d =>
    Core.clockShown_eq (clocks_blind.bump _ _ d) (d.obj_bumpBy_keep _ _ _ _ _ (by decide) (by decide) (by decide))
  unfold Core.outcome
  cases o with
  | timeout => exact (ht _).trans (hb _ _ _ _ (c.mapEng _))
  | _ => exact hb _ _ _ _ (c.mapEng _)

/-- What a delivery counts is an object of its engine (09 R306). -/
theorem Core.deliverTo_rate (now : Nat) (w : BusWord) (c : Core) (n : Nat) :
    (c.deliverTo now w n).obj 0x2D20 1 = c.obj 0x2D20 1 := by
  unfold Core.deliverTo
  split
  · rfl
  · split
    · rw [Core.mapEng1_obj]
      exact c.sameLow_tickMark now n _ _ (by decide) (by decide)
    · rw [(Core.Logged.event _ _ _ _).obj _ _ (by decide) (by decide),
        Core.bump_eq, Core.obj_keep _ _ _ _ _ _ (by decide) (by decide) fun e => by simp only [Prod.mk.injEq] at e; omega]
      rfl

theorem Core.clockShown_deliver (now : Nat) (c : Core) : (c.deliver now).clockShown = c.clockShown := by
  refine Core.clockShown_eq (clocks_blind.deliver (fun _ _ => rfl) now c) ?_
  have hfind : ∀ p, (c.sramFind now p).obj 0x2D20 1 = c.obj 0x2D20 1 := fun p =>
    c.sameLow_sramFind now p _ _ (by decide) (by decide)
  unfold Core.deliver
  split
  · rfl
  · dsimp only
    split
    · exact hfind _
    · exact (foldl_leaves (fun d : Core => d.obj 0x2D20 1) (fun d n => d.deliverTo_rate now _ n) _ _).trans (hfind _)

theorem Core.clockShown_alarmsRetract (now : Nat) (c : Core) : (c.alarmsRetract now).clockShown = c.clockShown := by
  unfold Core.alarmsRetract
  dsimp only
  exact (foldl_leaves Core.clockShown (fun d _ => d.clockShown_deliver now) _ _).trans
    (foldl_leaves Core.clockShown (fun d a => d.clockShown_outcome a _) _ c)

/-! ### Hold-up (16 R474, R475) -/

theorem Core.flashRuns_notCompline {c : Core} (h : c.flashRuns = true) : c.mode ≠ .compline := by
  intro hm
  simp [Core.flashRuns, hm] at h

/-- The capacitor's values and whether COMPLINE is armed, as a measurement gives them; what follows logs a condition. -/
theorem Core.holdup_measures {c : Core} (h : c.flashRuns = true) (now cap esr v : Nat) :
    (c.holdup now cap esr v).obj 0x3300 5 = min cap (2 ^ 32 - 1) ∧ (c.holdup now cap esr v).obj 0x3300 6 = min esr 65535 ∧
      (c.holdup now cap esr v).obj 0x3300 4 = min v 65535 ∧
      (c.holdup now cap esr v).obj 0x3300 8 = b2n (c.nv.erased && decide (11500 ≤ v)) := by
  simp only [Core.holdup, h, Bool.not_true, Bool.false_eq_true, if_false]
  have hlog : ∀ (b : Bool) (d : Core), d.Logged (if b then d.condOn now 0x3120 0xFF 0 [] else d.condOff 0x3120 0) := by
    intro b d
    cases b
    · exact .condOff _ _
    · exact .condOn _ _ _ _ _
  refine ⟨?_, ?_, ?_, ?_⟩ <;> refine ((hlog _ _).obj _ _ (by decide) (by decide)).trans ?_ <;>
    simp (disch := decide) only [Core.obj_keep, Core.obj_put_self]
  rfl

/-- Too little energy is the condition HOLDUP_LOW. -/
theorem Core.holdup_low {c : Core} {cap : Nat} (h : c.flashRuns = true) (hlow : cap * 41625 < 66000000)
    (now esr v : Nat) : (c.holdup now cap esr v).active 0x3120 0 = true := by
  simp only [Core.holdup, h, Bool.not_true, Bool.false_eq_true, if_false, energyLow, decide_eq_true hlow, Bool.true_or,
    if_true]
  exact Core.condOn_active _ _ _ _ (Core.flashRuns_notCompline h) (by decide)

/-! ### A trip (16 R476, R477) -/

/-- The machine at a trip, its alarms retracted and its tinker engines stopped. -/
def Core.tripped (now : Nat) (c : Core) : Core := (c.alarmsRetract now).tkHalt now

theorem Core.trip_saves {c : Core} (hm : c.mode ≠ .compline) (hh : c.pw.heldReset = false) (hok : c.healthy = true)
    (harm : c.flag 0x3300 8 = true) (now : Nat) (p : Bool) (v : Nat) : c.trip now p v =
      ((c.tripped now).mapNv (fun n => { n with
        area := some ((c.tripped now).complineRec now p v), erased := false })).shed := by
  simp only [Core.trip, hm, hh, hok, harm, Bool.not_true, Bool.or_self, decide_false, Bool.false_eq_true, if_false]
  rfl

theorem Core.trip_resets {c : Core} (hm : c.mode ≠ .compline) (hh : c.pw.heldReset = false)
    (h : c.healthy = false ∨ c.flag 0x3300 8 = false) (now : Nat) (p : Bool) (v : Nat) :
    c.trip now p v = c.ownReset now .unarmedTrip := by
  have h' : (!c.healthy || !c.flag 0x3300 8) = true := by rcases h with h | h <;> simp [h]
  simp only [Core.trip, hm, hh, h', decide_false, Bool.or_self, Bool.false_eq_true, if_false, if_true]

theorem Core.healthy_compline {c : Core} (h : c.mode = .compline) : c.healthy = false := by simp [Core.healthy, h]

/-! ### The seal and what follows it (16 R477, R479) -/

theorem Core.complineSeal_seals {c : Core} {r : ComplineRec} (hm : c.mode = .compline) (ha : c.nv.area = some r)
    (hs : r.sealed = false) : c.complineSeal = c.mapNv (fun n => { n with
      area := some { r with sealed := true, bytes := r.bytes ++ sealBlock r.bytes } }) := by
  simp [Core.complineSeal, hm, Core.mapNv, ha, hs]

/-- A sealed record is sealed once. -/
theorem Core.complineSeal_again {c : Core} {r : ComplineRec} (ha : c.nv.area = some r)
    (hs : r.sealed = true) : c.complineSeal.nv = c.nv := by
  unfold Core.complineSeal
  split
  · rfl
  · rw [Core.mapNv_nv, ha, Option.map_some, if_pos hs, ← ha]

theorem Core.complineEnds_sealed {c : Core} {r : ComplineRec} (hm : c.mode = .compline) (ha : c.nv.area = some r)
    (hs : r.sealed = true) (now : Nat) (good : Bool) : c.complineEnds now good =
      if good then c.ownReset now .afterCompline
      else (c.ownReset now .powerOn).mapPw (fun p => { p with heldReset := true }) := by
  simp [Core.complineEnds, hm, ha, hs]

theorem Core.complineEnds_unsealed {c : Core} {r : ComplineRec} (ha : c.nv.area = some r) (hs : r.sealed = false)
    (now : Nat) (good : Bool) : c.complineEnds now good = c := by
  simp [Core.complineEnds, ha, hs]

/-! ### The journal (16 R482, R484) -/

theorem Core.activeRegion_le (c : Core) : c.activeRegion ≤ 1 := by
  unfold Core.activeRegion
  dsimp only
  split <;> decide

theorem Core.store_regions (i s v : Nat) (c : Core) :
    (c.store i s v).nv.regions = c.nv.regions ∧ (c.store i s v).pw.compact = c.pw.compact := by
  unfold Core.store
  dsimp only
  split
  · split <;> exact ⟨rfl, rfl⟩
  · exact ⟨rfl, rfl⟩

theorem Core.bumpKept_regions (i s : Nat) (c : Core) :
    (c.bumpKept i s).nv.regions = c.nv.regions ∧ (c.bumpKept i s).pw.compact = c.pw.compact := by
  unfold Core.bumpKept
  rw [Core.bump_eq]
  exact ⟨rfl, rfl⟩

/-- The two regions as a compaction leaves them. -/
def Core.regionsCompacted (c : Core) : List JRegion :=
  modAt (modAt c.nv.regions (1 - c.activeRegion) (fun r =>
    (c.region c.activeRegion).compacted c.pw.compactS r.erases)) c.activeRegion (fun r => { erases := r.erases + 1 })

theorem Core.compactDone_done (c : Core) :
    c.compactDone.nv.regions = c.regionsCompacted ∧ c.compactDone.pw.compact = 0 := by
  unfold Core.compactDone
  extract_lets a old d e most
  have he : e.nv.regions = c.regionsCompacted ∧ e.pw.compact = 0 := by
    obtain ⟨h1, h2⟩ := Core.bumpKept_regions 0x3320 7 (d.mapPw (fun p => { p with compact := 0 }))
    exact ⟨h1, h2⟩
  split
  · obtain ⟨h1, h2⟩ := Core.store_regions 0x3320 9 (most % 2 ^ 32) e
    exact ⟨h1.trans he.1, h2.trans he.2⟩
  · exact he

/-- Of two regions a compaction fills the other and erases the one it read. -/
theorem Core.regionsCompacted_getD {c : Core} (h : c.nv.regions.length = 2) :
    c.regionsCompacted.getD (1 - c.activeRegion) {} = (c.region c.activeRegion).compacted c.pw.compactS
        (c.region (1 - c.activeRegion)).erases ∧
      c.regionsCompacted.getD c.activeRegion {} = { erases := (c.region c.activeRegion).erases + 1 } := by
  obtain ⟨x, y, hxy⟩ : ∃ x y, c.nv.regions = [x, y] := List.length_eq_two.mp h
  have ha : c.activeRegion = 0 ∨ c.activeRegion = 1 := by have := c.activeRegion_le; omega
  rcases ha with ha | ha <;> simp [Core.regionsCompacted, Core.region, ha, hxy, modAt]

/-- The scrivener appends what is pending to the active region (16 R482). -/
theorem Core.flush_appends (c : Core) : c.flush.pw.pendJ = [] ∧ c.flush.dict = c.dict ∧
    c.flush.nv.regions = modAt c.nv.regions c.activeRegion (fun r => { r with entries := r.entries ++ c.pw.pendJ }) :=
  ⟨rfl, rfl, rfl⟩

/-! ### What stands against the two commands -/

theorem Core.writeCodes_complineAck {c : Core} (hm : c.mode ≠ .compline) (hmap : c.isMapped 0x3340 8 = false)
    (o : Orig) :
    c.writeCodes o 0x3340 8 (leBytes 1 1) [] = [] :=
  Core.writeCodes_open (r := ⟨0x3340, 0x3340, 8, 8, .u8, .wo, .val 0, false, .oneOf [1], 0, false⟩)
    (by decide) (by decide) (by decide) rfl (by decide) (by decide) hmap hm

theorem Core.writeCodes_compaction {c : Core} (hm : c.mode ≠ .compline) (hmap : c.isMapped 0x3320 6 = false)
    (o : Orig) :
    c.writeCodes o 0x3320 6 (leBytes 1 1) c.compactCodes = c.compactCodes :=
  Core.writeCodes_open (r := ⟨0x3320, 0x3320, 6, 6, .u8, .wo, .val 0, false, .oneOf [1], 0, false⟩)
    (by decide) (by decide) (by decide) rfl (by decide) (by decide) hmap hm

/-- Settles O56: a measurement and a trip by their branches; the record is sealed once; what the journal appends and what
a compaction leaves are two lists of regions. -/
theorem powerAndJournal : Obligations.PowerAndJournal := by
  unfold Obligations.PowerAndJournal
  refine ⟨?_, ?_, ?_, ?_, ?_, ?_, ?_, ?_⟩
  · intro t cap esr v s h
    obtain ⟨u, hu, -, hc, -⟩ := State.run_ends t (fun now c => c.holdup now cap esr v) s
    obtain ⟨h5, h6, h4, h8⟩ := Core.holdup_measures h (s.at_ t) cap esr v
    exact ⟨u, hu, (Core.of_under hc (·.obj 0x3300 5)).trans h5, (Core.of_under hc (·.obj 0x3300 6)).trans h6,
      (Core.of_under hc (·.obj 0x3300 4)).trans h4, (Core.of_under hc (·.obj 0x3300 8)).trans h8,
      fun hlow => (Core.of_under hc (·.active 0x3120 0)).trans (Core.holdup_low h hlow _ _ _)⟩
  · intro t v p s hm hh
    obtain ⟨u, hu, hmem, hc, -⟩ := State.run_ends t (fun now c => c.trip now p v) s
    refine ⟨fun hok harm => ?_, fun h => ?_⟩
    · rw [Core.trip_saves hm hh hok harm] at hc
      have hmode : u.core.mode = .compline := Core.of_under hc Core.mode
      have hnv := Core.of_under hc Core.nv
      obtain ⟨hlive, -, hfault⟩ := Core.pads_of_unhealthy (Core.healthy_compline hmode)
      have hstamp : (s.core.tripped (s.at_ t)).stamp (s.at_ t) = s.core.stamp (s.at_ t) :=
        Core.stamp_of_clockShown ((Core.clockShown_tkHalt _ _).trans (Core.clockShown_alarmsRetract _ _)) _
      exact ⟨u, _, hu, hmode, Core.of_under hc Core.trans, Core.of_under hc Core.job, Core.of_under hc Core.pipe,
        congrArg Nv.area hnv, rfl, rfl, hstamp, congrArg Nv.erased hnv, Core.of_under hc (·.cxl.hostUp), hfault, hlive, hmem⟩
    · rw [Core.trip_resets hm hh h] at hc
      have hr := s.core.ownReset_isReset (s.at_ t) .unarmedTrip
      exact ⟨u, hu, (Core.of_under hc Core.mode).trans hr.mode, (Core.of_under hc (·.obj 0x3310 6)).trans hr.cause,
        (Core.of_under hc Core.nv).trans (Core.ownReset_nv (by decide) _ _)⟩
  · intro t r s hm ha
    obtain ⟨u, hu, -, hc, -⟩ := State.run_ends t (fun _ c => c.complineSeal) s
    refine ⟨fun hs => ?_, fun hs => ⟨?_, ?_, ?_⟩, fun hs g => ?_⟩
    · rw [Core.complineSeal_seals hm ha hs] at hc
      exact ⟨u, hu, Core.of_under hc Core.nv, (Core.of_under hc Core.mode).trans hm, Core.of_under hc Core.dict⟩
    · exact ⟨u, hu, (Core.of_under hc Core.nv).trans (Core.complineSeal_again ha hs)⟩
    · obtain ⟨w, hw, -, hcw, -⟩ := State.run_ends t (fun now c => c.complineEnds now true) s
      rw [Core.complineEnds_sealed hm ha hs, if_pos rfl] at hcw
      have hr := s.core.ownReset_isReset (s.at_ t) .afterCompline
      exact ⟨w, hw, (Core.of_under hcw Core.mode).trans hr.mode, (Core.of_under hcw (·.obj 0x3310 6)).trans hr.cause,
        (Core.of_under hcw Core.nv).trans (Core.ownReset_nv (by decide) _ _),
        (Core.of_under hcw (·.pw.heldReset)).trans hr.heldReset⟩
    · obtain ⟨w, hw, -, hcw, -⟩ := State.run_ends t (fun now c => c.complineEnds now false) s
      rw [Core.complineEnds_sealed hm ha hs, if_neg Bool.false_ne_true] at hcw
      exact ⟨w, hw, (Core.of_under hcw Core.mode).trans (s.core.ownReset_isReset (s.at_ t) .powerOn).mode,
        Core.of_under hcw (·.pw.heldReset),
        (Core.of_under hcw Core.nv).trans (Core.ownReset_nv (k := .powerOn) (by decide) (s.at_ t) s.core)⟩
    · obtain ⟨w, hw, -, hcw, -⟩ := State.run_ends t (fun now c => c.complineEnds now g) s
      rw [Core.complineEnds_unsealed ha hs] at hcw
      exact ⟨w, hw, hcw⟩
  · intro t o s hm hmap hok
    obtain ⟨u, hu, -, hc, ho⟩ := State.run_answered (t := t) (x := s)
      (f := fun now c => c.command now o 0x3340 8 1 (1 : Byte).toNat [] Core.complineAck)
      (Core.command_taken hok (Core.writeCodes_complineAck hm hmap o))
    have hd : u.core.dict = (s.core.put 0x3340 1 0).dict := (Core.of_under hc Core.dict).trans (Core.store_dict _ _ _ _)
    refine ⟨u, hu, ?_, Core.keeps_put (by decide) hd, fun hp => ?_⟩
    · exact (congrArg (fun d => sget dfltOf d (key 0x3340 1)) hd).trans (Core.obj_put_self _ _ _ _)
    · have hout := ho hp
      rwa [Core.complineAck, Core.store_out] at hout
  · intro t ok s
    obtain ⟨u, hu, -, hc, -⟩ := State.run_ends t (fun _ c => c.when (ok && c.flashRuns) Core.flush) s
    refine ⟨fun hok hf => ?_, fun hok => ?_⟩
    · rw [hok, hf] at hc
      obtain ⟨hp, hd, hr⟩ := s.core.flush_appends
      exact ⟨u, hu, (Core.of_under hc (·.pw.pendJ)).trans hp, (Core.of_under hc Core.dict).trans hd,
        (Core.of_under hc (·.nv.regions)).trans hr⟩
    · rw [hok] at hc
      exact ⟨u, hu, hc⟩
  · intro t s hf hd h0 h75
    obtain ⟨u, hu, -, hc, -⟩ := State.run_ends t (fun _ c =>
      c.when (c.flashRuns && c.mode != .dusk && c.pw.compact == 0 && decide (75 ≤ (c.region c.activeRegion).fill))
        Core.compactStart) s
    have hdue : (s.core.flashRuns && s.core.mode != .dusk && s.core.pw.compact == 0 &&
        decide (75 ≤ (s.core.region s.core.activeRegion).fill)) = true := by simp [hf, hd, h0, h75]
    rw [hdue] at hc
    exact ⟨u, hu, Core.of_under hc Core.pw, Core.of_under hc Core.nv⟩
  · intro t o s hm hmap hp
    have hcodes := Core.writeCodes_compaction hm hmap o
    refine ⟨fun h0 hok => ?_, fun hne => ?_⟩
    · have hown : s.core.compactCodes = [] := by simp [Core.compactCodes, reason, h0]
      obtain ⟨u, hu, -, hc, ho⟩ := State.run_answered (t := t) (x := s)
        (f := fun now c => c.command now o 0x3320 6 1 (1 : Byte).toNat c.compactCodes Core.compactStart)
        (Core.command_taken hok (hcodes.trans hown))
      exact ⟨u, hu, Core.of_under hc Core.pw, ho hp⟩
    · have hown : s.core.compactCodes = [0x08000031] := by simp [Core.compactCodes, reason, hne]
      obtain ⟨u, hu, ho, hc⟩ := State.run_command_refused (t := t) (x := s) (k := 0x08000031) (v := (1 : Byte).toNat)
        (own := Core.compactCodes) (eff := fun _ => Core.compactStart)
        (by rw [show (1 : Byte).toNat = 1 from rfl, hcodes, hown]; rfl) hp
      exact ⟨u, hu, hc, ho⟩
  · intro t s hf h1 h2
    obtain ⟨u, hu, -, hc, -⟩ := State.run_ends t (fun _ c => c.when (c.flashRuns && c.pw.compact == 1) Core.compactDone) s
    have hdue : (s.core.flashRuns && s.core.pw.compact == 1) = true := by simp [hf, h1]
    rw [hdue] at hc
    obtain ⟨hreg, hidle⟩ := s.core.compactDone_done
    obtain ⟨hnew, hold⟩ := Core.regionsCompacted_getD h2
    have hu' : ∀ i, u.core.region i = s.core.regionsCompacted.getD i {} := fun i =>
      congrArg (fun l : List JRegion => l.getD i {}) ((Core.of_under hc (·.nv.regions)).trans hreg)
    exact ⟨u, hu, (Core.of_under hc (·.pw.compact)).trans hidle, (hu' _).trans hnew, (hu' _).trans hold⟩

end Sys2Proof.Machine
end

section
namespace Sys2Proof.Machine

/-! ### What BOOT carries to its end (16 R466) -/

/-- Whether firmware runs, and the COMPLINE record in flash. -/
def Core.flashed (c : Core) : Bool × Option ComplineRec := (c.pw.fwRuns, c.nv.area)

theorem Core.Logged.flashed {c d : Core} (h : c.Logged d) : d.flashed = c.flashed := h.same Core.flashed

theorem flashed_blind : TinkerBlind Core.flashed where
  put _ _ _ _ := rfl
  words _ _ := rfl
  engines _ _ := rfl
  pads _ _ := rfl
  logged h := h.flashed

theorem flashed_busBlind : BusBlind Core.flashed where
  emit _ _ := rfl
  mapEc _ _ := rfl
  mapEng _ _ := rfl
  timeout c := flashed_blind.bump _ _ c

section
variable (c : Core)

@[simp] theorem Core.flashed_put (i s v : Nat) : (c.put i s v).flashed = c.flashed := (rfl)
@[simp] theorem Core.flashed_fresh : c.fresh.2.flashed = c.flashed := (rfl)
@[simp] theorem Core.flashed_mapClk (f : Clk → Clk) : (c.mapClk f).flashed = c.flashed := (rfl)
@[simp] theorem Core.flashed_mapPll (p : Nat) (f : Pll → Pll) : (c.mapPll p f).flashed = c.flashed := (rfl)
@[simp] theorem Core.flashed_mapMot (f : Motion → Motion) : (c.mapMot f).flashed = c.flashed := (rfl)
@[simp] theorem Core.flashed_mapTk (f : Tinker → Tinker) : (c.mapTk f).flashed = c.flashed := (rfl)
@[simp] theorem Core.flashed_mapSram (f : Sram → Sram) : (c.mapSram f).flashed = c.flashed := (rfl)
@[simp] theorem Core.flashed_mapDram (f : Dram → Dram) : (c.mapDram f).flashed = c.flashed := (rfl)
@[simp] theorem Core.flashed_mapCxl (f : Cxl → Cxl) : (c.mapCxl f).flashed = c.flashed := (rfl)
@[simp] theorem Core.flashed_refPhase (now : Nat) (b : Bool) : (c.refPhase now b).flashed = c.flashed := (rfl)
@[simp] theorem Core.flashed_mapTw (f : TwoWire → TwoWire) : (c.mapTw f).flashed = c.flashed := (rfl)
@[simp] theorem Core.flashed_tinkerBoot : c.tinkerBoot.flashed = c.flashed := (rfl)
@[simp] theorem Core.flashed_portsBoot : c.portsBoot.flashed = c.flashed := (rfl)
@[simp] theorem Core.flashed_settingsTaken : c.settingsTaken.flashed = c.flashed := (rfl)
@[simp] theorem Core.flashed_mapWalk (q : Nat) (f : ConvWalk → ConvWalk) : (c.mapWalk q f).flashed = c.flashed := (rfl)
@[simp] theorem Core.flashed_mapEngWalk (q : Nat) (f : EngWalk → EngWalk) :
    (c.mapEngWalk q f).flashed = c.flashed := (rfl)
@[simp] theorem Core.flashed_dcLoad (a : Nat) : (c.dcLoad a).flashed = c.flashed := (rfl)
@[simp] theorem Core.flashed_relockOver (p : Nat) : (c.relockOver p).flashed = c.flashed := (rfl)
@[simp] theorem Core.flashed_journal (i s v : Nat) (l : List Byte) : (c.journal i s v l).flashed = c.flashed := (rfl)

@[simp] theorem Core.flashed_bump (i s : Nat) : (c.bump i s).flashed = c.flashed := flashed_blind.bump i s c

@[simp] theorem Core.flashed_event (now code seg : Nat) (tail : List Byte) : (c.event now code seg tail).flashed = c.flashed :=
  flashed_blind.event now code seg tail c

@[simp] theorem Core.flashed_eventRaw (now code dc seg unit : Nat) (l : List Byte) :
    (c.eventRaw now code dc seg unit l).flashed = c.flashed :=
  Core.Logged.flashed (.eventRaw _ _ _ _ _ _)

@[simp] theorem Core.flashed_condOff (code unit : Nat) : (c.condOff code unit).flashed = c.flashed :=
  Core.Logged.flashed (.condOff _ _)

theorem Core.flashed_when (b : Bool) (f : Core → Core) (h : (f c).flashed = c.flashed) : (c.when b f).flashed = c.flashed :=
  Core.when_of (P := fun d => d.flashed = c.flashed) b f c rfl h

end

@[simp] theorem Core.flashed_store (i s v : Nat) (c : Core) : (c.store i s v).flashed = c.flashed := by
  unfold Core.store
  dsimp only
  split
  · split <;> simp
  · simp

@[simp] theorem Core.flashed_putRank (p st : Nat) (c : Core) :
    (c.putRank p st).flashed = c.flashed := c.flashed_store _ _ _

@[simp] theorem Core.flashed_putBytes (i s : Nat) (l : List Byte) (c : Core) :
    (c.putBytes i s l).flashed = c.flashed := by
  unfold Core.putBytes
  dsimp only
  split
  · split <;> rfl
  · rfl

@[simp] theorem Core.flashed_storeDom (i s : Nat) (l : List Byte) (c : Core) :
    (c.storeDom i s l).flashed = c.flashed := by
  unfold Core.storeDom
  dsimp only
  split
  · split <;> simp
  · simp

@[simp] theorem Core.flashed_bumpKept (i s : Nat) (c : Core) : (c.bumpKept i s).flashed = c.flashed := by
  simp [Core.bumpKept]

/-! #### Objects, tables and the DRAM -/

theorem Core.flashed_savedEntries (c : Core) : c.savedEntries.flashed = c.flashed := by
  unfold Core.savedEntries
  split <;> rfl

theorem Core.flashed_replay (c : Core) : c.replay.flashed = c.flashed := by
  refine foldl_leaves Core.flashed (fun d e => ?_) _ c
  unfold Core.replayOne
  split
  · split <;> simp
  · rfl

theorem Core.flashed_loadTables (c : Core) : c.loadTables.flashed = c.flashed := by
  unfold Core.loadTables
  exact (foldl_leaves Core.flashed (fun d v => d.flashed_put _ _ _) _ _).trans (c.flashed_when _ (Core.mapNv _) rfl)

theorem Core.flashed_loadRetired (c : Core) : c.loadRetired.flashed = c.flashed := by
  unfold Core.loadRetired
  extract_lets d
  refine (foldl_leaves Core.flashed (fun d s => ?_) _ d).trans (foldl_leaves Core.flashed (fun d q => ?_) _ c)
  · dsimp only
    split
    · simp
    · split <;> simp
  · dsimp only
    split
    · simp
    · split <;> simp

theorem Core.flashed_migrationBoot (c : Core) : c.migrationBoot.flashed = c.flashed := by
  unfold Core.migrationBoot
  split
  · rfl
  · next l dst _ =>
    exact (show (((c.store 0x2E41 (l + 1) dst).putRank (c.rankOf l) 4).putRank dst 0).flashed = c.flashed by simp)

theorem Core.flashed_rankMoved (now l p : Nat) (c : Core) : (c.rankMoved now l p).flashed = c.flashed := by
  simp [Core.rankMoved]

theorem Core.flashed_sparesLost (now : Nat) (c : Core) : (c.sparesLost now).flashed = c.flashed := by
  simp [Core.sparesLost]

theorem Core.flashed_dramBoot (now : Nat) (trained : List Bool) (c : Core) :
    (c.dramBoot now trained).flashed = c.flashed := by
  unfold Core.dramBoot
  extract_lets ok boots d e f bad
  have hd : d.flashed = c.flashed := foldl_leaves Core.flashed (fun x l => x.flashed_put _ _ _) _ c
  have he : e.flashed = c.flashed := by simp [e, hd]
  have hf : f.flashed = c.flashed := (e.flashed_when _ _ (e.flashed_sparesLost now)).trans he
  clear_value bad
  split
  · exact hf
  · split
    · exact (foldl_leaves Core.flashed (fun x p => x.flashed_rankMoved now _ _) _ _).trans
        ((f.flashed_rankMoved now _ _).trans hf)
    · simp [hf]

/-! #### Clock synthesis -/

theorem Core.flashed_startC (now : Nat) (c : Core) : (c.startC now).flashed = c.flashed := by
  unfold Core.startC
  dsimp only
  split <;> rfl

theorem Core.flashed_outputStart (now p : Nat) (c : Core) : (c.outputStart now p).flashed = c.flashed := by
  unfold Core.outputStart
  dsimp only
  split <;> simp [Core.flashed_startC]

theorem Core.flashed_tickResume (now : Nat) (c : Core) : (c.tickResume now).flashed = c.flashed := by
  unfold Core.tickResume
  split
  · rfl
  · extract_lets first d e f
    have hd : d.flashed = c.flashed := by simp [d, flashed_blind.tkSync]
    have he : e.flashed = c.flashed := (d.flashed_when _ _ (d.flashed_dcLoad _)).trans hd
    have hf : f.flashed = c.flashed := by
      unfold f
      split
      · rw [Core.flashed_mapMot, Core.skipTimed_leaves Core.flashed fun _ d => d.flashed_mapMot _, he]
      · split <;> simp [he]
    exact (flashed_busBlind.alarmsFollow now f).trans hf

theorem Core.flashed_pllsLocked (now : Nat) (ok : Bool) (c : Core) : (c.pllsLocked now ok).flashed = c.flashed := by
  unfold Core.pllsLocked
  split
  · simp [Core.flashed_tickResume, Core.flashed_outputStart]
  · exact foldl_leaves Core.flashed (fun d p => by simp) _ c

/-! #### Records -/

/-- The COMPLINE record is taken up: its area is empty. -/
theorem Core.flashed_takeRecord (now : Nat) (c : Core) : (c.takeRecord now).flashed = (c.pw.fwRuns, none) := by
  unfold Core.takeRecord
  extract_lets d e
  have hd : d.flashed = c.flashed := c.flashed_when _ _ (c.flashed_bumpKept _ _)
  split
  · next h =>
    have hfw : d.pw.fwRuns = c.pw.fwRuns := congrArg Prod.fst hd
    rw [Core.flashed, hfw, h]
  · next r _ =>
    extract_lets f g h
    have he : e.flashed = c.flashed := by
      unfold e
      rw [Core.flashed_when _ _ _ (Core.flashed_bumpKept _ _ _), Core.flashed_bumpKept, hd]
    have hg : (g.store 0x3340 7 (r.left % 65536)).flashed = c.flashed := by simp [g, f, he]
    have hfw : (g.store 0x3340 7 (r.left % 65536)).pw.fwRuns = c.pw.fwRuns := congrArg Prod.fst hg
    rw [Core.flashed_eventRaw, ← hfw]
    rfl

theorem Core.flashed_firmwareReset (now : Nat) (c : Core) : (c.firmwareReset now).flashed = c.flashed := by
  unfold Core.firmwareReset
  split
  · exact (show ((c.event now 0x6010 0xFF _).mapNv _).flashed = (c.event now 0x6010 0xFF _).flashed from rfl).trans
      (c.flashed_event _ _ _ _)
  · rfl

/-! ### A mode entered (16 R463) -/

/-- What a mode's entry settles or leaves: the mode, the transition, power, flash, clock synthesis and the DRAM. -/
def Core.standing (c : Core) : Mode × Option Transition × Power × Nv × Clk × Dram :=
  (c.mode, c.trans, c.pw, c.nv, c.clk, c.dram)

theorem Core.Logged.standing {c d : Core} (h : c.Logged d) : d.standing = c.standing := h.same Core.standing

theorem standing_blind : TinkerBlind Core.standing where
  put _ _ _ _ := rfl
  words _ _ := rfl
  engines _ _ := rfl
  pads _ _ := rfl
  logged h := h.standing

/-- Links and walks follow a mode: no object changes, and nothing that its entry settles. -/
theorem Core.follows_leaves (c : Core) :
    c.linksFollow.walksFollow.standing = c.standing ∧ c.linksFollow.walksFollow.dict = c.dict := by
  constructor
  · refine foldl_leaves Core.standing (fun d q => ?_) _ c.linksFollow
    split <;> rfl
  · refine foldl_leaves Core.dict (fun d q => ?_) _ c.linksFollow
    split <;> rfl

/-- The mode's code and its report in 2002h. -/
theorem Core.modeStatus_leaves (st code k : Nat) (c : Core) : (c.modeStatus st code k).standing = c.standing ∧
    ∀ i s, s < 256 → (i, s) ≠ (0x2002, 0) → i ≠ 0x3200 → (c.modeStatus st code k).obj i s = c.obj i s := by
  have h : (c.put 0x2002 0 (st + code * 256 + k % 256 * 65536)).Logged (c.modeStatus st code k) :=
    Core.when_of _ _ _ (Core.Logged.refl _) (.msix _)
  exact ⟨h.standing, fun i s hs hne hi => (h.obj i s hs hi).trans (c.obj_keep _ _ _ _ _ (by decide) hs hne)⟩

/-- A mode's entry ends with the autostart, from a state in which the mode stands and but for 2002h and the event's
counters every object does. -/
theorem Core.enterMode_autostarts (now : Nat) (m : Mode) (c : Core) : ∃ d :
    Core, c.enterMode now m = d.tkAutostart now ∧
    d.standing = (m, none, { c.pw with stdbyAt := if m = .standby then some now else none }, c.nv, c.clk, c.dram) ∧
    ∀ i s, s < 256 → (i, s) ≠ (0x2002, 0) → i ≠ 0x3200 → d.obj i s = c.obj i s := by
  unfold Core.enterMode
  extract_lets old asked d1 d2 d3 d4 d5 d6
  have h3 : d3.standing = d2.standing ∧ d3.dict = d2.dict :=
    Core.when_of (P := fun d : Core => d.standing = d2.standing ∧ d.dict = d2.dict) _ _ d2 ⟨rfl, rfl⟩ ⟨rfl, rfl⟩
  obtain ⟨hs4, hd4⟩ := d3.follows_leaves
  have h5 : d5.standing = d4.standing ∧
      ∀ i s, s < 256 → (i, s) ≠ (0x2002, 0) → i ≠ 0x3200 → d5.obj i s = d4.obj i s :=
    Core.when_of (P := fun d : Core => d.standing = d4.standing ∧
      ∀ i s, s < 256 → (i, s) ≠ (0x2002, 0) → i ≠ 0x3200 → d.obj i s = d4.obj i s) _ _ d4
      ⟨rfl, fun _ _ _ _ _ => rfl⟩ (d4.modeStatus_leaves _ _ _)
  have h6 : d5.Logged d6 := Core.when_of _ _ d5 (.refl d5) (.event _ _ _ _)
  have hobj : ∀ i s, d4.obj i s = c.obj i s := fun i s => congrArg (fun l => sget dfltOf l (key i s)) (hd4.trans h3.2)
  exact ⟨d6, rfl, h6.standing.trans (h5.1.trans (hs4.trans h3.1)),
    fun i s hs hne hi => (h6.obj i s hs hi).trans ((h5.2 i s hs hne hi).trans (hobj i s))⟩

theorem Core.enterMode_standing (now : Nat) (m : Mode) (c : Core) : (c.enterMode now m).standing =
    (m, none, { c.pw with stdbyAt := if m = .standby then some now else none }, c.nv, c.clk, c.dram) := by
  obtain ⟨d, hd, hs, -⟩ := c.enterMode_autostarts now m
  rw [hd, standing_blind.tkAutostart, hs]

/-- In STANDBY the autostart is done (09 R298). -/
theorem Core.tkAutostart_autoDone {c : Core} (hm : c.mode = .standby) (now : Nat) :
    (c.tkAutostart now).tk.autoDone = true := by
  cases ha : c.tk.autoDone with
  | true => rw [Core.tkAutostart_done ha, ha]
  | false => rw [Core.tkAutostart_once ha hm]; rfl

theorem Core.enterMode_autoDone (now : Nat) (c : Core) : (c.enterMode now .standby).tk.autoDone = true := by
  obtain ⟨d, hd, hs, -⟩ := c.enterMode_autostarts now .standby
  rw [hd]
  exact Core.tkAutostart_autoDone (congrArg Prod.fst hs) now

/-- A mode other than STANDBY has no autostart: every object but 2002h and the event's counters stands. -/
theorem Core.enterMode_obj {m : Mode} (hm : m ≠ .standby) (now : Nat) (c : Core) {i s : Nat} (hs : s < 256)
    (hne : (i, s) ≠ (0x2002, 0)) (hi : i ≠ 0x3200) : (c.enterMode now m).obj i s = c.obj i s := by
  obtain ⟨d, hd, hst, hobj⟩ := c.enterMode_autostarts now m
  have hmode : d.mode = m := congrArg Prod.fst hst
  have hnone : d.tkAutostart now = d := by simp [Core.tkAutostart, hmode, hm]
  rw [hd, hnone, hobj i s hs hne hi]

/-! ### The end of BOOT (16 R466) -/

/-- BOOT ends in STANDBY with firmware running, the record's area empty and the autostart done. -/
theorem Core.boot_ends (now : Nat) (x : Int) (l : List Bool) (c : Core) : (c.boot now x l).mode = .standby ∧
    (c.boot now x l).trans = none ∧ (c.boot now x l).flashed = (true, none) ∧ (c.boot now x l).tk.autoDone = true := by
  unfold Core.boot
  extract_lets r c0 c1 c2 c3 c4 c5 c6 c7 c8
  have h1 : c1.flashed = c0.flashed := by
    simp [c1, Core.flashed_migrationBoot, Core.flashed_loadRetired, Core.flashed_loadTables, Core.flashed_replay,
      Core.flashed_savedEntries]
  have h2 : c2.flashed = c1.flashed := by simp [c2, Core.pagesRestart, Core.flashed_dramBoot]
  have h4 : c4.flashed = c2.flashed := by simp [c4, c3]
  have h5 : c5.flashed = c4.flashed := by simp [c5, Core.flashed_pllsLocked, Core.shadowsLoad]
  have hfw : c5.pw.fwRuns = true := congrArg Prod.fst (h5.trans (h4.trans (h2.trans h1)))
  have h6 : c6.flashed = (true, none) := by
    have h := Core.flashed_firmwareReset now (c5.takeRecord now)
    rw [Core.flashed_takeRecord, hfw] at h
    exact h
  have h8 : c8.flashed = (true, none) := by simp [c8, c7, flashed_blind.darkCopy, h6]
  have hs := c8.enterMode_standing now .standby
  simp only [Core.standing, Prod.mk.injEq] at hs
  obtain ⟨hm, ht, hp, hn, -, -⟩ := hs
  refine ⟨hm, ht, ?_, c8.enterMode_autoDone now⟩
  rw [Core.flashed, hp, hn]
  exact h8

end Sys2Proof.Machine
end

section
namespace Sys2Proof.Machine

/-! ### Clock synthesis and on-die memory without power (16 R471, 12 R372) -/

/-- `d` is `c` after outputs were held: power, the DRAM, and the objects that DUSK's entry has put by then, stand. -/
structure Core.Dimmed (c d : Core) : Prop where
  pw : d.pw = c.pw
  dram : d.dram = c.dram
  obj : ∀ i s, i = 0x2301 ∨ i = 0x2E00 ∨ i = 0x3330 → s < 256 → d.obj i s = c.obj i s

namespace Core.Dimmed

theorem refl (c : Core) : c.Dimmed c := ⟨rfl, rfl, fun _ _ _ _ => rfl⟩

theorem trans {c d e : Core} (h1 : c.Dimmed d) (h2 : d.Dimmed e) : c.Dimmed e :=
  ⟨h2.pw.trans h1.pw, h2.dram.trans h1.dram, fun i s hi hs => (h2.obj i s hi hs).trans (h1.obj i s hi hs)⟩

/-- A change of neither objects, power nor the DRAM. -/
theorem of_same {c d : Core} (h : (d.pw, d.dram, d.dict) = (c.pw, c.dram, c.dict)) : c.Dimmed d := by
  simp only [Prod.mk.injEq] at h
  obtain ⟨hp, hm, hd⟩ := h
  exact ⟨hp, hm, fun i s _ _ => congrArg (fun l => sget dfltOf l (key i s)) hd⟩

theorem put {i s : Nat} (v : Nat) (hs : s < 256) (hi : i ≠ 0x2301 ∧ i ≠ 0x2E00 ∧ i ≠ 0x3330) (c : Core) :
    c.Dimmed (c.put i s v) :=
  ⟨rfl, rfl, fun j r hj hr => c.obj_keep _ _ _ _ _ hs hr fun e => by have := (Prod.mk.inj e).1; omega⟩

theorem bumpBy {i s : Nat} (n : Nat) (hs : s < 256) (hi : i ≠ 0x2301 ∧ i ≠ 0x2E00 ∧ i ≠ 0x3330) (c : Core) :
    c.Dimmed (c.bumpBy i s n) := by
  unfold Core.bumpBy
  dsimp only
  split <;> exact put _ hs hi c

theorem raiseTo {i s : Nat} (v : Nat) (hs : s < 256) (hi : i ≠ 0x2301 ∧ i ≠ 0x2E00 ∧ i ≠ 0x3330) (c : Core) :
    c.Dimmed (c.raiseTo i s v) := by
  unfold Core.raiseTo
  split
  · exact put _ hs hi c
  · exact refl c

theorem mapClk (f : Clk → Clk) (c : Core) : c.Dimmed (c.mapClk f) := of_same rfl
theorem mapPll (p : Nat) (f : Pll → Pll) (c : Core) : c.Dimmed (c.mapPll p f) := of_same rfl
theorem mapMot (f : Motion → Motion) (c : Core) : c.Dimmed (c.mapMot f) := of_same rfl
theorem mapSram (f : Sram → Sram) (c : Core) : c.Dimmed (c.mapSram f) := of_same rfl
theorem links (l : List Link) (c : Core) : c.Dimmed { c with links := l } := of_same rfl
theorem mapLink (n : Nat) (f : Link → Link) (c : Core) : c.Dimmed (c.mapLink n f) := links _ c
theorem skipUnmade (now : Nat) (c : Core) : c.Dimmed (c.skipUnmade now) := of_same rfl

theorem of_tested {c d : Core} (h : c.Tested d) : c.Dimmed d :=
  ⟨h.same Core.pw, h.same Core.dram, fun _ _ hi hs => h.obj _ _ hs (by omega)⟩

theorem walksRestart (c : Core) : c.Dimmed c.walksRestart :=
  of_same (foldl_leaves (fun d : Core => (d.pw, d.dram, d.dict)) (f := fun d q => d.walkRestart q) (fun _ _ => rfl) _ c)

theorem testStop (now : Nat) (c : Core) : c.Dimmed (c.testStop now) := by
  unfold Core.testStop Core.testCounts
  split
  · exact refl c
  · split
    · exact mapLink _ _ c
    · extract_lets a b sent bits
      have hb : c.Dimmed b.2 := of_same rfl
      exact (((hb.trans (bumpBy _ (by decide) (by decide) _)).trans (bumpBy _ (by decide) (by decide) _)).trans
        (mapLink _ _ _)).trans (mapLink _ _ _)

theorem linksStop (now : Nat) (c : Core) : c.Dimmed (c.linksStop now) := (testStop now c).trans (links _ _)

theorem holdC (c : Core) : c.Dimmed c.holdC :=
  ((mapClk _ c).trans (put 0 (by decide) (by decide) _)).trans (walksRestart _)

theorem releaseAll (c : Core) : c.Dimmed c.releaseAll :=
  of_tested (Core.Tested.foldl (fun d x => Core.Tested.coastExpo _ x d) _ c)

theorem holdT (now : Nat) (c : Core) : c.Dimmed (c.holdT now) := by
  have h : c.Dimmed (((c.markCoasted now).skipUnmade now).releaseAll.linksStop now) :=
    (((of_tested (.markCoasted now c)).trans (skipUnmade now _)).trans (releaseAll _)).trans (linksStop now _)
  unfold Core.holdT
  split
  · exact refl c
  · exact (h.trans (mapMot _ _)).trans (mapClk _ _)

theorem holdPll (now p : Nat) (c : Core) : c.Dimmed (c.holdPll now p) := by
  unfold Core.holdPll
  split
  · exact holdT now c
  · exact holdC c

theorem coastEnds (now : Nat) (c : Core) : c.Dimmed (c.coastEnds now) := by
  unfold Core.coastEnds
  split
  · exact (raiseTo _ (by decide) (by decide) c).trans (mapClk _ _)
  · exact refl c

theorem pllsStop (now : Nat) (c : Core) : c.Dimmed (c.pllsStop now) :=
  (((holdPll now 0 c).trans (holdPll now 1 _)).trans ((mapPll 0 _ _).trans (mapPll 1 _ _))).trans
    ((coastEnds now _).trans ((mapClk _ _).trans (put _ (by decide) (by decide) _)))

theorem sramDusk (c : Core) : c.Dimmed c.sramDusk :=
  (mapSram _ c).trans (put _ (by decide) (by decide) _)

end Core.Dimmed

/-- A PLL that DUSK has taken the power from (10 R317, 16 R471). -/
def Pll.off (x : Pll) : Pll := { x with st := 0, step := 0, fails := 0, good := 0, locked := false }

/-- Both PLLs are off. -/
theorem Core.pllsStop_off (now : Nat) (c : Core) : c.Retuned (fun _ x => x.off) (c.pllsStop now) :=
  (((Core.Retuned.holdPll now 0 c).trans (.holdPll now 1 _)).trans (.mapBoth Pll.off _)).trans
    ((Core.Retuned.coastEnds now _).trans ((Core.Retuned.mapClk _ _ rfl rfl rfl id).trans
      (.put _ (by decide) (by decide) _)))

/-! ### DUSK entered (16 R471) -/

/-- The buffers' enable reads 0 and so does their mask, and power and the DRAM stand. -/
theorem Core.refsDisable_leaves (c : Core) : c.refsDisable.pw = c.pw ∧ c.refsDisable.dram = c.dram ∧
    c.refsDisable.obj 0x2E00 4 = c.obj 0x2E00 4 :=
  ⟨rfl, rfl, (Core.obj_keep _ _ _ _ _ _ (by decide) (by decide) (by decide)).trans
    (Core.obj_keep _ _ _ _ _ _ (by decide) (by decide) (by decide))⟩

/-- A DRAM that is ready goes to sleep. -/
theorem Core.dramSleeps (c : Core) : (c.when c.dramReady (Core.put 0x2E00 4 3)).pw = c.pw ∧
    (∀ i s, s < 256 → i ≠ 0x2E00 → (c.when c.dramReady (Core.put 0x2E00 4 3)).obj i s = c.obj i s) ∧
    (c.dramReady = true → (c.when c.dramReady (Core.put 0x2E00 4 3)).obj 0x2E00 4 = 3) := by
  cases h : c.dramReady with
  | false => exact ⟨rfl, fun _ _ _ _ => rfl, fun hc => absurd hc Bool.false_ne_true⟩
  | true => exact ⟨rfl, fun i s hs hi => c.obj_keep _ _ _ _ _ (by decide) hs fun e => hi (Prod.mk.inj e).1,
      fun _ => c.obj_put_self _ _ _⟩

/-- The end of DUSK's entry: the clocks and on-die memory lose their power, and the mode is entered. -/
def Core.darkened (now : Nat) (c : Core) : Core :=
  (((c.pllsStop now).sramDusk).mapTk (fun k => { k with autoDone := false })).enterMode now .dusk

/-- `d` is the module in DUSK: both PLLs off, and else what it was when the power was taken. -/
structure Core.IsDark (c d : Core) : Prop where
  mode : d.mode = .dusk
  trans : d.trans = none
  pllC : d.clk.pllC.st = 0
  pllT : d.clk.pllT.st = 0
  pendJ : d.pw.pendJ = c.pw.pendJ
  dram : d.dram = c.dram
  obj : ∀ i s, i = 0x2301 ∨ i = 0x2E00 ∨ i = 0x3330 → s < 256 → d.obj i s = c.obj i s

theorem Core.darkened_isDark (now : Nat) (c : Core) : c.IsDark (c.darkened now) := by
  unfold Core.darkened
  have hd : c.Dimmed ((c.pllsStop now).sramDusk.mapTk fun k => { k with autoDone := false }) :=
    ((Core.Dimmed.pllsStop now c).trans (.sramDusk _)).trans (.of_same rfl)
  have hpll : ∀ p, p < 2 → (((c.pllsStop now).sramDusk.mapTk fun k => { k with autoDone := false }).pll p).st = 0 :=
    fun p hp => congrArg Pll.st ((c.pllsStop_off now).pll p hp)
  generalize (c.pllsStop now).sramDusk.mapTk (fun k => { k with autoDone := false }) = d at hd hpll ⊢
  have hst := d.enterMode_standing now .dusk
  simp only [Core.standing, Prod.mk.injEq] at hst
  obtain ⟨hmode, htrans, hpw, -, hclk, hdram⟩ := hst
  refine ⟨hmode, htrans, ?_, ?_, ?_, hdram.trans hd.dram, fun i s hi hs => ?_⟩
  · rw [hclk]
    exact hpll 0 (by decide)
  · rw [hclk]
    exact hpll 1 (by decide)
  · rw [hpw, hd.pw]
  · rw [Core.enterMode_obj (by decide) now d hs (fun h => by have := (Prod.mk.inj h).1; omega) (by omega), hd.obj i s hi hs]

/-- Once the DRAM's queue is empty, DUSK's entry writes the journal's entries, takes the enables back and sends the DRAM
to sleep before the power goes. -/
theorem Core.duskEntry_darkens {c : Core} {tr : Transition} (ht : c.trans = some tr) (hd : tr.target = .dusk)
    (hq : c.dram.queue = []) (now : Nat) : ∃ d : Core, c.duskEntry now = d.darkened now ∧ d.pw.pendJ = [] ∧
      d.dram.pred = [] ∧ d.obj 0x2301 0 = 0 ∧ (c.dramReady = true → d.obj 0x2E00 4 = 3) ∧ d.obj 0x3330 0x1B = 255 := by
  have hnot : ¬(decide (tr.target ≠ .dusk) || !c.dram.queue.isEmpty) = true := by simp [hd, hq]
  generalize he : c.duskEntry now = e
  unfold Core.duskEntry at he
  split at he
  · next tr' ht' =>
    obtain rfl : tr = tr' := Option.some.inj (ht.symm.trans ht')
    rw [if_neg hnot] at he
    extract_lets c1 c2 c3 c4 c5 at he
    have hlow : (c.tkHalt now).sameLow c2 := Core.sameLow_of_dict (c.tkHalt now).flush_appends.2.1
    have hready : c3.obj 0x2E00 4 = c.obj 0x2E00 4 := by
      simp (disch := decide) only [c3, Core.obj_keep]
      rw [c2.refsDisable_leaves.2.2]
      exact ((c.sameLow_tkHalt now).trans hlow) _ _ (by decide) (by decide)
    have h301 : c3.obj 0x2301 0 = 0 := by simp (disch := decide) only [c3, Core.obj_keep, Core.obj_put_self]
    have hband : c3.obj 0x3330 0x1B = 255 := by simp only [c3, Core.obj_put_self]
    have hpend : c3.pw.pendJ = [] := congrArg Power.pendJ c2.refsDisable_leaves.1
    clear_value c3
    obtain ⟨hpw, hkept, hsleep⟩ := c3.dramSleeps
    refine ⟨c4, he.symm, (congrArg Power.pendJ hpw).trans hpend, rfl, (hkept _ _ (by decide) (by decide)).trans h301,
      fun h => hsleep ?_, (hkept _ _ (by decide) (by decide)).trans hband⟩
    rw [Core.dramReady, hready]
    exact h
  · next h => rw [ht] at h; cases h

end Sys2Proof.Machine
end

section
namespace Sys2Proof.Machine

/-! ### Tinker engines never take the autostart back (09 R298) -/

section
variable (c : Core)

@[simp] theorem Core.mapEng1_autoDone (n : Nat) (f : Tk → Tk) : (c.mapEng1 n f).tk.autoDone = c.tk.autoDone := (rfl)

@[simp] theorem Core.pinsNote_autoDone (own : Bool) (since : Nat) : (c.pinsNote own since).tk.autoDone = c.tk.autoDone :=
  (rfl)

@[simp] theorem Core.tickMark_autoDone (now n : Nat) : (c.tickMark now n).tk.autoDone = c.tk.autoDone := by
  unfold Core.tickMark
  split
  · split <;> simp
  · simp

@[simp] theorem Core.tkInterrupt_autoDone (n : Nat) : (c.tkInterrupt n).tk.autoDone = c.tk.autoDone := by
  unfold Core.tkInterrupt
  split
  · rfl
  · refine Core.when_of (P := fun d : Core => d.tk.autoDone = c.tk.autoDone) _ _ _ rfl ?_
    rw [Core.msix_tk]
    rfl

@[simp] theorem Core.tkComplete_autoDone (now n entry b : Nat) :
    (c.tkComplete now n entry b).tk.autoDone = c.tk.autoDone := by
  unfold Core.tkComplete
  exact Core.when_of (P := fun d : Core => d.tk.autoDone = c.tk.autoDone) _ _ _ (by simp) (by simp)

@[simp] theorem Core.tkDebug_autoDone (now n entry b : Nat) :
    (c.tkDebug now n entry b).tk.autoDone = c.tk.autoDone := by
  unfold Core.tkDebug
  split <;> simp

@[simp] theorem Core.tkDoStep_autoDone (now n : Nat) : (c.tkDoStep now n).tk.autoDone = c.tk.autoDone := by
  unfold Core.tkDoStep
  dsimp only
  split
  · simp [Core.lutError]
  · simp

@[simp] theorem Core.tkDebugs_autoDone (t n : Nat) : (c.tkDebugs t n).tk.autoDone = c.tk.autoDone := by
  refine (foldl_leaves (fun d : Core => d.tk.autoDone) (fun d x => ?_) _ _).trans (c.mapEng1_autoDone n _)
  split
  · exact d.tkDebug_autoDone _ _ _ _
  · exact d.tkDoStep_autoDone _ _

@[simp] theorem Core.tkMoment_autoDone (t : Nat) : (c.tkMoment t).tk.autoDone = c.tk.autoDone := by
  unfold Core.tkMoment
  extract_lets d
  have hd : d.tk.autoDone = c.tk.autoDone := by unfold d; split <;> simp
  split
  · rw [Core.pinsNote_autoDone, foldl_leaves (fun d : Core => d.tk.autoDone) (fun d n => d.tkDebugs_autoDone t n), hd]
  · exact hd

@[simp] theorem Core.tkSync_autoDone (now : Nat) : (c.tkSync now).tk.autoDone = c.tk.autoDone :=
  (foldl_leaves (fun d : Core => d.tk.autoDone) (fun d n => d.mapEng1_autoDone n _) _ _).trans
    (foldl_leaves (fun d : Core => d.tk.autoDone) (fun d t => d.tkMoment_autoDone t) _ c)

@[simp] theorem Core.tkStartMask_autoDone (t0 mask : Nat) : (c.tkStartMask t0 mask).tk.autoDone = c.tk.autoDone :=
  foldl_leaves (fun d : Core => d.tk.autoDone) (fun d n => by split <;> simp) _ c

@[simp] theorem Core.tkStart_autoDone (now mask : Nat) : (c.tkStart now mask).tk.autoDone = c.tk.autoDone := by
  unfold Core.tkStart
  split
  · exact Core.when_of (P := fun d : Core => d.tk.autoDone = c.tk.autoDone) _ _ c rfl
      ((Core.tkStartMask_autoDone _ _ _).trans (c.tkSync_autoDone now))
  · rfl

@[simp] theorem Core.tkStop_autoDone (now mask : Nat) : (c.tkStop now mask).tk.autoDone = c.tk.autoDone :=
  (foldl_leaves (fun d : Core => d.tk.autoDone) (fun d n => by split <;> simp) _ _).trans (c.tkSync_autoDone now)

@[simp] theorem Core.tkRxPush_autoDone (now n : Nat) (w : Word32) :
    (c.tkRxPush now n w).tk.autoDone = c.tk.autoDone := by
  unfold Core.tkRxPush
  split <;> simp

end

/-! ### What Dawn does after STANDBY is reported (16 R473) -/

/-- The mode, the transition, and whether the autostart is done. -/
def Core.awake (c : Core) : Mode × Option Transition × Bool := (c.mode, c.trans, c.tk.autoDone)

theorem Core.awake_eq {c d : Core} (hs : d.standing = c.standing) (ha : d.tk.autoDone = c.tk.autoDone) :
    d.awake = c.awake := by
  simp only [Core.standing, Prod.mk.injEq] at hs
  obtain ⟨hm, ht, -⟩ := hs
  rw [Core.awake, hm, ht, ha, Core.awake]

theorem Core.Logged.awake {c d : Core} (h : c.Logged d) : d.awake = c.awake := h.same Core.awake

section
variable (c : Core)

@[simp] theorem Core.awake_put (i s v : Nat) : (c.put i s v).awake = c.awake := (rfl)
@[simp] theorem Core.awake_mapPw (f : Power → Power) : (c.mapPw f).awake = c.awake := (rfl)
@[simp] theorem Core.awake_mapNv (f : Nv → Nv) : (c.mapNv f).awake = c.awake := (rfl)
@[simp] theorem Core.awake_mapEv (f : Ev → Ev) : (c.mapEv f).awake = c.awake := (rfl)
@[simp] theorem Core.awake_mapSram (f : Sram → Sram) : (c.mapSram f).awake = c.awake := (rfl)
@[simp] theorem Core.awake_mapLink (n : Nat) (f : Link → Link) : (c.mapLink n f).awake = c.awake := (rfl)
@[simp] theorem Core.awake_mapEng1 (n : Nat) (f : Tk → Tk) : (c.mapEng1 n f).awake = c.awake := (rfl)
@[simp] theorem Core.awake_routeChanged (now r v : Nat) : (c.routeChanged now r v).awake = c.awake := (rfl)
@[simp] theorem Core.awake_refsDisable : c.refsDisable.awake = c.awake := (rfl)
@[simp] theorem Core.awake_mapPort (p : Nat) (f : AuxPort → AuxPort) : (c.mapPort p f).awake = c.awake := (rfl)
@[simp] theorem Core.awake_journal (i s v : Nat) (l : List Byte) : (c.journal i s v l).awake = c.awake := (rfl)

@[simp] theorem Core.awake_bump (i s : Nat) : (c.bump i s).awake = c.awake := by rw [Core.bump_eq, Core.awake_put]

@[simp] theorem Core.awake_event (now code seg : Nat) (tail : List Byte) : (c.event now code seg tail).awake = c.awake :=
  Core.Logged.awake (.event _ _ _ _)

@[simp] theorem Core.awake_condOn (now code seg unit : Nat) (tail : List Byte) :
    (c.condOn now code seg unit tail).awake = c.awake := Core.Logged.awake (.condOn _ _ _ _ _)

@[simp] theorem Core.awake_condOff (code unit : Nat) : (c.condOff code unit).awake = c.awake :=
  Core.Logged.awake (.condOff _ _)

theorem Core.awake_when (b : Bool) (f : Core → Core) (h : (f c).awake = c.awake) : (c.when b f).awake = c.awake :=
  Core.when_of (P := fun d => d.awake = c.awake) b f c rfl h

@[simp] theorem Core.awake_store (i s v : Nat) : (c.store i s v).awake = c.awake := by
  unfold Core.store
  dsimp only
  split
  · split <;> simp
  · simp

/-! #### Links, samples and the band -/

theorem Core.awake_linkFault (now n : Nat) : (c.linkFault now n).awake = c.awake := by
  rw [Core.linkFault, Core.awake_event, Core.linkBlind, Core.awake_when _ _ _ (Core.awake_mapLink _ _ _), Core.awake_mapLink]

theorem Core.awake_linksWoken (now : Nat) (ok : Bool) : (c.linksWoken now ok).awake = c.awake := by
  refine foldl_leaves Core.awake (fun d n => ?_) _ c
  split
  · rfl
  · split
    · exact d.awake_linkFault _ _
    · split <;> simp

theorem Core.awake_tempSample (now n : Nat) (x : Int) : (c.tempSample now n x).awake = c.awake := by
  unfold Core.tempSample
  split
  · rfl
  · dsimp only
    split
    · split <;> simp
    · simp

theorem Core.awake_wordsWritten (p : Nat → Bool) : (c.wordsWritten p).awake = c.awake := by
  unfold Core.wordsWritten
  extract_lets d
  have hd : d.awake = c.awake := c.awake_when _ _ rfl
  split
  · rw [Core.awake_put, Core.awake_mapSram, hd]
  · exact hd

theorem Core.awake_darkCopy (b : Nat) : (c.darkCopy b).awake = c.awake := by
  unfold Core.darkCopy
  dsimp only
  split
  · rfl
  · rw [Core.awake_wordsWritten, Core.awake_mapSram]

theorem Core.awake_bandSet (now b : Nat) : (c.bandSet now b).awake = c.awake := by
  have hw : ∀ d : Core, d.walksRestart.awake = d.awake :=
    foldl_leaves Core.awake (f := fun d q => d.walkRestart q) (fun _ _ => rfl) _
  unfold Core.bandSet
  dsimp only
  split
  · simp [Core.awake_darkCopy]
  · rw [Core.awake_event, Core.awake_when _ _ _ (hw _)]
    simp [Core.awake_darkCopy]

theorem Core.awake_dawnBand (now : Nat) (temps : List Int) : (c.dawnBand now temps).awake = c.awake := by
  unfold Core.dawnBand
  dsimp only
  rw [Core.awake_bandSet, Core.awake_put, Core.awake_mapPw]
  exact foldl_leaves Core.awake (fun d p => d.awake_tempSample now _ _) _ c

/-! #### Writes of DUSK that reach their blocks (16 R472) -/

@[simp] theorem Core.awake_tkSync (now : Nat) : (c.tkSync now).awake = c.awake :=
  Core.awake_eq (standing_blind.tkSync now c) (c.tkSync_autoDone now)

theorem Core.awake_tkAccept (now i s v : Nat) : (c.tkAccept now i s v).awake = c.awake := by
  have hmark : ∀ (d : Core) n, (d.tickMark now n).awake = d.awake := fun d n =>
    Core.awake_eq (standing_blind.tickMark now n d) (d.tickMark_autoDone now n)
  have hpush : ∀ (d : Core) n w, (d.tkRxPush now n w).awake = d.awake := fun d n w =>
    Core.awake_eq (standing_blind.tkRxPush now n w d) (d.tkRxPush_autoDone now n w)
  have hstart : ∀ (d : Core), (d.tkStart now v).awake = d.awake := fun d =>
    Core.awake_eq (standing_blind.tkStart now v d) (d.tkStart_autoDone now v)
  have hstop : ∀ (d : Core), (d.tkStop now v).awake = d.awake := fun d =>
    Core.awake_eq (standing_blind.tkStop now v d) (d.tkStop_autoDone now v)
  unfold Core.tkAccept
  extract_lets d n
  have hd : d.awake = c.awake := c.awake_tkSync now
  split
  · split
    · simp [hd]
    · split
      · simp [hmark, hd]
      · split
        · rw [hpush, hd]
        · simp [hd]
  · split
    · simp [hd]
    · split
      · rw [hstart, hd]
      · split
        · rw [hstop, hd]
        · simp [hd]

theorem Core.awake_refWrite (now v : Nat) : (c.refWrite now v).awake = c.awake := by
  unfold Core.refWrite Core.refsEnable
  split
  · rfl
  · split
    · rfl
    · exact foldl_leaves Core.awake (f := fun d q => d.refStart now q) (fun _ _ => rfl) _ c

theorem Core.awake_blocksReached (now : Nat) : (c.blocksReached now).awake = c.awake := by
  refine foldl_leaves Core.awake (fun d w => ?_) _ c
  unfold Core.blockReached
  extract_lets i s e
  have he : e.awake = d.awake := by
    unfold e
    split
    · exact Core.awake_refWrite _ _ _
    · split
      · simp [Core.auxEnable]
      · split
        · exact d.awake_tkAccept _ _ _ _
        · split <;> simp
  simp [he]

end

/-- Dawn ends in STANDBY, the autostart done. -/
theorem Core.dawn_ends {c : Core} {tr : Transition} {now : Nat} (ht : c.trans = some tr) (hsrc : tr.source = .dusk)
    (hdue : tr.start + 39900000 ≤ now) (a b : Bool) (d : List Int) (l : List Bool) (temps : List Int) :
    (c.dawn now a d l b temps).awake = (.standby, none, true) := by
  have hnot : ¬(decide (tr.source ≠ .dusk) || decide (now < tr.start + 39900000)) = true := by
    simp [hsrc, hdue]
  unfold Core.dawn
  split
  · next tr' ht' =>
    obtain rfl : tr = tr' := Option.some.inj (ht.symm.trans ht')
    rw [if_neg hnot]
    extract_lets c1 c2 c3 c4
    rw [Core.awake_blocksReached, Core.awake_dawnBand]
    unfold c4
    rw [Core.awake_linksWoken, (Core.Logged.msixPending _).awake]
    have hst := c3.enterMode_standing now .standby
    simp only [Core.standing, Prod.mk.injEq] at hst
    obtain ⟨hm, hn, -⟩ := hst
    rw [Core.awake, hm, hn, c3.enterMode_autoDone now]
  · next h => rw [ht] at h; cases h

end Sys2Proof.Machine
end

section
namespace Sys2Proof.Machine

/-! ### The reset command (16 R469) -/

theorem Core.writeCodes_reset {c : Core} (hm : c.mode ≠ .compline) (hmap : c.isMapped 0x3310 8 = false) (o : Orig)
    (own : List Nat) : c.writeCodes o 0x3310 8 (leBytes 4 0x626F6F74) own = own :=
  Core.writeCodes_open (r := ⟨0x3310, 0x3310, 8, 8, .u32, .wo, .val 0, false, .oneOf [0x626F6F74], 0, false⟩)
    (by decide) (by decide) (by decide) rfl (by decide) (by decide) hmap hm

/-- Accepted, it is answered and resets. -/
theorem Core.resetCommand_resets {c : Core} {o : Orig} (hmap : c.isMapped 0x3310 8 = false) (hp : o ≠ .pdo)
    (hm : c.mode = .standby) (hok : c.wordOk 0x3310 8 = true) (now : Nat) :
    (c.command now o 0x3310 8 4 0x626F6F74 c.resetCodes Core.resetAsk).resetIfDue now =
      (c.resetAsk.emit (.answer o 0x3310 8 0)).ownReset now .command := by
  have hown : c.resetCodes = [] := by simp [Core.resetCodes, reason, hm]
  rw [Core.command_taken hok ((Core.writeCodes_reset (by simp [hm]) hmap o _).trans hown), Core.answered, if_neg hp]
  rfl

/-- Outside STANDBY and COMPLINE it is refused, and no reset follows. -/
theorem Core.resetCommand_refused {c : Core} {o : Orig} (hmap : c.isMapped 0x3310 8 = false) (hp : o ≠ .pdo)
    (hdue : c.pw.resetDue = false) (hs : c.mode ≠ .standby) (hm : c.mode ≠ .compline) (now : Nat) :
    (c.command now o 0x3310 8 4 0x626F6F74 c.resetCodes Core.resetAsk).resetIfDue now =
      c.emit (.answer o 0x3310 8 0x08000021) := by
  have hown : c.resetCodes = [0x08000021] := by simp [Core.resetCodes, reason, hs]
  have hfirst : firstCode (c.writeCodes o 0x3310 8 (leBytes 4 0x626F6F74) c.resetCodes) = some 0x08000021 := by
    rw [Core.writeCodes_reset hm hmap o, hown]
    rfl
  rw [Core.command_refused hfirst, Core.answered, if_neg hp, Core.resetIfDue]
  exact (congrArg (fun b => (c.emit _).when b _) hdue).trans (Core.when_false _ _)

/-- A TRIAL slot that has run 60 s in STANDBY becomes GOOD, and before that nothing happens (16 R467). -/
theorem Core.promote_trial {c : Core} {a : Nat} (ha : c.pw.stdbyAt = some a) (hm : c.mode = .standby)
    (hs : (c.slot c.pw.running).st = 3) (now : Nat) :
    c.promote now = c.when (decide (a + 60000000000 ≤ now)) (Core.putSlot c.pw.running 4) := by
  simp [Core.promote, ha, hm, hs]

/-- Settles O55: a reset keeps what flash and straps hold; BOOT, DUSK's entry and Dawn each end with a mode entered. -/
theorem resetAndBoot : Obligations.ResetAndBoot := by
  unfold Obligations.ResetAndBoot
  refine ⟨?_, ?_, ?_, ?_, ?_, ?_, ?_, ?_⟩
  · intro t k straps s h
    obtain ⟨u, hu, hmem, hc, -⟩ := State.run_ends t
      (fun now c => if c.resetHeldOff k then c else c.doReset now k straps) s
    rw [if_pos h] at hc
    exact ⟨u, hu, hmem, hc⟩
  · intro t k straps s h
    obtain ⟨u, hu, hmem, hc, -⟩ := State.run_ends t
      (fun now c => if c.resetHeldOff k then c else c.doReset now k straps) s
    rw [if_neg (by simp [h])] at hc
    have hr := s.core.doReset_isReset (s.at_ t) k straps
    exact ⟨u, hu, hmem, (Core.of_under hc Core.mode).trans hr.mode, (Core.of_under hc Core.trans).trans hr.trans,
      (Core.of_under hc Core.job).trans hr.job, (Core.of_under hc (·.pw.fwRuns)).trans hr.fwRuns,
      (Core.of_under hc (·.obj 0x3310 6)).trans hr.cause,
      (Core.of_under hc (·.obj 0x3400 1)).trans (Core.doReset_straps _ _ _ _),
      fun i n hn h1 h2 h3 => (Core.of_under hc (·.obj i n)).trans (hr.dflt i n hn h1 h2 h3),
      fun hk => (Core.of_under hc Core.nv).trans (Core.doReset_nv hk _ _ _),
      (Core.of_under hc Core.owners).trans hr.owners⟩
  · intro t x l s h
    have hrun := State.runMem_next t (fun now m c => if c.mayBoot now then ([], c.boot now x l) else (m, c)) s
    rw [if_pos (show s.core.mayBoot (max s.now t) = true from h)] at hrun
    obtain ⟨hm, ht, hf, ha⟩ := Core.boot_ends (max s.now t) x l s.core
    have hc := Core.settle_under (max s.now t) (s.core.boot (max s.now t) x l)
    exact ⟨_, hrun, rfl, (Core.of_under hc Core.mode).trans hm,
      congrArg Prod.fst ((Core.of_under hc Core.flashed).trans hf), (Core.of_under hc Core.trans).trans ht,
      congrArg Prod.snd ((Core.of_under hc Core.flashed).trans hf), (Core.of_under hc (·.tk.autoDone)).trans ha⟩
  · intro t x l s h
    have hrun := State.runMem_next t (fun now m c => if c.mayBoot now then ([], c.boot now x l) else (m, c)) s
    rw [if_neg (by rw [show s.core.mayBoot (max s.now t) = false from h]; exact Bool.false_ne_true)] at hrun
    exact ⟨_, hrun, rfl, Core.settle_under _ _⟩
  · intro t a s ha hm hs
    obtain ⟨u, hu, -, hc, -⟩ := State.run_ends t (fun now c => c.promote now) s
    rw [Core.promote_trial ha hm hs] at hc
    refine ⟨fun h => ?_, fun h => ?_⟩
    · rw [decide_eq_true h] at hc
      exact ⟨u, hu, Core.of_under hc (·.nv.slots), Core.of_under hc Core.dict⟩
    · rw [decide_eq_false (Nat.not_le.mpr h)] at hc
      exact ⟨u, hu, hc⟩
  · intro t o s hmap hp hdue
    obtain ⟨u, hu, -, hc, hout⟩ := State.run_ends t (fun now c =>
      (c.command now o 0x3310 8 4 0x626F6F74 c.resetCodes Core.resetAsk).resetIfDue now) s
    refine ⟨fun hm hok => ?_, fun hs hm => ?_⟩
    · rw [Core.resetCommand_resets hmap hp hm hok] at hc hout
      have hr := (s.core.resetAsk.emit (.answer o 0x3310 8 0)).ownReset_isReset (s.at_ t) .command
      rw [hr.out] at hout
      exact ⟨u, hu, (Core.of_under hc Core.mode).trans hr.mode, (Core.of_under hc (·.obj 0x3310 6)).trans hr.cause, hout⟩
    · rw [Core.resetCommand_refused hmap hp hdue hs hm] at hc hout
      exact ⟨u, hu, hc, hout⟩
  · intro t tr s ht hd
    obtain ⟨u, hu, hmem, hc, -⟩ := State.run_ends t (fun now c => c.duskEntry now) s
    refine ⟨fun hq => ?_, fun hq => ?_⟩
    · obtain ⟨d, he, hj, hp, hf, hr, hb⟩ := Core.duskEntry_darkens ht hd hq (s.at_ t)
      have h := d.darkened_isDark (s.at_ t)
      rw [← he] at h
      have hobj : ∀ i n, i = 0x2301 ∨ i = 0x2E00 ∨ i = 0x3330 → n < 256 → u.core.obj i n = d.obj i n := fun i n hi hn =>
        (Core.of_under hc (·.obj i n)).trans (h.obj i n hi hn)
      have hoff : u.core.obj 0x2301 0 = 0 := (hobj _ _ (.inl rfl) (by decide)).trans hf
      exact ⟨u, hu, (Core.of_under hc Core.mode).trans h.mode, (Core.of_under hc Core.trans).trans h.trans,
        (Core.of_under hc (·.clk.pllC.st)).trans h.pllC, (Core.of_under hc (·.clk.pllT.st)).trans h.pllT,
        by rw [Core.flag, hoff]; rfl, (Core.of_under hc (·.pw.pendJ)).trans (h.pendJ.trans hj),
        fun hready => (hobj _ _ (.inr (.inl rfl)) (by decide)).trans (hr hready),
        (hobj _ _ (.inr (.inr rfl)) (by decide)).trans hb,
        (Core.of_under hc (·.dram.pred)).trans ((congrArg Dram.pred h.dram).trans hp), hmem⟩
    · have hstay : s.core.duskEntry (s.at_ t) = s.core := by simp [Core.duskEntry, ht, hq]
      rw [hstay] at hc
      exact ⟨u, hu, hc⟩
  · intro t a c d b temps tr s ht hsrc
    obtain ⟨u, hu, hmem, hc, -⟩ := State.run_ends t (fun now x => x.dawn now a d b c temps) s
    refine ⟨fun hdue => ?_, fun hearly => ?_⟩
    · have h := (Core.of_under hc Core.awake).trans (Core.dawn_ends ht hsrc hdue a c d b temps)
      simp only [Core.awake, Prod.mk.injEq] at h
      obtain ⟨hm, hn, hdone⟩ := h
      exact ⟨u, hu, hm, hn, hdone, hmem⟩
    · have hstay : s.core.dawn (s.at_ t) a d b c temps = s.core := by simp [Core.dawn, ht, hearly]
      rw [hstay] at hc
      exact ⟨u, hu, hc⟩

end Sys2Proof.Machine
end
